-- ==== Sys2Proof/Word.lean ====
section
/-! DEFINITION. The word types of the XV6192 and the index types of its repeated blocks. -/

namespace Sys2Proof

/-- A register word: every register is 32 bits wide (R9, R10). -/
abbrev Word := BitVec 32

/-- One byte of the image, the flash, or a host transfer (R15). -/
abbrev Byte := BitVec 8

/-- Rails 0 to 23 (R9). -/
abbrev RailId := Fin 24

/-- Banks 0 to 23 (R9). -/
abbrev BankId := Fin 24

/-- Phase channels 0 to 191 (R16). -/
abbrev ChanId := Fin 192

/-- Load ports LP0 to LP7 (R184). -/
abbrev PortId := Fin 8

/-- Timers 0 to 31 (R358). -/
abbrev TimerId := Fin 32

/-- Trace FIFOs 0 to 15 (R419). -/
abbrev FifoId := Fin 16

end Sys2Proof
end

