-- ==== Sys2Proof/Syntax.lean ====
section
/-! DEFINITION. The commands of the XV6192: one constructor per row of the table of operations and events, with the
operands that the numbered rules give the row, and the small types of those operands. -/

namespace Sys2Proof

/-- The three host interfaces, each with its own pointer and TMR_SEL (R381). -/
inductive Iface where
  | smb | i3c | tap
  deriving DecidableEq, Repr

/-- The PEC byte of an SMBus write: none sent, a right one, a wrong one (R384). -/
inductive Pec where
  | absent | good | bad
  deriving DecidableEq, Repr

/-- PORT_STATUS.LINKCAUSE (R217): CRC or parity, frame, rate. -/
inductive LinkCause where
  | crc | frame | rate
  deriving DecidableEq, Repr

/-- Why an AVSBus frame takes no action (R208, R209). -/
inductive AvsBad where
  | unsupported | crc | rate
  deriving DecidableEq, Repr

/-- How a Nelink frame fails or is ignored (R404, R405): a received frame with a wrong CRC, with a bit or stuff error, or with an
undefined TYPE, `lost` when its own frame lost the arbitration to it; an own frame stopped on a bit error, or without a dominant
ACK. -/
inductive NlFault where
  | crc (lost : Bool) | bit (lost : Bool) | undefinedType (lost : Bool) | own | noAck
  deriving DecidableEq, Repr

/-- How an I3C common command code fails or is ignored (R394); ENTHDR0 to ENTHDR7, and the HDR Exit Pattern (R393). -/
inductive CccKind where
  | undefinedBroadcast | undefinedDirect | parity | listedIgnored | entHdr | hdrExit
  deriving DecidableEq, Repr

/-- One error that a scrubber pass meets (R296): in which copy, in which partition (0 to 23 a rail, 32 the global
part), and whether two bits are wrong. -/
structure ScrubErr where
  inForce : Bool
  part : Nat
  double : Bool
  deriving DecidableEq, Repr

/-- What discovery meets on one channel (R268, R269): the level of its PWM pin at the end of the pull-up and of the pull-down interval, in
thousandths of VDDIO; V0 and V1 in microvolts; `oUp`, `oDown` the levels of the pin of its odd partner in PAIR mode. -/
structure Probe where
  up : Int
  down : Int
  v0 : Int
  v1 : Int
  oUp : Int
  oDown : Int
  deriving DecidableEq, Repr

/-- A command or event of the XV6192. -/
inductive Instr where
  /-- POWER_ON_RESET (R331). VKA, VDD or VDDA falls below its power-on reset level; every domain resets, phases go to safe level and the device ends in OFF. -/
  | powerOnReset
  /-- RESET_N (R332). A qualifying low pulse on RESET_N resets the island and control domain (or discards retention in STANDBY), then recovery and the boot load follow. -/
  | resetN (ns : Nat)
  /-- HOST_SOFT_RESET (R334). PWR_RST written with KEY 0xA5 and SOFT 1 asserts a control-domain reset, hitless under a seal and island-resetting without one. -/
  | hostSoftReset
  /-- WATCHDOG_RESET (R335). The watchdog count expires, asserts the watchdog reset under R29 and sets GLB_STATUS.WDRST. -/
  | watchdogReset
  /-- KICK (R335). PWR_WDOG written with KEY 0xA5 and KICK 1 restarts the watchdog count. -/
  | kick
  /-- CONTROL_DOMAIN_RELEASE (R32). After 64 core cycles the control domain is released; host interfaces and port units answer again and suspended work resumes. -/
  | controlDomainRelease
  /-- VDD_BROWNOUT (R331). The VDD brown-out detector asserts, raising VDDBO as a class F fault and entering the fatal hold. -/
  | vddBrownout (up : Bool)
  /-- VDDA_BROWNOUT (R331). The VDDA brown-out detector asserts, raising VDDABO as a class F fault and entering the fatal hold. -/
  | vddaBrownout (up : Bool)
  /-- REFERENCE_LOST (R28). Reference edges absent for 2 µs move the PLL reference glitch-free to the internal RC and set GLB_STATUS.REFFB. -/
  | referenceLost
  /-- PLL_LOSS_OF_LOCK (R28). The core PLL loses lock; PLLLOCK is raised as class F and all phases go to safe levels. -/
  | pllLossOfLock
  /-- DLL_LOSS_OF_LOCK (R28). The DLL loses lock; DLLLOCK is raised as class F and all phases go to safe levels. -/
  | dllLossOfLock
  /-- DPWM_CLOCK_LOST (R116). DPWM clock edges absent for 10 ns raise DPWMCLK as class F with safe levels within 250 ns. -/
  | dpwmClockLost (up : Bool)
  /-- SLOW_CLOCK_LOST (R28). The slow clock is absent for 1 ms; SLOWCLK is set and timers in slow-clock mode end under R373. -/
  | slowClockLost
  /-- GLB_FATAL_CLR (R298). GLB_FATAL written with KEY 0xA5 and CLR 1 ends the fatal hold and enters READY if every release condition holds, else sets CLRREJ. -/
  | glbFatalClr (w : Word)
  /-- CONFIG_SCRUB (R296). The scrubber pass over both configuration copies corrects single-bit errors and raises CFGUNC for a double-bit error in the copy in force. -/
  | configScrub (errs : List ScrubErr)
  /-- MASTER_CARRIER_START (R41). A rail's master carrier count returns to zero; double-buffered fields, N-dependent values and thresholds load and shedding is evaluated. -/
  | masterCarrierStart (r : RailId)
  /-- TRIP_COUNT_REACHED (R110). The trip counter of a rail with NPH 9 or more reaches TRIPN; the accord is forced to safe levels and TRIPLAT is set. -/
  | tripCountReached (r : RailId) (ch : ChanId)
  /-- ROTATION_STEP (R165). After 64 master carrier periods the rotation count advances and each phase moves to the next carrier slot. -/
  | rotationStep (r : RailId)
  /-- TELEMETRY_PUSH (R420). At every 1,024th master carrier start an entry is pushed into the rail's telemetry FIFO, or discarded with OVF when full. -/
  | telemetryPush (r : RailId)
  /-- CARRIER_START (R97). A channel's carrier count returns to zero; boundary-mode shadows and pending band values load. -/
  | carrierStart (ch : ChanId)
  /-- COMPARE_MATCH (R95). A channel's carrier count reaches a compare word's tick part and the edge leaves through the DLL. -/
  | compareMatch (ch : ChanId) (on : Bool)
  /-- SYNC_PULSE (R99). A bank epoch count with low 12 bits zero passes a sync pulse on, drives SYNC_OUT from bank 23 and checks epoch agreement. -/
  | syncPulse (b : BankId)
  /-- EADC_SAMPLE (R126). An EADC sample is taken and its result runs the compensator, clamp and distributor into new compare words. -/
  | eadcSample (r : RailId) (vpin : Int)
  /-- ISLICE_SAMPLE (R150). A channel's ISLICE samples its current at the SPOINT instant. -/
  | isliceSample (ch : ChanId) (v : Int)
  /-- ISLICE_RESULT (R151). An ISLICE conversion completes; the corrected current replaces the phase's contribution in the rail sum. -/
  | isliceResult (ch : ChanId)
  /-- TRIMSAT (R162). An accumulator has stood at its limit for 4,096 applied rounds; TRIMSAT and SATPOS are set. -/
  | trimsat (r : RailId) (q : Fin 32)
  /-- PHASE_CURRENT_LIMIT_TRIP (R109). A phase current-limit comparator asserts; small rails latch, large rails terminate the cycle and count. -/
  | phaseCurrentLimitTrip (ch : ChanId) (up : Bool)
  /-- BTSF_TRIP (R111). BTSFb rises above 1.600 V; bank b and every accord with a channel in it go to safe levels and latch with CAUSE BTSF. -/
  | btsfTrip (b : BankId) (up : Bool)
  /-- BREF_WINDOW_TRIP (R157). The BREFb window comparator trips and starts or extends a BREF disturbance period. -/
  | brefWindowTrip (b : BankId) (up : Bool)
  /-- BREF_DISTURBANCE_END (R157). The 2 µs after the last disturbance event expires and the bank's BREF disturbance period ends. -/
  | brefDisturbanceEnd (b : BankId)
  /-- RAIL_TRIP_CLR (R115). RAIL_TRIP written with CLR 1 releases the trip latch if all comparators and BTSF are deasserted, else sets CLRREJ. -/
  | railTripClr (r : RailId) (w : Word)
  /-- OV_TRIP (R229). The armed OV comparator trips and sets the protection latch with OVFLT. -/
  | ovTrip (r : RailId) (up : Bool)
  /-- UV_TRIP (R229). The armed UV comparator trips and sets the protection latch with UVFLT. -/
  | uvTrip (r : RailId) (up : Bool)
  /-- SENSE_OPEN (R236). An open-line comparator trips; a running rail latches with SNSOPEN. -/
  | senseOpen (r : RailId) (neg up : Bool)
  /-- BACKDRIVE_PERSIST (R234). The back-drive persistence counter reaches BDTIME and the rail latches with BDFLT. -/
  | backdrivePersist (r : RailId)
  /-- RAIL_PROT_CLR (R241). RAIL_PROT written with CLR 1 releases the protection latch if OV and open-line comparators read 0, else sets CLRREJ. -/
  | railProtClr (r : RailId) (w : Word)
  /-- PG_COMPARATOR_CHANGE (R230). The power-good comparator rises or falls, starting the PGDELAY or the 500 ns fall filter. -/
  | pgComparatorChange (r : RailId) (up : Bool)
  /-- PGOOD_RELEASE (R230). PGDELAY expires with the comparator high while armed and PGOODn is released. -/
  | pgoodRelease (r : RailId)
  /-- PGOOD_FALL (R230). The comparator has stood low 500 ns and PGOODn is driven low. -/
  | pgoodFall (r : RailId)
  /-- RAIL_SEQ_START (R222). RAIL_SEQ CMD START from the host sets N to NAVL, enters start state 0 and runs offset calibration, or is refused. -/
  | railSeqStart (r : RailId) (w : Word)
  /-- RAIL_SEQ_STOP (R222). RAIL_SEQ CMD STOP from the host enters stop state 0, or is refused. -/
  | railSeqStop (r : RailId) (w : Word)
  /-- OFFSET_CAL_DONE (R154). The 16-sample offset calibration ends, sets OFS_p and lets start state 0 act. -/
  | offsetCalDone (r : RailId) (sums : List Int)
  /-- SEQ_TRANSITION (R60). A transition slot of the present state becomes true and the sequencer enters the next state and its action. -/
  | seqTransition (r : RailId) (seqIn : Bool)
  /-- DURATION_ELAPSED (R223). A state's DURATION expires, making condition 0x01 true. -/
  | durationElapsed (r : RailId)
  /-- RAMP_DELAY_END (R224). A ramp's DELAY expires and switching and the position move begin. -/
  | rampDelayEnd (r : RailId)
  /-- PREBIAS_MEASURED (R226). The pre-bias measurement completes from 8 unmarked samples. -/
  | prebiasMeasured (r : RailId)
  /-- TARGET_REACHED (R190). The slewing position reaches its target and stops. -/
  | targetReached (r : RailId)
  /-- RAIL_TARGET_WRITE (R195). A host write to RAIL_TARGET saturates to VMIN..VMAX and is applied or refused with HREJ under state legality and the raise freeze. -/
  | railTargetWrite (r : RailId) (w : Word)
  /-- PORT_BUDGET_WRITE (R239). A host write to PORT_BUDGET gives each owned rail a new budget value, applied at once or stepped down. -/
  | portBudgetWrite (p : PortId) (w : Word)
  /-- BUDGET_STEP (R239). A TPERIOD expires while the budget contribution steps down by s toward B. -/
  | budgetStep (r : RailId)
  /-- THROTTLE_STEP (R289). A TPERIOD expires and the throttle contribution falls or rises by s. -/
  | throttleStep (r : RailId)
  /-- COEF_APPLY (R144). RAIL_COEF_SEL written with APPLY 1 loads the selected mode and set at the next master carrier start. -/
  | coefApply (r : RailId) (w : Word)
  /-- BYPASS (R176). RAIL_PHCMD BYPASS removes a position from the available set, or is refused with its result code. -/
  | bypass (r : RailId) (q : Fin 32)
  /-- RESTORE (R177). RAIL_PHCMD RESTORE starts single-phase discovery on a bypassed position. -/
  | restore (r : RailId) (q : Fin 32)
  /-- RESTORE_DISCOVERY_DONE (R177). The restore discovery ends; on pass the channel is calibrated and rejoins, else the command ends CLASS_MISMATCH or BIST_FAIL. -/
  | restoreDiscoveryDone (r : RailId) (pr : Probe) (cal : Int)
  /-- BAL_TRIM (R167). RAIL_PHCMD BAL_TRIM sets duty-trim balancing on a stopped rail and clears accumulators and r. -/
  | balTrim (r : RailId)
  /-- BAL_ROTATE (R167). RAIL_PHCMD BAL_ROTATE sets firing-order rotation on a stopped rail and clears accumulators and r. -/
  | balRotate (r : RailId)
  /-- BANK_BIST_START (R180). BANK_BIST START with KEY 0xA5 runs the bank BIST if every channel is bypassed or unassigned, else sets REJ. -/
  | bankBistStart (b : BankId) (w : Word)
  /-- BIST_COMPLETE (R180). The bank BIST completes and records PASS, FAILMAP and FAILITEM. -/
  | bistComplete (b : BankId) (failmap : Byte) (failitem : BitVec 4)
  /-- SOUNDING_REQUEST (R263). RAIL_SND REQ with KEY 0xA5 makes a sounding pending, or ends with CAUSE REJECT_STATE. -/
  | soundingRequest (r : RailId) (w : Word)
  /-- SOUNDING_START (R263). A pending sounding starts at the first master carrier start at which its conditions hold. -/
  | soundingStart (r : RailId)
  /-- SOUNDING_REPETITION (R264). An inductance or capacitance repetition falls due and perturbs the phases and samples the response. `m` numbers the master
carrier start M from which it runs. -/
  | soundingRepetition (r : RailId) (m : Nat)
  /-- SOUNDING_END (R266). A sounding ends valid with new L and C, or invalid with its cause. -/
  | soundingEnd (r : RailId)
  /-- DISC_START (R267). DISC_CTRL with KEY 0xA5 starts a host-request discovery on the masked banks, or sets REJ. -/
  | discStart (banks : BitVec 24)
  /-- DISCOVERY_DONE (R272). Every bank's discovery completes; classes are written and DISCDONE and DISCFLT set. -/
  | discoveryDone (probes : List (ChanId × Probe))
  /-- HADC_SLOT (R249). A 1 µs HADC slot opens and is granted by priority, skipping late scheduled conversions. -/
  | hadcSlot
  /-- HADC_CONVERSION_DONE (R252). An HADC conversion completes and its result, marked or not, feeds averaging and the monitors. -/
  | hadcConversionDone (v : Int)
  /-- REFSW (R260). The same odd source for over 10 ms is excluded and, if active, the other bandgap takes over. -/
  | refsw
  /-- REFFRZ (R261). A two-way disagreement lasting over 10 ms sets a raise freeze on every rail. -/
  | reffrz
  /-- UNFREEZE (R261). HADC_REF UNFREEZE ends the raise freeze if the last round agrees, else is ignored. -/
  | unfreeze (w : Word)
  /-- READMIT (R262). HADC_REF READMIT returns an excluded source to comparison when the last round agrees on its pairs. -/
  | readmit (w : Word)
  /-- HADC_GO (R250). HADC_REQ GO makes a host trigger pending, or discards it with OVR, or refuses it with REQREJ. -/
  | hadcGo (w : Word)
  /-- HADC_AVGSET_APPLY (R255). HADC_AVGSET APPLY sets an entry's averaging code and restarts its filter with FILLING. -/
  | hadcAvgsetApply (w : Word)
  /-- MACERATION_END (R256). A device or rail Maceration window expires and unmarked results and held decisions resume. -/
  | macerationEnd (win : Option RailId)
  /-- THERMAL_TICK (R286). A 62.5 ms evaluation tick computes rates of rise and hot states and throttles rails. -/
  | thermalTick
  /-- FLT_READBACK_MISMATCH (R308). A fault-pair ball disagrees with its driven level for 100 ns and FLTWIRE is set. -/
  | fltReadbackMismatch (ballN lvl : Bool)
  /-- RAIL_SIL_FREEZE (R310). RAIL_SIL written with FREEZE 1 freezes the rail's buffer with EVENT 0x1FF. -/
  | railSilFreeze (r : RailId) (w : Word)
  /-- REARM (R312). RAIL_SIL written with REARM 1 clears and arms the Sillage buffer. -/
  | rearm (r : RailId) (w : Word)
  /-- RAIL_SIL_DLO_READ (R312). A read of RAIL_SIL_DLO returns entry bits 31:0 or sets RDERR. -/
  | railSilDloRead (r : RailId)
  /-- RAIL_SIL_DHI_READ (R312). A read of RAIL_SIL_DHI returns entry bits 63:32 and advances INDEX, or sets RDERR. -/
  | railSilDhiRead (r : RailId)
  /-- IBI_DELIVERY (R395). An outstanding in-band interrupt is sent on the I3C bus, or retried after a NACK or lost arbitration. -/
  | ibiDelivery (ack : Bool)
  /-- GOTO_OFF (R330). A legal GOTO OFF asserts the internal core reset, opens the switches and enters OFF. -/
  | gotoOff
  /-- GOTO_STANDBY (R329). A legal GOTO STANDBY saves island state to the retention array and powers down the domains. -/
  | gotoStandby
  /-- STANDBY_ENTERED (R329). The save and shutdown complete and the device is in STANDBY. -/
  | standbyEntered
  /-- GOTO_READY (R324). A legal GOTO READY wakes the device from OFF or STANDBY, or leaves RUN for READY. -/
  | gotoReady
  /-- GOTO_RUN (R327). A legal GOTO RUN waits for the band, runs READY→RUN discovery and then enters RUN. -/
  | gotoRun
  /-- RUN_TIMEOUT (R327). No valid Tj 10 ms after GOTO RUN ends the transition in READY with RUNTO. -/
  | runTimeout
  /-- WAKE (R323). A filtered rising edge on WAKE acts as GOTO READY in OFF or STANDBY. -/
  | wake (ns : Nat)
  /-- KA_READ_WORD (R322). The keep-alive responder code 0xD0 returns PWR_KA bits 15:0. -/
  | kaReadWord
  /-- KA_STATE_CMD (R322). The keep-alive responder code 0xD1 carries a state command that acts at STOP. -/
  | kaStateCmd (d : Byte) (pec : Pec)
  /-- SUPPLIES_READY (R324). The supply-ready detectors report VDD and VDDA and the wake proceeds to reference qualification. -/
  | suppliesReady
  /-- SUPPLY_TIMEOUT (R325). Supplies are not ready 2.0 ms after the switches close; the wake ends in STANDBY with SUPTO. -/
  | supplyTimeout
  /-- REFERENCE_QUALIFIED (R324). 1,024 reference edges match the RC and PLL attempts start. -/
  | referenceQualified
  /-- REFERENCE_QUAL_TIMEOUT (R325). The reference is not qualified within 5.0 ms and moves to the internal RC. -/
  | referenceQualTimeout
  /-- PLL_LOCKED (R324). The core PLL locks; the DPWM clock starts and the DLL attempts lock. -/
  | pllLocked
  /-- PLL_ATTEMPT_TIMEOUT (R325). A PLL attempt ends unlocked after 200 µs; retry, move to RC, or end in STANDBY with PLLTO. -/
  | pllAttemptTimeout
  /-- DLL_LOCKED (R324). The DLL locks, epoch counters reset and the restore or READY entry follows. -/
  | dllLocked
  /-- DLL_ATTEMPT_TIMEOUT (R325). A DLL attempt ends unlocked after 100 µs; retry or end in STANDBY with DLLTO. -/
  | dllAttemptTimeout
  /-- RETENTION_RESTORED (R324). The retained configuration is restored with ECC, or discarded with RETLOST, and READY is entered. -/
  | retentionRestored (ok : Bool)
  /-- BOOT_LOAD (R80). The boot load starts by itself at READY entry, choosing a Flacon under R51. -/
  | bootLoad
  /-- LOAD_DONE (R78). A full load finishes its checks and commits and seals, or fails with IMG_ERR. -/
  | loadDone (flashId : Byte)
  /-- LOAD_AUTO (R86). IMG_CTRL LOAD_AUTO starts a full load from the slot chosen by R51. -/
  | loadAuto
  /-- LOAD_A (R86). IMG_CTRL LOAD_A starts a full load from Flacon A only. -/
  | loadA
  /-- LOAD_B (R86). IMG_CTRL LOAD_B starts a full load from Flacon B only. -/
  | loadB
  /-- LOAD_HOST (R81). IMG_CTRL LOAD_HOST opens a full load fed through IMG_DATA. -/
  | loadHost
  /-- IMG_DATA_WRITE (R456). A word written to IMG_DATA enters the open stream, triggering the header check and completion, or is ignored with CMDERR. -/
  | imgDataWrite (w : Word)
  /-- SLOT_CHECK (R82). IMG_CTRL SLOT_CHECK reads a slot back and runs every check except the commit. -/
  | slotCheck (slot : BitVec 2)
  /-- SLOT_CHECK_DONE (R82). The slot check ends with LOADERR and IMG_ERR. -/
  | slotCheckDone (flashId : Byte)
  /-- SLOT_ERASE (R82). IMG_CTRL SLOT_ERASE erases the inactive slot, or is refused. -/
  | slotErase (slot : BitVec 2)
  /-- SLOT_ERASE_DONE (R82). All 128 sectors of the slot are erased. -/
  | slotEraseDone (ok : Bool)
  /-- SLOT_WRITE (R82). IMG_CTRL SLOT_WRITE opens an IMG_DATA stream into an erased slot. -/
  | slotWrite (slot : BitVec 2)
  /-- SLOT_COMMIT (R82). IMG_CTRL SLOT_COMMIT writes the trailer after a passed check, or is refused with UNCHECKED. -/
  | slotCommit (slot : BitVec 2)
  /-- FLASH_WRITE_STOPPED (R82). A slot write whose write window closed stops at the next page boundary, uncommitted, with TEMP_WINDOW. -/
  | flashWriteStopped
  /-- PATCH_BEGIN (R84). IMG_CTRL PATCH_BEGIN clears the staging buffer and opens a patch stream for rail n. -/
  | patchBegin (n : BitVec 5)
  /-- PATCH_APPLY (R84). IMG_CTRL PATCH_APPLY checks the staged patch against the sealed image. -/
  | patchApply (n : BitVec 5)
  /-- PATCH_COMMIT (R84). The checked patch commits rail n's partition in one core cycle and sets IMG_PATCHED. -/
  | patchCommit
  /-- ABORT (R86). IMG_CTRL ABORT ends the running image operation with ABORTED. -/
  | abort
  /-- REVOKE (R77). IMG_CTRL REVOKE sets a key slot's revocation bit unless it is the sealed image's slot. -/
  | revoke (slot : BitVec 2)
  /-- EPOCH_ADVANCE (R77). IMG_CTRL EPOCH_ADVANCE blows one epoch fuse unless the floor would pass the sealed EPOCH. -/
  | epochAdvance
  /-- LOG_SCAN (R341). At control-domain start the log scan voids OPEN slots and finds the write position. -/
  | logScan
  /-- LOG_SCAN_DONE (R341). The scan completes and SCAN clears, letting commits and readout proceed. -/
  | logScanDone
  /-- BLOTTER_TEST (R347). A Blotter test falls due by BPERIOD or the gate and discharges VHOLD for 50 µs. -/
  | blotterTest
  /-- BLOT (R347). NVL_CTRL written with KEY 0xA5 and BLOT 1 requests a Blotter test. -/
  | blot
  /-- BLOTTER_RESULT (R348). A Blotter test ends PASS, LOW or INVALID and loads the coulomb counter. -/
  | blotterResult (vh dv : Int) (dt : Nat)
  /-- LOG_COMMIT_START (R350). The gate lets the head record start its two-phase commit. -/
  | logCommitStart
  /-- LOGGED (R351). COMMITTED is programmed, the record leaves the queue and the counter is debited. -/
  | logged
  /-- LOG_PROGRAM_TIMEOUT (R351). A program not confirmed within 1.0 ms sets MEDIA and retries in the next slot or drops the record. -/
  | logProgramTimeout
  /-- LOG_BLOCK_ERASE (R339). After a commit moves into the erased block the next ring block is erased. -/
  | logBlockErase
  /-- NVL_RDCTRL_WRITE (R354). A write to NVL_RDCTRL.AGE starts fetching a committed record, or sets RDERR. -/
  | nvlRdctrlWrite (w : Word)
  /-- NVL_FETCH_DONE (R354). The record is in the read buffer and READY and CRCOK are set. -/
  | nvlFetchDone
  /-- NVL_RDDATA_READ (R354). A read of NVL_RDDATA returns the next buffered word and advances by 4 bytes. -/
  | nvlRddataRead
  /-- NVL_TIME_TICK (R356). One second elapses and NVL_TIME advances. -/
  | nvlTimeTick
  /-- ARM (R361). TMR_CMD ARM clears and arms a timer, setting its output to OUTINIT. -/
  | arm (t : TimerId)
  /-- TIMER_START (R361). TMR_CMD START starts an ARMED timer from the next core edge. -/
  | timerStart (t : TimerId)
  /-- TIMER_STOP (R361). TMR_CMD STOP ends a RUNNING timer in DONE without a match and sets STOPPED. -/
  | timerStop (t : TimerId)
  /-- DISARM (R361). TMR_CMD DISARM returns a timer to IDLE and discards an incomplete capture pair. -/
  | disarm (t : TimerId)
  /-- TMR_GSTART (R363). A TMR_GSTART write starts every masked ARMED timer together, or is refused whole. -/
  | tmrGstart (mask : Word)
  /-- TMR_CFG_WRITE (R362). A write to TMR_CFG configures the selected timer unless it is RUNNING or unowned. -/
  | tmrCfgWrite (i : Iface) (w : Word)
  /-- TMR_MATCH_WRITE (R365). A write to TMR_MATCHt sets MATCH and forces a late match on a running timer. -/
  | tmrMatchWrite (t : TimerId) (w : Word)
  /-- TMR_COUNT_READ (R367). A read of TMR_COUNT returns the counter, or 0 with RDERR for a running timer. -/
  | tmrCountRead (i : Iface)
  /-- TIMER_MATCH (R364). A running timer's counter reaches MATCH; output toggles, DONE set, HADC trigger raised and match actions applied. -/
  | timerMatch (t : TimerId)
  /-- TIMER_CAPTURE_EDGE (R369). A synchronised capture edge loads CAPR or CAPF and completes a pair into WIDTH or the FIFO. -/
  | timerCaptureEdge (t : TimerId) (cap gate : Bool)
  /-- TIMER_SLOW_TICK (R372). A slow-clock edge advances timers in slow-clock mode and takes any match reached. -/
  | timerSlowTick
  /-- TFIFO_HI_READ (R421). A read of TFIFOf_HI returns the head's high word and removes the entry. -/
  | tfifoHiRead (f : FifoId)
  /-- VSEL_ACCEPT (R196). A VSEL index stable for 1.00 µs is accepted and writes the stored targets of owned rails in TERMINAL_ON. -/
  | vselAccept (p : PortId) (j : Fin 8)
  /-- VCMD2_SET_TARGET (R199). A VCMD-2 SET_TARGET frame writes TARGET at its apply point or is refused with its ACK. -/
  | vcmd2SetTarget (p : PortId) (f : BitVec 32) (ovr : Bool)
  /-- VCMD2_SET_SLEW (R199). A VCMD-2 SET_SLEW frame writes RAIL_SLEW at its apply point. -/
  | vcmd2SetSlew (p : PortId) (f : BitVec 32)
  /-- VCMD2_START (R193). A VCMD-2 START frame starts the rail's start table if legal. -/
  | vcmd2Start (p : PortId) (f : BitVec 32)
  /-- VCMD2_STOP (R193). A VCMD-2 STOP frame starts the rail's stop table if legal. -/
  | vcmd2Stop (p : PortId) (f : BitVec 32)
  /-- VCMD2_READ (R202). A VCMD-2 READ frame returns the requested item taken at the apply point. -/
  | vcmd2Read (p : PortId) (f : BitVec 32)
  /-- VCMD2_NOP (R199). A VCMD-2 NOP frame is answered without effect. -/
  | vcmd2Nop (p : PortId) (f : BitVec 32)
  /-- VCMD2_LINK_ERROR (R203). A malformed, truncated or too-early VCMD-2 frame gets no response and sets LINKERR. -/
  | vcmd2LinkError (p : PortId) (cause : LinkCause)
  /-- SET_VID (R206). A VCMD-1 SET_VID frame writes TARGET from a legacy code. -/
  | setVid (p : PortId) (f : BitVec 16) (ovr : Bool)
  /-- VCMD1_SET_SLEW (R206). A VCMD-1 SET_SLEW frame sets the slew in 0.5 mV/µs steps. -/
  | vcmd1SetSlew (p : PortId) (f : BitVec 16)
  /-- READ_VID (R206). A VCMD-1 READ_VID frame returns TARGET in the legacy table. -/
  | readVid (p : PortId) (f : BitVec 16)
  /-- VCMD1_ON (R206). A VCMD-1 ON_OFF frame with data 0x01 starts the rail if legal. -/
  | vcmd1On (p : PortId) (f : BitVec 16)
  /-- VCMD1_OFF (R206). A VCMD-1 ON_OFF frame with data 0x00 stops the rail if legal. -/
  | vcmd1Off (p : PortId) (f : BitVec 16)
  /-- VCMD1_LINK_ERROR (R207). A malformed or too-early VCMD-1 frame gets no response and sets LINKERR. -/
  | vcmd1LinkError (p : PortId) (cause : LinkCause)
  /-- AVS_VOLTAGE_WRITE (R208). An AVSBus Voltage write and commit sets TARGET in mV for the selected rails. -/
  | avsVoltageWrite (p : PortId) (sel : BitVec 4) (d : BitVec 16) (ovr : Bool)
  /-- AVS_WRITE_HOLD (R208). An AVSBus write and hold is stored and applies with the next write and commit. -/
  | avsWriteHold (p : PortId) (ty sel : BitVec 4) (d : BitVec 16)
  /-- AVS_VOLTAGE_READ (R208). An AVSBus Voltage read returns TARGET in mV. -/
  | avsVoltageRead (p : PortId) (sel : BitVec 4)
  /-- AVS_TRANS_RATE_WRITE (R208). An AVSBus VoutTransRate write sets RAIL_SLEW. -/
  | avsTransRateWrite (p : PortId) (sel : BitVec 4) (d : BitVec 16)
  /-- AVS_TRANS_RATE_READ (R208). An AVSBus VoutTransRate read returns the slew in mV/µs. -/
  | avsTransRateRead (p : PortId) (sel : BitVec 4)
  /-- RESET_VOLTAGE (R208). An AVSBus Reset Voltage write sets TARGET to VBOOT as SET_TARGET. -/
  | resetVoltage (p : PortId) (sel : BitVec 4) (ovr : Bool)
  /-- AVS_STATUS_READ (R210). An AVSBus Status read returns StatusResp for the selected rail. -/
  | avsStatusRead (p : PortId) (sel : BitVec 4)
  /-- AVS_STATUS_WRITE (R208). An AVSBus Status write clears StatusAlert. -/
  | avsStatusWrite (p : PortId) (sel : BitVec 4) (d : BitVec 16)
  /-- AVS_VERSION_READ (R208). An AVSBus Version read returns the revision 1.3 value. -/
  | avsVersionRead (p : PortId) (sel : BitVec 4)
  /-- AVS_NO_ACTION (R209). An AVSBus frame of an unsupported type, bad CRC or too early takes no action. -/
  | avsNoAction (p : PortId) (sel : BitVec 4) (why : AvsBad)
  /-- REGISTER_WRITE (R380). A host write to a register with no row of its own sets its fields under the access codes, or sets ACCERR. -/
  | registerWrite (i : Iface) (a : BitVec 16) (w : Word)
  /-- SMBUS_TIMEOUT (R383). HSCL held low 25 ms abandons the transaction and sets SMBTO. -/
  | smbusTimeout
  /-- ALERT_RESPONSE (R385). An Alert Response Address read is answered with the device address while ALERT_N is low. -/
  | alertResponse
  /-- PAGE (R388). PMBus PAGE sets or returns the interface's rail selection. -/
  | page (d : Option Byte) (pec : Pec)
  /-- OPERATION (R389). PMBus OPERATION starts or stops the paged rail, or reads its on state. -/
  | operation (d : Option Byte) (pec : Pec)
  /-- CLEAR_FAULTS (R389). PMBus CLEAR_FAULTS clears STATUS_CML and the class C W1C bits of the paged rail and GLB_STATUS. -/
  | clearFaults (pec : Pec)
  /-- VOUT_COMMAND (R427). PMBus VOUT_COMMAND writes TARGET as a host write or reads it in Linear16. -/
  | voutCommand (d : Option (BitVec 16)) (pec : Pec)
  /-- VOUT_TRANSITION_RATE (R427). PMBus VOUT_TRANSITION_RATE reads or writes RAIL_SLEW. -/
  | voutTransitionRate (d : Option (BitVec 16)) (pec : Pec)
  /-- MFR_STATE_CMD (R392). PMBus MFR_STATE_CMD acts as a keyed PWR_CMD state command. -/
  | mfrStateCmd (d : Byte) (pec : Pec)
  /-- MFR_REG_ADDR (R392). PMBus MFR_REG_ADDR reads or sets the interface's register pointer. -/
  | mfrRegAddr (d : Option (BitVec 16)) (pec : Pec)
  /-- MFR_REG_DATA (R392). PMBus MFR_REG_DATA reads or writes the register at the pointer and advances it. -/
  | mfrRegData (d : Option (List Byte)) (pec : Pec)
  /-- MFR_TARGET_RAW (R392). PMBus MFR_TARGET_RAW reads or writes TARGET in 1.25 mV units as a host write. -/
  | mfrTargetRaw (d : Option (BitVec 16)) (pec : Pec)
  /-- PMBUS_UNSUPPORTED (R389). An unsupported PMBus command code is NACKed and sets STATUS_CML bit 7 and CMLERR. -/
  | pmbusUnsupported (code : Byte)
  /-- I3C_PRIVATE_WRITE (R393). An I3C private write sets the address pointer and writes registers under R380. -/
  | i3cPrivateWrite (data : List Byte)
  /-- I3C_PRIVATE_READ (R393). An I3C private read returns registers from the pointer. -/
  | i3cPrivateRead (n : Nat)
  /-- ENTDAA (R394). CCC ENTDAA assigns a dynamic address after sending PID, BCR and DCR. -/
  | entdaa (a : BitVec 7)
  /-- RSTDAA (R394). CCC RSTDAA clears the dynamic address and returns the port to SMBus mode. -/
  | rstdaa
  /-- ENEC (R394). CCC ENEC enables INT or HJ and re-requests interrupts for groups with PEND set. -/
  | enec (ev : Byte)
  /-- DISEC (R394). CCC DISEC disables INT or HJ. -/
  | disec (ev : Byte)
  /-- SETMWL (R394). CCC SETMWL sets the maximum write length. -/
  | setmwl (n : BitVec 16)
  /-- SETMRL (R394). CCC SETMRL sets the maximum read length. -/
  | setmrl (n : BitVec 16)
  /-- SETDASA (R394). CCC SETDASA assigns a dynamic address when I3CSA is nonzero. -/
  | setdasa (a : BitVec 7)
  /-- SETNEWDA (R394). CCC SETNEWDA changes the dynamic address. -/
  | setnewda (a : BitVec 7)
  /-- I3C_UNDEFINED_CCC (R394). An undefined or ignored CCC is ignored or NACKed and sets I3CERR where stated. -/
  | i3cUndefinedCcc (k : CccKind)
  /-- HOT_JOIN_REQUEST (R396). With no dynamic address the target sends a Hot-Join request, repeated every 1.0 ms. -/
  | hotJoinRequest
  /-- BYPASS_INSTR (R397). The TAP BYPASS instruction selects the bypass register. -/
  | bypassInstr
  /-- IDCODE (R397). The TAP IDCODE instruction returns 0x0619_2A5B. -/
  | idcode
  /-- SAMPLE_PRELOAD (R397). The TAP SAMPLE/PRELOAD instruction samples pins without affecting them. -/
  | samplePreload
  /-- EXTEST (R397). The TAP EXTEST instruction drives pins from the boundary register when legal, else loads BYPASS. -/
  | extest
  /-- CLAMP (R397). The TAP CLAMP instruction holds pins when legal, else loads BYPASS. -/
  | clamp
  /-- HIGHZ (R397). The TAP HIGHZ instruction floats pins when legal, else loads BYPASS. -/
  | highz
  /-- REGACC (R398). The REGACC Update-DR performs a register read or write through the 1149.1 port. -/
  | regacc (dr : BitVec 49)
  /-- HALT (R397). The TAP HALT instruction puts the control domain into debug halt. -/
  | halt
  /-- RELEASE (R397). The TAP RELEASE instruction ends the debug halt. -/
  | release
  /-- KEYPROG (R399). The TAP KEYPROG instruction programs an unprogrammed CMAC key slot while no image is sealed. -/
  | keyprog (dr : BitVec 130)
  /-- FTMKEY (R400). The TAP FTMKEY instruction with TESTEN high and the correct key enters factory test mode. -/
  | ftmkey (testen : Bool) (key : BitVec 128)
  /-- TEST_LOGIC_RESET (R397). TRST_N or the Test-Logic-Reset state resets the TAP and ends a debug halt. -/
  | testLogicReset
  /-- CLAIM (R406). A received Nelink CLAIM makes the receiver a follower of the sender. -/
  | claim (id : BitVec 6) (pl : Word) (lost : Bool)
  /-- YIELD (R407). A Nelink YIELD from the master starts a new negotiation. -/
  | yield (id : BitVec 6) (pl : Word) (lost : Bool)
  /-- TIMEBASE (R408). A received Nelink TIMEBASE sets the epoch high bits loaded at the boundary pulse. -/
  | timebase (id : BitVec 6) (pl : Word) (lost : Bool)
  /-- HELLO (R410). A received Nelink HELLO marks a peer present and checks for a duplicate CHAINID. -/
  | hello (id : BitVec 6) (pl : Word) (lost : Bool)
  /-- LEAVE (R410). A received Nelink LEAVE removes the peer, and from the master starts a negotiation. -/
  | leave (id : BitVec 6) (pl : Word) (lost : Bool)
  /-- NL_BAD_FRAME (R405). A Nelink frame with a CRC, stuff or bit error is discarded and sets NLERR. -/
  | nlBadFrame (k : NlFault)
  /-- NL_LISTEN_END (R406). The 1.0 ms listen period (plus 200 µs for ROLE 1) ends and the controller claims or runs free. -/
  | nlListenEnd (acked : Bool)
  /-- NL_HELLO_TIMER (R410). 16.0 ms elapse and the controller sends a HELLO. -/
  | nlHelloTimer (acked : Bool)
  /-- NL_PEER_TIMEOUT (R410). No HELLO from a peer for 50 ms removes it and sets PEERCHG. -/
  | nlPeerTimeout (id : BitVec 6)
  /-- MLOST (R407). A follower sees no SYNC_IN pulse for 16 µs or no TIMEBASE for 1.0 ms, runs free and renegotiates. -/
  | mlost
  /-- RENEGOTIATE (R407). NL_CMD RENEGOTIATE sends YIELD from a master and is refused otherwise. -/
  | renegotiate
  /-- SYNC_IN_PULSE (R408). A pulse at SYNC_IN aligns a follower's epoch low bits and counts toward the boundary pulse. -/
  | syncInPulse
  /-- SLOT_COMMIT_DONE (R82). The trailer programmed by SLOT_COMMIT completes, the slot becomes committed, its IMG_GEN register updates and the loader returns to idle. -/
  | slotCommitDone (ok : Bool)
  /-- ON_OFF_CONFIG (R389). PMBus ON_OFF_CONFIG returns 0x18. -/
  | onOffConfig
  /-- CAPABILITY (R389). PMBus CAPABILITY returns 0xD0. -/
  | capability
  /-- VOUT_MODE (R389). PMBus VOUT_MODE returns 0x14. -/
  | voutMode
  /-- VOUT_MAX (R427). PMBus VOUT_MAX returns VMAX. -/
  | voutMax
  /-- VOUT_MIN (R427). PMBus VOUT_MIN returns VMIN. -/
  | voutMin
  /-- VOUT_OV_FAULT_LIMIT (R427). PMBus VOUT_OV_FAULT_LIMIT returns the present OV threshold. -/
  | voutOvFaultLimit
  /-- VOUT_UV_FAULT_LIMIT (R427). PMBus VOUT_UV_FAULT_LIMIT returns the present UV threshold. -/
  | voutUvFaultLimit
  /-- IOUT_OC_FAULT_LIMIT (R427). PMBus IOUT_OC_FAULT_LIMIT returns the effective limit. -/
  | ioutOcFaultLimit
  /-- STATUS_BYTE (R390). PMBus STATUS_BYTE returns the paged rail's summary status. -/
  | statusByte
  /-- STATUS_WORD (R390). PMBus STATUS_WORD returns the paged rail's status word. -/
  | statusWord
  /-- STATUS_VOUT (R390). PMBus STATUS_VOUT returns the OV and UV fault bits. -/
  | statusVout
  /-- STATUS_IOUT (R390). PMBus STATUS_IOUT returns the current fault and warning bits. -/
  | statusIout
  /-- STATUS_TEMPERATURE (R390). PMBus STATUS_TEMPERATURE returns TSHUT and throttling. -/
  | statusTemperature
  /-- STATUS_CML (R390). PMBus STATUS_CML returns the interface's communication error bits. -/
  | statusCml
  /-- STATUS_MFR_SPECIFIC (R390). PMBus STATUS_MFR_SPECIFIC returns MACER and the sense, back-drive and BTSF bits. -/
  | statusMfrSpecific
  /-- READ_VOUT (R391). PMBus READ_VOUT returns RAIL_TVOUT in Linear16. -/
  | readVout
  /-- READ_IOUT (R391). PMBus READ_IOUT returns RAIL_TIOUT in Linear11. -/
  | readIout
  /-- READ_TEMPERATURE_1 (R389). PMBus READ_TEMPERATURE_1 returns Tj. -/
  | readTemperature1
  /-- READ_TEMPERATURE_2 (R427). PMBus READ_TEMPERATURE_2 returns the hottest valid stage sensor of the rail's set. -/
  | readTemperature2
  /-- PMBUS_REVISION (R389). PMBus PMBUS_REVISION returns 0x44. -/
  | pmbusRevision
  /-- MFR_ID (R389). PMBus MFR_ID returns TWIRUM. -/
  | mfrId
  /-- MFR_MODEL (R389). PMBus MFR_MODEL returns XV6192. -/
  | mfrModel
  /-- MFR_REVISION (R427). PMBus MFR_REVISION returns the silicon revision characters. -/
  | mfrRevision
  /-- IC_DEVICE_ID (R427). PMBus IC_DEVICE_ID returns GLB_ID. -/
  | icDeviceId
  /-- IC_DEVICE_REV (R427). PMBus IC_DEVICE_REV returns the revision byte. -/
  | icDeviceRev
  /-- MFR_KA_READ (R392). PMBus MFR_KA_READ returns PWR_KA bits 15:0. -/
  | mfrKaRead
  /-- GETMWL (R394). CCC GETMWL returns the write length setting. -/
  | getmwl
  /-- GETMRL (R394). CCC GETMRL returns the read length and IBI payload size. -/
  | getmrl
  /-- GETPID (R394). CCC GETPID returns the Provisional ID. -/
  | getpid
  /-- GETBCR (R394). CCC GETBCR returns 0x06. -/
  | getbcr
  /-- GETDCR (R394). CCC GETDCR returns 0x00. -/
  | getdcr
  /-- GETSTATUS (R394). CCC GETSTATUS returns outstanding IBI groups and the protocol error bit. -/
  | getstatus
  /-- GETMXDS (R394). CCC GETMXDS returns 0x00, 0x00. -/
  | getmxds
  deriving DecidableEq, Repr

end Sys2Proof
end

