-- ==== Sys2Proof/Config.lean ====
section
/-! DEFINITION. What an implementation fixes and the spec leaves open (opaque constants), and the shape of a topology
image once the loader has read it (R52 to R76). -/

namespace Sys2Proof

/-! ## Open values: opaque constants without a body -/

/-- A fresh value the spec leaves open, the n-th one: log entry 5, DESIGN CHOICE. -/
opaque Config.freeWord : Nat → Word

/-- What a 16-bit signed field holds of a value outside its format: the spec does not state it (log entry 5, DESIGN CHOICE). -/
opaque Config.narrow16 : Int → BitVec 16

/-- GLB_UID (R418): per die. Log entry 6, DESIGN CHOICE. -/
opaque Config.uid : BitVec 64

/-- The level that the board's resistor gives ASTRAP0, one of eight (R386). Log entry 19, DEDUCED. -/
opaque Config.strap0 : BitVec 3

/-- The level that the board's resistor gives ASTRAP1, one of eight (R386). Log entry 19, DEDUCED. -/
opaque Config.strap1 : BitVec 3

/-- DPWM ticks from the apply point of a frame to the end of its response slot: the load's clock sets it, true for VCMD-2
(R198, R205, R217). Log entry 21, DESIGN CHOICE. -/
opaque Config.slotTicks : Bool → Nat

/-- DPWM ticks from the apply point of an AVSBus frame to the end of its response, which the load's next frame clocks out
(R208, R217). Log entry 21, DESIGN CHOICE. -/
opaque Config.avsTicks : Nat

/-- The DPWM tick at which frame number `k` of port `p` reaches its apply point, `t` the time from which the unit answers: the load
chooses it (R198, R205, R217). Log entry 21, DESIGN CHOICE. -/
opaque Config.frameApply (p k t : Nat) : Nat

/-- How long before its apply point frame number `k` of port `p` starts, in DPWM ticks: the load's clock sets it for VCMD-1 and AVSBus,
the capture of the start the last two ticks of it for VCMD-2 (R204, R205, R209). Log entry 21, DESIGN CHOICE. -/
opaque Config.frameLead (p k : Nat) : Nat

/-- The level that VDDIO group `g` detects when VDD is reported ready, true for 3.3 V: the board's choice (R436).
Log entry 19, DEDUCED. -/
opaque Config.vddio33 : Nat → Bool

/-- The board leaves VDDIO group `g` without its supply at DPWM tick `t` (R321, R436, R451). Log entry 19, DEDUCED. -/
opaque Config.vddioAbsent (t g : Nat) : Bool

/-- What the boundary register drives at a ball under EXTEST and CLAMP: the TAP commands carry no boundary data (R397).
Log entry 26, DESIGN CHOICE. -/
opaque Config.boundary : Nat → Bool

/-- The device key of FTMKEY, held by the maker and not published (R400). Log entry 49, DESIGN CHOICE. -/
opaque Config.deviceKey : BitVec 128

/-- Whether the n-th RESET_N pulse of 50 ns to 200 ns acts (R332 leaves it to process, supply and temperature).
Log entry 48, DESIGN CHOICE. -/
opaque Config.resetPulseActs : Nat → Bool

/-- Whether the n-th WAKE pulse of 0.2 µs to 1.0 µs acts (R323 states only the two ends).
Log entry 48, DESIGN CHOICE. -/
opaque Config.wakePulseActs : Nat → Bool

/-- The Version value that the AVSBus standard assigns to revision 1.3 (R208 cites the standard).
Log entry 49, DESIGN CHOICE. -/
opaque Config.avsVersion : BitVec 16

/-- GLB_REV (R418): revision A0, variant QB as the Reset column gives it. Log entry 6, DESIGN CHOICE. -/
def Config.rev : Word := 0x41300100#32

/-! ## The topology image, read -/

/-- MODULATION.MODE (R64), also the present modulation of RAIL_ENG_STATUS.MODE (R147). -/
inductive ModMode where
  | ffvm | cori | hyb
  deriving DecidableEq, Repr

/-- ACCORD (R61). -/
structure AccordCfg where
  nph : Nat
  nmin : Nat
  bypass : Bool
  pair : Bool
  phase : List Nat
  safe : List Nat
  irated : Nat
  peak : Nat
  spoint : Nat
  deriving DecidableEq, Repr, Inhabited

/-- ENGINE (R62), STRUCT taken apart. -/
structure EngineCfg where
  integ : Bool
  zeros : Nat
  poles : Nat
  llEn : Bool
  fixed : Bool
  fixset : Nat
  divk : Nat
  lline : Nat
  spacing : Nat
  soffset : Nat
  vmax : Nat
  vmin : Nat
  vboot : Nat
  slew : Nat
  deriving DecidableEq, Repr, Inhabited

/-- One coefficient set: seven S24 words and the shift (R63, R127). -/
structure CoefSet where
  c0 : Int
  c1 : Int
  c2 : Int
  c3 : Int
  c4 : Int
  c5 : Int
  c6 : Int
  shift : Nat
  deriving DecidableEq, Repr, Inhabited

/-- COEFF (R63). -/
structure CoeffCfg where
  nl : Nat
  nc : Nat
  ledge : List Nat
  cedge : List Nat
  sets : List CoefSet
  deriving DecidableEq, Repr, Inhabited

/-- MODULATION (R64). -/
structure ModCfg where
  mode : ModMode
  toCori : Bool
  corin : Nat
  period : Nat
  dmax : Nat
  dmin : Nat
  toncl : Nat
  tonco : Nat
  ripg : Nat
  corout : Nat
  deriving DecidableEq, Repr

/-- CURVES (R65). FOLDBACK points are (X, Y), SHED entries (ADD, SHED). -/
structure CurveCfg where
  rotate : Bool
  tripn : Nat
  fbLinear : Bool
  ilim : Nat
  tfloor : Nat
  tperiod : Nat
  dwell : Nat
  trimmax : Nat
  ovth : Nat
  uvth : Nat
  ineg : Nat
  bdtime : Nat
  fold : List (Nat × Nat)
  shed : List (Nat × Nat)
  deriving DecidableEq, Repr, Inhabited

/-- The actions of a sequencing state (R59). -/
inductive SmAction where
  | holdOff | rampUp | regulate | rampDown | discharge | measurePrebias | assertPg | deassertPg | terminalOn
  | terminalOff
  deriving DecidableEq, Repr, Inhabited

/-- One state record (R59): three transition slots (condition code, next state). -/
structure SmState where
  action : SmAction
  ramp : Nat
  duration : Nat
  slots : List (Nat × Nat)
  deriving DecidableEq, Repr, Inhabited

/-- One ramp entry (R66): DELAY in 10 ns units, SLEW in 0.25 mV/µs units, START from pre-bias. -/
structure RampCfg where
  delay : Nat
  slew : Nat
  fromPrebias : Bool
  deriving DecidableEq, Repr, Inhabited

/-- SEQUENCE (R66). -/
structure SeqCfg where
  pgrise : Nat
  pgfall : Nat
  pgdelay : Nat
  ramps : List RampCfg
  start : List SmState
  stop : List SmState
  deriving DecidableEq, Repr, Inhabited

/-- The six sections of one configured rail, with the revision in force (R55, R83). -/
structure RailCfg where
  acc : AccordCfg
  eng : EngineCfg
  coef : CoeffCfg
  md : ModCfg
  cur : CurveCfg
  seq : SeqCfg
  rev : Nat
  deriving DecidableEq, Repr

/-- One PINCLAIM entry (R67). -/
structure PinClaim where
  rclass : Nat
  rindex : Nat
  claimant : Nat
  cinst : Nat
  observe : Bool
  deriving DecidableEq, Repr, Inhabited

/-- PORTS.PROTO (R70). -/
inductive Proto where
  | unused | vsel | avs | vcmd2 | vcmd1
  deriving DecidableEq, Repr, Inhabited

/-- One PORTS record (R70). -/
structure PortCfg where
  proto : Proto
  nrail : Nat
  step : Nat
  budget : Nat
  rails : List Nat
  share : List Nat
  vsel : List (List Nat)
  deriving DecidableEq, Repr, Inhabited

/-- One TBAND band record (R71). -/
structure BandCfg where
  dll : List Int
  stRise : Nat
  stFall : Nat
  pairRise : Nat
  pairFall : Nat
  gain : List Int
  deriving DecidableEq, Repr, Inhabited

/-- TBAND (R71). -/
structure TbandCfg where
  edges : List Int
  hyst : Nat
  ror : List Nat
  bands : List BandCfg
  deriving DecidableEq, Repr, Inhabited

/-- One HADC schedule entry (R72). -/
structure HadcEntry where
  chan : Nat
  user : Nat
  start : Nat
  stride : Nat
  avg : Nat
  lowz : Bool
  range : Nat
  deriving DecidableEq, Repr, Inhabited

/-- HADC (R72). -/
structure HadcCfg where
  maceration : Nat
  entries : List HadcEntry
  deriving DecidableEq, Repr, Inhabited

/-- HOSTIF (R74). -/
structure HostifCfg where
  strapmode : Nat
  smbaddr : Nat
  pecreq : Bool
  i3csa : Nat
  hotjoin : Bool
  ibiEn : Bool
  wdog : Nat
  deriving DecidableEq, Repr, Inhabited

/-- NELINK (R74). -/
structure NelinkCfg where
  role : Nat
  chainid : Nat
  epochofs : Nat
  deriving DecidableEq, Repr, Inhabited

/-- A whole image as committed: header facts, the rail partitions and the global part (R40, R79). -/
structure ImageCfg where
  gen : Nat
  auth : Bool
  epoch : Nat
  keyidx : Nat
  rails : List (Option RailCfg)
  pins : List PinClaim
  ports : List PortCfg
  tband : TbandCfg
  hadc : HadcCfg
  irq : List Nat
  hostif : HostifCfg
  nelink : Option NelinkCfg
  deriving DecidableEq, Repr

end Sys2Proof
end

