-- ==== Sys2Proof/Machine/State.lean ====
section
/-! DEFINITION. The state of the XV6192 as plain data: every register, FIFO, buffer, counter, mode and pin the spec
names, the queue of waiting commands, and the state right after power-on reset. Docstrings name the rule of each group;
INVENTORY.md lists every field with its width and reset value. Registers that the spec derives from other state
(IRQ_PEND, ALERT_N, the fault pair, RAIL_VPOS, CH_CTRL.MODE and the like) are computed where they are read. -/

namespace Sys2Proof.Machine


/-! ## Phase channels and banks -/

/-- CH_CTRL.STATE (R117). -/
inductive ChSt where
  | noAccord | stopped | switching | shed | bypassed | safe | cycleTerm
  deriving DecidableEq, Repr

/-- Output level kind of a channel (R90): no-image weak bias, on, low, off, safe. -/
inductive OutLvl where
  | weak | on | low | off | safe
  deriving DecidableEq, Repr

/-- The level of a ball: high impedance with the weak bias, without it, or with a 100 kΩ pull of the PWM test (R268); driven
high, low or mid (R90). -/
inductive PadLvl where
  | weak | highZ | pullUp | pullDown | high | low | mid
  deriving DecidableEq, Repr

/-- CH_ISNS.MARK (R182) in the order of R156. -/
inductive IMark where
  | none | bref | bypass | offcal | noacc | pairls
  deriving DecidableEq, Repr

/-- An ISLICE sample in conversion (R151, R155): its code, its mark, the gain in force at its instant, the number of the master
carrier period it lies in, and that of the carrier period of its channel (R264). -/
structure Smp where
  code : Int
  mark : IMark
  gain : Int
  no : Nat
  cno : Nat
  deriving DecidableEq, Repr

/-- One phase channel (R90 to R117, R148 to R156, R182). `cs` is the DPWM tick of its last carrier start, `csNo` the number of
the master carrier period that start lies in (R150), `nextCs` the tick of its next carrier start (R97, R98, R165); `trim` the
carrier trim in force; `newOfs` an offset that waits for its first carrier start under R98; `joining` a channel that leaves
off level at that start; `shOn`, `shOff` the shadow registers, `shOnAt` the time of a boundary write to CMP_ON (R105); `band`
the band record it carries, `bandDue` a band value that waits to load, `bandSw` whether the channel placed edges when it was
decided (R285); `onBand` the one in force at the on edge (R103, R134); `onAt`, `offAt` the times of its last on edge and last
off edge in taps and `pre` the level before that edge, from which the outputs follow (R93, R102); `updAt`, `updOld` the time
of the last immediate write and the CMP_OFF before it, `updOn` the CMP_ON before it when the write started an on-time of CO-RI, `updLate` LATEOFF before it when
the late-edge rule acted on it,
`tripAt` the time of the last termination (R113); `smp` the ISLICE
sample in conversion, `smpAt` the time of the last one; `thr` the threshold DAC setting (R153); `negHold` a negative-limit
engagement (R232); `pad` the level that the pad latches hold after a reset (R333); `probeAt` the start of its probe by a discovery,
`pv0` the code and the time of V0, `pv1` the code of V1 (R268). Log entry 2, DESIGN CHOICE. -/
structure Chan where
  st : ChSt := .noAccord
  out : OutLvl := .weak
  pre : OutLvl := .weak
  cmpOn : Nat := 0
  cmpOff : Nat := 0
  shOn : Option Nat := none
  shOff : Option Nat := none
  shOnAt : Option Nat := none
  cs : Nat := 0
  csNo : Nat := 0
  nextCs : Option Nat := none
  joining : Bool := false
  ofs : Nat := 0
  trim : Nat := 0
  newOfs : Option Nat := none
  onDone : Bool := false
  leaving : Bool := false
  lateOn : Bool := false
  lateOff : Bool := false
  cmpClip : Bool := false
  cbc : Bool := false
  rawTrip : Bool := false
  band : Option Nat := none
  bandDue : Bool := false
  bandSw : Bool := false
  onBand : Option Nat := none
  onAt : Nat := 0
  offAt : Nat := 0
  updAt : Option Nat := none
  updOld : Nat := 0
  updOn : Option Nat := none
  updLate : Option Bool := none
  tripAt : Option Nat := none
  smpAt : Option Nat := none
  mark : IMark := .noacc
  code : Int := 0
  amps : Int := 0
  iofs : Int := 0
  smp : Option Smp := none
  thr : Nat := 0
  negHold : Bool := false
  pad : PadLvl := .weak
  probeAt : Option Nat := none
  pv0 : Option (Int × Nat) := none
  pv1 : Option Int := none
  deriving DecidableEq, Repr

/-- One bank (R99, R118, R157, R180, R182, R276). `syncLoad`: the corrected epoch is loaded at the next pulse; `lateAt` the tick of the
last late write of a compare word and LATE before it (R41).
Log entry 2, DESIGN CHOICE. -/
structure Bank where
  epoch : BitVec 32 := 0
  syncLoad : Bool := false
  btsfFlt : Bool := false
  syncErr : Bool := false
  late : Bool := false
  lateAt : Option (Nat × Bool) := none
  btsfRaw : Bool := false
  brefWin : Bool := false
  brefMark : Bool := false
  brefDist : Bool := false
  distCnt : Nat := 0
  bistRun : Bool := false
  bistDone : Bool := false
  bistPass : Bool := false
  bistRej : Bool := false
  bistRejCnt : Nat := 0
  failMap : Byte := 0
  failItem : BitVec 4 := 0
  discValid : Bool := false
  discUnattr : Bool := false
  discClass : BitVec 24 := 0xFFFFFF#24
  lastValid : Bool := false
  lastUnattr : Bool := false
  lastClass : BitVec 24 := 0xFFFFFF#24
  deriving DecidableEq, Repr

/-! ## Rails -/

/-- The engine's fixed-point words (R126, R127, R133): ef in 1/16 code, p, u and d with 40 fractional bits of duty, x
and r of CO-RI in 1/16 code. -/
structure Comp where
  ef1 : Int := 0
  ef2 : Int := 0
  p1 : Int := 0
  p2 : Int := 0
  u : Int := 0
  d : Int := 0
  x : Int := 0
  rip : Nat := 0
  deriving DecidableEq, Repr

/-- What an EADC sample changes and its mark would have left (R124): kept while its conversion could still span a change of the
active bandgap (R260). -/
structure Before where
  comp : Comp
  clampI : Bool
  first : Bool
  modeChg : Bool
  esat : Bool
  errReg : Int
  lastPhase : Nat
  fold : Nat
  recDue : Bool
  prebN : Nat
  prebSum : Int
  vs : List (Int × Nat)
  sil : Option (BitVec 64) := none
  deriving DecidableEq, Repr

/-- The rail engine (R120 to R147). `lline`, `cmode`, `shift`, `hil`, `hic`, `shadow` are the host-written registers,
`llineW` and `work` the working copies; `applyDue` an APPLY that waits for the master carrier start, `selDue` a
sounding-indexed set that waits for it. `first` is set while the first sample of a ramp is due (R131); `lastAt` is the
time of the last EADC sample (R120); `wordsDue` the core clock edge at which the words of a sample stand in the
compare registers, `coriDue` that of a CO-RI decision with the error and the C5 of
its sample (R35, R94, R145); `before` what the last sample, if unmarked, changed. -/
structure RailEng where
  esat : Bool := false
  sndfb : Bool := false
  marked : Bool := false
  clampI : Bool := false
  slrq : Bool := false
  mode : ModMode := .ffvm
  markCnt : Nat := 0
  mark : Bool := false
  sat : Bool := false
  code : Int := 0
  errReg : Int := 0
  centre : Nat := 0
  recnt : Nat := 0
  recDue : Bool := false
  first : Bool := false
  preload : Nat := 0
  modeChg : Bool := false
  comp : Comp := {}
  lline : BitVec 16 := 0
  llineW : Nat := 0
  coriCnt : Nat := 0
  lastPhase : Nat := 0
  lastAt : Option Nat := none
  wordsDue : Option Nat := none
  coriDue : Option (Nat × Int × Int) := none
  before : Option Before := none
  on : Bool := false
  deriving DecidableEq, Repr

/-- Coefficient selection of a rail (R143, R144, R147). -/
structure RailCoef where
  cmode : BitVec 2 := 0
  shift : BitVec 5 := 0
  hil : BitVec 3 := 0
  hic : BitVec 3 := 0
  shadow : List (BitVec 24) := List.replicate 7 0
  fallbk : Bool := false
  sel : Nat := 0
  work : CoefSet := ⟨0, 0, 0, 0, 0, 0, 0, 0⟩
  inForce : BitVec 2 := 0
  applyDue : Bool := false
  selDue : Bool := false
  deriving DecidableEq, Repr

/-- One straight piece of the position (R190): from position `p0` (2^-24 of 1.25 mV) at DPWM tick `t0` toward `dest` at
`s` units of 0.25 mV/µs. -/
structure Mv where
  t0 : Nat
  p0 : Nat
  s : Nat
  dest : Nat
  deriving DecidableEq, Repr

/-- Target, slew and position (R186 to R195, R216, R228). `tgtW` and `slewW` are the working copies; `moves` the pieces of the
position, newest first, as far back as refH and refL of R228 need; `hostAt` the core cycle of the last host write that TARGET
took (R41, R215). -/
structure RailPos where
  target : BitVec 16 := 0
  src : BitVec 2 := 0
  hrej : Bool := false
  slew : BitVec 9 := 0
  tgtW : Nat := 0
  slewW : Nat := 0
  tgtDue : Bool := false
  moves : List Mv := []
  vselHeld : Option Nat := none
  hostAt : Option Nat := none
  deriving DecidableEq, Repr

/-- A decided shedding or adding step (R170). -/
inductive StepDec where
  | add | shed
  deriving DecidableEq, Repr

/-- Current sharing and shedding (R37, R152 to R181). Lists are by position of the PHASE list; `ever` tells whether a
position has given an unmarked contribution, `given` whether it has since the last step. -/
structure RailShare where
  tshift : BitVec 4 := 12
  forcen : BitVec 6 := 0
  trimSat : Bool := false
  phRej : Bool := false
  ofsClip : Bool := false
  rotate : Bool := false
  rot : Nat := 0
  rotCnt : Nat := 0
  satPos : Nat := 0
  nact : Nat := 0
  bypass : Word := 0
  acc : List Int := List.replicate 32 0
  trim : List Int := List.replicate 32 0
  trimNew : Option (List Int) := none
  satCnt : List Nat := List.replicate 32 0
  round : List (Option Int) := List.replicate 32 none
  roundBad : Bool := false
  roundNo : Nat := 0
  contrib : List Int := List.replicate 32 0
  held : List Bool := List.replicate 32 false
  ever : List Bool := List.replicate 32 false
  given : List Bool := List.replicate 32 false
  snaps : List Int := []
  dwCnt : Nat := 0
  decided : Option StepDec := none
  deriving DecidableEq, Repr

/-- RAIL_PHCMD and its pending work (R175 to R179, R181); `resPos` the position of the RESTORE that runs. -/
structure RailPh where
  busy : Bool := false
  rejCnt : Nat := 0
  pos : Nat := 0
  result : Byte := 0
  bypDue : List Nat := []
  resPos : Option Nat := none
  resDue : Option Nat := none
  trimRd : BitVec 5 := 0
  deriving DecidableEq, Repr

/-- The trip latch and counter (R109, R110, R119). `latchAt`, `tripAt`: the core cycle of the latch and of the last counted
trip, which tell events of one core cycle (R113). -/
structure RailTrip where
  latched : Bool := false
  clrRej : Bool := false
  tripLat : Bool := false
  count : Nat := 0
  cause : BitVec 2 := 0
  wher : Nat := 0
  inPeriod : Bool := false
  clean : Nat := 0
  latchAt : Option Nat := none
  tripAt : Option Nat := none
  deriving DecidableEq, Repr

/-- Rail states (R218) but for latched, which R219 derives from the two latches. -/
inductive RailSt where
  | stopped | start | on | stop
  deriving DecidableEq, Repr

/-- The sequencer (R218 to R230, R244). `cal`: offset calibration runs; `delay`: a ramp's DELAY runs; `ramp`: the ramp in
progress and whether it rises; `acting`: the action of the present state has begun; `durOk`: condition 0x01; `preb`: the last
completed pre-bias measurement in 1.25 mV; `prebN`, `prebSum` the one in progress; `sw`: the accord switches; `mcs`, `mcsNo`
time and number of the last master carrier start since START (R150); `mcsWait` the time of a START whose first one is due at
the epoch count of R409, `mcsAt` the time of the next one; `discBad` the positions for which DISCHOLD stands (R221). -/
structure RailSeq where
  seqRej : Bool := false
  pgChg : Bool := false
  pgPin : Bool := false
  pgArm : Bool := false
  pgComp : Bool := false
  discHold : Bool := false
  discBad : Word := 0
  st : RailSt := .stopped
  rejCnt : Nat := 0
  smIdx : Nat := 0
  table : Bool := false
  cal : Bool := false
  calSum : List Int := List.replicate 32 0
  calCnt : List Nat := List.replicate 32 0
  acting : Bool := false
  delay : Bool := false
  ramp : Option (Nat × Bool) := none
  durOk : Bool := false
  preb : Option Nat := none
  measuring : Bool := false
  prebN : Nat := 0
  prebSum : Int := 0
  sw : Bool := false
  disch : Bool := false
  seqIn : Bool := false
  mcs : Nat := 0
  mcsNo : Nat := 0
  mcsWait : Option Nat := none
  mcsAt : Option Nat := none
  started : Bool := false
  deriving DecidableEq, Repr

/-- Protections of a rail (R228 to R244). -/
structure RailProt where
  latched : Bool := false
  clrRej : Bool := false
  ovFlt : Bool := false
  uvFlt : Bool := false
  snsOpen : Bool := false
  bdFlt : Bool := false
  negLim : Bool := false
  ovRaw : Bool := false
  uvRaw : Bool := false
  snsP : Bool := false
  snsN : Bool := false
  bdAct : Bool := false
  uvArm : Bool := false
  ovArm : Bool := false
  haltAt : Option Nat := none
  haltOv : Bool := false
  haltUv : Bool := false
  rampPause : Bool := false
  negCnt : Nat := 0
  cause : BitVec 3 := 0
  negNow : Bool := false
  sumNeg : Bool := false
  bdClean : Nat := 0
  latchAt : Option Nat := none
  deriving DecidableEq, Repr

/-- The contributions to the effective limit (R42, R238, R239, R289), 0.125 A units; `effM`, `nM` the effective limit and N
of the per-phase threshold that the last master carrier start loaded (R42, R153); `held`: the rail was throttled at a control-domain
reset and waits for its sensors, evaluated afresh (R290). -/
structure RailLim where
  fold : Nat := 0
  goal : Nat := 0
  bud : Nat := 0
  stepping : Bool := false
  throttled : Bool := false
  rising : Bool := false
  held : Bool := false
  thr : Nat := 0
  effM : Nat := 0
  nM : Nat := 0
  deriving DecidableEq, Repr

/-- Sense-line resistance (R237, R244). -/
structure RailSns where
  valid : Bool := false
  rline : Nat := 0
  measCnt : Nat := 0
  last : List Nat := []
  deriving DecidableEq, Repr

/-- Sounding (R263 to R266, R275). `n`, `d0`, `dtw` are N, RAIL_DUTY.DUTY and ΔT at its start, `rep` the repetitions done in
the stage, `nextNo` the master carrier start at which the next falls due, `dis` and `dvs` the measurements, newest first,
`plan` the additions to CMP_OFF by master carrier number, `m0` the number of the repetition in progress, `pos` the position it
perturbs (none: every active one), `i0` its first current, `va`, `v0` its first amplifier codes, `sumA`, `sum1` the rail sums
at Va and V1, `late` an Atomiser sample delayed by more than 1.0 µs, `hold` the engine's hold. -/
structure RailSnd where
  pend : Bool := false
  run : Bool := false
  valid : Bool := false
  cause : BitVec 4 := 0
  dt : BitVec 16 := 0x0800#16
  l : Nat := 0
  c : Nat := 0
  di : Nat := 0
  dv : Nat := 0
  auto : Bool := false
  firstDue : Bool := true
  n : Nat := 0
  d0 : Nat := 0
  rep : Nat := 0
  capStage : Bool := false
  dis : List Int := []
  dvs : List Int := []
  dropped : Nat := 0
  dtw : Nat := 0
  nextNo : Nat := 0
  m0 : Nat := 0
  pos : Option Nat := none
  i0 : Option Int := none
  va : Int := 0
  v0 : Int := 0
  sumA : Int := 0
  sum1 : Int := 0
  late : Bool := false
  hold : Bool := false
  plan : List (Nat × Int) := []
  deriving DecidableEq, Repr

/-- The Sillage buffer (R309 to R312, R317), oldest entry first. `causeAt`, `causeEv`: the core cycle and the number of the last
freeze cause; `rearmed` the core cycle of the last REARM and the contents and INDEX it cleared: a REARM and a cause of one core cycle
meet (R314). -/
structure RailSil where
  frozen : Bool := false
  rdErr : Bool := false
  event : BitVec 9 := 0
  index : BitVec 12 := 0
  entries : List (BitVec 64) := []
  causeAt : Option Nat := none
  causeEv : BitVec 9 := 0
  rearmed : Option (Nat × List (BitVec 64) × BitVec 12) := none
  deriving DecidableEq, Repr

/-- Telemetry of a rail (R391, R420, R422): the last 1,024 vout, each with the DIVK of its scale, and the last 256 rail sums, newest
first. -/
structure RailTel where
  vout : Nat := 0
  iout : Int := 0
  vs : List (Int × Nat) := []
  is : List Int := []
  deriving DecidableEq, Repr

/-- One rail: page 0x10 + n (R423) and what lies behind it. Log entry 2, DESIGN CHOICE. -/
structure Rail where
  eng : RailEng := {}
  coef : RailCoef := {}
  pos : RailPos := {}
  sh : RailShare := {}
  ph : RailPh := {}
  trip : RailTrip := {}
  seq : RailSeq := {}
  prot : RailProt := {}
  lim : RailLim := {}
  sns : RailSns := {}
  snd : RailSnd := {}
  sil : RailSil := {}
  tel : RailTel := {}
  deriving DecidableEq, Repr

/-! ## Load ports -/

/-- One load port (R184 to R217, R245). `vselIdx` is the accepted LPnSEL index, `vselPin` the last index that has been stable
for 1.00 µs, `vselAt` the time of the last acceptance (R196); `vselPend` a selection held by the raise freeze (R197); `busyTo`
the end of the response slot and `frames` the number of frames that have come, answered or not (R217); `hold` the held AVSBus writes (type, select, data), oldest first; `alert` is StatusAlert;
`avsResp` the response that the next AVSBus frame returns (R208); `avsOut` its MFR bits (R210). Log entry 2, DESIGN CHOICE.
Log entry 21, DESIGN CHOICE. -/
structure Port where
  rej : Bool := false
  linkErr : Bool := false
  hostOvr : Bool := false
  raiseFrz : Bool := false
  linkCause : BitVec 2 := 0
  busyTo : Nat := 0
  frames : Nat := 0
  vselIdx : BitVec 3 := 0
  vselPin : BitVec 3 := 0
  vselAt : Option Nat := none
  lastAck : BitVec 4 := 0
  rejCnt : Nat := 0
  errCnt : Nat := 0
  accepted : Nat := 0
  budget : BitVec 16 := 0
  vselPend : Bool := false
  hold : List (BitVec 4 × BitVec 4 × BitVec 16) := []
  alert : Bool := false
  avsOut : BitVec 2 := 0
  avsResp : Option (BitVec 2 × BitVec 16 × BitVec 5) := none
  deriving DecidableEq, Repr

/-! ## HADC, thermal block -/

/-- Marks on HADC results (R252). -/
inductive HMark where
  | none | settling | rangeset | filling | macer
  deriving DecidableEq, Repr

/-- Who asked for a conversion (R44). -/
inductive ConvUser where
  | entry (i : Nat) | settle (i : Nat) | host (timer : Bool) | selfTest | blotter (second : Bool)
  | atomiser (r : RailId) (k : Nat)
  deriving DecidableEq, Repr

/-- A conversion in progress; `settling` and `rset` its marks under R253 and R254; `start` its start, or the time of an urgent
request that waits, `wait` how long it has waited (R45). -/
structure Conv where
  input : Nat
  range : Nat
  user : ConvUser
  settling : Bool
  rset : Bool := false
  start : Nat := 0
  wait : Nat := 0
  deriving DecidableEq, Repr

/-- Averaged result of one schedule entry (R255, R274): the AVG code in force, the unmarked codes in the filter, newest first,
the mark and the mean × 16 that the register shows; `last` the core cycle and the code of the last unmarked result, `chgAt` the core
cycle of the last change of AVG (R273). -/
structure SchRes where
  avg : Nat := 0
  win : List Int := []
  full : Bool := false
  mark : HMark := .none
  mean : Int := 0
  last : Option (Nat × Int) := none
  chgAt : Option Nat := none
  deriving DecidableEq, Repr

/-- Host request and scheduler (R247 to R258). `slot` counts the 1 µs slots from schedule start; `late` holds displaced
scheduled conversions (user, slot due); `ranges` the last range of each input and how many RANGESET marks remain. -/
structure HadcReq where
  ovr : Bool := false
  reqRej : Bool := false
  pendHost : Bool := false
  pendTmr : Bool := false
  lowz : Bool := false
  range : BitVec 2 := 0
  tsel : BitVec 5 := 0
  trigTmr : Bool := false
  chan : BitVec 7 := 0
  resMark : HMark := .none
  resSrc : Bool := false
  resChan : Nat := 0
  resCode : BitVec 12 := 0
  deriving DecidableEq, Repr

/-- HADC_STATUS, monitors, references, windows, discovery (R256 to R262, R267 to R274). `gapAt`: the time of the last change
of the active bandgap, a core clock edge (R260); `lastRound` the disagreements of the last round, every pair before the first (R262). -/
structure HadcMon where
  skip : Bool := false
  stFail : Bool := false
  supWarn : Bool := false
  refSw : Bool := false
  refFrz : Bool := false
  discDone : Bool := false
  discFlt : Bool := false
  supLive : Byte := 0
  stCnt : Nat := 0
  supOut : List Nat := List.replicate 8 0
  supIn : List Nat := List.replicate 8 0
  ioHigh : List (Option Bool) := List.replicate 4 none
  freeze : Bool := false
  active : BitVec 2 := 1
  excl : BitVec 2 := 0
  odd : BitVec 2 := 0
  since : Option Nat := none
  nopair : Bool := false
  twoWay : Bool := false
  round : List (Option Bool) := List.replicate 3 none
  lastRound : List Bool := List.replicate 3 true
  lastOk : Bool := false
  gapAt : Option Nat := none
  macDev : Bool := false
  macRail : BitVec 24 := 0
  discRun : Bool := false
  discForRun : Bool := false
  discRej : Bool := false
  discMask : BitVec 24 := 0
  doneMask : BitVec 24 := 0
  deriving DecidableEq, Repr

/-- The housekeeping ADC. Log entry 2, DESIGN CHOICE. -/
structure Hadc where
  req : HadcReq := {}
  mon : HadcMon := {}
  avgEntry : BitVec 7 := 0
  avgCode : BitVec 3 := 0
  running : Bool := false
  slot : Nat := 0
  lastInput : Option Nat := none
  ranges : List (Option Nat × Nat) := List.replicate 96 (none, 0)
  conv : Option Conv := none
  urgent : List Conv := []
  late : List (ConvUser × Nat) := []
  res : List SchRes := List.replicate 96 {}
  deriving DecidableEq, Repr

/-- One temperature sensor (R278 to R287): TEMP in 0.125 °C, its full resolution value in 1/3072 of it, 16 earlier ticks newest
first, the two counters of R286 and the count of R291; `rorHold` an exceedance that stood at a control-domain reset
(R290). -/
structure Sensor where
  valid : Bool := false
  invalidHot : Bool := false
  hotT : Bool := false
  rorx : Bool := false
  rate : Int := 0
  temp : Int := 0
  full : Int := 0
  hist : List Int := []
  overN : Nat := 0
  underN : Nat := 0
  shutCnt : Nat := 0
  rorHold : Bool := false
  deriving DecidableEq, Repr

/-- The thermal block (R277 to R293). Log entry 2, DESIGN CHOICE. -/
structure Thermal where
  tshut : Bool := false
  sensFlt : Bool := false
  rorx : Bool := false
  throt : Bool := false
  bandChg : Bool := false
  winRef : Bool := false
  tjValid : Bool := false
  band : Nat := 0
  bandSel : Bool := false
  jsrc : Nat := 0
  tj : Int := 0
  sthot : BitVec 16 := 0x03E8#16
  sens : List Sensor := List.replicate 32 {}
  deriving DecidableEq, Repr

/-! ## NV log, timers, FIFOs -/

/-- A queued log record (R342 to R345): its event, class, rail, time and snapshot taken at the raising, and its
excerpt. -/
structure LogRec where
  event : Nat
  cls : Nat
  rail : Nat
  gen : Nat
  secs : Nat
  subus : Nat
  silOld : Bool
  silNone : Bool
  snap : List Word
  sil : List (BitVec 64)
  deriving DecidableEq, Repr

/-- RESULT of a Blotter test (R348). -/
inductive BlotRes where
  | none | pass | low | invalid
  deriving DecidableEq, Repr

/-- A nonnegative quantity held exactly, as a fraction; only the registers round or truncate it (R455). -/
structure Frac where
  num : Nat := 0
  den : Nat := 1
  deriving DecidableEq, Repr

/-- NV log and Blotter (R339 to R356). `cap` is C in nF, `q` the coulomb counter in nF × µV / 32, `v87` the last unmarked
averaged VHOLD in µV / 32; `sampA` and `sampB` the code and the time of the two samples of a test (R347). `testAt` and
`testOk` the end of the last test and whether it ended PASS, `seen` a PASS or LOW since the control domain started, `headNew` false while the head record is one that a test ending LOW has held (R355), `resync` a test that decides for an
empty counter. `wslot` is the write slot 0 to 255; `retry` the one retry of R351; `eraseDue` the blocks to erase, oldest
first; `onAt` when the sink of the last test switched on (R347); `qAt` and `qNew` the core cycle of the youngest records and
how many of them were queued (R345); `voidDue` OPEN slots still to be voided; `stopped` the endurance limit. Log entry 2,
DESIGN CHOICE. -/
structure Nvl where
  vstop : BitVec 10 := 0x12C#10
  bperiod : BitVec 16 := 0x0064#16
  logged : Bool := false
  cresync : Bool := false
  blotFail : Bool := false
  holdPend : Bool := false
  drop : Bool := false
  media : Bool := false
  scan : Bool := false
  busy : Bool := false
  mcause : BitVec 4 := 0
  dropCnt : Nat := 0
  result : BlotRes := .none
  capUf : Nat := 0
  eavl : Nat := 0
  vh : Nat := 0
  dvuv : Nat := 0
  cap : Frac := {}
  q : Frac := {}
  sampA : Option (Int × Nat) := none
  sampB : Option (Int × Nat) := none
  testOk : Bool := false
  testAt : Option Nat := none
  testRun : Bool := false
  testDue : Bool := false
  seen : Bool := false
  headNew : Bool := false
  v87 : Option Nat := none
  resync : Bool := false
  voidDue : Bool := false
  secs : Word := 0
  secAt : Nat := 0
  queue : List LogRec := []
  seq : Nat := 0
  lap : Nat := 0
  wslot : Nat := 0
  retry : Bool := false
  eraseDue : List Nat := []
  onAt : Option Nat := none
  qAt : Nat := 0
  qNew : Nat := 0
  stopped : Bool := false
  deriving DecidableEq, Repr

/-- Read-out of the log (R354); `fetch` the slot being fetched. -/
structure NvlRd where
  ready : Bool := false
  rdErr : Bool := false
  crcOk : Bool := false
  age : Byte := 0
  buf : List Byte := []
  ptr : Nat := 0
  fetch : Option Nat := none
  deriving DecidableEq, Repr

/-- Timer states (R360). -/
inductive TmrSt where
  | idle | armed | running | done
  deriving DecidableEq, Repr

/-- One timer (R358 to R376). `half` is the first edge of an incomplete capture pair; `matched` a counter that has become
equal to MATCH at the present edge; `linkAt`, `grpAt` and `startAt` the core cycle in which a linked START, TMR_GSTART or
TMR_CMD last started it, `stepAt` that of its last count, `endAt` that of the last end of a run, with its incomplete pair and
its count there: events of one core edge meet by R375. -/
structure Timer where
  st : TmrSt := .idle
  count : Nat := 0
  mtch : Word := 0
  gated : Bool := false
  glvl : Bool := false
  capen : Bool := false
  cappol : Bool := false
  outinit : Bool := false
  sact : BitVec 2 := 0
  lact : BitVec 2 := 0
  link : BitVec 5 := 0
  capr : Nat := 0
  capf : Nat := 0
  width : Nat := 0
  half : Option Nat := none
  out : Bool := false
  late : Bool := false
  rdErr : Bool := false
  capOvr : Bool := false
  linkMiss : Bool := false
  pairRdy : Bool := false
  stopped : Bool := false
  slow : Bool := false
  gateIn : Bool := false
  capIn : Bool := false
  matched : Bool := false
  linkAt : Option Nat := none
  grpAt : Option Nat := none
  startAt : Option Nat := none
  stepAt : Option Nat := none
  endAt : Option Nat := none
  endHalf : Option Nat := none
  endCount : Nat := 0
  deriving DecidableEq, Repr

/-- What the matches of a slow-clock edge found, at DPWM tick `at_`: a loss of the slow clock at that edge takes them back
(R375). -/
structure SlowWas where
  at_ : Nat
  tmr : Vector Timer 32
  done : Bool
  terr : Bool
  doneMask : Word
  deriving DecidableEq, Repr

/-- The timer bank (R358 to R376); `terrAt` the core cycle in which TERR was set last, how often, and TERR before it (R432). Log entry 2, DESIGN CHOICE. -/
structure TmrBank where
  done : Bool := false
  capRdy : Bool := false
  terr : Bool := false
  terrAt : Option (Nat × Nat × Bool) := none
  slowErr : Bool := false
  rej : Bool := false
  rejCnt : Nat := 0
  doneMask : Word := 0
  slowMode : Bool := false
  slowCnt : Nat := 0
  tmr : Vector Timer 32 := Vector.replicate 32 {}
  slowWas : Option SlowWas := none
  deriving DecidableEq, Repr

/-- The discard of a full trace FIFO: its core cycle, the first entry discarded in it, whether OVF stands without it, and the timer
whose pair it was with its CAPOVR before. A read of the same cycle makes room for the entry (R432).
Log entry 8, DESIGN CHOICE. -/
structure Lost where
  at_ : Nat
  entry : BitVec 64
  ovf : Bool
  pair : Option (TimerId × Bool) := none
  deriving DecidableEq, Repr

/-- One trace FIFO (R419 to R421), oldest entry first. `lost` is its last discard; `fresh` the core cycle of the last push and the
number of entries pushed in it, which a read of the same cycle does not see (R432). Log entry 8, DESIGN CHOICE. -/
structure Tfifo where
  entries : List (BitVec 64) := []
  ovf : Bool := false
  seq : Nat := 0
  lost : Option Lost := none
  fresh : Option (Nat × Nat) := none
  deriving DecidableEq, Repr

/-! ## Power, faults, image loader -/

/-- Device states (R318). -/
inductive DevSt where
  | off | standby | ready | run | safe
  deriving DecidableEq, Repr

/-- The steps of a wake or of the recovery from RESET_N (R324). -/
inductive WakeStep where
  | none | supplies | refQual | pll | dll | restore
  deriving DecidableEq, Repr

/-- Page 0x01 and the state behind it (R318 to R338). `tgt` is the state being entered while a transition runs; `recov` a
recovery after RESET_N; `retained` tells whether the retention array holds the island's state; `ctlHeld` the control domain held by its
reset (R32); `runWait` GOTO RUN waiting for the band; `wdog` the watchdog count left in core cycles; `refRc` the reference
source, `refReg` the bit REFSRC (R336); `vddBo`, `vddaBo`, `dpwmBad` the levels of the supply and clock monitors; `padsUntil`
the time to which the pad latches hold after a reset (R333); `softReq` a soft reset that the present transfer requests (R334);
`io` the level each VDDIO group has detected, true for 3.3 V (R436); `ioUp` whether the board powers
each group now (R321, R436, R451); `goAt` the core cycle of the last GOTO STANDBY or GOTO OFF
(R337); `ifFrom` the time from which the host interfaces answer after a control-domain reset (R32, R379).
Log entry 2, DESIGN CHOICE. -/
structure Power where
  dev : DevSt := .off
  tgt : Option DevSt := none
  wake : WakeStep := .none
  recov : Bool := false
  wakeAt : Nat := 0
  runWait : Bool := false
  cmdRej : Bool := false
  runTo : Bool := false
  retLost : Bool := false
  stbyAbt : Bool := false
  rejCnt : Nat := 0
  wakeTime : Nat := 0
  refRc : Bool := false
  pllLk : Bool := false
  dllLk : Bool := false
  pllTry : Nat := 0
  dllTry : Nat := 0
  wdRun : Bool := false
  wdog : Nat := 0
  retained : Bool := false
  ctlHeld : Bool := false
  rstKind : BitVec 3 := 0
  vddBo : Bool := false
  vddaBo : Bool := false
  dpwmBad : Bool := false
  refReg : Bool := false
  padsUntil : Nat := 0
  softReq : Bool := false
  io : List (Option Bool) := List.replicate 4 none
  ioUp : List Bool := List.replicate 4 true
  goAt : Option Nat := none
  ifFrom : Nat := 0
  deriving DecidableEq, Repr

/-- PWR_KA (R338), keep-alive domain. `was`: WAKESRC, RSTCAUSE and `offEntry` before the wake that runs, kept for a WAKE
edge that gives way to the responder (R337). -/
structure KeepAlive where
  supTo : Bool := false
  pllTo : Bool := false
  dllTo : Bool := false
  kaRej : Bool := false
  wakeSrc : BitVec 2 := 0
  rstCause : BitVec 3 := 1
  offEntry : Bool := false
  was : Option (BitVec 2 × BitVec 3 × Bool) := none
  deriving DecidableEq, Repr

/-- Page 0x00 status (R315) and the fault pair's registers (R316). `cfgBad`: CFGUNC has been raised, which only power-on
reset or RESET_N ends (R298); `fatalAt`, `fatalOcc`: the core cycles of the first and of the last class F occurrence of the hold
(R314); `ballP`, `ballN` the level at which a ball of the pair stands while it disagrees (R308). Log entry 2, DESIGN CHOICE.
Log entry 47, DEDUCED. -/
structure Glb where
  pllLock : Bool := false
  dllLock : Bool := false
  dpwmClk : Bool := false
  vddBo : Bool := false
  vddaBo : Bool := false
  cfgUnc : Bool := false
  cfgCor : Bool := false
  cfgBad : Bool := false
  refFb : Bool := false
  slowClk : Bool := false
  wdRst : Bool := false
  accErr : Bool := false
  sealWr : Bool := false
  latched : Bool := false
  clrRej : Bool := false
  cause : BitVec 3 := 0
  fatalAt : Option Nat := none
  fatalOcc : Option Nat := none
  clrAt : Option Nat := none
  clrCause : BitVec 3 := 0
  part : Nat := 0
  corCnt : Nat := 0
  fltWire : Bool := false
  silFrz : Bool := false
  wBall : Bool := false
  wLvl : Bool := false
  ballP : Option Bool := none
  ballN : Option Bool := none
  deriving DecidableEq, Repr

/-- IMG_STATUS.PHASE (R87). -/
inductive ImgPhase where
  | idle | reading | checking | committing | staging | erasing | writing | checkingSlot
  deriving DecidableEq, Repr

/-- The image operation in progress (R86). -/
inductive ImgOp where
  | none
  | boot
  | auto
  | slotA
  | slotB
  | host
  | check (slotB : Bool)
  | erase (slotB : Bool)
  | write (slotB : Bool)
  | commit (slotB : Bool)
  | stage (n : Nat)
  | apply (n : Nat)
  deriving DecidableEq, Repr

/-- The image loader (R77 to R88). `buf` is the open stream, oldest byte first, `stag` the
staging buffer of a patch (R84); `need` its IMGLEN once the header has
passed; `ready` a completely staged patch; `passed` the checked patch that waits for its commit cycle.
Log entry 2, DESIGN CHOICE. -/
structure ImgLd where
  phase : ImgPhase := .idle
  op : ImgOp := .none
  cmdErr : Bool := false
  loadErr : Bool := false
  fallback : Bool := false
  rejCnt : Nat := 0
  errCode : Byte := 0
  errType : Byte := 0
  errInst : Byte := 0
  claimA : Word := 0
  claimB : Word := 0
  errRes : Word := 0
  buf : List Byte := []
  stag : List Byte := []
  isOpen : Bool := false
  need : Option Nat := none
  count : Nat := 0
  genA : Word := 0
  genB : Word := 0
  erasedA : Bool := false
  erasedB : Bool := false
  checkedA : Bool := false
  checkedB : Bool := false
  ready : Option Nat := none
  passed : Option (Nat × RailCfg) := none
  winStop : Bool := false
  bootDue : Bool := true
  deriving DecidableEq, Repr

/-- The seal (R78, R87, R88): island. -/
structure Seal where
  img : Option ImageCfg := none
  auth : Bool := false
  source : BitVec 2 := 0
  loadPend : Bool := false
  patched : BitVec 24 := 0
  deriving DecidableEq, Repr

/-- One-time-programmable controls (R77, R399): no reset reaches them. Log entry 2, DESIGN CHOICE. -/
structure Otp where
  revoked : BitVec 4 := 0
  authReq : Bool := false
  fuses : Nat := 0
  keys : List (Option (BitVec 128)) := List.replicate 4 none
  deriving DecidableEq, Repr

/-! ## Host interfaces, test port, Nelink -/

/-- Page 0x07, the interfaces' own state, I3C (R378 to R396, R413). Pointers, PAGE and TMR_SEL in the order SMBus, I3C, REGACC
(R381); `hdr`: I3C traffic from ENTHDR to the HDR Exit Pattern (R393). `ibi` holds outstanding requests (page, group), oldest
first; after a request that was not taken, the next goes out at `ibiFrom` or later (R395). Log entry 2, DESIGN CHOICE. Log
entry 46, DESIGN CHOICE. Log entry 46, DESIGN CHOICE. -/
structure Hif where
  pecErr : Bool := false
  cmlErr : Bool := false
  smbTo : Bool := false
  i3cErr : Bool := false
  daaChg : Bool := false
  dynAddr : Option (BitVec 7) := none
  strapValid : Bool := false
  lvl0 : BitVec 3 := 0
  lvl1 : BitVec 3 := 0
  kaAddr : BitVec 7 := 0
  mwl : BitVec 16 := 0x0400#16
  mrl : BitVec 16 := 0x0400#16
  ibiCnt : Nat := 0
  pecCnt : Nat := 0
  cmlCnt : Nat := 0
  page : Byte := 0
  pageI : Byte := 0
  pageT : Byte := 0
  ptrS : BitVec 16 := 0
  ptrI : BitVec 16 := 0
  ptrT : BitVec 16 := 0
  selS : BitVec 5 := 0
  selI : BitVec 5 := 0
  selT : BitVec 5 := 0
  cmlBad : Bool := false
  cmlData : Bool := false
  cmlPec : Bool := false
  intEn : Bool := true
  hjEn : Bool := true
  protErr : Bool := false
  ibi : List (Nat × Nat) := []
  ibiFrom : Nat := 0
  hdr : Bool := false
  deriving DecidableEq, Repr

/-- The instruction in force in the TAP (R397). Log entry 26, DESIGN CHOICE. -/
inductive TapIr where
  | bypass | idcode | sample | extest | clamp | highz | regacc | halt | release | keyprog | ftmkey
  deriving DecidableEq, Repr

/-- The IEEE 1149.1 port (R397 to R400); `irOut` what the last Capture-IR loaded. Log entry 2, DESIGN CHOICE. -/
structure Tap where
  ir : TapIr := .idcode
  halted : Bool := false
  ftmBlocked : Bool := false
  ftm : Bool := false
  result : BitVec 49 := 0
  irOut : Option (BitVec 8) := none
  deriving DecidableEq, Repr

/-- The pins that the device drives and observes: `sync` those whose level has changed with the core cycle that captured it in the
first stage of the synchroniser (R27, R69); `low` the released PGOODn that the board holds low (R230). Log entry 12, DESIGN CHOICE. -/
structure Pins where
  sync : List (Nat × Nat) := []
  low : List Nat := []
  deriving DecidableEq, Repr

/-- Nelink roles (R414). -/
inductive NlRole where
  | listening | master | follower | free
  deriving DecidableEq, Repr

/-- A Nelink frame (R403): sender, type, payload. -/
structure NlFrame where
  id : BitVec 6
  ty : BitVec 4
  pl : Word
  deriving DecidableEq, Repr

/-- Nelink (R401 to R414). `peers` are (CHAINID, last HELLO payload); `txq` the last frames handed to NLD, oldest
first; `tb` a received TIMEBASE that waits for its boundary pulse (epoch bits 31:12, pulses left); `noClaim` after a
YIELD of its own; `mute` after DUPID; `syncAt`, `tbAt` the times of the last pulse and the last TIMEBASE.
Log entry 2, DESIGN CHOICE. -/
structure Nelink where
  roleChg : Bool := false
  mlost : Bool := false
  peerChg : Bool := false
  nlErr : Bool := false
  dupId : Bool := false
  role : NlRole := .listening
  errCause : BitVec 2 := 0
  masterId : BitVec 6 := 0
  cmdRej : Bool := false
  peers : List (BitVec 6 × Word) := []
  peerSel : BitVec 6 := 0
  slipCnt : BitVec 16 := 0
  lastCorr : BitVec 16 := 0
  crcCnt : Nat := 0
  bitCnt : Nat := 0
  noAck : Nat := 0
  lostArb : Nat := 0
  txq : List NlFrame := []
  tb : Option (BitVec 20 × Nat) := none
  noClaim : Bool := false
  mute : Bool := false
  syncAt : Nat := 0
  tbAt : Nat := 0
  listening : Bool := false
  claiming : Bool := false
  deriving DecidableEq, Repr

/-- The enables of the 448 event sources, bit s for source s (IRQ_EN, R302). -/
abbrev IrqEn := BitVec 448

/-- What the last command answers on its interface: nothing, an acknowledge or its absence, a register word, bytes in
bus order, the VCMD-2 response of R200, the VCMD-1 response of R206, the AVSBus SlaveAck, data and StatusResp of R208
to R210, the two bytes of an in-band interrupt (R395), a TAP data register. Log entry 3, DESIGN CHOICE. -/
inductive Resp where
  | none
  | ack
  | nack
  | word (w : Word)
  | bytes (bs : List Byte)
  | vcmd2 (f : BitVec 28)
  | vcmd1 (f : BitVec 12)
  | avs (ack : BitVec 2) (d : BitVec 16) (status : BitVec 5)
  | ibi (mdb grp : Byte)
  | dr (w : BitVec 49)
  deriving DecidableEq, Repr

/-- A timed event of the block's own sequencers: the command and the DPWM tick at which it falls due; `up` once it has
been put into the queue. -/
structure Due where
  at_ : Nat
  ev : Instr
  up : Bool := false
  deriving DecidableEq, Repr

/-- The status bits that have occurred in the core cycle `at_`, by their numbers: a W1C write of the same cycle leaves them at 1 (R314,
R432). `again` are those that stood at 1 when they occurred, `renew` those of them that such a write has met: they count as raised
anew. Log entry 8, DESIGN CHOICE. -/
structure Raised where
  at_ : Nat := 0
  bits : List Nat := []
  again : List Nat := []
  renew : List Nat := []
  deriving DecidableEq, Repr

/-- The state of the block. `now` is time in DPWM ticks since power-on reset; `agenda` the timed events armed;
`pending` the queue of waiting commands, first in, first out; `respPec` the PEC byte that an SMBus read offers after its data
(R382); `free` counts the open values drawn (a field of the
model's own). Log entries 1, 3, 4, 5, 10, DESIGN CHOICE. -/
structure State where
  pending : List Instr := []
  now : Nat := 0
  agenda : List Due := []
  free : Nat := 0
  resp : Resp := .none
  respPec : Byte := 0
  chans : Vector Chan 192 := Vector.replicate 192 {}
  banks : Vector Bank 24 := Vector.replicate 24 {}
  rails : Vector Rail 24 := Vector.replicate 24 {}
  ports : Vector Port 8 := Vector.replicate 8 {}
  hadc : Hadc := {}
  thm : Thermal := {}
  nvl : Nvl := {}
  nrd : NvlRd := {}
  tmr : TmrBank := {}
  fifo : Vector Tfifo 16 := Vector.replicate 16 {}
  pwr : Power := {}
  ka : KeepAlive := {}
  glb : Glb := {}
  img : ImgLd := {}
  sealed : Seal := {}
  otp : Otp := {}
  hif : Hif := {}
  tap : Tap := {}
  pins : Pins := {}
  nl : Nelink := {}
  irqEn : IrqEn := 0
  raised : Raised := {}
  flash : List Host.Cell := []
  deriving DecidableEq, Repr

/-- The block right after power-on reset: OFF, every register at its Reset value (R14, R331).
Log entry 2, DESIGN CHOICE. Log entry 10, DESIGN CHOICE. -/
def State.reset : State := {}

/-- Faults: the XV6192 has no condition that stops it, so the model has none. `noSuchAddress` would be an access to a
flash address beyond the address space; no command makes one (safe). -/
inductive Fault where
  | noSuchAddress
  deriving DecidableEq, Repr

/-- Refusals. `notModelled` stands in arms of exec for a command without a meaning yet (safe: the model stops). `factoryPage`
is an access to page 0xF0 in factory test mode: the spec does not list its registers (R13, R313; safe). Log entry 45, DESIGN
CHOICE. -/
inductive Refusal where
  | notModelled (mnemonic : String)
  | factoryPage
  deriving DecidableEq, Repr

end Sys2Proof.Machine
end

