-- ==== Sys2Proof/Machine/Bits.lean ====
section
/-! DEFINITION. Bit fields, byte order, rounding and saturation, and maps over the repeated blocks. -/

namespace Sys2Proof.Machine

/-- A Boolean as a bit. -/
def b2n (b : Bool) : Nat := if b then 1 else 0

/-- A register field of `w` bits at bit `lo`. -/
def fld (lo w v : Nat) : Nat := (v % 2 ^ w) * 2 ^ lo

/-- A one-bit register field. -/
def bitf (lo : Nat) (b : Bool) : Nat := b2n b * 2 ^ lo

/-- A register word from its fields. -/
def mkWord (fields : List Nat) : Word := BitVec.ofNat 32 fields.sum

/-- Two's complement of `v` in `w` bits, as a natural number. -/
def twos (w : Nat) (v : Int) : Nat := (v % (2 ^ w : Int)).toNat

/-- The signed value of the low `w` bits of `n`. -/
def signed (w n : Nat) : Int := if n % 2 ^ w < 2 ^ (w - 1) then (n % 2 ^ w : Nat) else (n % 2 ^ w : Nat) - (2 ^ w : Nat)

/-- A value in a 16-bit signed field; what it holds of a value outside the format is open (log entry 5, DESIGN CHOICE). -/
def narrow16 (v : Int) : Int := if -32768 ≤ v ∧ v ≤ 32767 then v else (Config.narrow16 v).toInt

/-- A value in a 16-bit unsigned field; what it holds of a value outside the format is open (log entry 5, DESIGN CHOICE). -/
def narrowU16 (v : Int) : Nat := if 0 ≤ v ∧ v ≤ 65535 then v.toNat else (Config.narrow16 v).toNat

/-- A 16-bit signed field of a register word. -/
def s16 (v : Int) : Nat := twos 16 (narrow16 v)

/-- Nearest integer to `num / den` (`den > 0`), halves toward plus infinity (R455). -/
def roundDiv (num den : Int) : Int := (2 * num + den) / (2 * den)

/-- Nearest natural number to `num / den`, halves up (R455). -/
def roundNat (num den : Nat) : Nat := (2 * num + den) / (2 * den)

/-- Clip an integer into `lo … hi`. -/
def clampI (lo hi v : Int) : Int := if v < lo then lo else if v > hi then hi else v

/-- Clip a natural number into `lo … hi`. -/
def clampN (lo hi v : Nat) : Nat := if v < lo then lo else if v > hi then hi else v

/-- Count up, saturating at `m`. -/
def satInc (m n : Nat) : Nat := if n < m then n + 1 else m

/-- Bits `hi … lo` of a register word. -/
def bits (w : Word) (lo n : Nat) : Nat := w.toNat / 2 ^ lo % 2 ^ n

/-- Bit `i` of a register word. -/
def bitw (w : Word) (i : Nat) : Bool := w.getLsbD i

/-- Four bytes, least significant first (R15). -/
def leBytes (w : Word) : List Byte :=
  [BitVec.ofNat 8 (bits w 0 8), BitVec.ofNat 8 (bits w 8 8), BitVec.ofNat 8 (bits w 16 8), BitVec.ofNat 8 (bits w 24 8)]

/-- A little-endian number from bytes, least significant first (R15). -/
def leNat : List Byte → Nat
  | [] => 0
  | b :: bs => b.toNat + 256 * leNat bs

/-- A number as `n` bytes, least significant first. -/
def natLe : Nat → Nat → List Byte
  | 0, _ => []
  | n + 1, v => BitVec.ofNat 8 v :: natLe n (v / 256)

/-- `l` with element `i` replaced through `f`. -/
def modAt {α : Type} (l : List α) (i : Nat) (f : α → α) : List α :=
  match l, i with
  | [], _ => []
  | a :: as, 0 => f a :: as
  | a :: as, i + 1 => a :: modAt as i f

theorem length_modAt {α : Type} (l : List α) (i : Nat) (f : α → α) : (modAt l i f).length = l.length := by
  induction l generalizing i with
  | nil => rfl
  | cons a as ih => cases i <;> simp [modAt, ih]

/-- `v` with element `i` replaced through `f`. -/
def upd {α : Type} {n : Nat} (v : Vector α n) (i : Fin n) (f : α → α) : Vector α n := v.set i.val (f v[i]) i.isLt

/-- Map over a vector with the index of each element. -/
def mapTab {α : Type} {n : Nat} (f : Nat → α → α) (v : Vector α n) : Vector α n :=
  ⟨⟨v.toArray.toList.mapIdx f⟩, by simp⟩

/-- The index list 0 … n-1 as `Fin n`. -/
def allFin (n : Nat) : List (Fin n) := List.finRange n

/-- An index below the bound, from a natural number. -/
def toFin (n i : Nat) : Option (Fin n) := if h : i < n then some ⟨i, h⟩ else none

/-- Replace the first element that satisfies `p`, keep the rest. -/
def lookupBy {α : Type} (p : α → Bool) (l : List α) : Option Nat := l.findIdx? p

end Sys2Proof.Machine
end

