-- ==== Sys2Proof/Machine/Crc.lean ====
section
/-! DEFINITION. The CRC-32 of R56 and the packet error code of R384. -/

namespace Sys2Proof.Machine

/-- The reflected polynomial of IEEE 802.3. -/
def crcPoly : Nat := 0xEDB88320

/-- One bit of the reflected division. -/
def crcShift (c : Nat) : Nat := (c / 2) ^^^ (crcPoly * (c % 2))

/-- One byte. -/
def crcByte (c : Nat) (b : Byte) : Nat :=
  let c := c ^^^ b.toNat
  crcShift (crcShift (crcShift (crcShift (crcShift (crcShift (crcShift (crcShift c)))))))

/-- CRC-32: reflected input and output, initial value and final XOR 0xFFFF_FFFF (R56). -/
def crc32 (bs : List Byte) : Nat := bs.foldl crcByte 0xFFFFFFFF ^^^ 0xFFFFFFFF

/-- One bit of the division by x^8 + x^2 + x + 1 of SMBus 3.1. -/
def pecShift (c : Nat) : Nat := (2 * c % 256) ^^^ (0x07 * (c / 128))

/-- The packet error code of a transaction's bytes (R382, R384): SMBus 3.1, initial value 0. -/
def pecOf (bs : List Byte) : Byte :=
  BitVec.ofNat 8 (bs.foldl (fun c b =>
    pecShift (pecShift (pecShift (pecShift (pecShift (pecShift (pecShift (pecShift (c ^^^ b.toNat))))))))) 0)

end Sys2Proof.Machine
end

