-- ==== Sys2Proof/Machine/Ops.lean ====
section
/-! DEFINITION. Shared operations over the state: configuration look-up, one home for each register's update, the
agenda of timed events, the QSPI flash, rail states, positions. -/

namespace Sys2Proof.Machine

/-- What a meaning answers. -/
abbrev Out := Host.Outcome State Fault Refusal

/-! ## Configuration in force -/

/-- An image is sealed (R78). -/
def isSealed (s : State) : Bool := s.sealed.img.isSome

/-- The configuration of rail `r` in the sealed image; none for an unconfigured rail (R55, R417). -/
def railCfg (s : State) (r : RailId) : Option RailCfg :=
  match s.sealed.img with
  | none => none
  | some im => im.rails.getD r.val none

/-- The PORTS record in force (R70). -/
def portCfg (s : State) (p : PortId) : Option PortCfg :=
  match s.sealed.img with
  | none => none
  | some im => im.ports[p.val]?

/-- The NELINK section in force (R401). -/
def nelinkCfg (s : State) : Option NelinkCfg := s.sealed.img.bind (·.nelink)

/-- The HADC schedule in force (R72). -/
def hadcEntries (s : State) : List HadcEntry :=
  match s.sealed.img with
  | none => []
  | some im => im.hadc.entries

/-- The HOSTIF section in force; before the seal its fields are zero (R74). -/
def hostif (s : State) : HostifCfg :=
  match s.sealed.img with
  | none => ⟨0, 0, false, 0, false, false, 0⟩
  | some im => im.hostif

/-- Band record `b` of the image in force (R71). -/
def bandCfg (s : State) (b : Option Nat) : Option BandCfg :=
  match s.sealed.img, b with
  | some im, some i => im.tband.bands[i]?
  | _, _ => none

/-- Channels of an accord: the PHASE list, and in PAIR mode each odd partner (R61, R68). -/
def accordChans (c : RailCfg) : List Nat :=
  c.acc.phase.flatMap fun p => if c.acc.pair then [p, p + 1] else [p]

/-- Bank of a channel (R16). -/
def bankOf (ch : Nat) : Nat := ch / 8

/-- The configured rails with their configurations. -/
def configured (s : State) : List (RailId × RailCfg) :=
  (allFin 24).filterMap fun r => (railCfg s r).map fun c => (r, c)

/-- The rail, the position and the odd-partner flag of a channel (CH_CTRL.RAIL, INDEX, MODE, R117). -/
def owner (s : State) (ch : ChanId) : Option (RailId × RailCfg × Nat × Bool) :=
  (configured s).findSome? fun rc =>
    match rc.2.acc.phase.findIdx? (· == ch.val) with
    | some q => some (rc.1, rc.2, q, false)
    | none =>
      if rc.2.acc.pair then
        match rc.2.acc.phase.findIdx? (fun p => p + 1 == ch.val) with
        | some q => some (rc.1, rc.2, q, true)
        | none => none
      else none

/-- Banks that hold a channel of the accord. -/
def accordBanks (c : RailCfg) : List Nat := ((accordChans c).map bankOf).eraseDups

/-- The port that owns a rail, with the port-local index and the SHARE (R70, R184). -/
def portOf (s : State) (r : RailId) : Option (PortId × Nat × Nat) :=
  (allFin 8).findSome? fun p =>
    match portCfg s p with
    | none => none
    | some pc =>
      match (pc.rails.take pc.nrail).findIdx? (· == r.val) with
      | some i => some (p, i, pc.share.getD i 0)
      | none => none

/-- The rail of a port-local index, when the port owns it (R184). -/
def localRail (s : State) (p : PortId) (i : Nat) : Option RailId :=
  match portCfg s p with
  | none => none
  | some pc => if i < pc.nrail then (pc.rails[i]?).bind (toFin 24) else none

/-- The rails a port owns. -/
def ownedRails (s : State) (p : PortId) : List RailId := (List.range 8).filterMap (localRail s p)

/-! ## Updates of the repeated blocks -/

/-- Update rail `r`. -/
def onRail (r : RailId) (f : Rail → Rail) (s : State) : State := { s with rails := upd s.rails r f }

/-- Update bank `b`. -/
def onBank (b : BankId) (f : Bank → Bank) (s : State) : State := { s with banks := upd s.banks b f }

/-- Update channel `ch`. -/
def onChan (ch : ChanId) (f : Chan → Chan) (s : State) : State := { s with chans := upd s.chans ch f }

/-- Update port `p`. -/
def onPort (p : PortId) (f : Port → Port) (s : State) : State := { s with ports := upd s.ports p f }

/-- Update timer `t`. -/
def onTimer (t : TimerId) (f : Timer → Timer) (s : State) : State :=
  { s with tmr := { s.tmr with tmr := upd s.tmr.tmr t f } }

/-- The state in which a timer stands in core cycle `now`: one started in this very cycle is ARMED until the next core edge
(R361, R363, R366). Log entry 36, DEDUCED. -/
def standing (now : Nat) (k : Timer) : TmrSt :=
  if k.st == .running && (k.startAt == some now || k.grpAt == some now || k.linkAt == some now) then .armed else k.st

/-- Update FIFO `i`. -/
def onFifo (i : FifoId) (f : Tfifo → Tfifo) (s : State) : State := { s with fifo := upd s.fifo i f }

/-- Update the channels whose numbers are listed. -/
def onChans (l : List Nat) (f : Nat → Chan → Chan) (s : State) : State :=
  { s with chans := mapTab (fun i c => if l.contains i then f i c else c) s.chans }

/-- Update the banks whose numbers are listed. -/
def onBanks (l : List Nat) (f : Bank → Bank) (s : State) : State :=
  { s with banks := mapTab (fun i b => if l.contains i then f b else b) s.banks }

/-- The probe of the listed channels by a discovery begins; their earlier measurements are dropped (R268). -/
def probeBegin (l : List Nat) (s : State) : State :=
  onChans l (fun _ k => { k with probeAt := some s.now, pv0 := none, pv1 := none }) s

/-- Update every rail that is configured. -/
def onCfgRails (f : RailId → RailCfg → Rail → Rail) (s : State) : State :=
  { s with rails := mapTab (fun i x => match toFin 24 i with
      | some r => match railCfg s r with
        | some c => f r c x
        | none => x
      | none => x) s.rails }

/-- Run an update for each element of a list, left to right. -/
def forEach {α : Type} (l : List α) (f : α → State → State) (s : State) : State := l.foldl (fun t a => f a t) s

/-- Put the answer of a command on its interface. Log entry 3, DESIGN CHOICE. -/
def reply (r : Resp) (s : State) : State := { s with resp := r }

/-! ## Time and the agenda -/

/-- DPWM ticks in a microsecond (R27). -/
def usTicks : Nat := 800

/-- DLL taps in a DPWM tick (R93). -/
def tickTaps : Nat := 64

/-- The period of a CO-RI carrier counter in ticks (R134). -/
def coriTicks : Nat := 8192

/-- The number of the present core clock cycle: a core clock edge stands at every even DPWM tick (R27).
Log entry 1, DESIGN CHOICE. -/
def cycle (s : State) : Nat := s.now / 2

/-- Arm a timed event `dt` DPWM ticks from now. Log entry 1, DESIGN CHOICE. -/
def arm (dt : Nat) (e : Instr) (s : State) : State := { s with agenda := s.agenda ++ [⟨s.now + dt, e, false⟩] }

/-- Drop the armed events that satisfy `p`. -/
def disarm (p : Instr → Bool) (s : State) : State := { s with agenda := s.agenda.filter (fun d => !p d.ev) }

/-- Arm an event anew: an earlier one of the same kind is dropped. Log entry 1, DESIGN CHOICE. -/
def rearm (dt : Nat) (e : Instr) (s : State) : State := arm dt e (disarm (· == e) s)

/-- An event is armed. -/
def isArmed (e : Instr) (s : State) : Bool := s.agenda.any fun d => d.ev == e

/-- An event is armed and its time has come. Log entry 1, DESIGN CHOICE. -/
def isDue (e : Instr) (s : State) : Bool := s.agenda.any fun d => d.ev == e && decide (d.at_ ≤ s.now)

/-- Take an armed event: none when it is not due. A timed or derived event acts once, when its time has come.
Log entry 1, DESIGN CHOICE. -/
def fire (e : Instr) (s : State) : Option State := if isDue e s then some (disarm (· == e) s) else none

/-- Run `f` when the event is due, and disarm it. Log entry 1, DESIGN CHOICE. Log entry 11, DESIGN CHOICE. -/
def onFire (e : Instr) (f : State → State) (s : State) : State :=
  match fire e s with
  | none => s
  | some t => f t

/-- The end of the offset calibration of a rail, whatever sums it carries (R154, R222). -/
def calEvent (r : RailId) : Instr → Bool
  | .offsetCalDone q _ => q == r
  | _ => false

/-- Drop the timed events of a rail's sequencer (R240: the table is abandoned). -/
def disarmSeq (r : RailId) (s : State) : State :=
  disarm (fun e => e == .durationElapsed r || e == .rampDelayEnd r || e == .pgoodRelease r || e == .pgoodFall r || calEvent r e) s

/-- Draw the next open value of the model (log entry 5, DESIGN CHOICE): the state with the counter advanced. -/
def drawFree (s : State) : Word × State := (Config.freeWord s.free, { s with free := s.free + 1 })

/-! ## The QSPI flash -/

/-- What an erased byte reads as (R50: an erased trailer reads 0xFF in every byte). Log entry 4, DESIGN CHOICE. -/
def erasedByte : Byte := 0xFF#8

/-- One past the last byte of the flash: 2 MiB (R49). -/
def flashSize : Nat := 0x200000

/-- Read one byte of the flash: an unlisted address reads 0xFF (log entry 4, DESIGN CHOICE). -/
def flashRead (m : List Host.Cell) (a : Nat) : Byte :=
  match m with
  | [] => erasedByte
  | c :: cs => if c.1 = a then c.2 else flashRead cs a

/-- Write one byte, keeping the canonical form: addresses strictly rising, no entry equal to 0xFF.
Log entry 4, DESIGN CHOICE. -/
def flashPut (m : List Host.Cell) (a : Nat) (v : Byte) : List Host.Cell :=
  match m with
  | [] => if v = erasedByte then [] else [(a, v)]
  | c :: cs =>
    if a < c.1 then if v = erasedByte then c :: cs else (a, v) :: c :: cs
    else if a = c.1 then if v = erasedByte then cs else (a, v) :: cs
    else c :: flashPut cs a v

/-- Program one byte: bits change from 1 to 0 only (R340). -/
def flashProg (m : List Host.Cell) (a : Nat) (v : Byte) : List Host.Cell := flashPut m a (flashRead m a &&& v)

/-- Program consecutive bytes from `a`. -/
def flashProgList (m : List Host.Cell) (a : Nat) : List Byte → List Host.Cell
  | [] => m
  | v :: vs => flashProgList (flashProg m a v) (a + 1) vs

/-- Read `n` consecutive bytes from `a`. -/
def flashReadList (m : List Host.Cell) (a : Nat) : Nat → List Byte
  | 0 => []
  | n + 1 => flashRead m a :: flashReadList m (a + 1) n

/-- Erase the bytes `a … a + n - 1` (R49: 4 KiB sectors). -/
def flashErase (m : List Host.Cell) (a n : Nat) : List Host.Cell := m.filter fun c => !(a ≤ c.1 && c.1 < a + n)

/-- The addresses of the list rise strictly. -/
def risingFrom : Nat → List Host.Cell → Bool
  | _, [] => true
  | n, c :: cs => n ≤ c.1 && c.2 != erasedByte && risingFrom (c.1 + 1) cs

/-- The canonical form of the flash. Log entry 4, DESIGN CHOICE. -/
def Memory.wf (m : List Host.Cell) : Bool := risingFrom 0 m

/-! ## Rail states -/

/-- A rail counts as latched (R219). -/
def latched (x : Rail) : Bool := x.trip.latched || x.prot.latched

/-- RAIL_SEQ.STATE (R218, R219). -/
def railState (x : Rail) : Nat :=
  if latched x then 4 else match x.seq.st with | .stopped => 0 | .start => 1 | .on => 2 | .stop => 3

/-- The rail is stopped: state code 0. -/
def isStopped (x : Rail) : Bool := railState x == 0

/-- Available positions of the PHASE list (R168). -/
def avail (c : RailCfg) (x : Rail) : List Nat := (List.range c.acc.nph).filter fun q => !x.sh.bypass.getLsbD q

/-- NAVL (R168). -/
def navl (c : RailCfg) (x : Rail) : Nat := (avail c x).length

/-- Active positions: the first N available ones (R168). -/
def active (c : RailCfg) (x : Rail) : List Nat := (avail c x).take x.sh.nact

/-- The raise freeze of R194: it holds while the reference comparison has frozen raises (R261). -/
def raiseFrozen (s : State) : Bool := s.hadc.mon.freeze

/-- The host interfaces and the load-port units answer: not in the 40 µs after a control-domain reset (R32, R379).
Log entry 39, DEDUCED. -/
def answers (s : State) : Bool := !s.pwr.ctlHeld && decide (s.pwr.ifFrom ≤ s.now)

/-- The control domain works: READY, RUN or SAFE, and no reset holds it (R32). The 40 µs of R32 and R379 concern the host interfaces
and the load ports alone. Log entry 39, DEDUCED. -/
def ctlUp (s : State) : Bool :=
  !s.pwr.ctlHeld && match s.pwr.dev with | .ready | .run | .safe => true | _ => false

/-- The board powers VDDIO group `g` now (R321, R436, R451). Log entry 19, DEDUCED. -/
def groupUp (s : State) (g : Nat) : Bool := s.pwr.ioUp.getD g true

/-- The device serves its host interfaces: READY, RUN or SAFE, and they answer (R379); their pins lie in VDDIO group 3 (R436). -/
def hostUp (s : State) : Bool :=
  answers s && groupUp s 3 && match s.pwr.dev with | .ready | .run | .safe => true | _ => false

/-! ## Position (R190) -/

/-- One 1.25 mV unit of the position. -/
def posUnit : Nat := 2 ^ 24

/-- The position of a piece at DPWM tick `t`: floor(m × s × 2^23 / 1,000) units after m core cycles, clipped at the
goal. -/
def mvAt (m : Mv) (t : Nat) : Nat :=
  let dist := (t / 2 - m.t0 / 2) * m.s * 2 ^ 23 / 1000
  if m.p0 ≤ m.dest then min m.dest (m.p0 + dist) else max m.dest (m.p0 - dist)

/-- The position at DPWM tick `t` from the pieces, newest first; 0 before the first. -/
def posAtList : List Mv → Nat → Nat
  | [], _ => 0
  | m :: ms, t => if m.t0 ≤ t || ms.isEmpty then mvAt m t else posAtList ms t

/-- The present position of a rail. -/
def posNow (s : State) (x : Rail) : Nat := posAtList x.pos.moves s.now

/-- Pieces that the last 16 µs still touch. -/
def pruneMoves (lo : Nat) : List Mv → List Mv
  | [] => []
  | m :: ms => if m.t0 ≤ lo then [m] else m :: pruneMoves lo ms

/-- Begin a new piece of the position: from `p0` toward `dest` at slew `sl`. -/
def setMove (now p0 sl dest : Nat) (x : Rail) : Rail :=
  { x with pos := { x.pos with moves := ⟨now, p0, sl, dest⟩ :: pruneMoves (now - 16 * usTicks) x.pos.moves } }

/-- Hold the position where it stands. -/
def holdPos (s : State) (x : Rail) : Rail :=
  let p := posNow s x
  setMove s.now p 0 p x

/-- The positions at the ends of every piece inside the last 16 µs (each piece is monotone). -/
def recentPos (s : State) (x : Rail) : List Nat :=
  let lo := s.now - 16 * usTicks
  let ts := (x.pos.moves.map (·.t0)).filter (lo < ·)
  [posNow s x, posAtList x.pos.moves lo] ++ ts.map (posAtList x.pos.moves)
    ++ ts.map fun t => posAtList x.pos.moves (t - 1)

/-- refH of R228: the highest position of the last 16 µs. -/
def refH (s : State) (x : Rail) : Nat := (recentPos s x).foldl max 0

/-- refL of R228: the lowest position of the last 16 µs. -/
def refL (s : State) (x : Rail) : Nat := (recentPos s x).foldl min (posNow s x)

/-- The position differs from TARGET: RAIL_VPOS.MOVING (R216). -/
def moving (s : State) (x : Rail) : Bool := posNow s x != x.pos.target.toNat * posUnit

/-- The slew a rail's SLEW field acts as (R216). -/
def slewOf (v : BitVec 9) : Nat := clampN 1 320 v.toNat

/-- The number of entries pushed into a FIFO in the present core cycle (R432). -/
def freshNow (s : State) (x : Tfifo) : Nat := match x.fresh with | some (t, n) => if t = cycle s then n else 0 | none => 0

/-! ## The Sillage buffer (R310, R314) -/

/-- A freeze cause in core cycle `now`: the first one of a cycle stands. Log entry 8, DESIGN CHOICE. -/
def silCause (now ev : Nat) (l : RailSil) : RailSil :=
  if l.causeAt = some now then l else { l with causeAt := some now, causeEv := BitVec.ofNat 9 ev }

/-- The buffer that a freeze in core cycle `now` keeps: a REARM of that cycle has cleared nothing (R314).
Log entry 8, DESIGN CHOICE. -/
def silKept (now : Nat) (l : RailSil) : RailSil :=
  match l.rearmed with
  | some (t, old, i) => if t = now then { l with entries := old, index := i } else l
  | none => l

/-- A buffer frozen by event `ev`; a frozen one ignores later causes (R310). -/
def freezeSil (now ev : Nat) (x : Rail) : Rail :=
  let l := silCause now ev x.sil
  if l.frozen then { x with sil := l } else { x with sil := { silKept now l with frozen := true, event := l.causeEv } }

/-! ## Pins of the timers (R359) -/

/-- The pin claims in force. -/
def pinClaims (s : State) : List PinClaim :=
  match s.sealed.img with
  | none => []
  | some im => im.pins

/-- The pin that a claimant has claimed, as PINCLAIM numbers it: pin class in bits 15:8 (R67). -/
def pinOf (s : State) (claimant inst : Nat) : Option Nat :=
  ((pinClaims s).find? fun p => p.rclass == 2 && p.claimant == claimant && p.cinst == inst).map (·.rindex)

/-- The timer has a pin of a role: 2 capture, 3 gate (R359). -/
def timerPin (s : State) (role : Nat) (t : TimerId) : Bool :=
  (pinClaims s).any fun p => p.rclass == 2 && p.claimant == role && p.cinst == t.val

/-- The inputs of timer `i` as its pins give them. -/
def pinInput (s : State) (i : Nat) (k : Timer) : Timer :=
  match toFin 32 i with
  | some t => { k with gateIn := k.gateIn && timerPin s 3 t, capIn := k.capIn && timerPin s 2 t }
  | none => k

/-- A timer without a pin of a role sees that input low (R359). -/
def pinInputs (s : State) : State := { s with tmr := { s.tmr with tmr := mapTab (pinInput s) s.tmr.tmr } }

end Sys2Proof.Machine
end

