-- ==== Sys2Proof/Machine/Limits.lean ====
section
/-! DEFINITION. Limits and thresholds: the effective-current-limit combiner, the fold-back curve, the per-phase
comparator setting, the OV and UV settings, the slew-limit qualification. -/

namespace Sys2Proof.Machine

/-! ## Effective limit (R42, R43) -/

/-- The effective limit in 0.125 A units: the minimum of the four contributions (R42). -/
def ilimEff (c : RailCfg) (x : Rail) : Nat := min (min x.lim.fold x.lim.thr) (min x.lim.bud c.cur.ilim)

/-- RAIL_ILIM_EFF.SRC: the first lowest in the order fold-back, throttle, budget, configured (R43). -/
def ilimSrc (c : RailCfg) (x : Rail) : Nat :=
  let m := ilimEff c x
  if x.lim.fold = m then 1 else if x.lim.thr = m then 2 else if x.lim.bud = m then 3 else 0

/-- The step of the throttle and the budget contribution: floor(ILIM / 32) (R42, R289). -/
def limStep (c : RailCfg) : Nat := c.cur.ilim / 32

/-- TPERIOD in DPWM ticks: 100 µs units (R65). -/
def tperiodTicks (c : RailCfg) : Nat := c.cur.tperiod * 100 * usTicks

/-- The throttle floor F (R289). -/
def throtFloor (c : RailCfg) : Nat := c.cur.tfloor * c.cur.ilim / 65536

/-! ## Curves (R58) -/

/-- Linear interpolation between two points, as numerator and denominator. -/
def lerp (x0 y0 x1 y1 x : Nat) : Nat × Nat :=
  if y0 ≤ y1 then (y0 * (x1 - x0) + (y1 - y0) * (x - x0), x1 - x0)
  else (y0 * (x1 - x0) - (y0 - y1) * (x - x0), x1 - x0)

/-- The value of a curve at `x` as a fraction (numerator, denominator): step or linear mode. -/
def curveAt (lin : Bool) : List (Nat × Nat) → Nat → Nat × Nat
  | [], _ => (0, 1)
  | [p], _ => (p.2, 1)
  | p :: q :: ps, x =>
    if x ≤ p.1 then (p.2, 1)
    else if x < q.1 then if lin then lerp p.1 p.2 q.1 q.2 x else (p.2, 1)
    else curveAt lin (q :: ps) x

/-- The fold-back contribution for x in U1.15: Y(x) × ILIM truncated, Y above 0x8000 acting as 1.0 (R238). -/
def foldAt (c : RailCfg) (x : Nat) : Nat :=
  let y := curveAt c.cur.fbLinear c.cur.fold x
  min y.1 (32768 * y.2) * c.cur.ilim / (32768 * y.2)

/-- x of R238 for an unmarked sample: 1.0 below 0.1 V; 0 and 0xFFFF for the end codes; else vout / Vt truncated. `pos` is
the position in 2^-24 of 1.25 mV, `e` the error in 1/16 code. -/
def foldX (c : RailCfg) (pos : Nat) (code e : Int) : Nat :=
  if pos < 80 * posUnit then 0x8000
  else if code = 511 then 0
  else if code = -512 then 0xFFFF
  else
    let den : Int := 80 * c.eng.divk * pos
    (clampI 0 0xFFFF ((32768 * den - 32768 * e * 2 ^ 39) / den)).toNat

/-! ## Comparator settings -/

/-- The ISLICE gain g of channel `ch` in 2^-15 units, in the band it carries (R71, R152). -/
def gainOf (s : State) (ch : Nat) (b : Option Nat) : Int :=
  match bandCfg s b with
  | some r => r.gain.getD ch 0
  | none => 0

/-- The phase comparator's DAC setting (R42, R153): 2 mV steps, saturating at 255. -/
def thrSetting (c : RailCfg) (eff n : Nat) (ofs g : Int) : Nat :=
  let gg : Int := 32768 + g
  let den : Int := 4 * (max n 1 : Nat) * c.acc.irated * gg
  let num : Int := ofs * (max n 1 : Nat) * c.acc.irated * gg + 400 * eff * c.acc.peak
  (clampI 0 255 (roundDiv num den)).toNat

/-- A 12-bit DAC setting in 0.5 mV steps at the pin for ratio × reference (R228, R455). -/
def vSetting (ratio ref divk : Nat) : Nat := min 4095 (roundNat (5 * ratio * ref * divk) (2 * 2 ^ 54))

/-- The OV setting: max(OVTH × refH, OVTH × VMIN) (R228). -/
def ovSetting (c : RailCfg) (s : State) (x : Rail) : Nat :=
  vSetting c.cur.ovth (max (refH s x) (c.eng.vmin * posUnit)) c.eng.divk

/-- The UV setting: UVTH × refL (R228). -/
def uvSetting (c : RailCfg) (s : State) (x : Rail) : Nat := vSetting c.cur.uvth (refL s x) c.eng.divk

/-- The power-good comparator's setting while it stands low: PGRISE × refL (R228). -/
def pgRiseSetting (c : RailCfg) (s : State) (x : Rail) : Nat := vSetting c.seq.pgrise (refL s x) c.eng.divk

/-- Its setting while it stands high: PGFALL × refL (R228). -/
def pgFallSetting (c : RailCfg) (s : State) (x : Rail) : Nat := vSetting c.seq.pgfall (refL s x) c.eng.divk

/-- The power-good comparator's output for `v` 0.5 mV steps at the pin (R228). -/
def pgLevel (c : RailCfg) (s : State) (x : Rail) (v : Nat) : Bool :=
  decide ((if x.seq.pgComp then pgFallSetting c s x else pgRiseSetting c s x) ≤ v)

/-- A setting referred to the rail output in 1.25 mV units (R228, R455). -/
def outLevel (c : RailCfg) (setting : Nat) : Nat := roundNat (2 * setting * 32768) (5 * c.eng.divk)

/-! ## Sums and duty limits -/

/-- The rail sum: the contributions of the active set (R151, R172). -/
def isumOf (c : RailCfg) (x : Rail) : Int := ((active c x).map fun q => x.sh.contrib.getD q 0).sum

/-- RAIL_ISUM.HELD (R156, R181). -/
def isumHeld (c : RailCfg) (x : Rail) : Bool := (active c x).any fun q => x.sh.held.getD q false

/-- RAIL_ISUM.COMPLETE (R181). -/
def isumComplete (c : RailCfg) (x : Rail) : Bool := (active c x).all fun q => x.sh.given.getD q false

/-- The shedding current: mean of the snapshots, truncated toward minus infinity (R169). -/
def ished (x : Rail) : Int := if x.sh.snaps.isEmpty then 0 else x.sh.snaps.sum / (x.sh.snaps.length : Int)

/-- A duty with 40 fractional bits as U0.16: nearest, the end of the format above it (R147, R311, R455). -/
def dutyWord (d : Int) : Nat := (clampI 0 65535 (roundDiv d (2 ^ 24))).toNat

/-- dlo with 40 fractional bits (R130). -/
def dlo (c : RailCfg) : Int := (c.md.dmin : Int) * 2 ^ 24

/-- dhi with 40 fractional bits: DMAX, in HYB also TONCL / PERIOD truncated (R130). -/
def dhi (c : RailCfg) : Int :=
  let m : Int := (c.md.dmax : Int) * 2 ^ 24
  if c.md.mode = .hyb then min m (((c.md.toncl * 2 ^ 40 / c.md.period : Nat)) : Int) else m

/-- C6 × v with 40 fractional bits, truncated toward minus infinity; v in 2^-24 of 1.25 mV (R127). -/
def biasDuty (c6 : Int) (v : Nat) : Int := c6 * v / (256 * 800)

/-- RAIL_ENG_STATUS.SLRQ (R142, R147): t̄ideal exists and is at least 6T + 240 ns; d with 24 fractional bits, times in
DPWM ticks (240 ns = 192 ticks). -/
def slrqOf (c : RailCfg) (n d : Nat) : Bool :=
  let p := c.md.period
  let t6 := 6 * min c.eng.spacing p + 192
  let one := 2 ^ 24
  if n = 0 then false
  else if n = 1 then decide (2 * one * one * t6 ≤ p * (one - d) * (one - d))
  else if one * (n - 1) < d * n then false
  else decide (2 * n * one * t6 + 2 * n * p * d + p * one ≤ 2 * n * p * one)

/-! ## Carrier offsets -/

/-- u_k = round(k × 256 / N) (R34). -/
def unitOfs (n k : Nat) : Nat := roundNat (k * 256) n

/-- O_k = round(u_k × PERIOD / 4) in taps, halves up (R97). -/
def ofsTaps (period n k : Nat) : Nat := roundNat (unitOfs n k * period) 4

/-- The slot of active position k with rotation count r (R164). -/
def slotOf (n k r : Nat) : Nat := if n = 0 then 0 else (k + r) % n

end Sys2Proof.Machine
end

