-- ==== Sys2Proof/Machine/Flags.lean ====
section
/-! DEFINITION. The 448 event sources (R300, R428 to R431): their status bits, classes, enables, routes and groups, and
the three outputs derived from them: ALERT_N, the in-band interrupt requests and the fault pair. -/

namespace Sys2Proof.Machine

/-- The twelve sources of a rail (R429). -/
def railBits (x : Rail) : List Bool :=
  [x.trip.tripLat, x.prot.ovFlt, x.prot.uvFlt, x.prot.snsOpen, x.prot.bdFlt, x.prot.negLim, x.eng.esat, x.eng.sndfb,
    x.sh.trimSat, x.sh.phRej, x.seq.seqRej, x.seq.pgChg]

/-- The four sources of a bank (R430). -/
def bankBits (b : Bank) : List Bool := [b.btsfFlt, b.syncErr, b.late, b.brefDist]

/-- The two sources of a port (R431). -/
def portBits (p : Port) : List Bool := [p.rej, p.linkErr]

/-- The twelve core sources (R431). -/
def coreBits (g : Glb) : List Bool :=
  [g.pllLock, g.dllLock, g.dpwmClk, g.vddBo, g.vddaBo, g.cfgUnc, g.cfgCor, g.refFb, g.slowClk, g.wdRst, g.accErr,
    g.sealWr]

/-- Sources 412 to 447 (R431). -/
def tailBits (s : State) : List Bool :=
  [s.img.cmdErr, s.img.loadErr, s.img.fallback,
    s.hadc.mon.stFail, s.hadc.mon.supWarn, s.hadc.mon.refSw, s.hadc.mon.refFrz, s.hadc.mon.discDone,
    s.thm.tshut, s.thm.sensFlt, s.thm.rorx, s.thm.throt, s.thm.bandChg, s.thm.winRef,
    s.nvl.logged, s.nvl.cresync, s.nvl.blotFail, s.nvl.holdPend, s.nvl.drop, s.nvl.media,
    s.tmr.done, s.tmr.capRdy, s.tmr.terr, s.tmr.slowErr,
    s.hif.pecErr, s.hif.cmlErr, s.hif.smbTo, s.hif.i3cErr, s.hif.daaChg,
    s.nl.roleChg, s.nl.mlost, s.nl.peerChg, s.nl.nlErr, s.nl.dupId,
    s.glb.fltWire, s.glb.silFrz]

/-- The status bits of all 448 sources in the order of R300. -/
def statusBits (s : State) : List Bool :=
  s.rails.toList.flatMap railBits ++ s.banks.toList.flatMap bankBits ++ coreBits s.glb
    ++ s.ports.toList.flatMap portBits ++ tailBits s

/-- The status bit of source n. -/
def srcBit (s : State) (n : Nat) : Bool := (statusBits s).getD n false

/-- Numbers of the sources that rose: status 0 before and 1 after (R300). -/
def risen (old new : List Bool) : List Nat :=
  (List.zipWith (fun a b => !a && b) old new).zipIdx.filterMap fun p => if p.1 then some p.2 else none

/-! ## W1C bits of the present core cycle (R314, R432) -/

/-- The W1C bits of a rail that are no source: MARKED, OFSCLIP, HREJ, CLRREJ of the two latches, RDERR. -/
def railMore (x : Rail) : List Bool :=
  [x.eng.marked, x.sh.ofsClip, x.pos.hrej, x.trip.clrRej, x.prot.clrRej, x.sil.rdErr]

/-- Those of all rails, numbered from 448 on. -/
def moreBits (s : State) : List Bool := s.rails.toList.flatMap railMore

/-- The offset and the bit of the W1C bit of a rail, by its number. -/
def railLoc (n : Nat) : Nat × Nat :=
  [(0x74, 28), (0x7C, 28), (0x7C, 27), (0x7C, 26), (0x7C, 25), (0x7C, 24), (0x00, 31), (0x00, 30), (0x48, 31), (0x48, 30),
    (0x78, 23), (0x78, 22)].getD n (0, 0)

/-- The offset and the bit of a W1C bit of a rail that is no source. -/
def moreLoc (n : Nat) : Nat × Nat := [(0x00, 29), (0x48, 29), (0x60, 29), (0x74, 29), (0x7C, 29), (0xA0, 28)].getD n (0, 0)

/-- The page, the offset and the bit of sources 412 to 447 (R431). -/
def tailLoc (n : Nat) : Nat × Nat × Nat :=
  if n < 3 then (0x02, 0x04, 31 - n)
  else if n < 8 then (0x03, 0x08, 30 - (n - 3))
  else if n < 14 then (0x04, 0x00, 31 - (n - 8))
  else if n < 20 then (0x05, 0x08, 31 - (n - 14))
  else if n < 24 then (0x06, 0x00, 31 - (n - 20))
  else if n < 29 then (0x07, 0x00, 31 - (n - 24))
  else if n < 34 then (0x08, 0x00, 31 - (n - 29))
  else (0x6B, 0x40, 31 - (n - 34))

/-- The page, the offset and the bit of a status bit (R429 to R431). -/
def bitLoc (n : Nat) : Nat × Nat × Nat :=
  if n < 288 then (0x10 + n / 12, railLoc (n % 12))
  else if n < 384 then (0x40 + (n - 288) / 4, [(0x80, 31), (0x80, 30), (0x80, 29), (0x84, 31)].getD (n % 4) (0, 0))
  else if n < 396 then (0x00, 0x10, 31 - (n - 384))
  else if n < 412 then (0x30 + (n - 396) / 2, 0x0C, 31 - n % 2)
  else if n < 448 then tailLoc (n - 412)
  else (0x10 + (n - 448) / 6, moreLoc ((n - 448) % 6))

/-- The status bits of all sources, then the other W1C bits of the rails, by their numbers. -/
def allBits (s : State) : List Bool := statusBits s ++ moreBits s

/-- A rail with those bits at 0. -/
def railWiped (x : Rail) : Rail :=
  { x with
    trip := { x.trip with tripLat := false, clrRej := false }
    prot := { x.prot with ovFlt := false, uvFlt := false, snsOpen := false, bdFlt := false, negLim := false, clrRej := false }
    eng := { x.eng with esat := false, sndfb := false, marked := false }
    sh := { x.sh with trimSat := false, phRej := false, ofsClip := false }
    seq := { x.seq with seqRej := false, pgChg := false }
    pos := { x.pos with hrej := false }
    sil := { x.sil with rdErr := false } }

/-- A bank with its sources at 0. -/
def bankWiped (b : Bank) : Bank := { b with btsfFlt := false, syncErr := false, late := false, brefDist := false }

/-- A port with its sources at 0. -/
def portWiped (p : Port) : Port := { p with rej := false, linkErr := false }

/-- The global status with its sources at 0. -/
def glbWiped (g : Glb) : Glb :=
  { g with
    pllLock := false, dllLock := false, dpwmClk := false, vddBo := false, vddaBo := false, cfgUnc := false, cfgCor := false
    refFb := false, slowClk := false, wdRst := false, accErr := false, sealWr := false, fltWire := false, silFrz := false }

/-- The state with every bit of `allBits` at 0. No rule's effect looks at these bits, so that a command does on it what it does on `s`.
-/
def wiped (s : State) : State :=
  { s with
    rails := mapTab (fun _ => railWiped) s.rails
    banks := mapTab (fun _ => bankWiped) s.banks
    ports := mapTab (fun _ => portWiped) s.ports
    glb := glbWiped s.glb
    img := { s.img with cmdErr := false, loadErr := false, fallback := false }
    hadc := { s.hadc with mon := { s.hadc.mon with
      stFail := false, supWarn := false, refSw := false, refFrz := false, discDone := false } }
    thm := { s.thm with tshut := false, sensFlt := false, rorx := false, throt := false, bandChg := false, winRef := false }
    nvl := { s.nvl with logged := false, cresync := false, blotFail := false, holdPend := false, drop := false, media := false }
    tmr := { s.tmr with done := false, capRdy := false, terr := false, slowErr := false }
    hif := { s.hif with pecErr := false, cmlErr := false, smbTo := false, i3cErr := false, daaChg := false }
    nl := { s.nl with roleChg := false, mlost := false, peerChg := false, nlErr := false, dupId := false } }

/-- The numbers of the bits at 1. -/
def numbers (l : List Bool) : List Nat := l.zipIdx.filterMap fun p => if p.1 then some p.2 else none

/-- The bits that `f` raises in `s`, those that stand at 1 already among them (R314, R432): they rise where all of them stood at 0.
Log entry 8, DESIGN CHOICE. -/
def occurs (f : State → State) (s : State) : List Nat := numbers (allBits (f (wiped s)))

/-- A word written to a register with W1C bits: a bit that has occurred in the present core cycle is not cleared (R314, R432).
Log entry 8, DESIGN CHOICE. -/
def w1cWord (s : State) (page off : Nat) (w : Word) : Word :=
  if s.raised.at_ != cycle s then w
  else s.raised.bits.foldl (fun w n =>
    let l := bitLoc n
    if l.1 == page && l.2.1 == off then w &&& ~~~(1#32 <<< l.2.2) else w) w

/-- That word meets bits that stood at 1 when they occurred in the present core cycle: they count as raised anew (R314).
Log entry 8, DESIGN CHOICE. -/
def w1cRenew (page off : Nat) (w : Word) (s : State) : State :=
  let hit := fun n => let l := bitLoc n; l.1 == page && l.2.1 == off && bitw w l.2.2
  if s.raised.at_ != cycle s then s
  else { s with raised := { s.raised with renew := s.raised.renew ++ s.raised.again.filter hit } }

/-- A write to a register with W1C bits, against the bits of the present core cycle (R314, R432). -/
def w1cDo (page off : Nat) (w : Word) (f : Word → State → State) (s : State) : State :=
  f (w1cWord s page off w) (w1cRenew page off w s)

/-- Class of a source (R295, R429 to R431). -/
inductive Cls where
  | c | u | f
  deriving DecidableEq, Repr

/-- The class of source n. -/
def srcClass (n : Nat) : Cls :=
  if n < 288 then if n % 12 < 5 then .u else .c
  else if n < 384 then if n % 4 = 0 then .u else .c
  else if n < 390 || n = 420 then .f
  else .c

/-- Byte n of IRQROUTE in force (R73); 0 while no image is sealed. -/
def routeByte (s : State) (n : Nat) : Nat :=
  match s.sealed.img with
  | none => 0
  | some im => im.irq.getD n 0

/-- Routed to ALERT_N (R73 bit 1). -/
def routeAlert (s : State) (n : Nat) : Bool := (routeByte s n).testBit 1

/-- Routed to the in-band interrupt (R73 bit 2). -/
def routeIbi (s : State) (n : Nat) : Bool := (routeByte s n).testBit 2

/-- Routed to the fault pair once an image is sealed: bit 3, and every class F source (R73, R302).
Log entry 39, DEDUCED. -/
def routeFlt (s : State) (n : Nat) : Bool := (routeByte s n).testBit 3 || (isSealed s && srcClass n == .f)

/-- The group of an IRQ page and slot: its first source, its number of sources and its group index (R301, R428). -/
def irqGroup (page slot : Nat) : Option (Nat × Nat × Nat) :=
  if page = 0x60 ∧ slot < 16 then some (12 * slot, 12, slot)
  else if page = 0x6C ∧ slot < 8 then some (12 * (slot + 16), 12, slot + 16)
  else if page = 0x61 ∧ slot < 16 then some (288 + 4 * slot, 4, slot)
  else if page = 0x6D ∧ slot < 8 then some (288 + 4 * (slot + 16), 4, slot + 16)
  else if page = 0x62 ∧ slot = 0 then some (384, 12, 0)
  else if page = 0x63 ∧ slot < 8 then some (396 + 2 * slot, 2, slot)
  else if page = 0x6A ∧ slot = 0 then some (412, 3, 0)
  else if page = 0x64 ∧ slot = 0 then some (415, 5, 0)
  else if page = 0x65 ∧ slot = 0 then some (420, 6, 0)
  else if page = 0x66 ∧ slot = 0 then some (426, 6, 0)
  else if page = 0x67 ∧ slot = 0 then some (432, 4, 0)
  else if page = 0x68 ∧ slot = 0 then some (436, 5, 0)
  else if page = 0x69 ∧ slot = 0 then some (441, 5, 0)
  else if page = 0x6B ∧ slot = 0 then some (446, 2, 0)
  else none

/-- The page and the group index of source n (R428). -/
def srcGroup (n : Nat) : Nat × Nat :=
  if n < 192 then (0x60, n / 12) else if n < 288 then (0x6C, n / 12)
  else if n < 352 then (0x61, (n - 288) / 4) else if n < 384 then (0x6D, (n - 288) / 4)
  else if n < 396 then (0x62, 0) else if n < 412 then (0x63, (n - 396) / 2) else if n < 415 then (0x6A, 0)
  else if n < 420 then (0x64, 0) else if n < 426 then (0x65, 0) else if n < 432 then (0x66, 0)
  else if n < 436 then (0x67, 0) else if n < 441 then (0x68, 0) else if n < 446 then (0x69, 0) else (0x6B, 0)

/-- Bits j < cnt of a predicate over the sources from `base`. -/
def groupBits (base cnt : Nat) (p : Nat → Bool) : Nat := ((List.range cnt).map fun j => bitf j (p (base + j))).sum

/-- PEND of source n: status bit and enable (R302). -/
def pendBit (s : State) (st : List Bool) (n : Nat) : Bool := st.getD n false && s.irqEn.getLsbD n

/-- The sources whose PEND reads 1. -/
def pendList (s : State) : List Nat :=
  (statusBits s).zipIdx.filterMap fun p => if p.1 && s.irqEn.getLsbD p.2 then some p.2 else none

/-- ALERT_N is driven low: some PEND bit routed to it reads 1 (R304). -/
def alertLow (s : State) : Bool := (pendList s).any (routeAlert s)

/-- FLT_STATUS.STATE: the pair is in the fault state (R306). -/
def pairFault (s : State) : Bool :=
  s.glb.latched || !isSealed s
    || (statusBits s).zipIdx.any (fun p => p.1 && routeFlt s p.2)
    || s.rails.toList.zipIdx.any (fun p => latched p.1 && (List.range 5).any fun j => routeFlt s (12 * p.2 + j))

/-- A ball under the boundary register (R397): EXTEST and CLAMP drive it from there; leaving them returns it to its function.
Log entry 26, DESIGN CHOICE. -/
def scanOut (s : State) (ball : Nat) (own : Bool) : Bool :=
  match s.tap.ir with
  | .extest | .clamp => Config.boundary ball
  | _ => own

/-- The pair is driven: READY, RUN and SAFE, and the recovery after RESET_N; in OFF, in STANDBY and in a wake from them both
balls are at high impedance (R318, R333), and under HIGHZ (R397). -/
def pairOn (s : State) : Bool :=
  s.tap.ir != .highz && groupUp s 3 && (s.pwr.recov || match s.pwr.dev with | .ready | .run | .safe => true | _ => false)

/-- The level of FLT_P: driven high in the normal state (R306); low under the board's pull-down while it is not driven (R307).
-/
def pairP (s : State) : Bool := scanOut s 192 (pairOn s && !pairFault s)

/-- The level of FLT_N. -/
def pairN (s : State) : Bool := scanOut s 193 (pairOn s && pairFault s)

/-- The readback of a ball: its level, or the level of a standing disagreement (R308, R316). -/
def readback (s : State) (ballN : Bool) : Bool :=
  if ballN then s.glb.ballN.getD (pairN s) else s.glb.ballP.getD (pairP s)

/-- A frozen Sillage buffer's bit mask: SIL_FROZEN.RAILS (R316). -/
def silFrozenMask (s : State) : Nat := (s.rails.toList.zipIdx.map fun p => bitf p.2 p.1.sil.frozen).sum

/-- THM_THROTMASK.RAILS (R293). -/
def throtMask (s : State) : Nat := (s.rails.toList.zipIdx.map fun p => bitf p.2 p.1.lim.throttled).sum

/-- A sensor is hot (R287). -/
def sensorHot (x : Sensor) : Bool := x.hotT || x.rorx || x.invalidHot

/-- The write window is open: Tj valid and from −20.000 to +105.000 °C (R281), S12.3. -/
def winOpen (s : State) : Bool := s.thm.tjValid && decide (-160 ≤ s.thm.tj) && decide (s.thm.tj ≤ 840)

end Sys2Proof.Machine
end

