-- ==== Sys2Proof/Machine/Operands.lean ====
section
/-! DEFINITION. Operand forms: the VCMD-2 and VCMD-1 frames and their check codes, step tables, Linear16 and Linear11,
the AVSBus encodings. -/

namespace Sys2Proof.Machine

/-! ## Check codes -/

/-- Remainder of a polynomial division, most significant bit first: register width `w`, feedback `poly`. -/
def crcBits (w poly : Nat) (bs : List Bool) : Nat :=
  bs.foldl (fun r b =>
    let top := (r / 2 ^ (w - 1)) % 2 == 1
    let r2 := (r * 2) % 2 ^ w
    if top != b then r2 ^^^ poly else r2) 0

/-- Bits `hi … lo` of a number, most significant first. -/
def msbBits (v hi lo : Nat) : List Bool := (List.range (hi + 1 - lo)).map fun i => v.testBit (hi - i)

/-- The CRC-6 of VCMD-2: x^6 + x + 1, initial value 0 (R199). -/
def crc6 (bs : List Bool) : Nat := crcBits 6 3 bs

/-- The CRC-8 of Nelink: x^8 + x^2 + x + 1, initial value 0 (R403). -/
def crc8 (bs : List Bool) : Nat := crcBits 8 7 bs

/-- Even parity bit over a list of bits (R206). -/
def evenParity (bs : List Bool) : Bool := bs.foldl xor false

/-! ## VCMD-2 (R199, R200) -/

/-- OP, bits 29:27. -/
def v2op (f : BitVec 32) : Nat := f.toNat / 2 ^ 27 % 8
/-- LRAIL, bits 26:24. -/
def v2rail (f : BitVec 32) : Nat := f.toNat / 2 ^ 24 % 8
/-- DATA, bits 23:8. -/
def v2data (f : BitVec 32) : Nat := f.toNat / 2 ^ 8 % 2 ^ 16
/-- SEQ, bits 7:6. -/
def v2seq (f : BitVec 32) : Nat := f.toNat / 2 ^ 6 % 4
/-- The CRC of a command frame is right: over bits 29:6. -/
def v2crcOk (f : BitVec 32) : Bool := f.toNat % 64 == crc6 (msbBits f.toNat 29 6)

/-- Acknowledgements of VCMD-2 (R201), shared by the protocols as the outcome of a command. -/
inductive Ack where
  | ok | hostOvr | rejectState | badCrc | badRail | badData | badOp | raiseFrozen
  deriving DecidableEq, Repr

/-- ACK code of VCMD-2 (R201). -/
def Ack.v2 : Ack → Nat
  | .ok => 0 | .hostOvr => 1 | .rejectState => 2 | .badCrc => 3 | .badRail => 4 | .badData => 5 | .badOp => 6
  | .raiseFrozen => 7

/-- ACK code of VCMD-1 (R206, R207). -/
def Ack.v1 : Ack → Nat
  | .ok => 4
  | .rejectState | .raiseFrozen | .hostOvr => 5
  | .badRail | .badData | .badOp => 6
  | .badCrc => 7

/-- The response frame of VCMD-2: ACK, SEQ, DATA and the CRC over bits 27:6 (R200). -/
def v2resp (a : Ack) (seq data : Nat) : BitVec 28 :=
  let sq := if a = .badCrc then 0 else seq
  let dt := if a = .ok then data else 0
  let hi := a.v2 * 2 ^ 24 + sq * 2 ^ 22 + dt % 2 ^ 16 * 2 ^ 6
  BitVec.ofNat 28 (hi + crc6 (msbBits hi 27 6))

/-! ## VCMD-1 (R206) -/

/-- OP, bits 13:12. -/
def v1op (f : BitVec 16) : Nat := f.toNat / 2 ^ 12 % 4
/-- LRAIL, bits 11:9. -/
def v1rail (f : BitVec 16) : Nat := f.toNat / 2 ^ 9 % 8
/-- DATA, bits 8:1. -/
def v1data (f : BitVec 16) : Nat := f.toNat / 2 % 256
/-- The parity of a command frame is right: even over bits 13:1. -/
def v1parOk (f : BitVec 16) : Bool := f.getLsbD 0 == evenParity (msbBits f.toNat 13 1)

/-- The response frame of VCMD-1: ACK, DATA, even parity over bits 11:1 (R206). -/
def v1resp (a : Ack) (data : Nat) : BitVec 12 :=
  let dt := if a = .ok then data else 0
  let hi := a.v1 * 2 ^ 9 + dt % 256 * 2
  BitVec.ofNat 12 (hi + b2n (evenParity (msbBits hi 11 1)))

/-! ## Step tables (R188, R189) -/

/-- The target of a code in a step table; none for a code without a voltage. -/
def codeTarget (step code : Nat) : Option Nat :=
  if step = 0 then some code
  else if code = 0 ∨ 255 < code then none
  else if step = 1 then some (196 + 4 * code) else some (392 + 8 * code)

/-- The code that a read returns for a target: the highest code not above it, 0 below code 1 (R189). -/
def targetCode (step t : Nat) : Nat :=
  if step = 0 then t
  else if step = 1 then min 255 ((t - 196) / 4) else min 255 ((t - 392) / 8)

/-- A code's target inside VMIN to VMAX (R188). -/
def legalTarget (c : RailCfg) (step code : Nat) : Option Nat :=
  match codeTarget step code with
  | none => none
  | some t => if c.eng.vmin ≤ t ∧ t ≤ c.eng.vmax then some t else none

/-! ## PMBus number formats (R387, R427) -/

/-- A 1.25 mV value as a Linear16 mantissa, exponent −12: × 5.12, halves up. -/
def toLinear16 (v : Nat) : Nat := roundNat (v * 128) 25

/-- A Linear16 mantissa in 1.25 mV units. -/
def ofLinear16 (m : Nat) : Nat := roundNat (m * 25) 128

/-- Linear11 of a value in units of 2^base: the lowest exponent at or above `base` whose mantissa fits in 11 signed
bits, the mantissa rounded (R387, R455). -/
def toLinear11 (base : Int) (v : Int) : Nat :=
  let fits (k : Nat) : Bool :=
    let m := roundDiv v (2 ^ k)
    decide (-1024 ≤ m) && decide (m ≤ 1023)
  let k := ((List.range 24).find? fits).getD 24
  twos 5 (base + k) * 2 ^ 11 + twos 11 (roundDiv v (2 ^ k))

/-- A Linear11 word in units of 2^base, rounded to the nearest unit (R387). -/
def ofLinear11 (base : Int) (w : Nat) : Int :=
  let m := signed 11 w
  let e := signed 5 (w / 2 ^ 11) - base
  if 0 ≤ e then m * 2 ^ e.toNat else roundDiv m (2 ^ (-e).toNat)

/-! ## AVSBus (R208, R210) -/

/-- TARGET in mV, truncated. -/
def avsMv (t : Nat) : Nat := t * 5 / 4

/-- A voltage in mV on the 1.25 mV grid, halves up. -/
def avsTarget (mv : Nat) : Nat := roundNat (mv * 4) 5

/-- SlaveAck of an outcome: 0b00 carried out, a host override included; 0b11 CRC failure; else 0b10 (R209). -/
def Ack.avs : Ack → Nat
  | .ok | .hostOvr => 0
  | .badCrc => 3
  | _ => 2

/-- MFR[1:0] of an outcome (R210). -/
def Ack.mfr : Ack → BitVec 2
  | .rejectState => 1
  | .hostOvr => 2
  | .raiseFrozen => 3
  | _ => 0

end Sys2Proof.Machine
end

