-- ==== Sys2Proof/Machine/Latch.lean ====
section
/-! DEFINITION. Safe levels and latches: BREF disturbance periods (R157), the safe level of channels (R90, R114), the
trip latch (R109 to R115), the protection latch (R240, R241), the fatal hold (R297, R298), power-good (R230), the
Maceration window of a rail (R256) and the end of a sounding by ABORT (R266). -/

namespace Sys2Proof.Machine

/-- The island and the converters are powered: READY, RUN or SAFE (R319). -/
def islandUp (s : State) : Bool := match s.pwr.dev with | .ready | .run | .safe => true | _ => false

/-! ## BREF disturbance periods -/

/-- Open a disturbance period, or stay in the one that runs (R157). -/
def brefOpen (k : Bank) : Bank :=
  if k.brefMark then k else { k with brefMark := true, brefDist := true, distCnt := satInc 65535 k.distCnt }

/-- A balance round during which a bank of an active phase is disturbed is not applied (R161, R174). -/
def roundSpoil (b : BankId) (s : State) : State :=
  onCfgRails (fun _ c x =>
    if (active c x).any fun q => bankOf (c.acc.phase.getD q 0) == b.val then { x with sh := { x.sh with roundBad := true } }
    else x) s

/-- A disturbance event of bank `b`: the period starts or is extended by 2 µs; while the window comparator stands
tripped it has no end (R157). -/
def brefEvent (b : BankId) (s : State) : State :=
  let s := roundSpoil b (onBank b brefOpen s)
  if s.banks[b].brefWin then disarm (· == .brefDisturbanceEnd b) s
  else rearm (2 * usTicks) (.brefDisturbanceEnd b) s

/-- A disturbance event of each listed bank. -/
def brefEvents (l : List Nat) (s : State) : State :=
  forEach l (fun b t => match toFin 24 b with | some b => brefEvent b t | none => t) s

/-- The bank holds a channel of a configured accord; the BREF buffer and window comparator of another bank are off
(R437). Log entry 28, DEDUCED. -/
def bankUsed (s : State) (b : BankId) : Bool := (configured s).any fun rc => (accordBanks rc.2).contains b.val

/-- A window comparator that is turned off releases (R157, R437). Log entry 28, DEDUCED. -/
def brefRelease (b : BankId) (s : State) : State :=
  if s.banks[b].brefWin && !bankUsed s b then
    let t := onBank b (fun k => { k with brefWin := false }) s
    if s.banks[b].brefMark then brefEvent b t else t
  else s

/-! ## Safe levels of channels -/

/-- The listed channels that stand at safe level, or do not. -/
def chansSafe (s : State) (safe : Bool) (l : List Nat) : List Nat :=
  l.filter fun i => match toFin 192 i with | some i => (s.chans[i].st == .safe) == safe | none => false

/-- A compare update of the same tick as a trip is discarded (R41, R113): the shadow or the working register takes back its
word, an on-time of CO-RI does not start, and a LATEOFF of that update is taken back. Log entry 8, DESIGN CHOICE. -/
def dropUpdate (now : Nat) (k : Chan) : Chan :=
  if k.updAt == some now then
    let k := { k with updAt := none, updLate := none, lateOff := k.lateOff && k.updLate.getD true }
    match k.updOn with
    | some w => { k with cmpOn := w, cmpOff := k.updOld, onDone := true, updOn := none }
    | none => if k.shOff.isSome then { k with shOff := some k.updOld } else { k with cmpOff := k.updOld }
  else k

/-- A channel taken to its safe level: it places no edges and forgets pending updates, one of the same tick among them
(R41, R113, R114). -/
def toSafe (now : Nat) (c : Chan) : Chan :=
  { dropUpdate now c with st := .safe, out := .safe, pre := .safe, shOn := none, shOff := none, shOnAt := none, newOfs := none
                          nextCs := none, joining := false, leaving := false, negHold := false }

/-- A late write of the present tick stands on a channel of bank `b`. -/
def lateStands (s : State) (b : Nat) : Bool :=
  (allFin 192).any fun ch => bankOf ch.val == b && s.chans[ch].updAt == some s.now && s.chans[ch].updLate.isSome

/-- The LATE of the listed banks after the updates of this tick have been discarded: one that no write left standing has set is taken
back (R41, R107). Log entry 8, DESIGN CHOICE. -/
def lateBack (l : List Nat) (s : State) : State :=
  { s with banks := mapTab (fun i b => match b.lateAt with
    | some (t, was) => if l.contains i && t == s.now && !lateStands s i then { b with late := b.late && was } else b
    | none => b) s.banks }

/-- Force the listed channels to safe levels (R112, R157); the banks of those that enter it are disturbed. -/
def safeChans (l : List Nat) (s : State) : State :=
  let banks := ((chansSafe s false l).map bankOf).eraseDups
  brefEvents banks (lateBack banks (onChans l (fun _ => toSafe s.now) s))

/-- A self-test holds a channel that stands at safe level at off level; a trip from now on takes it back to safe level (R180).
Log entry 25, DEDUCED. -/
def bistHold (k : Chan) : Chan := if k.out = .safe then { k with out := .off } else k

/-- A self-test no longer holds a channel (R90, R180). Log entry 25, DEDUCED. -/
def bistFree (k : Chan) : Chan := if k.st = .safe then { k with out := .safe } else k

/-- The position of a channel in the PHASE list, its own or its partner's. -/
def chanPos (c : RailCfg) (ch : Nat) : Option Nat :=
  match c.acc.phase.findIdx? (· == ch) with
  | some q => some q
  | none => if c.acc.pair then c.acc.phase.findIdx? (fun p => p + 1 == ch) else none

/-- The state of an accord channel while its rail does not switch: bypassed or stopped (R117). -/
def restState (c : RailCfg) (x : Rail) (ch : Nat) : ChSt :=
  match chanPos c ch with
  | some q => if x.sh.bypass.getLsbD q then .bypassed else .stopped
  | none => .noAccord

/-- The time in taps since which a channel stands at low or off level, when it takes one of them now (R134). -/
def restSince (now : Nat) (c : Chan) : Nat := if c.out == .low || c.out == .off then c.offAt else now * tickTaps

/-- A channel at off level (R90); an engaged negative limit lasts to its next on edge (R232). -/
def toOff (now : Nat) (st : ChSt) (c : Chan) : Chan :=
  { c with st := st, out := .off, pre := .off, shOn := none, shOff := none, shOnAt := none, newOfs := none, joining := false
           leaving := false, offAt := restSince now c }

/-- Release the channels of an accord from safe level to off level (R115, R241, R298). -/
def freeChans (r : RailId) (c : RailCfg) (s : State) : State :=
  let l := chansSafe s true (accordChans c)
  let x := s.rails[r]
  brefEvents (l.map bankOf).eraseDups (onChans l (fun i => toOff s.now (restState c x i)) s)

/-- The carriers of a rail that is stopped do not run (R34, R409). Log entry 61, DESIGN CHOICE. -/
def stopCarriers (r : RailId) (c : RailCfg) (s : State) : State :=
  onRail r (fun x => { x with seq := { x.seq with mcsWait := none, mcsAt := none, started := false } })
    (onChans (accordChans c) (fun _ k => { k with nextCs := none }) s)

/-- Bring every channel of an accord that is not at safe level to off level. -/
def offAccord (r : RailId) (c : RailCfg) (s : State) : State :=
  let l := chansSafe s false (accordChans c)
  let x := s.rails[r]
  onChans l (fun i => toOff s.now (restState c x i)) s

/-! ## Power-good -/

/-- Drive PGOODn to a level; a change sets PGCHG (R230). -/
def pgSet (lvl : Bool) (x : Rail) : Rail :=
  { x with seq := { x.seq with pgPin := lvl, pgChg := x.seq.pgChg || (x.seq.pgPin != lvl) } }

/-- PGOODn low, its filters dropped. -/
def pgLow (r : RailId) (s : State) : State :=
  disarm (fun e => e == .pgoodRelease r || e == .pgoodFall r) (onRail r (pgSet false) s)

/-! ## Soundings -/

/-- A sounding that runs ends invalid with a cause of R266: SNDFB and FALLBK (R143). A pending one is dropped, CAUSE
reads ABORT (R273). -/
def sndAbortRail (x : Rail) : Rail :=
  if x.snd.run then
    { x with
      snd := { x.snd with run := false, pend := false, cause := 5, plan := [], hold := false }
      eng := { x.eng with sndfb := true }
      coef := { x.coef with fallbk := true } }
  else x

/-- An armed event of the rail's sounding. -/
def sndEvent (r : RailId) : Instr → Bool
  | .soundingStart q => q == r
  | .soundingRepetition q _ => q == r
  | .soundingEnd q => q == r
  | _ => false

/-- ABORT of the rail's sounding. -/
def sndAbort (r : RailId) (s : State) : State :=
  let s := { s with hadc := { s.hadc with urgent := s.hadc.urgent.filter fun c => match c.user with
    | .atomiser q _ => q != r
    | _ => true } }
  disarm (sndEvent r) (onRail r sndAbortRail s)

/-- ABORT, and a pending request dropped: the rail stops (R273). -/
def sndDrop (r : RailId) (s : State) : State :=
  onRail r (fun x => if x.snd.pend then { x with snd := { x.snd with pend := false, cause := 5 } } else x)
    (sndAbort r s)

/-! ## Latches -/

/-- The rail leaves its table and stops (R113, R218, R240, R297): no action runs, PGOODn is low, power-good disarmed,
the position is held. -/
def railHalt (r : RailId) (s : State) : State :=
  let s := pgLow r (disarmSeq r (sndDrop r s))
  let s := disarm (fun e => e == .targetReached r || e == .prebiasMeasured r || e == .backdrivePersist r) s
  let f := fun x : Rail =>
    let x := holdPos s x
    { x with
      seq := { x.seq with st := .stopped, cal := false, acting := false, delay := false, ramp := none, durOk := false,
                          measuring := false, sw := false, disch := false, pgArm := false }
      pos := { x.pos with tgtDue := false }
      tel := { x.tel with vout := 0, iout := 0 }
      eng := { x.eng with clampI := false }
      prot := { x.prot with rampPause := false, bdAct := false, bdClean := 0, negNow := false, sumNeg := false } }
  onRail r f s

/-- The rail's latch is as fresh as the present core cycle, or there is none: two trips in one core cycle both act
(R113, R242). Log entry 8, DESIGN CHOICE. -/
def latchOpen (s : State) (x : Rail) : Bool :=
  !latched x || x.trip.latchAt == some (cycle s) || x.prot.latchAt == some (cycle s)

/-- The event falls due in this core cycle. -/
def dueThisCycle (e : Instr) (s : State) : Bool := s.agenda.any fun d => d.ev == e && decide (d.at_ / 2 ≤ cycle s)

/-- Back-drive reaches BDTIME in this core cycle (R234). -/
def bdDue (r : RailId) (s : State) : Bool := s.rails[r].prot.bdAct && dueThisCycle (.backdrivePersist r) s

/-- Back-drive that reached BDTIME in the core cycle of another trip (R240, R242): its status bit, and its latch when no
protection latch stands. Log entry 8, DESIGN CHOICE. -/
def bdBeside (now : Nat) (due : Bool) (x : Rail) : Rail :=
  if !due then x
  else if x.prot.latched then { x with prot := { x.prot with bdFlt := true } }
  else { x with prot := { x.prot with bdFlt := true, latched := true, cause := 5, latchAt := some now } }

/-- Set the trip latch (R109 to R111, R119): TRIPLAT, CAUSE, WHERE; the accord at safe levels. A back-drive latch of the same core
cycle is set with it (R242). -/
def latchTrip (r : RailId) (c : RailCfg) (cause : BitVec 2) (wh : Nat) (s : State) : State :=
  let bd := bdDue r s
  let s := railHalt r s
  let f := fun x : Rail =>
    bdBeside (cycle s) bd { x with trip := { x.trip with latched := true, tripLat := true, cause := cause, wher := wh,
                                                         latchAt := some (cycle s) } }
  safeChans (accordChans c) (onRail r f s)

/-- A BTSF trip of bank `b` on a rail with a channel in it (R111, R113): the first cause stands, but a counter latch of
the same core cycle gives way, and its count is taken back. Log entry 8, DESIGN CHOICE. -/
def btsfLatch (r : RailId) (c : RailCfg) (b : Nat) (s : State) : State :=
  let x := s.rails[r]
  let same := x.trip.tripAt == some (cycle s)
  let back := fun x : Rail =>
    if same then { x with trip := { x.trip with count := x.trip.count - 1, tripAt := none } } else x
  if x.trip.latched then
    let s := onRail r (fun x => { x with trip := { x.trip with tripLat := true } }) s
    if x.trip.cause == 2 && same then
      onRail r (fun x => { back x with trip := { (back x).trip with cause := 3, wher := b } }) s
    else s
  else latchTrip r c 3 b (onRail r back s)

/-- Set the protection latch with a cause (R240); a later cause sets only its status bit, but sense open takes the
place of OV in one core cycle (R242). Log entry 8, DESIGN CHOICE. -/
def latchProt (r : RailId) (c : RailCfg) (cause : BitVec 3) (s : State) : State :=
  let x := s.rails[r]
  if x.prot.latched then
    if x.prot.latchAt == some (cycle s) && x.prot.cause == 1 && (cause == 3 || cause == 4) then
      onRail r (fun x => { x with prot := { x.prot with cause := cause } }) s
    else s
  else
    let bd := bdDue r s
    let s := railHalt r s
    let f := fun x : Rail =>
      bdBeside (cycle s) bd { x with prot := { x.prot with latched := true, cause := cause, latchAt := some (cycle s) } }
    safeChans (accordChans c) (onRail r f s)

/-! ## Maceration windows -/

/-- Start or restart the Maceration window of a rail (R256). -/
def macerRail (r : RailId) (s : State) : State :=
  match s.sealed.img with
  | none => s
  | some im =>
    if im.hadc.maceration = 0 then s
    else
      let m := s.hadc.mon
      rearm (im.hadc.maceration * 10 * usTicks) (.macerationEnd (some r))
        { s with hadc := { s.hadc with mon := { m with macRail := m.macRail ||| (1#24 <<< r.val) } } }

/-- A Blotter test that runs breaks off at the device window, in which tests do not run, and waits for its end (R256, R347).
Log entry 37, DEDUCED. -/
def blotBreak (s : State) : State :=
  let other := fun c : Conv => match c.user with | .blotter _ => false | _ => true
  if !s.nvl.testRun then s
  else { s with nvl := { s.nvl with testRun := false, testDue := true, onAt := none }
                hadc := { s.hadc with urgent := s.hadc.urgent.filter other } }

/-- Start or restart the device window (R256). -/
def macerDev (s : State) : State :=
  match s.sealed.img with
  | none => s
  | some im =>
    if im.hadc.maceration = 0 then s
    else
      let s := blotBreak s
      rearm (im.hadc.maceration * 10 * usTicks) (.macerationEnd none)
      { s with hadc := { s.hadc with mon := { s.hadc.mon with macDev := true } } }

/-- The Maceration window of rail `r` is in force. -/
def railMacer (s : State) (r : RailId) : Bool := s.hadc.mon.macRail.getLsbD r.val

/-- After a latch has been released: the rail becomes stopped when no latch is left, its channels take off level
unless the fatal hold keeps them safe, and its window starts (R115, R219, R241, R256, R297). -/
def releaseRail (r : RailId) (c : RailCfg) (s : State) : State :=
  if latched s.rails[r] then s
  else
    let s := onRail r (fun x =>
      { x with seq := { x.seq with st := .stopped }
               eng := { x.eng with on := false }
               prot := { x.prot with ovArm := false, uvArm := false } }) s
    let s := stopCarriers r c s
    macerRail r (if s.glb.latched then s else freeChans r c s)

/-! ## The fatal hold -/

/-- The fatal hold stopped the rail in this core cycle: a class U source of the same cycle still acts on it (R314).
Log entry 8, DESIGN CHOICE. -/
def haltedNow (s : State) (x : Rail) : Bool := x.prot.haltAt == some (cycle s)

/-- Back-drive has lasted BDTIME (R234). -/
def bdLatch (r : RailId) (c : RailCfg) (s : State) : State :=
  let x := s.rails[r]
  if x.prot.bdAct && latchOpen s x then
    latchProt r c 5 (onRail r (fun x => { x with prot := { x.prot with bdFlt := true } }) s)
  else s

/-- Every rail that is not latched stops with its channels at safe level (R297); a back-drive latch of the same core cycle is
set with it (R314). -/
def fatalRail (rc : RailId × RailCfg) (s : State) : State :=
  let x := s.rails[rc.1]
  let s := if latched x then s
    else if isStopped x then s
    else if bdDue rc.1 s then bdLatch rc.1 rc.2 (disarm (· == .backdrivePersist rc.1) s)
    else onRail rc.1 (fun x => { x with
      prot := { x.prot with haltAt := some (cycle s), haltOv := x.prot.ovArm, haltUv := x.prot.uvArm, ovArm := false
                            uvArm := false }
      eng := { x.eng with on := false } }) (stopCarriers rc.1 rc.2 (railHalt rc.1 s))
  safeChans (accordChans rc.2) s

/-- The class F sources are armed from the entry to READY until the start of a transition into STANDBY or OFF (R319). -/
def fatalArmed (s : State) : Bool := islandUp s && s.pwr.tgt != some .standby && s.pwr.tgt != some .off

/-- Enter the fatal hold (R297): CAUSE records the first source, or the first in order of one core cycle; a
release of the same core cycle is refused (R314). Log entry 8, DESIGN CHOICE. -/
def fatalEnter (cause : BitVec 3) (s : State) : State :=
  let g := { s.glb with fatalOcc := some (cycle s) }
  if g.latched then
    if g.fatalAt == some (cycle s) && decide (cause.toNat < g.cause.toNat) then { s with glb := { g with cause := cause } }
    else { s with glb := g }
  else
    let back := g.clrAt == some (cycle s)
    let s := { s with glb := { g with
      latched := true, cause := if back then g.clrCause else cause, clrRej := g.clrRej || back
      fatalAt := if back then none else some (cycle s) } }
    let s := forEach (configured s) fatalRail s
    let s := disarm (· == .runTimeout) s
    { s with
      pwr := { s.pwr with dev := .safe, tgt := none, runWait := false }
      hadc := { s.hadc with mon :=
        if s.hadc.mon.discForRun then { s.hadc.mon with discRun := false, discForRun := false } else s.hadc.mon } }

/-- A refusal through PWR_CMD. -/
def pwrReject (s : State) : State :=
  { s with pwr := { s.pwr with cmdRej := true, rejCnt := satInc 255 s.pwr.rejCnt } }

/-- The class F sources see this core cycle: they are armed, or a GOTO STANDBY or GOTO OFF of the same core cycle has disarmed
them; that command is then refused and the LEAVE it queued is taken back (R337). Log entry 8, DESIGN CHOICE. -/
def fatalFirst (s : State) : State :=
  if (s.pwr.tgt == some .standby || s.pwr.tgt == some .off) && s.pwr.goAt == some (cycle s) then
    pwrReject { s with pwr := { s.pwr with tgt := none, goAt := none }
                       nl := { s.nl with txq := s.nl.txq.filter fun f => f.ty != 5 } }
  else s

/-- A class F source is raised while armed: its status bit, then the hold. -/
def fatalRaise (cause : BitVec 3) (mark : Glb → Glb) (s : State) : State :=
  let s := fatalFirst s
  if fatalArmed s then fatalEnter cause { s with glb := mark s.glb } else s

end Sys2Proof.Machine
end

