-- ==== Sys2Proof/Machine/Adc.lean ====
section
/-! DEFINITION. The HADC's inputs and ranges (R247, R248), the start of a conversion (R253, R254) and the urgent requests of the
Blotter and the Atomiser (R44, R45). -/

namespace Sys2Proof.Machine

/-! ## Inputs and ranges (R247, R248) -/

/-- An internal input, which counts as low-impedance. -/
def inputInternal (i : Nat) : Bool := (decide (24 ≤ i) && decide (i < 56)) || (decide (80 ≤ i) && i != 92 && decide (i < 96))

/-- The legal range code of an input; none for an input without one. -/
def inputRange (i : Nat) : Option Nat :=
  if i < 24 then some 1 else if i < 32 then some 0 else if i < 56 then some 3 else if i < 80 then some 2
  else if i < 87 then some 0 else if i = 87 then some 1 else if i < 92 then some 3 else if i = 92 then some 1
  else if i = 95 then some 0 else none

/-- The USER value of an input in the schedule; none where no entry may name it. -/
def inputUser (i : Nat) : Option Nat :=
  if i < 32 then some 5 else if i < 56 then some 6 else if i < 80 then some 7 else if i < 88 then some 4
  else if i < 91 then some 3 else if i = 92 then some 3 else none

/-- Span of a range in µV over 4,096 codes. -/
def rangeSpan (r : Nat) : Int := match r with | 0 => 1200000 | 1 => 4800000 | 2 => 2400000 | _ => 300000

/-- The code of `v` µV in a range: round to nearest, an input beyond the span gives the end code (R247, R455).
Log entry 7, DESIGN CHOICE. -/
def hadcCode (r : Nat) (v : Int) : Int :=
  let c := roundDiv (4096 * v) (rangeSpan r)
  if r < 2 then clampI 0 4095 c else clampI (-2048) 2047 c

/-! ## Conversions and urgent requests -/

/-- The HADC runs: the island is up and the control domain answers. -/
def hadcUp (s : State) : Bool := ctlUp s

/-- Start a conversion: its SETTLING and RANGESET marks are decided by the conversions before it (R253, R254). -/
def convStart (now : Nat) (user : ConvUser) (input range : Nat) (lowz : Bool) (h : Hadc) : Hadc :=
  let settling := match user with
    | .settle _ => true
    | _ => !lowz && h.lastInput != some input
  let (last, rem) := h.ranges.getD input (none, 0)
  let chg := match last with | some q => q != range | none => false
  { h with conv := some ⟨input, range, user, settling, chg || decide (0 < rem), now, 0⟩, lastInput := some input
           ranges := modAt h.ranges input fun _ => (some range, if chg then 1 else rem - 1) }

/-- Is the request of the Blotter (R44 priority 1). -/
def isBlotter (c : Conv) : Bool := match c.user with | .blotter _ => true | _ => false

/-- Is an urgent request. -/
def isUrgent (c : Conv) : Bool := match c.user with | .blotter _ => true | .atomiser _ _ => true | _ => false

/-- The conversion in progress gives way to an urgent request (R45, R257): a self-test is abandoned, and the Blotter goes
before an Atomiser conversion of the same core cycle. Log entry 8, DESIGN CHOICE. -/
def yields (now : Nat) (c v : Conv) : Bool :=
  v.user == .selfTest || (isBlotter c && !isBlotter v && isUrgent v && v.start / 2 == now / 2)

/-- Start an urgent conversion. -/
def urgentStart (now : Nat) (u : Conv) (h : Hadc) : Hadc :=
  let h := convStart now u.user u.input u.range true h
  { h with conv := h.conv.map fun v => { v with wait := now - u.start } }

/-- The range of an urgent request: that of its input; 0b11 for the difference path of the Blotter, number 96 here (R347). -/
def urgentRange (input : Nat) : Nat := if input = 96 then 3 else (inputRange input).getD 0

/-- An urgent request: it waits for the conversion in progress; the Blotter goes before the Atomiser (R44, R45, R257). A free
converter takes it at once. -/
def urgentReq (user : ConvUser) (input : Nat) (s : State) : State :=
  let h := s.hadc
  let c : Conv := ⟨input, urgentRange input, user, false, false, s.now, 0⟩
  let back := match h.conv with | some v => if yields s.now c v && isUrgent v then [v] else [] | none => []
  let l := h.urgent ++ back
  let q := l.filter isBlotter ++ (if isBlotter c then [c] else []) ++ l.filter (fun c => !isBlotter c)
    ++ if isBlotter c then [] else [c]
  let free := match h.conv with | some v => yields s.now c v | none => true
  let h' := if free then
      match q with
      | u :: us => urgentStart s.now u { h with urgent := us }
      | [] => h
    else { h with urgent := q }
  { s with hadc := h' }

end Sys2Proof.Machine
end

