-- ==== Sys2Proof/Machine/Energy.lean ====
section
/-! DEFINITION. Hold-up energy (R346 to R350): the Blotter's arithmetic and the two views of the coulomb counter, exact, in
units of nF, µV / 32 (a voltage is then a whole number at every code of input 87 and its mean), nF × µV / 32 of charge and
2^-10 × 10^-21 J. -/

namespace Sys2Proof.Machine

/-- One µV in the unit of voltage. -/
def uvUnit : Nat := 32

/-- VSTOP: 10 mV units from 270 to 600, other values act as the nearer limit (R356). -/
def vstopU (v : BitVec 10) : Nat := clampN 270 600 v.toNat * 10000 * uvUnit

/-- BPERIOD in DPWM ticks: 10 ms units from 10 to 6,000 (R356). -/
def bperiodTicks (v : BitVec 16) : Nat := clampN 10 6000 v.toNat * 10000 * usTicks

/-- VHOLD at a code of input 87 at range 0b01: 4 × code × 4.8 V / 4,096 (R346, R347). -/
def vhOf (code : Int) : Nat := code.toNat * 150000

/-- 0.45 × C × (V² − VSTOP²); 0 when V lies below VSTOP (R348, R349). -/
def energyOf (c : Frac) (v vstop : Nat) : Frac := ⟨45 * c.num * (v * v - vstop * vstop), 100 * c.den⟩

/-- 1.2 mJ. -/
def recEnergy : Nat := 12 * 10 ^ 17 * 1024

/-- 10 µJ, the unit of EAVL and EC (R356). -/
def tenMicroJ : Nat := 10 ^ 16 * 1024

/-- 1 µC, the unit of NVL_COUNT.Q (R356). -/
def microC : Nat := 10 ^ 9 * uvUnit

/-- An energy below 1.2 mJ: empty (R348, R349). -/
def tooLow (e : Frac) : Bool := decide (e.num < recEnergy * e.den)

/-- C = I × Δt / ΔV in nF: 20 mA, Δt in core cycles, ΔV by its HADC code of 150 mV / 2048 / 8 (R247, R347, R348).
Log entry 35, DEDUCED. -/
def capFrac (dt code : Nat) : Frac := ⟨2048000 * dt, 375 * code⟩

/-- Q = C × (VH − VSTOP), floored at 0 (R349). -/
def qLoad (c : Frac) (vh vstop : Nat) : Frac := ⟨c.num * (vh - vstop), c.den⟩

/-- Q less QREC = 1.2 mJ / VSTOP, floored at 0 (R349). -/
def qDebit (q : Frac) (vstop : Nat) : Frac := ⟨q.num * vstop - recEnergy * q.den, q.den * vstop⟩

/-- The counter's energy view E_c = 0.45 × C × (Vc² − VSTOP²) with Vc = VSTOP + Q / C, that is
0.45 × (2 × VSTOP × Q + Q² / C) (R349). -/
def eCounter (n : Nvl) : Frac :=
  let v := vstopU n.vstop
  if n.cap.num = 0 then {}
  else ⟨45 * (2 * v * n.q.num * n.q.den * n.cap.num + n.q.num * n.q.num * n.cap.den), 100 * n.q.den * n.q.den * n.cap.num⟩

/-- The voltage view E_v for a VHOLD of `v` (R349). -/
def eVoltage (n : Nvl) (v : Nat) : Frac := energyOf n.cap v (vstopU n.vstop)

/-- NVL_COUNT: both fields to the nearest unit, saturating (R356, R455). Log entry 37, DEDUCED. -/
def nearest (f : Frac) (unit : Nat) : Nat := min 65535 (roundNat f.num (f.den * unit))

end Sys2Proof.Machine
end

