-- ==== Sys2Proof/Machine/RegRead.lean ====
section
/-! DEFINITION. What every register reads: the word of an address (R9, R416 to R426 and the field maps of each block), as
a function of the state, without the side effects of a read. -/

namespace Sys2Proof.Machine

/-! ## Addresses -/

/-- Page of a register address (R9): the high byte. -/
def pageOf (a : BitVec 16) : Nat := a.toNat / 256

/-- Offset of a register address: the low byte. -/
def offOf (a : BitVec 16) : Nat := a.toNat % 256

/-! ## Codes -/

/-- Device state code (R318, R338). -/
def DevSt.code : DevSt → Nat
  | .off => 0 | .standby => 1 | .ready => 2 | .run => 3 | .safe => 4

/-- CH_CTRL.STATE code (R117). -/
def ChSt.code : ChSt → Nat
  | .noAccord => 0 | .stopped => 1 | .switching => 2 | .shed => 3 | .bypassed => 4 | .safe => 5 | .cycleTerm => 6

/-- CH_ISNS.MARK code (R182). -/
def IMark.code : IMark → Nat
  | .none => 0 | .bref => 1 | .bypass => 2 | .offcal => 3 | .noacc => 4 | .pairls => 5

/-- Modulation code (R64, R147). -/
def modeCode : ModMode → Nat
  | .ffvm => 0 | .cori => 1 | .hyb => 2

/-- HADC mark code (R252). -/
def HMark.code : HMark → Nat
  | .none => 0 | .settling => 1 | .rangeset => 2 | .filling => 3 | .macer => 4

/-- IMG_STATUS.PHASE code (R87). -/
def ImgPhase.code : ImgPhase → Nat
  | .idle => 0 | .reading => 1 | .checking => 2 | .committing => 3 | .staging => 4 | .erasing => 5 | .writing => 6
  | .checkingSlot => 7

/-- PORTS.PROTO code (R70). -/
def protoCode : Proto → Nat
  | .unused => 0 | .vsel => 1 | .avs => 2 | .vcmd2 => 3 | .vcmd1 => 4

/-- NVL_BLOT.RESULT code (R356). -/
def BlotRes.code : BlotRes → Nat
  | .none => 0 | .pass => 1 | .low => 2 | .invalid => 3

/-- TMR_STAT.STATE code (R360). -/
def TmrSt.code : TmrSt → Nat
  | .idle => 0 | .armed => 1 | .running => 2 | .done => 3

/-- NL_STATUS.ROLE code (R414). -/
def NlRole.code : NlRole → Nat
  | .listening => 0 | .master => 1 | .follower => 2 | .free => 3

/-! ## Rail pages (R423) -/

/-- Trims are frozen: a bank that holds an active phase is in a disturbance period (R161). -/
def trimFrozen (s : State) (c : RailCfg) (x : Rail) : Bool :=
  (active c x).any fun q =>
    match toFin 24 (bankOf (c.acc.phase.getD q 0)) with
    | some b => s.banks[b].brefMark
    | none => false

/-- The trim in force at a position: 0 when it is not active (R181). -/
def trimAt (c : RailCfg) (x : Rail) (q : Nat) : Int := if (active c x).contains q then x.sh.trim.getD q 0 else 0

/-- The telemetry of a rail is held under R391. -/
def telMacer (s : State) (r : RailId) : Bool := railMacer s r || s.hadc.mon.macDev

/-- RAIL_TVOUT.VOUT: 0 while the rail is not switching (R391, R422). -/
def tvout (x : Rail) : Nat := if x.seq.sw then x.tel.vout else 0

/-- RAIL_TIOUT.IOUT: 0 while the rail is not switching. -/
def tiout (x : Rail) : Int := if x.seq.sw then x.tel.iout else 0

/-- RAIL_THROT.ATFLOOR (R294). -/
def atFloor (c : RailCfg) (x : Rail) : Bool := x.lim.throttled && x.lim.thr == throtFloor c

/-- The Sillage entry at INDEX; 0 when it is not readable (R312). -/
def silEntry (x : Rail) : BitVec 64 := if x.sil.frozen then x.sil.entries.getD x.sil.index.toNat 0 else 0

/-- A Sillage read at INDEX is refused (R312). -/
def silRefused (x : Rail) : Bool := !x.sil.frozen || decide (x.sil.entries.length ≤ x.sil.index.toNat)

/-- The position rises (RAIL_VPOS.DIR, R216): the present move does, or, while none runs, TARGET lies above. -/
def rising (s : State) (x : Rail) : Bool :=
  let p := posNow s x
  let goal := decide (p < x.pos.target.toNat * posUnit)
  match x.pos.moves with
  | m :: _ => if p = m.dest then goal else decide (p < m.dest)
  | [] => goal

/-- The registers of a configured rail's page. -/
def railWord (s : State) (r : RailId) (c : RailCfg) (off : Nat) : Option Word :=
  let x := s.rails[r]
  match off with
  | 0x00 => some (mkWord [bitf 31 x.eng.esat, bitf 30 x.eng.sndfb, bitf 29 x.eng.marked, bitf 28 x.eng.clampI,
      bitf 27 (x.eng.comp.u == dlo c || x.eng.comp.u == dhi c), bitf 26 x.eng.slrq,
      fld 24 2 (modeCode x.eng.mode), fld 16 6 x.sh.nact, fld 0 16 x.eng.markCnt])
  | 0x04 => some (mkWord [bitf 31 x.eng.mark, bitf 30 x.eng.sat, fld 16 10 (twos 10 x.eng.code),
      fld 0 16 (s16 x.eng.errReg)])
  | 0x08 => some (mkWord [fld 16 16 x.eng.centre, fld 0 16 x.eng.recnt])
  | 0x0C => some (mkWord [fld 16 16 (dutyWord x.eng.comp.d), fld 0 16 (dutyWord x.eng.comp.u)])
  | 0x10 => some (mkWord [x.eng.lline.toNat])
  | 0x14 => some (mkWord [fld 24 2 x.coef.cmode.toNat, fld 19 5 x.coef.shift.toNat, bitf 18 x.coef.fallbk,
      fld 11 3 x.coef.hil.toNat, fld 8 3 x.coef.hic.toNat, fld 0 7 x.coef.sel])
  | 0x18 => some (mkWord [(x.coef.shadow.getD 0 0).toNat])
  | 0x1C => some (mkWord [(x.coef.shadow.getD 1 0).toNat])
  | 0x20 => some (mkWord [(x.coef.shadow.getD 2 0).toNat])
  | 0x24 => some (mkWord [(x.coef.shadow.getD 3 0).toNat])
  | 0x28 => some (mkWord [(x.coef.shadow.getD 4 0).toNat])
  | 0x2C => some (mkWord [(x.coef.shadow.getD 5 0).toNat])
  | 0x30 => some (mkWord [(x.coef.shadow.getD 6 0).toNat])
  | 0x34 => some (mkWord [fld 16 16 x.eng.coriCnt, fld 0 16 x.eng.comp.rip])
  | 0x40 => some (mkWord [bitf 31 (isumHeld c x), bitf 30 (isumComplete c x), fld 0 16 (s16 (isumOf c x))])
  | 0x44 => some (mkWord [fld 24 4 x.sh.tshift.toNat, fld 0 6 x.sh.forcen.toNat])
  | 0x48 => some (mkWord [bitf 31 x.sh.trimSat, bitf 30 x.sh.phRej, bitf 29 x.sh.ofsClip, bitf 28 (trimFrozen s c x),
      bitf 27 x.sh.rotate, bitf 26 x.eng.clampI, fld 21 5 x.sh.rot, fld 16 5 x.sh.satPos, fld 8 6 (navl c x),
      fld 0 6 x.sh.nact])
  | 0x4C => some (mkWord [fld 16 16 (s16 (ished x)), fld 0 16 x.sh.dwCnt])
  | 0x50 => some 0
  | 0x54 => some (mkWord [bitf 31 x.ph.busy, fld 16 8 x.ph.rejCnt, fld 8 5 x.ph.pos, x.ph.result.toNat])
  | 0x58 => some x.sh.bypass
  | 0x5C => some (mkWord [fld 24 5 x.ph.trimRd.toNat, fld 0 16 (twos 16 (trimAt c x x.ph.trimRd.toNat))])
  | 0x60 => some (mkWord [fld 30 2 x.pos.src.toNat, bitf 29 x.pos.hrej, x.pos.target.toNat])
  | 0x64 => some (mkWord [x.pos.slew.toNat])
  | 0x68 => some (mkWord [bitf 31 (moving s x),
      bitf 30 (moving s x && rising s x), bitf 29 (raiseFrozen s),
      fld 0 16 (posNow s x / posUnit)])
  | 0x6C => some (mkWord [fld 16 16 c.eng.vmax, fld 0 16 c.eng.vmin])
  | 0x70 => some (mkWord [bitf 31 x.lim.stepping, fld 28 3 (ilimSrc c x), fld 0 16 (ilimEff c x)])
  | 0x74 => some (mkWord [bitf 31 x.trip.latched, bitf 29 x.trip.clrRej, bitf 28 x.trip.tripLat,
      fld 16 8 (if c.acc.nph ≤ 8 then 0 else c.cur.tripn), fld 8 8 x.trip.count, fld 6 2 x.trip.cause.toNat,
      fld 0 6 x.trip.wher])
  | 0x78 => some (mkWord [bitf 23 x.seq.seqRej, bitf 22 x.seq.pgChg, bitf 21 x.seq.pgPin, bitf 20 x.seq.pgArm,
      bitf 19 x.seq.discHold, fld 16 3 (railState x), fld 12 4 x.seq.rejCnt, fld 8 4 x.seq.smIdx, bitf 7 x.seq.table])
  | 0x7C => some (mkWord [bitf 31 x.prot.latched, bitf 29 x.prot.clrRej, bitf 28 x.prot.ovFlt, bitf 27 x.prot.uvFlt,
      bitf 26 x.prot.snsOpen, bitf 25 x.prot.bdFlt, bitf 24 x.prot.negLim, bitf 23 x.prot.ovRaw, bitf 22 x.prot.uvRaw,
      bitf 21 x.prot.snsP, bitf 20 x.prot.snsN, bitf 19 x.prot.bdAct, bitf 18 (x.prot.uvArm && !latched x),
      bitf 17 x.prot.rampPause, fld 8 8 x.prot.negCnt, fld 0 3 x.prot.cause.toNat])
  | 0x80 => some (mkWord [fld 16 16 (outLevel c (ovSetting c s x)), fld 0 16 (outLevel c (uvSetting c s x))])
  | 0x84 => some (mkWord [bitf 31 x.sns.valid, fld 16 10 x.sns.rline, fld 0 16 x.sns.measCnt])
  | 0x88 => some (mkWord [fld 16 16 x.lim.goal, fld 0 16 x.lim.bud])
  | 0x8C => some (mkWord [bitf 31 x.lim.throttled, bitf 30 x.lim.rising, bitf 29 (atFloor c x), fld 0 16 x.lim.thr])
  | 0x90 => some (mkWord [bitf 22 x.snd.pend, bitf 21 x.snd.run, bitf 20 x.snd.valid, fld 16 4 x.snd.cause.toNat,
      x.snd.dt.toNat])
  | 0x94 => some (mkWord [fld 16 16 x.snd.l, fld 0 16 x.snd.c])
  | 0x98 => some (mkWord [fld 16 16 x.snd.di, fld 0 16 x.snd.dv])
  | 0xA0 => some (mkWord [bitf 31 x.sil.frozen, bitf 28 x.sil.rdErr, fld 16 9 x.sil.event.toNat,
      fld 0 13 x.sil.entries.length])
  | 0xA4 => some (mkWord [x.sil.index.toNat])
  | 0xA8 => some ((silEntry x).setWidth 32)
  | 0xAC => some (((silEntry x) >>> 32).setWidth 32)
  | 0xB0 => some (mkWord [bitf 31 (telMacer s r), fld 0 16 (tvout x)])
  | 0xB4 => some (mkWord [bitf 31 (telMacer s r), fld 0 16 (s16 (tiout x))])
  | _ => none

/-- The registers of an unconfigured rail's page read their Reset values (R417, R423). -/
def railResetWord (off : Nat) : Option Word :=
  if off % 4 ≠ 0 ∨ off = 0x38 ∨ off = 0x3C ∨ off = 0x9C ∨ 0xB8 ≤ off then none
  else if off = 0x44 then some 0x0C000000#32 else if off = 0x90 then some 0x00000800#32 else some 0

/-! ## Ports (R425) -/

/-- A rail entry of PORT_MAP (R217). -/
def mapByte (s : State) (p : PortId) (i : Nat) : Nat :=
  match localRail s p i with | some r => r.val | none => 0xFF

/-- DPWM ticks from the start of a frame to its apply point (R204): in VCMD-2 300 core cycles after the edge that captures the start,
5.0 ns to 7.5 ns after it. Log entry 21, DESIGN CHOICE. -/
def frameTicks (pr : Proto) (p : PortId) (k : Nat) : Nat :=
  if pr = .vcmd2 then 604 + Config.frameLead p.val k % 3 else Config.frameLead p.val k

/-- The next frame of a port has started and has not reached its apply point (R204, R217); one that starts before the unit answers is
discarded (R32). Log entry 21, DESIGN CHOICE. -/
def frameRuns (s : State) (p : PortId) (pr : Proto) : Bool :=
  let k := s.ports[p].frames
  let apply := Config.frameApply p.val k s.pwr.ifFrom
  decide (s.pwr.ifFrom + frameTicks pr p k ≤ apply) && decide (apply ≤ s.now + frameTicks pr p k) && decide (s.now < apply)

/-- PORT_STATUS.BUSY: a frame of the port has started, or the response slot of the last one runs (R217).
Log entry 21, DESIGN CHOICE. -/
def portBusy (s : State) (p : PortId) : Bool :=
  decide (s.now < s.ports[p].busyTo) || match portCfg s p with
    | some pc => pc.proto != .unused && pc.proto != .vsel && frameRuns s p pc.proto
    | none => false

/-- The registers of a port page. Log entry 21, DESIGN CHOICE. -/
def portWord (s : State) (p : PortId) (off : Nat) : Option Word :=
  let x := s.ports[p]
  match off with
  | 0x00 => match portCfg s p with
    | none => some 0
    | some pc => some (mkWord [fld 24 3 (protoCode pc.proto), fld 22 2 pc.step, fld 16 4 pc.nrail])
  | 0x04 => some (mkWord [mapByte s p 0, fld 8 8 (mapByte s p 1), fld 16 8 (mapByte s p 2), fld 24 8 (mapByte s p 3)])
  | 0x08 => some (mkWord [mapByte s p 4, fld 8 8 (mapByte s p 5), fld 16 8 (mapByte s p 6), fld 24 8 (mapByte s p 7)])
  | 0x0C => some (mkWord [bitf 31 x.rej, bitf 30 x.linkErr, bitf 29 x.hostOvr, bitf 28 x.raiseFrz,
      fld 26 2 x.linkCause.toNat, bitf 25 (portBusy s p), fld 16 3 x.vselIdx.toNat, fld 8 4 x.lastAck.toNat])
  | 0x10 => some (mkWord [fld 24 8 x.rejCnt, fld 16 8 x.errCnt, fld 0 16 x.accepted])
  | 0x14 => some (mkWord [x.budget.toNat])
  | _ => none

/-! ## Banks (R424) -/

/-- Bits j of the channels of a bank that satisfy `f`. -/
def bankMask (s : State) (b : BankId) (f : Chan → Bool) : Nat :=
  ((List.range 8).map fun j => bitf j (match toFin 192 (8 * b.val + j) with
    | some ch => f s.chans[ch]
    | none => false)).sum

/-- CH_CTRL (R117). -/
def chCtrl (s : State) (ch : ChanId) : Word :=
  match owner s ch with
  | none => 0x3F000000#32
  | some (r, c, q, odd) =>
    let m := if !c.acc.pair then 1 else if odd then 3 else 2
    mkWord [fld 30 2 m, fld 24 6 r.val, fld 19 5 q, fld 16 3 s.chans[ch].st.code, fld 14 2 (c.acc.safe.getD q 0),
      bitf 13 (s.rails[r].eng.mode == .cori), bitf 12 true]

/-- The registers of one channel. -/
def chanWord (s : State) (ch : ChanId) (k : Nat) : Word :=
  let x := s.chans[ch]
  match k with
  | 0 => chCtrl s ch
  | 1 => mkWord [fld 0 19 x.cmpOn]
  | 2 => mkWord [fld 0 19 x.cmpOff]
  | _ => mkWord [bitf 31 x.lateOn, bitf 30 x.lateOff, bitf 29 x.cmpClip, bitf 28 x.cbc, bitf 27 x.rawTrip,
      fld 0 19 x.ofs]

/-- CH_ISNS and CH_ICAL (R182). -/
def isnsWord (x : Chan) : Word := mkWord [fld 29 3 x.mark.code, fld 16 10 (twos 10 x.code), fld 0 16 (s16 x.amps)]

/-- CH_ICAL (R182). -/
def icalWord (s : State) (ch : ChanId) : Word :=
  mkWord [fld 16 16 (twos 16 (gainOf s ch.val s.chans[ch].band)), fld 0 10 (twos 10 s.chans[ch].iofs)]

/-- BANK_DISC and BANK_DISC_LAST (R276). -/
def discWord (valid un : Bool) (cls : BitVec 24) : Word := mkWord [bitf 31 valid, bitf 30 un, cls.toNat]

/-- The registers of a bank page. -/
def bankWord (s : State) (b : BankId) (off : Nat) : Option Word :=
  let x := s.banks[b]
  if off % 4 ≠ 0 then none
  else if off < 0x80 then (toFin 192 (8 * b.val + off / 16)).map fun ch => chanWord s ch (off % 16 / 4)
  else if 0xA0 ≤ off ∧ off < 0xC0 then (toFin 192 (8 * b.val + (off - 0xA0) / 4)).map fun ch => isnsWord s.chans[ch]
  else if 0xC0 ≤ off ∧ off < 0xE0 then (toFin 192 (8 * b.val + (off - 0xC0) / 4)).map fun ch => icalWord s ch
  else match off with
  | 0x80 => some (mkWord [bitf 31 x.btsfFlt, bitf 30 x.syncErr, bitf 29 x.late, bitf 28 x.btsfRaw,
      fld 16 8 (bankMask s b fun c => c.st == .safe), fld 8 8 (bankMask s b fun c => c.st == .cycleTerm),
      bankMask s b fun c => c.st == .switching || c.st == .cycleTerm])
  | 0x84 => some (mkWord [bitf 31 x.brefDist, bitf 30 x.brefMark, bitf 29 x.brefWin, fld 0 16 x.distCnt])
  | 0x88 => some (mkWord [bitf 23 x.bistRun, bitf 22 x.bistDone, bitf 21 x.bistPass, bitf 20 x.bistRej,
      fld 16 4 x.bistRejCnt, fld 8 8 x.failMap.toNat, fld 4 4 x.failItem.toNat])
  | 0x8C => some (discWord x.discValid x.discUnattr x.discClass)
  | 0x90 => some (discWord x.lastValid x.lastUnattr x.lastClass)
  | _ => none

/-! ## Global pages (R426) -/

/-- GLB_STATUS (R315). -/
def glbStatus (s : State) : Word :=
  let g := s.glb
  mkWord [bitf 31 g.pllLock, bitf 30 g.dllLock, bitf 29 g.dpwmClk, bitf 28 g.vddBo, bitf 27 g.vddaBo, bitf 26 g.cfgUnc,
    bitf 25 g.cfgCor, bitf 24 g.refFb, bitf 23 g.slowClk, bitf 22 g.wdRst, bitf 21 g.accErr, bitf 20 g.sealWr,
    bitf 19 s.tap.ftm]

/-- GLB_FATAL (R315). -/
def glbFatal (s : State) : Word :=
  mkWord [bitf 23 s.glb.latched, bitf 21 s.glb.clrRej, fld 0 3 s.glb.cause.toNat]

/-- A trace FIFO is empty before the pushes of the present core cycle: a read comes before them (R432). Log entry 8, DESIGN CHOICE. -/
def fifoVoid (s : State) (x : Tfifo) : Bool := decide (x.entries.length ≤ freshNow s x)

/-- The head of a trace FIFO; 0 when it is empty (R421). -/
def fifoHead (s : State) (f : FifoId) : BitVec 64 := if fifoVoid s s.fifo[f] then 0 else s.fifo[f].entries.headD 0

/-- The registers of page 0x00. -/
def glbWord (s : State) (off : Nat) : Option Word :=
  if off % 4 ≠ 0 then none
  else if 0x40 ≤ off ∧ off < 0xC0 then
    (toFin 16 ((off - 0x40) / 8)).map fun f =>
      if off % 8 = 0 then (fifoHead s f).setWidth 32 else ((fifoHead s f) >>> 32).setWidth 32
  else match off with
  | 0x00 => some 0x00006192#32
  | 0x04 => some Config.rev
  | 0x08 => some (Config.uid.setWidth 32)
  | 0x0C => some ((Config.uid >>> 32).setWidth 32)
  | 0x10 => some (glbStatus s)
  | 0x14 => some (glbFatal s)
  | 0x18 => some (mkWord [fld 24 6 s.glb.part, fld 0 16 s.glb.corCnt])
  | 0xC0 => some (mkWord ((s.fifo.toList.zipIdx.map fun p => bitf (16 + p.2) (!p.1.entries.isEmpty))
      ++ s.fifo.toList.zipIdx.map fun p => bitf p.2 p.1.ovf))
  | _ => none

/-- PWR_STATE (R338): in OFF and STANDBY, where the responder reports the state (R318), it holds its Reset value. -/
def pwrState (s : State) : Word :=
  if islandUp s then mkWord [bitf 31 s.pwr.tgt.isSome, fld 24 3 (s.pwr.tgt.getD s.pwr.dev).code, s.pwr.dev.code]
  else 0x02000002#32

/-- PWR_KA bits 15:0 (R338). -/
def pwrKa (s : State) : Nat :=
  bitf 15 s.ka.supTo + bitf 14 s.ka.pllTo + bitf 13 s.ka.dllTo + bitf 12 s.ka.kaRej + fld 10 2 s.ka.wakeSrc.toNat
    + fld 5 3 s.ka.rstCause.toNat + s.pwr.dev.code

/-- Core clock cycles in a millisecond (R27). -/
def msCycles : Nat := 400000

/-- The watchdog counts: it runs, the control domain is neither held nor in debug halt (R335). -/
def wdogCounts (s : State) : Bool := s.pwr.wdRun && !s.tap.halted && !s.pwr.ctlHeld

/-- The registers of page 0x01. Log entry 16, DEDUCED. -/
def pwrWord (s : State) (off : Nat) : Option Word :=
  let p := s.pwr
  match off with
  | 0x00 => some (pwrState s)
  | 0x04 => some 0
  | 0x08 => some (mkWord [bitf 31 p.cmdRej, bitf 30 p.runTo, bitf 29 p.retLost, bitf 28 p.stbyAbt, fld 16 8 p.rejCnt,
      fld 0 16 p.wakeTime])
  | 0x0C => some (mkWord [bitf 31 p.refReg, bitf 30 p.pllLk, bitf 29 p.dllLk, fld 20 4 p.pllTry, fld 16 4 p.dllTry])
  | 0x10 => some 0
  | 0x14 => some (mkWord [bitf 22 (wdogCounts s), fld 0 16 (p.wdog / msCycles)])
  | 0x18 => some (mkWord [pwrKa s])
  | _ => none

/-- GEN in a Flacon trailer as IMG_GEN_A and IMG_GEN_B report it are held in the loader; the sealed image's in IMG_GEN. -/
def imgWord (s : State) (off : Nat) : Option Word :=
  let i := s.img
  match off with
  | 0x00 => some 0
  | 0x04 => some (mkWord [bitf 31 i.cmdErr, bitf 30 i.loadErr, bitf 29 i.fallback, bitf 28 (!isSealed s),
      fld 8 8 i.rejCnt, i.phase.code])
  | 0x08 => some (mkWord [bitf 31 (isSealed s), bitf 30 s.sealed.auth, fld 28 2 s.sealed.source.toNat,
      bitf 27 s.sealed.loadPend, match s.sealed.img with | some im => fld 0 8 im.epoch | none => 0])
  | 0x0C => some (mkWord [s.sealed.patched.toNat])
  | 0x10 => some (mkWord [i.errCode.toNat, fld 8 8 i.errType.toNat, fld 16 8 i.errInst.toNat])
  | 0x14 => some i.claimA
  | 0x18 => some i.claimB
  | 0x1C => some i.errRes
  | 0x20 => some 0
  | 0x24 => some (BitVec.ofNat 32 i.count)
  | 0x28 => some (match s.sealed.img with | some im => BitVec.ofNat 32 im.gen | none => 0)
  | 0x2C => some i.genA
  | 0x30 => some i.genB
  | 0x34 => some (mkWord [s.otp.revoked.toNat, bitf 8 s.otp.authReq, fld 16 7 s.otp.fuses])
  | _ => none

/-- VREFX is present: the schedule holds inputs 89, 90 and 92 (R259). -/
def xpres (s : State) : Bool :=
  [89, 90, 92].all fun i => (hadcEntries s).any fun e => e.chan == i

/-- HADC_SCHRESi (R274); while the control domain is held by its reset the Reset value stands (R14). -/
def schresWord (s : State) (i : Nat) : Word :=
  match (hadcEntries s)[i]? with
  | none => 0
  | some e =>
    let x := s.hadc.res.getD i {}
    if s.pwr.ctlHeld then 0
    else mkWord [fld 29 3 x.mark.code, fld 16 7 e.chan, fld 0 16 (twos 16 x.mean)]

/-- Milliseconds of the present disagreement (R274, R455): 16 bits, saturating. -/
def persistMs (s : State) : Nat :=
  match s.hadc.mon.since with
  | none => 0
  | some t => min 65535 (roundNat (s.now - t) (1000 * usTicks))

/-- The single-channel discovery of a RESTORE runs (R177, R267). -/
def restoring (s : State) : Bool := s.rails.toList.any fun x => x.ph.resPos.isSome && x.ph.resDue.isNone

/-- The registers of page 0x03. -/
def hadcWord (s : State) (off : Nat) : Option Word :=
  let q := s.hadc.req
  let m := s.hadc.mon
  if off % 4 ≠ 0 then none
  else if 0x40 ≤ off then some (schresWord s ((off - 0x40) / 4))
  else match off with
  | 0x00 => some (mkWord [bitf 30 q.ovr, bitf 29 q.reqRej, bitf 28 (q.pendHost || q.pendTmr), bitf 24 q.lowz,
      fld 22 2 q.range.toNat, fld 8 5 q.tsel.toNat, bitf 7 q.trigTmr, q.chan.toNat])
  | 0x04 => some (mkWord [fld 29 3 q.resMark.code, bitf 28 q.resSrc, fld 16 7 q.resChan, q.resCode.toNat])
  | 0x08 => some (mkWord [bitf 31 m.skip, bitf 30 m.stFail, bitf 29 m.supWarn, bitf 28 m.refSw, bitf 27 m.refFrz,
      bitf 26 m.discDone, bitf 25 m.discFlt, fld 8 8 m.supLive.toNat, fld 0 8 m.stCnt])
  | 0x0C => some (mkWord [bitf 29 m.freeze, bitf 28 (xpres s), fld 26 2 m.active.toNat, fld 24 2 m.excl.toNat,
      fld 22 2 m.odd.toNat, persistMs s])
  | 0x14 => some (mkWord [bitf 31 m.macDev, m.macRail.toNat])
  | 0x18 => some (mkWord [fld 8 7 s.hadc.avgEntry.toNat, s.hadc.avgCode.toNat])
  | 0x20 => some 0
  | 0x24 => some (mkWord [bitf 31 (m.discRun || restoring s), bitf 30 m.discRej, m.doneMask.toNat])
  | _ => none

/-- THM_JUNC (R293). -/
def thmJunc (s : State) : Word :=
  mkWord [bitf 31 s.thm.tjValid, bitf 30 (winOpen s), fld 24 3 s.thm.band, fld 16 3 s.thm.jsrc,
    fld 0 16 (twos 16 s.thm.tj)]

/-- The registers of page 0x04. -/
def thmWord (s : State) (off : Nat) : Option Word :=
  let t := s.thm
  if off % 4 ≠ 0 then none
  else if 0x40 ≤ off ∧ off < 0xC0 then
    t.sens[(off - 0x40) / 4]?.map fun x =>
      mkWord [bitf 31 x.valid, bitf 30 (sensorHot x), bitf 29 x.rorx, fld 16 12 (twos 12 x.rate),
        fld 0 16 (twos 16 x.temp)]
  else match off with
  | 0x00 => some (mkWord [bitf 31 t.tshut, bitf 30 t.sensFlt, bitf 29 t.rorx, bitf 28 t.throt, bitf 27 t.bandChg,
      bitf 26 t.winRef])
  | 0x04 => some (thmJunc s)
  | 0x08 => some (mkWord [t.sthot.toNat])
  | 0x0C => some (mkWord (t.sens.zipIdx.map fun p => bitf p.2 (sensorHot p.1)))
  | 0x10 => some (mkWord [throtMask s])
  | _ => none

/-- NVL_BLOT (R356). -/
def nvlBlot (s : State) : Word := mkWord [fld 30 2 s.nvl.result.code, fld 16 14 s.nvl.capUf, fld 0 16 s.nvl.eavl]

/-- NVL_COUNT (R356). -/
def nvlCount (s : State) : Word :=
  mkWord [fld 16 16 (nearest s.nvl.q microC), fld 0 16 (nearest (eCounter s.nvl) tenMicroJ)]

/-- The registers of page 0x05. -/
def nvlWord (s : State) (off : Nat) : Option Word :=
  let n := s.nvl
  match off with
  | 0x00 => some 0
  | 0x04 => some (mkWord [fld 16 10 n.vstop.toNat, n.bperiod.toNat])
  | 0x08 => some (mkWord [bitf 31 n.logged, bitf 30 n.cresync, bitf 29 n.blotFail, bitf 28 n.holdPend, bitf 27 n.drop,
      bitf 26 n.media, bitf 25 n.scan, bitf 24 n.busy, fld 20 4 n.mcause.toNat, fld 8 8 n.dropCnt])
  | 0x0C => some (nvlBlot s)
  | 0x10 => some (mkWord [fld 16 16 n.vh, fld 0 16 n.dvuv])
  | 0x14 => some (nvlCount s)
  | 0x18 => some (mkWord [fld 28 4 n.queue.length, match n.queue with | [] => 0 | q :: _ => fld 0 16 q.event])
  | 0x1C => some (BitVec.ofNat 32 n.seq)
  | 0x20 => some (BitVec.ofNat 32 n.lap)
  | 0x24 => some (mkWord [bitf 31 s.nrd.ready, bitf 30 s.nrd.rdErr, bitf 29 s.nrd.crcOk, s.nrd.age.toNat])
  | 0x28 => some (BitVec.ofNat 32 (leNat ((s.nrd.buf.drop s.nrd.ptr).take 4)))
  | 0x2C => some n.secs
  | _ => none

/-- TMR_SEL of an interface (R376, R381). -/
def selOf (s : State) : Iface → BitVec 5
  | .smb => s.hif.selS
  | .i3c => s.hif.selI
  | .tap => s.hif.selT

/-- TMR_CFG of a timer (R376). -/
def tmrCfgWord (t : Timer) : Word :=
  mkWord [bitf 31 t.gated, bitf 30 t.glvl, bitf 29 t.capen, bitf 28 t.cappol, bitf 26 t.outinit, fld 14 2 t.sact.toNat,
    fld 12 2 t.lact.toNat, t.link.toNat]

/-- TMR_STAT of a timer (R376). Log entry 36, DEDUCED. -/
def tmrStatWord (s : State) (t : Timer) : Word :=
  mkWord [bitf 31 t.late, bitf 30 t.rdErr, bitf 29 t.capOvr, bitf 28 t.linkMiss, bitf 27 t.pairRdy, bitf 26 t.stopped,
    bitf 25 t.slow, bitf 24 s.tmr.slowMode, fld 16 2 (standing (cycle s) t).code, bitf 1 t.gateIn, bitf 0 t.capIn]

/-- The timer a window register reaches (R376). -/
def selTimer (i : Iface) (s : State) : TimerId := ⟨(selOf s i).toNat, (selOf s i).isLt⟩

/-- The registers of page 0x06. -/
def tmrWord (i : Iface) (s : State) (off : Nat) : Option Word :=
  let b := s.tmr
  let t := b.tmr[selTimer i s]
  if off % 4 ≠ 0 then none
  else if 0x80 ≤ off then (toFin 32 ((off - 0x80) / 4)).map fun t => b.tmr[t].mtch
  else match off with
  | 0x00 => some (mkWord [bitf 31 b.done, bitf 30 b.capRdy, bitf 29 b.terr, bitf 28 b.slowErr, bitf 27 b.rej,
      fld 0 8 b.rejCnt])
  | 0x04 => some 0
  | 0x08 => some 0
  | 0x0C => some b.doneMask
  | 0x10 => some (mkWord (b.tmr.toList.zipIdx.map fun p => bitf p.2 (standing (cycle s) p.1 == .running)))
  | 0x14 => some (mkWord [(selOf s i).toNat])
  | 0x20 => some (tmrCfgWord t)
  | 0x24 => some (if standing (cycle s) t == .running then 0 else BitVec.ofNat 32 t.count)
  | 0x28 => some (BitVec.ofNat 32 t.capr)
  | 0x2C => some (BitVec.ofNat 32 t.capf)
  | 0x30 => some (BitVec.ofNat 32 t.width)
  | 0x34 => some (tmrStatWord s t)
  | _ => none

/-- The strap index i (R386). -/
def strapIndex (s : State) : Nat := 8 * s.hif.lvl1.toNat + s.hif.lvl0.toNat

/-- The strap-derived SMBus address (R386). -/
def strapAddr (s : State) : Nat :=
  let i := strapIndex s
  if i = 24 then 0x50 else if i = 39 then 0x51 else 0x10 + i

/-- The SMBus address in force (R386, R413): 0 until the straps have been read. -/
def smbAddr (s : State) : Nat :=
  if isSealed s ∧ (hostif s).strapmode = 1 then (hostif s).smbaddr
  else if s.hif.strapValid then strapAddr s else 0

/-- The registers of page 0x07. -/
def hifWord (s : State) (off : Nat) : Option Word :=
  let h := s.hif
  match off with
  | 0x00 => some (mkWord [bitf 31 h.pecErr, bitf 30 h.cmlErr, bitf 29 h.smbTo, bitf 28 h.i3cErr, bitf 27 h.daaChg,
      bitf 26 h.dynAddr.isSome, bitf 23 h.dynAddr.isSome, fld 16 7 (h.dynAddr.getD 0).toNat, fld 0 7 (smbAddr s)])
  | 0x04 => some (mkWord [bitf 31 h.strapValid, if h.strapValid then fld 8 6 (strapIndex s) else 0,
      fld 4 3 h.lvl1.toNat, h.lvl0.toNat])
  | 0x08 => some (mkWord [fld 16 16 h.mwl.toNat, h.mrl.toNat])
  | 0x0C => some (mkWord [fld 16 16 h.ibiCnt, fld 8 8 h.pecCnt, fld 0 8 h.cmlCnt])
  | _ => none

/-- CHAINID in force (R414): 0xFF in the image takes the identifier from the straps (R74). -/
def chainId (s : State) : Nat :=
  match nelinkCfg s with
  | some n => if n.chainid = 0xFF then strapIndex s else n.chainid
  | none => 0

/-- Presence bits of peers `base` to `base` + 31. -/
def peerMask (s : State) (base : Nat) : Nat :=
  ((List.range 32).map fun i => bitf i (s.nl.peers.any fun p => p.1.toNat == base + i)).sum

/-- The registers of page 0x08. -/
def nlWord (s : State) (off : Nat) : Option Word :=
  let n := s.nl
  match off with
  | 0x00 => some (mkWord [bitf 31 n.roleChg, bitf 30 n.mlost, bitf 29 n.peerChg, bitf 28 n.nlErr, bitf 27 n.dupId,
      bitf 26 (nelinkCfg s).isSome, fld 24 2 n.role.code, fld 22 2 n.errCause.toNat, fld 16 6 n.masterId.toNat,
      bitf 15 n.cmdRej, fld 0 6 (chainId s)])
  | 0x04 => some 0
  | 0x08 => some (mkWord [peerMask s 0])
  | 0x0C => some (mkWord [peerMask s 32])
  | 0x10 => some (mkWord [n.peerSel.toNat])
  | 0x14 => some (match n.peers.find? fun p => p.1 == n.peerSel with | some p => p.2 | none => 0)
  | 0x18 => some (mkWord [fld 16 16 n.slipCnt.toNat, n.lastCorr.toNat])
  | 0x1C => some (mkWord [fld 24 8 n.crcCnt, fld 16 8 n.bitCnt, fld 8 8 n.noAck, fld 0 8 n.lostArb])
  | _ => none

/-- The registers of the IRQ pages (R302, R316). -/
def irqWord (s : State) (page off : Nat) : Option Word :=
  if off % 4 ≠ 0 then none
  else if page = 0x6B ∧ off = 0x40 then
    some (mkWord [bitf 31 s.glb.fltWire, bitf 30 s.glb.silFrz, bitf 29 (pairFault s), bitf 28 (readback s false),
      bitf 27 (readback s true), bitf 26 s.glb.wBall, bitf 25 s.glb.wLvl])
  else if page = 0x6B ∧ off = 0x44 then some (mkWord [silFrozenMask s])
  else (irqGroup page (off / 16)).map fun g =>
    match off % 16 / 4 with
    | 0 => mkWord [groupBits g.1 g.2.1 fun n => s.irqEn.getLsbD n]
    | 1 => let st := statusBits s
           mkWord [groupBits g.1 g.2.1 (pendBit s st)]
    | 2 => mkWord [groupBits g.1 g.2.1 (routeAlert s), groupBits g.1 g.2.1 (routeIbi s) * 2 ^ 16]
    | _ => mkWord [groupBits g.1 g.2.1 (routeFlt s)]

/-- A register of a rail without ACCORD: its Reset value (R417); RAIL_SEQ shows the refusals while no image is sealed (R220). -/
def bareWord (s : State) (r : RailId) (off : Nat) : Option Word :=
  let x := s.rails[r]
  if !isSealed s && off == 0x78 then some (mkWord [bitf 23 x.seq.seqRej, fld 12 4 x.seq.rejCnt]) else railResetWord off

/-- The word that an address reads on interface `i`; none for an address that no register occupies (R9, R12, R416). -/
def regVal (i : Iface) (s : State) (a : BitVec 16) : Option Word :=
  let page := pageOf a
  let off := offOf a
  if page = 0x00 then glbWord s off
  else if page = 0x01 then pwrWord s off
  else if page = 0x02 then imgWord s off
  else if page = 0x03 then hadcWord s off
  else if page = 0x04 then thmWord s off
  else if page = 0x05 then nvlWord s off
  else if page = 0x06 then tmrWord i s off
  else if page = 0x07 then hifWord s off
  else if page = 0x08 then nlWord s off
  else if page = 0x09 then if off % 4 = 0 ∧ off < 0xC0 then some (schresWord s (48 + off / 4)) else none
  else if page < 0x10 then none
  else if page < 0x28 then
    match toFin 24 (page - 0x10) with
    | none => none
    | some r => match railCfg s r with
      | some c => railWord s r c off
      | none => bareWord s r off
  else if page < 0x30 then none
  else if page < 0x38 then (toFin 8 (page - 0x30)).bind fun p => portWord s p off
  else if page < 0x40 then none
  else if page < 0x58 then (toFin 24 (page - 0x40)).bind fun b => bankWord s b off
  else if page < 0x60 then none
  else if page < 0x70 then irqWord s page off
  else none

/-- The word of an address that is occupied; 0 otherwise. -/
def regWord (s : State) (a : Nat) : Word := (regVal .smb s (BitVec.ofNat 16 a)).getD 0

end Sys2Proof.Machine
end

