-- ==== Sys2Proof/Machine/Settle.lean ====
section
/-! DEFINITION. What follows from a change of state at the end of a command: the Sillage freeze (R310), the NV log queue
(R342 to R345), the in-band interrupt requests (R304), StatusAlert of the load ports (R210). -/

namespace Sys2Proof.Machine

/-! ## Sillage freeze -/

/-- A source freezes the buffer of rail `r` (R310): its own class U sources, BTSFFLT of a bank of its accord, every class
F source. -/
def freezes (r : RailId) (c : RailCfg) (n : Nat) : Bool :=
  if n < 288 then n / 12 == r.val && decide (n % 12 < 5)
  else if n < 384 then decide (n % 4 = 0) && (accordBanks c).contains ((n - 288) / 4)
  else srcClass n == .f

/-- The lowest raised source that freezes the rail's buffer. -/
def freezer (l : List Nat) (r : RailId) (c : RailCfg) : Option Nat := l.find? (freezes r c)

/-- The raised sources freeze an armed buffer. -/
def freezeHit (l : List Nat) (s : State) : Bool :=
  (configured s).any fun rc => (freezer l rc.1 rc.2).isSome && !s.rails[rc.1].sil.frozen

/-- Freeze the buffers for the raised sources, and set FLT_STATUS.SILFRZ (R310). -/
def freezeAll (l : List Nat) (s : State) : State :=
  let hit := freezeHit l s
  let s' := onCfgRails (fun r c x => match freezer l r c with | some n => freezeSil (cycle s) n x | none => x) s
  if hit then { s' with glb := { s'.glb with silFrz := true } } else s'

/-! ## The log queue -/

/-- The rail of a record (R342): none stands for 0xFF. `old` is the state at the trip edge; a rail that the fatal hold has stopped in
this core cycle had not stopped there. Log entry 8, DESIGN CHOICE. -/
def recordRail (old s : State) (n : Nat) : Option RailId :=
  if n < 288 then toFin 24 (n / 12)
  else if n < 384 then ((configured s).find? fun rc => (accordBanks rc.2).contains ((n - 288) / 4)).map (·.1)
  else if srcClass n == .f then ((configured old).find? fun rc => !isStopped old.rails[rc.1] || haltedNow old old.rails[rc.1]).map (·.1)
  else none

/-- The 12 snapshot words (R343). -/
def snapWords (s : State) (r : Option RailId) : List Word :=
  let w := fun off => match r with
    | none => (0 : Word)
    | some r => match railCfg s r with
      | some c => (railWord s r c off).getD 0
      | none => 0
  [glbStatus s, glbFatal s, pwrState s, thmJunc s, w 0x74, w 0x7C, w 0x78, w 0x00, w 0x70, w 0x60, w 0x68, w 0x58]

/-- Microseconds since the last whole second of NVL_TIME, the nearest (R343, R455). -/
def subUs (s : State) : Nat := min 999999 (roundNat (s.now - s.nvl.secAt) usTicks)

/-- CLASS of a record (R343). -/
def clsCode (n : Nat) : Nat := match srcClass n with | .c => 0 | .u => 1 | .f => 2

/-- The record of source `n` (R343, R344). -/
def mkRecord (old s : State) (n : Nat) : LogRec :=
  let r := recordRail old s n
  let sil : RailSil := match r with | some r => s.rails[r].sil | none => {}
  let k := min 111 sil.entries.length
  { event := n, cls := clsCode n, rail := match r with | some r => r.val | none => 0xFF
    gen := match s.sealed.img with | some im => im.gen | none => 0
    secs := s.nvl.secs.toNat, subus := subUs s
    silOld := sil.frozen && sil.event.toNat != n, silNone := !sil.frozen
    snap := snapWords s r
    sil := if sil.frozen then sil.entries.drop (sil.entries.length - k) else [] }

/-- How long after the raising the excerpt has been copied and the gate first looks at the head record (R344). -/
def gateTicks : Nat := 10 * usTicks

/-- A record among those queued before it: behind the records of earlier core cycles and one that is being committed, and by EVENT
among the `k` youngest, those of its own cycle (R345). -/
def queuePut (k : Nat) (q : LogRec) (l : List LogRec) : List LogRec :=
  let (past, same) := l.splitAt (l.length - k)
  past ++ same.filter (fun r => decide (r.event ≤ q.event)) ++ q :: same.filter (fun r => decide (q.event < r.event))

/-- A record is discarded: DROP, DROPCNT (R345, R353). -/
def dropCount (n : Nvl) : Nvl := { n with drop := true, dropCnt := satInc 255 n.dropCnt }

/-- Queue one record: up to 8, the last one beyond them is dropped (R345); none is kept once the endurance limit is reached
(R353). Log entry 8, DESIGN CHOICE. -/
def queueOne (old : State) (n : Nat) (s : State) : State :=
  if s.nvl.stopped then { s with nvl := dropCount s.nvl }
  else
    let k := if s.nvl.qAt = cycle s then min s.nvl.qNew (s.nvl.queue.length - if s.nvl.busy then 1 else 0) else 0
    let l := queuePut k (mkRecord old s n) s.nvl.queue
    let v := if 8 < l.length then dropCount s.nvl else s.nvl
    let t := { s with nvl := { v with queue := l.take 8, qAt := cycle s, qNew := min (k + 1) (8 - (v.queue.length - k)) } }
    if s.nvl.queue.isEmpty then rearm gateTicks .logCommitStart { t with nvl := { t.nvl with headNew := true } } else t

/-- The source queues a record: class U or F, or CRESYNC (R342). -/
def logged (n : Nat) : Bool := srcClass n != .c || n == 427

/-- Queue the records of the raised sources, by ascending EVENT (R345). The log runs in READY, RUN and SAFE (R339). -/
def queueAll (old : State) (l : List Nat) (s : State) : State :=
  if islandUp s then forEach (l.filter logged) (queueOne old) s else s

/-! ## In-band interrupts -/

/-- The groups, page and index, in the order of R300. -/
def irqGroups : List (Nat × Nat) := ((List.range 448).map srcGroup).eraseDups

/-- The group of a source reads PEND nonzero. -/
def groupPend (pend : List Nat) (g : Nat × Nat) : Bool := pend.any fun n => srcGroup n == g

/-- The outstanding requests after a change of PEND (R304, R395): a request for each group with a bit routed to the
in-band interrupt that rose, one per group; a group whose PEND fell to 0 is withdrawn. A bit raised anew is none of `oldPend` (R314). -/
def ibiNext (s : State) (oldPend newPend : List Nat) : List (Nat × Nat) :=
  let rose := newPend.filter fun n => !oldPend.contains n && routeIbi s n
  let kept := s.hif.ibi.filter (groupPend newPend)
  (rose.map srcGroup).foldl (fun l g => if l.contains g then l else l ++ [g]) kept

/-- Update the outstanding requests; with in-band interrupts off in HOSTIF none is made (R74). -/
def ibiSettle (oldPend : List Nat) (s : State) : State :=
  { s with hif := { s.hif with ibi := if (hostif s).ibiEn then ibiNext s oldPend (pendList s) else [] } }

/-! ## StatusAlert -/

/-- StatusAlert rises on a port when an owned rail changed state without a command of this port (R210). -/
def alertSettle (by_ : Option PortId) (old s : State) : State :=
  { s with ports := mapTab (fun i p => match toFin 8 i with
      | some i =>
        if by_ != some i && (ownedRails s i).any (fun r => railState old.rails[r] != railState s.rails[r])
        then { p with alert := true } else p
      | none => p) s.ports }

/-- The status bits that have occurred join those of the present core cycle; `was` are the bits before them (R314, R432).
Log entry 8, DESIGN CHOICE. -/
def raisedPut (was : List Bool) (l : List Nat) (s : State) : State :=
  let q := if s.raised.at_ = cycle s then s.raised else {}
  if l.isEmpty && q.renew.isEmpty then s
  else { s with raised := {
    at_ := cycle s, bits := q.bits ++ l
    again := q.again.filter (fun n => !q.renew.contains n) ++ l.filter (fun n => was.getD n false), renew := [] } }

/-- The sources raised from `old` to `s`: those that rose and those that count as raised anew (R300, R314), by ascending number. -/
def raisedNow (old s : State) : List Nat :=
  let l := risen (statusBits old) (statusBits s)
  if s.raised.renew.isEmpty then l
  else (List.range 448).filter fun n => l.contains n || s.raised.renew.contains n

/-- Everything that follows from the step of state from `old` to `s` in which the bits `occ` occurred; `by_` is the port whose command
made it. Log entry 8, DESIGN CHOICE. -/
def settleBy (by_ : Option PortId) (occ : List Nat) (old s : State) : State :=
  let l := raisedNow old s
  let pend := (pendList old).filter fun n => !s.raised.renew.contains n
  let frz := if freezeHit l s then [447] else []
  let s := queueAll old l (raisedPut (allBits old) (occ ++ frz) (freezeAll l s))
  alertSettle by_ old (ibiSettle pend s)

/-- What follows from a step of state that no port command made. Log entry 9, DESIGN CHOICE. -/
def settle (occ : List Nat) (old s : State) : State := settleBy none occ old s

/-- A meaning whose effect is followed by what follows from it. Log entry 9, DESIGN CHOICE. -/
def act (f : State → State) (s : State) : Out := .next (settle (occurs f s) s (f s))

/-- The same for a command of port `p`. -/
def actBy (p : PortId) (f : State → State) (s : State) : Out := .next (settleBy (some p) (occurs f s) s (f s))

end Sys2Proof.Machine
end

