-- ==== Sys2Proof/Machine/Seq.lean ====
section
/-! DEFINITION. The sequencer of a rail (R218 to R227), its position moves (R190 to R192), its targets (R186, R194, R195,
R197), power-good (R230) and the protection trips (R229, R234, R236). -/

namespace Sys2Proof.Machine

/-- DPWM ticks in the image's 10 ns unit. -/
def tenNs : Nat := 8

/-! ## Moves of the position -/

/-- Core cycles that a move over `dist` units at slew `sl` takes (R190). -/
def moveCycles (dist sl : Nat) : Nat := (dist * 1000 + sl * 2 ^ 23 - 1) / (sl * 2 ^ 23)

/-- Begin to move the position from `p0` toward `dest` at slew `sl`; TARGET_REACHED falls due when it arrives. -/
def moveTo (r : RailId) (p0 sl dest : Nat) (s : State) : State :=
  let s := onRail r (setMove s.now p0 sl dest) s
  let dist := if p0 ≤ dest then dest - p0 else p0 - dest
  if dist = 0 then disarm (· == .targetReached r) s
  else rearm (2 * moveCycles dist (max sl 1) - s.now % 2) (.targetReached r) s

/-- The position of `r` stops where it stands. -/
def moveStop (r : RailId) (s : State) : State := disarm (· == .targetReached r) (onRail r (holdPos s) s)

/-! ## Targets -/

/-- A write of TARGET that a raise freeze refuses: the TARGET in force is that of RAIL_TARGET (R194). Log entry 56, DESIGN CHOICE. -/
def raiseRefused (s : State) (x : Rail) (t : Nat) : Bool := raiseFrozen s && decide (x.pos.target.toNat < t)

/-- TARGET takes a value from source `src` (R186, R216); the working copy loads at the next master carrier start. A change
of target during a sounding ends it (R266). -/
def putTarget (src : BitVec 2) (t : Nat) (x : Rail) : Rail :=
  let x := if x.pos.target.toNat ≠ t then sndAbortRail x else x
  { x with pos := { x.pos with target := BitVec.ofNat 16 t, src := src, tgtDue := true } }

/-- TARGET takes a host value. -/
def putHost (s : State) (t : Nat) (x : Rail) : Rail :=
  let x := putTarget 1 t x
  { x with pos := { x.pos with hostAt := some (cycle s) } }

/-- A host write to TARGET took effect in the present core cycle: its value stands (R41, R215). Log entry 8, DESIGN CHOICE. -/
def hostNow (s : State) (x : Rail) : Bool := x.pos.hostAt == some (cycle s)

/-- The selection of a VSEL port for a rail, by the index in force (R196, R197). -/
def vselTarget (s : State) (r : RailId) : Option (PortId × Nat) :=
  match portOf s r with
  | none => none
  | some (p, i, _) =>
    match portCfg s p with
    | none => none
    | some pc =>
      if pc.proto = .vsel then some (p, (pc.vsel.getD i []).getD s.ports[p].vselIdx.toNat 0) else none

/-- Write a VSEL selection to a rail, or hold it through a raise freeze (R197). -/
def vselWrite (r : RailId) (p : PortId) (t : Nat) (s : State) : State :=
  if raiseRefused s s.rails[r] t then
    onPort p (fun x => { x with raiseFrz := true, vselPend := true })
      (onRail r (fun x => { x with pos := { x.pos with vselHeld := some t } }) s)
  else if hostNow s s.rails[r] then onPort p (fun x => { x with hostOvr := true }) s
  else onRail r (fun x => let x := putTarget 3 t x; { x with pos := { x.pos with vselHeld := none } }) s

/-- The start table's write of TARGET at TERMINAL_ON: VBOOT, then the VSEL selection when it differs (R197, R224). -/
def terminalTarget (r : RailId) (c : RailCfg) (s : State) : State :=
  let s := if raiseRefused s s.rails[r] c.eng.vboot then s
    else onRail r (putTarget 0 c.eng.vboot) s
  match vselTarget s r with
  | some (p, t) => if t ≠ c.eng.vboot then vselWrite r p t s else s
  | none => s

/-- The outcome of a host write to RAIL_TARGET (R195): saturated to VMIN to VMAX, legal in TERMINAL_ON, no raise in a
freeze. -/
def hostTarget (r : RailId) (c : RailCfg) (v : Nat) (s : State) : State :=
  let x := s.rails[r]
  let t := clampN c.eng.vmin c.eng.vmax v
  if railState x = 2 ∧ !raiseRefused s x t then onRail r (putHost s t) s
  else onRail r (fun x => { x with pos := { x.pos with hrej := true } }) s

/-! ## Switching -/

/-- The carrier slot of a position: its place in the active set, moved by the rotation count (R164, R168). -/
def slotPos (c : RailCfg) (x : Rail) (q : Nat) : Option Nat :=
  ((active c x).findIdx? (· == q)).map fun k => slotOf x.sh.nact k (if x.sh.rotate then x.sh.rot else 0)

/-- The first tick from `now` on of the form master carrier start + floor(o / 64) + m × PERIOD (R97, R98). -/
def carrierAt (now mcs o period : Nat) : Nat :=
  let t := mcs + o / tickTaps
  if t < now then t + period else t

/-- A channel takes the carrier of slot `sl`: its first start under that offset follows the master carrier start (R97); a
CO-RI counter starts here (R134). Log entry 33, DEDUCED. -/
def carrierJoin (s : State) (c : RailCfg) (x : Rail) (sl : Nat) (k : Chan) : Chan :=
  if x.eng.mode = .cori then { k with cs := s.now, nextCs := some (s.now + coriTicks), onDone := true }
  else
    let o := ofsTaps c.md.period x.sh.nact sl
    { k with newOfs := some o, nextCs := if x.seq.started then some (carrierAt s.now x.seq.mcs o c.md.period) else none }

/-- A channel begins to switch, or stands by as shed, when its accord begins to switch (R98, R117): it leaves off level
at its first carrier start, in CO-RI at its first on-time (R134). -/
def toSwitch (s : State) (c : RailCfg) (x : Rail) (ch : Nat) (k : Chan) : Chan :=
  if k.st = .safe ∨ k.st = .bypassed then k
  else match chanPos c ch with
    | none => k
    | some q => match slotPos c x q with
      | none => { k with st := .shed }
      | some sl =>
        if k.st = .switching ∨ k.st = .cycleTerm then k
        else
          let k := { k with st := .switching, out := .off, pre := .off, joining := x.eng.mode != .cori, offAt := restSince s.now k
                            shOn := some 0, shOnAt := none }
          if k.nextCs.isSome then k else carrierJoin s c x sl k

/-- The accord begins to switch. -/
def swOn (r : RailId) (c : RailCfg) (s : State) : State :=
  let x := s.rails[r]
  let s := onChans (accordChans c) (toSwitch s c x) s
  onRail r (fun x => { x with seq := { x.seq with sw := true, disch := false }, eng := { x.eng with on := true } }) s

/-- The accord takes off level and the engine idles. -/
def swOff (r : RailId) (c : RailCfg) (s : State) : State :=
  onRail r (fun x => { x with seq := { x.seq with sw := false, disch := false }
                              eng := { x.eng with clampI := false, on := false }
                              tel := { x.tel with vout := 0, iout := 0 } }) (offAccord r c s)

/-- Every active phase at low level continuously (R224 DISCHARGE); one under its negative limit stays at off level (R232). The
channels' STATE is that of a stopped rail. Log entry 64, DESIGN CHOICE. -/
def swDischarge (r : RailId) (c : RailCfg) (s : State) : State :=
  let s := swOff r c s
  let x := s.rails[r]
  let low := (active c x).map fun q => c.acc.phase.getD q 0
  let s := onChans (chansSafe s false low) (fun _ k => { k with out := if k.negHold then .off else .low }) s
  onRail r (fun x => setMove s.now 0 0 0 { x with seq := { x.seq with disch := true } }) s

/-! ## Latching trips -/

/-- An OV trip edge while OV is armed (R229). -/
def ovLatch (r : RailId) (c : RailCfg) (s : State) : State :=
  let x := s.rails[r]
  if x.prot.ovRaw && (x.prot.ovArm || haltedNow s x && x.prot.haltOv) && latchOpen s x then
    latchProt r c 1 (onRail r (fun x => { x with prot := { x.prot with ovFlt := true } }) s)
  else s

/-- A UV trip edge while UV is armed (R229). -/
def uvLatch (r : RailId) (c : RailCfg) (s : State) : State :=
  let x := s.rails[r]
  if x.prot.uvRaw && (x.prot.uvArm || haltedNow s x && x.prot.haltUv) && latchOpen s x then
    latchProt r c 2 (onRail r (fun x => { x with prot := { x.prot with uvFlt := true } }) s)
  else s

/-- An open sense line latches a running rail with SNSOPEN (R236). -/
def snsLatch (r : RailId) (c : RailCfg) (neg : Bool) (s : State) : State :=
  latchProt r c (if neg then 4 else 3) (onRail r (fun x => { x with prot := { x.prot with snsOpen := true } }) s)

/-! ## Power-good -/

/-- PGDELAY starts: the comparator stands high while armed (R230). -/
def pgStart (r : RailId) (c : RailCfg) (s : State) : State := rearm (c.seq.pgdelay * tenNs) (.pgoodRelease r) s

/-- Arm power-good and UV (R224 ASSERT_PG, R229, R230). -/
def pgArm (r : RailId) (c : RailCfg) (s : State) : State :=
  let x := s.rails[r]
  let t := onRail r (fun x => { x with seq := { x.seq with pgArm := true }, prot := { x.prot with uvArm := true } }) s
  let t := if !x.seq.pgArm && x.seq.pgComp then pgStart r c t else t
  uvLatch r c t

/-- Drive PGOODn low and disarm power-good and UV (R224 DEASSERT_PG, R229). -/
def pgDisarm (r : RailId) (s : State) : State :=
  onRail r (fun x => { x with seq := { x.seq with pgArm := false }, prot := { x.prot with uvArm := false } }) (pgLow r s)

/-! ## Tables -/

/-- The running table (R66). -/
def curTable (c : RailCfg) (x : Rail) : List SmState := if x.seq.table then c.seq.stop else c.seq.start

/-- The present state record. -/
def curState (c : RailCfg) (x : Rail) : SmState :=
  (curTable c x).getD x.seq.smIdx ⟨.holdOff, 255, 0, []⟩

/-- A table runs. -/
def tableRuns (x : Rail) : Bool := railState x == 1 || railState x == 3

/-- Drop the timers of the present state. -/
def disarmState (r : RailId) (s : State) : State := disarm (· == .durationElapsed r) s

/-- DURATION starts (R223): condition 0x01 is true at once when it is 0. -/
def startDuration (r : RailId) (d : Nat) (s : State) : State :=
  if d = 0 then onRail r (fun x => { x with seq := { x.seq with durOk := true } }) s
  else rearm (d * tenNs) (.durationElapsed r) s

/-- A ramp's move begins, at the end of its DELAY (R224, R226): a rising ramp starts switching from its start value
toward VBOOT, its first switching sample preloads the compensator (R131); a falling one moves toward 0 V. Without a completed pre-bias
measurement the start value is 0 V. Log entry 68, DESIGN CHOICE. -/
def rampBegin (r : RailId) (c : RailCfg) (s : State) : State :=
  let x := s.rails[r]
  let s := onRail r (fun x => { x with seq := { x.seq with delay := false } }) s
  match x.seq.ramp with
  | none => s
  | some (i, up) =>
    let rc := c.seq.ramps.getD i ⟨0, 1, false⟩
    if up then
      let v0 := if rc.fromPrebias then x.seq.preb.getD 0 else 0
      let s := onRail r (fun x =>
        { x with eng := { x.eng with first := true, preload := v0 } }) s
      let s := swOn r c s
      if x.prot.bdAct && v0 != c.eng.vboot then
        onRail r (fun x => setMove s.now (v0 * posUnit) 0 (v0 * posUnit)
          { x with prot := { x.prot with rampPause := true } }) s
      else moveTo r (v0 * posUnit) rc.slew (c.eng.vboot * posUnit) s
    else if posNow s x = 0 then swOff r c s
    else moveTo r (posNow s x) rc.slew 0 s

/-- The action of the present state begins (R222 to R226). -/
def beginAction (r : RailId) (c : RailCfg) (s : State) : State :=
  let st := curState c s.rails[r]
  let s := onRail r (fun x => { x with seq := { x.seq with acting := true, cal := false } }) s
  let endRamp := fun s : State => disarm (· == .rampDelayEnd r)
    (onRail r (fun x => { x with seq := { x.seq with ramp := none, delay := false }
                                 prot := { x.prot with rampPause := false } }) s)
  let dur := startDuration r st.duration
  let ramp := fun (up : Bool) (s : State) =>
    let s := onRail r (fun x => { x with seq := { x.seq with ramp := some (st.ramp, up), delay := true } }) s
    let d := (c.seq.ramps.getD st.ramp ⟨0, 1, false⟩).delay
    if d = 0 then rampBegin r c s else rearm (d * tenNs) (.rampDelayEnd r) s
  match st.action with
  | .holdOff => dur (swOff r c (moveStop r (endRamp s)))
  | .measurePrebias =>
    let s := swOff r c (moveStop r (endRamp s))
    disarm (· == .prebiasMeasured r) (onRail r (fun x =>
      { x with seq := { x.seq with measuring := true, prebN := 0, prebSum := 0 }
               eng := { x.eng with centre := 0, recDue := false } }) s)
  | .rampUp =>
    let s := moveStop r (endRamp s)
    let d := (c.seq.ramps.getD st.ramp ⟨0, 1, false⟩).delay
    ramp true (dur (if d = 0 then s else swOff r c s))
  | .regulate => dur (swOn r c (moveStop r (endRamp s)))
  | .rampDown =>
    let s := moveStop r (endRamp s)
    ramp false (dur (if posNow s s.rails[r] = 0 then swOff r c s else swOn r c s))
  | .discharge => dur (swDischarge r c (moveStop r (endRamp s)))
  | .assertPg =>
    pgArm r c (dur (if s.rails[r].seq.smIdx = 0 then swOff r c (if s.rails[r].seq.delay then endRamp s else s) else s))
  | .deassertPg => pgDisarm r (dur s)
  | .terminalOn =>
    let s := swOn r c (moveStop r (endRamp s))
    let s := onRail r (fun x => { x with seq := { x.seq with st := .on } }) s
    let s := macerRail r (terminalTarget r c s)
    onRail r (fun x => if x.snd.firstDue then
      { x with snd := { x.snd with firstDue := false, pend := true, auto := true } } else x) s
  | .terminalOff =>
    let s := stopCarriers r c (pgDisarm r (swOff r c (moveStop r (endRamp s))))
    onRail r (fun x => { x with seq := { x.seq with st := .stopped, acting := false }
                                prot := { x.prot with ovArm := false, bdAct := false, bdClean := 0, negNow := false,
                                                      sumNeg := false } }) (disarm (· == .backdrivePersist r) s)

/-- Enter state `i` of the running table (R60). -/
def enterState (r : RailId) (c : RailCfg) (i : Nat) (s : State) : State :=
  let s := onRail r (fun x =>
    { x with seq := { x.seq with smIdx := i, durOk := false, measuring := false } }) (disarmState r s)
  beginAction r c s

/-- The rail's claimed sequencing input exists (R225). -/
def seqClaimed (s : State) (r : RailId) : Bool :=
  match s.sealed.img with
  | none => false
  | some im => im.pins.any fun p => p.claimant == 1 && p.cinst == r.val

/-- A transition condition holds (R60, R225). -/
def condHolds (s : State) (r : RailId) (c : RailCfg) (code : Nat) : Bool :=
  let x := s.rails[r]
  let pos := posNow s x
  let inWin := x.seq.pgComp && !x.prot.ovRaw
  match code with
  | 1 => x.seq.durOk
  | 2 => match (curState c x).action with
    | .rampUp => decide (pos = c.eng.vboot * posUnit)
    | .rampDown => decide (pos = 0)
    | _ => decide (pos = x.pos.target.toNat * posUnit)
  | 3 => inWin
  | 4 => !inWin
  | 7 => x.prot.bdAct
  | 8 => !x.seq.measuring && decide (c.eng.vboot < x.seq.preb.getD 0)
  | 9 => seqClaimed s r && x.seq.seqIn
  | 10 => seqClaimed s r && !x.seq.seqIn
  | _ => false

/-- The next state that the slots of the present state give, the lowest true slot first (R60, R223). -/
def nextState (s : State) (r : RailId) (c : RailCfg) : Option Nat :=
  let x := s.rails[r]
  let st := curState c x
  if !(tableRuns x && x.seq.acting) then none
  else match st.action with
    | .terminalOn => none
    | .terminalOff => none
    | _ => (st.slots.find? fun t => t.1 != 0 && condHolds s r c t.1).map (·.2)

/-! ## START and STOP (R193, R220, R222) -/

/-- A START is legal: stopped, the device in RUN, no discovery hold (R193, R220). -/
def startOk (s : State) (r : RailId) : Bool :=
  let x := s.rails[r]
  isStopped x && s.pwr.dev == .run && !x.seq.discHold

/-- A STOP is legal: the start table or TERMINAL_ON (R193). -/
def stopOk (s : State) (r : RailId) : Bool := railState s.rails[r] == 1 || railState s.rails[r] == 2

/-- A START takes effect (R168, R169, R222, R236, R238); the first master carrier start follows at an epoch count of R409, the end of
calibration after 16 µs (R154, R222). Of two open sense lines the positive one is recorded. Log entry 61, DESIGN CHOICE.
Log entry 67, DESIGN CHOICE. -/
def startRail (r : RailId) (c : RailCfg) (s : State) : State :=
  let f := fun x : Rail =>
    let n := navl c x
    let x := setMove s.now 0 0 0 x
    { x with
      seq := { x.seq with st := .start, table := false, smIdx := 0, cal := true, acting := false,
                          calSum := List.replicate 32 0, calCnt := List.replicate 32 0, delay := false,
                          ramp := none, durOk := false, measuring := false, mcsWait := some s.now, sw := false,
                          disch := false }
      sh := { x.sh with nact := n, snaps := [], rot := 0, rotCnt := 0, decided := none, trimNew := none,
                        round := List.replicate 32 none, roundBad := false, satCnt := List.replicate 32 0 }
      eng := { x.eng with mode := c.md.mode, first := false, comp := { x.eng.comp with rip := 0, x := 0 } }
      pos := { x.pos with tgtDue := false }
      tel := { x.tel with vout := 0, iout := 0 }
      lim := { x.lim with fold := foldAt c 0x8000 } }
  let s := arm (16 * usTicks) (.offsetCalDone r []) (disarm (calEvent r) (onRail r f (stopCarriers r c s)))
  let x := s.rails[r]
  if x.prot.snsP then snsLatch r c false s else if x.prot.snsN then snsLatch r c true s else s

/-- A STOP takes effect: state 0 of the stop table, its action at once (R192, R222, R229). -/
def stopRail (r : RailId) (c : RailCfg) (s : State) : State :=
  let s := sndDrop r (disarmState r (disarm (fun e => e == .rampDelayEnd r || calEvent r e) s))
  let s := moveStop r s
  let s := onRail r (fun x =>
    { x with seq := { x.seq with st := .stop, table := true, smIdx := 0, cal := false, delay := false, ramp := none,
                                 durOk := false, measuring := false }
             pos := { x.pos with tgtDue := false }
             prot := { x.prot with uvArm := false, rampPause := false } }) s
  beginAction r c s

/-- A refused host START or STOP (R220). -/
def seqRefuse (x : Rail) : Rail :=
  { x with seq := { x.seq with seqRej := true, rejCnt := satInc 15 x.seq.rejCnt } }

/-- A host command code of RAIL_SEQ.CMD (R244). -/
def seqCmd (r : RailId) (c : RailCfg) (cmd : Nat) (s : State) : State :=
  match cmd with
  | 1 => if startOk s r then startRail r c s else onRail r seqRefuse s
  | 2 => if stopOk s r then stopRail r c s else onRail r seqRefuse s
  | _ => s

/-- The W1C bits of RAIL_SEQ (R244). -/
def seqW1c (w : Word) (x : Rail) : Rail :=
  { x with seq := { x.seq with
    seqRej := x.seq.seqRej && !bitw w 23
    rejCnt := if bitw w 23 then 0 else x.seq.rejCnt
    pgChg := x.seq.pgChg && !bitw w 22 } }

/-- A write to RAIL_SEQ (R244): the W1C bits, then CMD under KEY 0xA5. A write without KEY 0xA5 is ignored (R220). -/
def seqWrite (r : RailId) (c : RailCfg) (w : Word) (s : State) : State :=
  if bits w 24 8 = 0xA5 then seqCmd r c (bits w 0 4) (onRail r (seqW1c w) s) else s

/-! ## Latch release (R115, R241) -/

/-- Every comparator of the accord stands deasserted, bypassed positions ignored, and BTSF in its banks (R115, R176); those of the
odd channels of PAIR phases do not count. Log entry 52, DESIGN CHOICE. -/
def tripClear (s : State) (c : RailCfg) (x : Rail) : Bool :=
  (avail c x).all (fun q => match toFin 192 (c.acc.phase.getD q 0) with
    | some ch => !s.chans[ch].rawTrip
    | none => true)
  && (accordBanks c).all fun b => match toFin 24 b with | some b => !s.banks[b].btsfRaw | none => true

/-- RAIL_TRIP.CLR (R115). -/
def tripRelease (r : RailId) (c : RailCfg) (s : State) : State :=
  let x := s.rails[r]
  if !tripClear s c x then onRail r (fun x => { x with trip := { x.trip with clrRej := true } }) s
  else if !x.trip.latched then s
  else releaseRail r c (onRail r (fun x => { x with trip := { x.trip with
    latched := false, count := 0, cause := 0, wher := 0, inPeriod := false, clean := 0, latchAt := none,
    tripAt := none } }) s)

/-- The W1C bits of RAIL_TRIP (R119). -/
def tripW1c (w : Word) (x : Rail) : Rail :=
  { x with trip := { x.trip with clrRej := x.trip.clrRej && !bitw w 29, tripLat := x.trip.tripLat && !bitw w 28 } }

/-- A write to RAIL_TRIP (R119). -/
def tripWrite (r : RailId) (c : RailCfg) (w : Word) (s : State) : State :=
  let s := onRail r (tripW1c w) s
  if bitw w 30 then tripRelease r c s else s

/-- RAIL_PROT.CLR (R241). -/
def protRelease (r : RailId) (c : RailCfg) (s : State) : State :=
  let x := s.rails[r]
  if x.prot.ovRaw || x.prot.snsP || x.prot.snsN then
    onRail r (fun x => { x with prot := { x.prot with clrRej := true } }) s
  else if !x.prot.latched then s
  else releaseRail r c (onRail r (fun x => { x with prot := { x.prot with
    latched := false, cause := 0, latchAt := none } }) s)

/-- The W1C bits of RAIL_PROT (R244). -/
def protW1c (w : Word) (x : Rail) : Rail :=
  { x with prot := { x.prot with
    clrRej := x.prot.clrRej && !bitw w 29
    ovFlt := x.prot.ovFlt && !bitw w 28
    uvFlt := x.prot.uvFlt && !bitw w 27
    snsOpen := x.prot.snsOpen && !bitw w 26
    bdFlt := x.prot.bdFlt && !bitw w 25
    negLim := x.prot.negLim && !bitw w 24
    negCnt := if bitw w 24 then 0 else x.prot.negCnt } }

/-- A write to RAIL_PROT (R244). -/
def protWrite (r : RailId) (c : RailCfg) (w : Word) (s : State) : State :=
  let s := onRail r (protW1c w) s
  if bitw w 30 then protRelease r c s else s

end Sys2Proof.Machine
end

