-- ==== Sys2Proof/Machine/Channel.lean ====
section
/-! DEFINITION. A channel's compare logic (R93 to R107), its carrier start (R96 to R98, R103, R134), its trips (R109, R110,
R113) and the two outputs of a pair (R92, R102). -/

namespace Sys2Proof.Machine

/-! ## Matched words (R95, R97, R101, R104) -/

/-- STAGE edge compensation of a band record: falling value minus rising value (R101); 0 in PAIR mode. -/
def stageComp (s : State) (c : RailCfg) (b : Option Nat) : Int :=
  if c.acc.pair then 0
  else match bandCfg s b with
    | some r => (r.stFall : Int) - r.stRise
    | none => 0

/-- The band record that an off edge takes: that of the on edge of its on-time (R103, R134). -/
def edgeBand (k : Chan) : Option Nat := if k.out = .on then k.onBand else k.band

/-- The carrier trim that the channel adds to its words: none in CO-RI, whose words are counts (R97, R134). -/
def trimOf (m : ModMode) (k : Chan) : Nat := if m = .cori then 0 else k.trim

/-- The matched on word in taps: the working word plus the carrier trim (R97). -/
def matchOn (m : ModMode) (k : Chan) : Nat := k.cmpOn + trimOf m k

/-- The matched off word in taps (R101, R104): the ceiling of HYB, the STAGE compensation, the carrier trim. -/
def matchOff (s : State) (c : RailCfg) (m : ModMode) (k : Chan) : Int :=
  let w : Nat := if m = .hyb then min k.cmpOff (k.cmpOn + c.md.toncl * tickTaps) else k.cmpOff
  (w : Int) + stageComp s c (edgeBand k) + trimOf m k

/-- The present count of a write that takes effect now (R94): the count of the tick that ends at this edge, −1 at the
carrier start. -/
def presentCount (now : Nat) (k : Chan) : Int := (now : Int) - k.cs - 1

/-- An on-time occurs in this period (R95). -/
def onTimeOk (s : State) (c : RailCfg) (m : ModMode) (k : Chan) : Bool :=
  decide (matchOn m k < c.md.period * tickTaps) && decide (64 ≤ matchOff s c m k - matchOn m k)

/-- A channel's carrier start is due at the present tick (R97). -/
def startDue (s : State) (k : Chan) : Bool := k.nextCs == some s.now && k.st != .safe

/-! ## Edges -/

/-- The tick at which a word matches is the present one: the carrier count has become equal to its tick part (R93); in
CO-RI the count runs modulo 8,192 (R134). -/
def tickMatch (s : State) (m : ModMode) (k : Chan) (w : Int) : Bool :=
  if m = .cori then decide (w.emod (coriTicks * tickTaps : Nat) / tickTaps = ((s.now - k.cs) % coriTicks : Nat))
  else decide (w / tickTaps = ((s.now - k.cs : Nat) : Int))

/-- The on edge of a channel is due (R93, R95, R98, R109, R110). -/
def onEdgeDue (s : State) (c : RailCfg) (m : ModMode) (k : Chan) : Bool :=
  k.st == .switching && !k.onDone && !k.joining && k.newOfs.isNone && k.out != .on
    && (m == .cori || (onTimeOk s c m k && !startDue s k)) && tickMatch s m k (matchOn m k)

/-- The off edge of a channel is due (R93, R95, R96). -/
def offEdgeDue (s : State) (c : RailCfg) (m : ModMode) (k : Chan) : Bool :=
  k.out == .on && if m = .cori then tickMatch s m k (matchOff s c m k)
    else !startDue s k && decide (k.cs + matchOff s c m k / tickTaps ≤ (s.now : Int))

/-- A channel that ends its on-time at tap `t`: low level, or off level when it leaves the active set or stands under the
negative limit (R98, R232). -/
def endOnAt (t : Nat) (k : Chan) : Chan :=
  { k with out := if k.leaving || k.negHold then OutLvl.off else OutLvl.low, pre := k.out, offAt := t, leaving := false }

/-- A channel that ends its on-time at the present tick, tap 0. -/
def endOn (s : State) (k : Chan) : Chan :=
  { endOnAt (s.now * tickTaps) k with pre := if k.leaving || k.negHold then .off else .low }

/-- The on edge: it leaves the DLL by the tap part of the matched word (R93). -/
def onEdge (s : State) (m : ModMode) (k : Chan) : Chan :=
  { k with out := .on, pre := k.out, onDone := true, negHold := false, onBand := k.band
           onAt := s.now * tickTaps + matchOn m k % tickTaps }

/-- The off edge: it leaves the DLL by the tap part of the matched word (R93). -/
def offEdge (s : State) (c : RailCfg) (m : ModMode) (k : Chan) : Chan :=
  endOnAt (s.now * tickTaps + ((matchOff s c m k).emod tickTaps).toNat) k

/-- A compare match of a channel: the edge that is due (R93, R95). -/
def edge (s : State) (c : RailCfg) (m : ModMode) (on : Bool) (k : Chan) : Chan :=
  if on then if onEdgeDue s c m k then onEdge s m k else k
  else if offEdgeDue s c m k then offEdge s c m k else k

/-! ## Writes of compare words (R104 to R107, R113) -/

/-- An immediate write of CMP_OFF, with the boundary write of CMP_ON beside it (R104, R105). A channel at safe level
ignores it, and a termination of the same tick discards it (R113, R114). At its carrier start, and while a step waits for
its first carrier start, the word belongs to the period that starts there (R94, R98, R104). Else the working word changes;
a word at or below the present count ends an on-time at this edge, with LATEOFF (R106). Answers the channel and whether the
late-edge rule acted. Log entry 33, DEDUCED. -/
def offWrite (s : State) (c : RailCfg) (m : ModMode) (word : Nat) (k : Chan) : Chan × Bool :=
  if k.st == .safe || k.tripAt == some s.now then (k, false)
  else
    let k := if k.shOn.isSome && k.shOnAt.isNone then k else { k with shOn := some 0, shOnAt := some s.now }
    let shadow := k.shOff.isSome || startDue s k
    let k := { k with updAt := some s.now, updOn := none, updLate := none
                      updOld := if k.updAt == some s.now then k.updOld else k.shOff.getD k.cmpOff }
    if shadow then ({ k with shOff := some word }, false)
    else
      let k := { k with cmpOff := word }
      let late := decide (matchOff s c m k / tickTaps ≤ presentCount s.now k)
      if k.st == .switching && k.out == .on && late then
        ({ endOn s k with lateOff := true, updLate := some k.lateOff }, true)
      else (k, false)

/-! ## Carrier starts -/

/-- Load a waiting band value (R103, R155, R285). -/
def bandLoad (s : State) (k : Chan) : Chan :=
  if k.bandDue then { k with band := some s.thm.band, bandDue := false } else k

/-- The channel places edges: it takes a band value at its carrier start (R285). -/
def placesEdges (k : Chan) : Bool := k.st == .switching || k.st == .cycleTerm

/-- A carrier start is a loading point: the channel places edges, or did when the band was decided (R285). -/
def loadsAtStart (k : Chan) : Bool := placesEdges k || k.bandSw

/-- A sync pulse is a loading point: the channel places no edges, or placed none when the band was decided (R285). -/
def loadsAtPulse (k : Chan) : Bool := !placesEdges k || !k.bandSw

/-- A carrier start in FF-VM and HYB (R95 to R98, R105, R109, R110): the on-time that still runs ends, the shadows load,
a new offset comes into force, a cycle termination ends unless its comparator still stands asserted; the next carrier
start follows PERIOD ticks later. `no` is the number of the master carrier period. -/
def periodStart (s : State) (c : RailCfg) (m : ModMode) (no : Nat) (k : Chan) : Chan :=
  let clip := k.out == .on && decide ((c.md.period * tickTaps : Nat) ≤ matchOff s c m k)
  let k := if k.out == .on then endOn s { k with cmpClip := k.cmpClip || clip } else k
  let k := match k.newOfs with
    | some o => { k with ofs := o, trim := o % tickTaps, newOfs := none }
    | none => k
  let k := if k.joining then
      { k with joining := false, out := if k.negHold then k.out else .low, pre := if k.negHold then k.out else .low }
    else k
  let k := if k.shOnAt == some s.now then k
    else { k with cmpOn := k.shOn.getD k.cmpOn, shOn := none, shOnAt := none }
  let k := { k with cmpOff := k.shOff.getD k.cmpOff, shOff := none, cs := s.now, csNo := no
                    nextCs := some (s.now + c.md.period), onDone := false }
  let k := if k.st == .cycleTerm && !k.rawTrip then { k with st := .switching }
    else if k.st == .switching && k.rawTrip then { k with st := .cycleTerm } else k
  let k := if placesEdges k then { k with cmpClip := k.cmpClip || decide (c.md.period * tickTaps ≤ matchOn m k) } else k
  if loadsAtStart k then bandLoad s k else k

/-- The wrap of a CO-RI carrier counter: it loads the band values and nothing else (R134). -/
def wrapStart (s : State) (no : Nat) (k : Chan) : Chan :=
  let k := { k with cs := s.now, csNo := no, nextCs := some (s.now + coriTicks) }
  if loadsAtStart k then bandLoad s k else k

/-- The first carrier start of offset `o` at or after `now`, or after the on-time in progress, of the form master carrier
start + floor(o / 64) + m × PERIOD (R97, R98). -/
def firstStart (s : State) (c : RailCfg) (m : ModMode) (mcs o : Nat) (k : Chan) : Nat :=
  let t := carrierAt s.now mcs o c.md.period
  let busy := k.out == .on && decide ((t * tickTaps : Nat) < (k.cs * tickTaps : Nat) + matchOff s c m k)
  if busy then t + c.md.period else t

/-! ## Trips -/

/-- A period with a trip (R110): counted once; when the count reaches TRIPN the latch falls due. Log entry 63, DESIGN CHOICE. -/
def countTrip (r : RailId) (c : RailCfg) (ch : ChanId) (s : State) : State :=
  let x := s.rails[r]
  if x.trip.inPeriod || x.trip.latched || !latchOpen s x then s
  else
    let n := satInc 255 x.trip.count
    let s := onRail r (fun x => { x with trip := { x.trip with inPeriod := true, count := n, tripAt := some (cycle s) } }) s
    if c.cur.tripn ≤ n then rearm 0 (.tripCountReached r ch) s else s

/-- Cycle-by-cycle termination (R109): the channel leaves on level at once and holds low level; a compare update of the
same tick is discarded (R113). Log entry 52, DESIGN CHOICE. -/
def terminate (s : State) (k : Chan) : Chan :=
  let k := { dropUpdate s.now k with tripAt := some s.now }
  if k.st == .switching then
    let k := if k.out == .on then endOn s k else k
    { k with st := .cycleTerm, cbc := true }
  else if k.leaving && k.out == .on then { endOn s k with cbc := true }
  else k

/-- A phase current-limit trip edge of a channel (R109, R110, R113); the comparator of the odd channel of a PAIR phase trips
nothing. Log entry 12, DESIGN CHOICE. Log entry 52, DESIGN CHOICE. -/
def phaseTrip (ch : ChanId) (s : State) : State :=
  match owner s ch with
  | none => s
  | some (r, c, q, odd) =>
    let x := s.rails[r]
    if odd || x.sh.bypass.getLsbD q || !islandUp s || !latchOpen s x || x.trip.latched then s
    else if c.acc.nph ≤ 8 then latchTrip r c 1 q s
    else countTrip r c ch (if latched x then s else lateBack [bankOf ch.val] (onChan ch (terminate s) s))

/-- A current-limit comparator that still stands asserted at its channel's carrier start makes the master carrier period
a trip period (R110). A shed channel counts like an active one, a bypassed one is ignored. -/
def startTrip (r : RailId) (c : RailCfg) (ch : ChanId) (odd : Bool) (s : State) : State :=
  let k := s.chans[ch]
  let runs := k.st == .switching || k.st == .cycleTerm || k.st == .shed
  if k.rawTrip && runs && !odd && decide (8 < c.acc.nph) then countTrip r c ch s else s

/-! ## Output levels (R90, R92, R102) -/

/-- The level kind at tap `t`: a compare edge that leaves the DLL later has not yet acted (R93). -/
def lvlAt (k : Chan) (t : Nat) : OutLvl :=
  match k.out with
  | .on => if t < k.onAt then k.pre else .on
  | .low => if t < k.offAt then k.pre else .low
  | .off => if t < k.offAt then k.pre else .off
  | o => o

/-- PWMppp in STAGE mode (R90): SAFE code 0x0 low, 0x1 mid, 0x2 high. -/
def stagePad (safe : Nat) : OutLvl → PadLvl
  | .weak => .weak
  | .on => .high
  | .low => .low
  | .off => .mid
  | .safe => if safe = 0 then .low else if safe = 1 then .mid else .high

/-- The level of the high-side output of a PAIR phase at tap `t`: high from the rising delay of the band after the on
edge while the on-time lasts; at safe level bit 0 of the SAFE code. -/
def pairHigh (s : State) (c : RailCfg) (safe : Nat) (k : Chan) (t : Nat) : Bool :=
  match lvlAt k t with
  | .on => match bandCfg s k.onBand with
    | some b => decide (k.onAt + b.pairRise ≤ t)
    | none => false
  | .safe => c.acc.pair && safe.testBit 0
  | _ => false

/-- The level of the low-side output: high from the falling delay after the off edge; at safe level bit 1. -/
def pairLow (s : State) (c : RailCfg) (safe : Nat) (k : Chan) (t : Nat) : Bool :=
  match lvlAt k t with
  | .low => match bandCfg s k.onBand with
    | some b => decide (k.offAt + b.pairFall ≤ t)
    | none => true
  | .safe => c.acc.pair && safe.testBit 1 && !safe.testBit 0
  | _ => false

/-- A ball driven high or low. -/
def driven (b : Bool) : PadLvl := if b then .high else .low

/-- The self-test of a bank holds its outputs at off level, and safe level comes before it (R90, R112, R180).
Log entry 25, DEDUCED. -/
def bistHolds (s : State) (ch : ChanId) (k : Chan) : Bool :=
  k.out != .safe && match toFin 24 (bankOf ch.val) with | some b => s.banks[b].bistRun | none => false

/-- The level that a channel's output logic gives its PWM ball at tap `t` (R90, R92): the phase's compare logic drives both
balls of a pair. -/
def pwmLevel (s : State) (ch : ChanId) (t : Nat) : PadLvl :=
  match owner s ch with
  | none => stagePad 0 (if bistHolds s ch s.chans[ch] then .off else lvlAt s.chans[ch] t)
  | some (_, c, q, odd) =>
    let safe := c.acc.safe.getD q 0
    let k := match toFin 192 (c.acc.phase.getD q 0) with | some p => s.chans[p] | none => {}
    if bistHolds s ch k then (if c.acc.pair then .low else .mid)
    else if k.out == .weak then .weak
    else if !c.acc.pair then stagePad safe (lvlAt k t)
    else driven (if odd then pairLow s c safe k t else pairHigh s c safe k t)

/-- The image-declared safe level of a channel's ball (R61, R90). -/
def safePad (s : State) (ch : ChanId) : PadLvl :=
  match owner s ch with
  | none => .weak
  | some (_, c, q, odd) =>
    let safe := c.acc.safe.getD q 0
    if !c.acc.pair then stagePad safe .safe
    else driven (if odd then safe.testBit 1 && !safe.testBit 0 else safe.testBit 0)

/-- A reset of the island with outputs on (R29, R333): the pad latches of the state before hold the safe levels, and let go
0.5 µs to 1.0 µs after the edge; the instant between is open (log entry 5, DESIGN CHOICE). -/
def padHold (old s : State) : State :=
  if islandUp old && isSealed old then
    { s with
      chans := mapTab (fun i k => { k with pad := match toFin 192 i with | some ch => safePad old ch | none => .weak }) s.chans
      pwr := { s.pwr with padsUntil := s.now + 400 + (drawFree s).1.toNat % 401 }
      free := s.free + 1 }
  else s

end Sys2Proof.Machine
end

