-- ==== Sys2Proof/Machine/Engine.lean ====
section
/-! DEFINITION. The rail engine's sample (R120 to R137): the EADC code and error, the window, the compensator in fixed
point, the effective-limit clamp, the distributor, the CO-RI decision, fold-back, pre-bias, the Sillage entry. -/

namespace Sys2Proof.Machine

/-! ## Code and error (R121) -/

/-- The EADC code of `vpin` in µV with the window centre `w` in 1.25 mV: round((k × W − vpin) / 0.25 mV), saturated.
Log entry 7, DESIGN CHOICE. -/
def eadcCode (divk w : Nat) (vpin : Int) : Int :=
  clampI (-512) 511 (roundDiv ((divk * w * 1250 : Nat) - vpin * 32768) (250 * 32768))

/-- The error e in 1/16 code: c + k × (Vt − W) / 0.25 mV, rounded (R121). -/
def errOf (divk w pos : Nat) (code : Int) : Int :=
  16 * code + roundDiv (80 * divk * ((pos : Int) - (w * posUnit : Nat))) (32768 * 2 ^ 24)

/-- The load-line term ll in 1/16 code (R126, R127): k × lline × isum / 250 µV, rounded. -/
def llOf (c : RailCfg) (lline : Nat) (isum : Int) : Int :=
  if c.eng.llEn then roundDiv (16 * (c.eng.divk : Int) * lline * isum) (32768 * 8 * 250) else 0

/-! ## The window (R122, R123) -/

/-- The position rests: the piece in force has reached its goal. -/
def atRest (s : State) (x : Rail) : Bool :=
  match x.pos.moves with
  | [] => true
  | m :: _ => posNow s x == m.dest

/-- A re-centre is due at this sample (R122): k × |Vt − W| above 32 mV, or the target at rest and W off the target. -/
def recentreDue (s : State) (c : RailCfg) (x : Rail) : Bool :=
  let pos := posNow s x
  let w := x.eng.centre * posUnit
  let dist := if w ≤ pos then pos - w else w - pos
  decide (128 * 32768 * 2 ^ 24 < c.eng.divk * dist * 5)
    || (atRest s x && x.eng.centre != roundNat pos posUnit)

/-! ## The compensator (R126 to R131) -/

/-- A 48-bit two's complement word (R127). -/
def wrap48 (v : Int) : Int := signed 48 (twos 48 v)

/-- w[n] with 40 fractional bits (R126, R127, R128). -/
def numer (e : EngineCfg) (k : CoefSet) (ef ef1 ef2 : Int) : Int :=
  let z1 := if 1 ≤ e.zeros then k.c1 * ef1 else 0
  let z2 := if 2 ≤ e.zeros then k.c2 * ef2 else 0
  (k.c0 * ef + z1 + z2) * 2 ^ (28 - k.shift)

/-- p[n]: the products of C3 and C4 truncated toward minus infinity. Log entry 61, DESIGN CHOICE. -/
def poleSum (e : EngineCfg) (k : CoefSet) (w p1 p2 : Int) : Int :=
  let a := if 1 ≤ e.poles then k.c3 * p1 / 2 ^ 21 else 0
  let b := if 2 ≤ e.poles then k.c4 * p2 / 2 ^ 21 else 0
  wrap48 (w + a + b)

/-- One step of the compensator without the effective-limit clamp. -/
def compStep (c : RailCfg) (k : CoefSet) (pos : Nat) (ef : Int) (m : Comp) : Comp :=
  let p := poleSum c.eng k (numer c.eng k ef m.ef1 m.ef2) m.p1 m.p2
  let u := if c.eng.integ then clampI (dlo c) (dhi c) (m.u + p) else clampI (dlo c) (dhi c) (p + biasDuty k.c6 pos)
  { m with ef1 := ef, ef2 := m.ef1, p1 := p, p2 := m.p1, u := u, d := u }

/-- The effective-limit clamp (R130): the duty may hold or fall, never rise. -/
def limitClamp (acts : Bool) (dprev : Int) (m : Comp) : Comp :=
  if acts then { m with u := min m.u dprev, d := min m.u dprev } else m

/-- The compensator prepared for a first sample (R131, R136): u at a bias duty, the histories cleared; d, the duty that the clamp
of R130 holds, takes the same value. Log entry 54, DESIGN CHOICE. -/
def preset (c : RailCfg) (k : CoefSet) (v : Nat) (m : Comp) : Comp :=
  let u := clampI (dlo c) (dhi c) (biasDuty k.c6 v)
  { m with ef1 := 0, ef2 := 0, p1 := 0, p2 := 0, u := u, d := u }

/-- The first sample of a ramp has prepared the compensator (R131). -/
def presetFirst (c : RailCfg) (x : Rail) : Rail :=
  if x.eng.first then
    { x with eng := { x.eng with first := false, comp := preset c x.coef.work (x.eng.preload * posUnit) x.eng.comp } }
  else x

/-- Saturation to 32 bits (R133). -/
def sat32 (v : Int) : Int := clampI (-(2 ^ 31)) (2 ^ 31 - 1) v

/-! ## The distributor (R132) -/

/-- d × PERIOD × 64, truncated to whole taps; d with 24 fractional bits (R127, R132). -/
def dutyTaps (c : RailCfg) (d : Int) : Int := d / 2 ^ 16 * (c.md.period * tickTaps : Nat) / 2 ^ 24

/-- A duty limit in whole taps. -/
def limitTaps (c : RailCfg) (l : Int) : Int := l * (c.md.period * tickTaps : Nat) / 2 ^ 40

/-- What the sounding adds to a position's CMP_OFF in the carrier period numbered `no` (R264). -/
def sndDelta (x : Rail) (q no : Nat) : Int :=
  if x.snd.run && (x.snd.capStage || x.snd.pos == some q) then
    ((x.snd.plan.filter fun p => p.1 == no).map (·.2)).sum
  else 0

/-- CMP_OFF of a position in the carrier period numbered `no`: the common duty, the trim and what a sounding adds, inside the
duty limits (R132, R264). -/
def distOff (c : RailCfg) (x : Rail) (q no : Nat) : Nat :=
  (clampI (limitTaps c (dlo c)) (limitTaps c (dhi c))
    (dutyTaps c x.eng.comp.d + trimAt c x q + sndDelta x q no)).toNat

/-- The number of the carrier period that a write to CMP_OFF belongs to (R94, R264). -/
def writeNo (s : State) (k : Chan) : Nat := if startDue s k then k.csNo + 1 else k.csNo

/-- At a carrier start at which the addition of a sounding changes, CMP_OFF follows (R264); a trip of the same tick discards that update
(R41). -/
def sndShadow (c : RailCfg) (x : Rail) (now q no : Nat) (k : Chan) : Chan :=
  if sndDelta x q k.csNo = sndDelta x q no || k.tripAt == some now then k
  else { k with shOff := some (distOff c x q no), updAt := some now, updOn := none, updLate := none
                updOld := if k.updAt == some now then k.updOld else k.shOff.getD k.cmpOff }

/-- Write each active phase's CMP_OFF; none in CO-RI (R104, R106, R107, R133). -/
def distribute (r : RailId) (c : RailCfg) (s : State) : State :=
  let x := s.rails[r]
  let l := if x.eng.mode = .cori then [] else (active c x).map fun q => (c.acc.phase.getD q 0, q)
  let wr := fun (i : Nat) (k : Chan) => match l.find? fun p => p.1 == i with
    | some p => offWrite s c x.eng.mode (distOff c x p.2 (writeNo s k)) k
    | none => (k, false)
  let late := (l.filter fun p => match toFin 192 p.1 with
    | some ch => (wr p.1 s.chans[ch]).2
    | none => false).map fun p => bankOf p.1
  onBanks late (fun b => { b with
    late := true, lateAt := some (s.now, match b.lateAt with | some (t, was) => if t = s.now then was else b.late | none => b.late) }) { s with chans := mapTab (fun i k => (wr i k).1) s.chans }

/-! ## CO-RI (R133, R134) -/

/-- The next active position in PHASE order after the one that started last (R134); before any has started, the position 0
counts as the last one. Log entry 53, DESIGN CHOICE. -/
def nextPhase (c : RailCfg) (x : Rail) : Option Nat :=
  let l := active c x
  match l.find? fun q => decide (x.eng.lastPhase < q) with
  | some q => some q
  | none => l.head?

/-- The start rules of R134 but for the comparator: low or off level for at least 32 ticks. -/
def startFree (now : Nat) (k : Chan) : Bool :=
  (k.st == .switching || k.st == .cycleTerm) && (k.out == .low || k.out == .off) && !k.leaving
    && decide (k.offAt + 32 * tickTaps ≤ now * tickTaps)

/-- The compare words of an on-time that starts now, modulo the carrier counter (R134). -/
def coriWords (c : RailCfg) (now : Nat) (k : Chan) : Nat × Nat :=
  let p := coriTicks * tickTaps
  let on := (now - k.cs + 1) % coriTicks * tickTaps
  (on, (on + c.md.tonco * tickTaps) % p)

/-- Start an on-time of a channel, from low or off level; a termination of the same tick discards the words (R41, R113, R134).
Log entry 33, DEDUCED. -/
def coriStart (c : RailCfg) (now : Nat) (k : Chan) : Chan :=
  let w := coriWords c now k
  if !placesEdges k || k.leaving || k.tripAt == some now then k
  else { k with st := .switching, cmpOn := w.1, cmpOff := w.2, onDone := false, newOfs := none, joining := false
                updAt := some now, updOld := k.cmpOff, updOn := some k.cmpOn }

/-- Start an on-time of the channel at a position. -/
def coriPut (c : RailCfg) (q : Nat) (s : State) : State :=
  match toFin 192 (c.acc.phase.getD q 0) with
  | some ch => onChan ch (coriStart c s.now) s
  | none => s

/-! ## The compare words of a sample (R94) -/

/-- A DPWM tick edge that is a core clock edge: every second one (R27). Log entry 1, DESIGN CHOICE. -/
def onCoreEdge (s : State) : Bool := s.now % 2 == 0

/-- The core clock edge at which the compare words of a sample at tick `t` stand in the compare registers (R35): 47.5 ns after a
sample on a core clock edge, 48.75 ns after one between two. Log entry 9, DESIGN CHOICE. -/
def wordsTick (t : Nat) : Nat := t + 38 + t % 2

/-- The distributor's words of a sample at tick `t` take effect at their core clock edge (R35, R94). -/
def wordsPut (r : RailId) (t : Nat) (s : State) : State :=
  onRail r (fun x => { x with eng := { x.eng with wordsDue := some (wordsTick t) } }) s

/-- The CO-RI decision of an unmarked sample, taken where its words reach the compare registers, with the C5 in force at the sample
(R35, R133, R134, R145).
Log entry 53, DESIGN CHOICE. -/
def coriSample (r : RailId) (c : RailCfg) (ef c5 : Int) (s : State) : State :=
  let x := s.rails[r]
  let m := x.eng.comp
  let xi := sat32 (m.x + ef)
  let v := ef + c5 * xi / 2 ^ 24 - m.rip
  let decay := fun n : Nat => if n = 0 then 0 else n - max (n / 16) 1
  let put := fun (rip q : Nat) (s : State) => onRail r (fun x =>
    { x with eng := { x.eng with lastPhase := q, comp := { x.eng.comp with x := xi, rip := decay rip } } }) s
  match nextPhase c x with
  | none => put m.rip x.eng.lastPhase s
  | some q =>
    match toFin 192 (c.acc.phase.getD q 0) with
    | none => put m.rip x.eng.lastPhase s
    | some ch =>
      let k := s.chans[ch]
      if 0 < v ∧ startFree s.now k then
        if k.rawTrip then put m.rip x.eng.lastPhase (countTrip r c ch s)
        else put (m.rip + 4 * c.md.ripg) q (coriPut c q s)
      else put m.rip x.eng.lastPhase s

/-- The words of a sample of a rail, and a CO-RI decision, that fall due at this core clock edge, if the engine still runs
(R35, R94). Log entry 9, DESIGN CHOICE. Log entry 53, DESIGN CHOICE. -/
def wordsTake (rc : RailId × RailCfg) (s : State) : State :=
  let x := s.rails[rc.1]
  let due := fun t => decide (t ≤ s.now)
  let s := if x.eng.wordsDue.any due then
      let t := onRail rc.1 (fun x => { x with eng := { x.eng with wordsDue := none } }) s
      if x.eng.on then distribute rc.1 rc.2 t else t
    else s
  match x.eng.coriDue with
  | some (t, ef, c5) =>
    if due t then
      let s := onRail rc.1 (fun x => { x with eng := { x.eng with coriDue := none } }) s
      if x.eng.on && x.eng.mode == .cori then coriSample rc.1 rc.2 ef c5 s else s
    else s
  | none => s

/-! ## Fold-back, telemetry, Sillage -/

/-- A Sillage entry (R311). -/
def silWord (s : State) (c : RailCfg) (x : Rail) : BitVec 64 :=
  BitVec.ofNat 64 (fld 54 10 (twos 10 x.eng.code) + bitf 53 x.eng.mark + bitf 52 x.eng.sat + bitf 51 x.eng.clampI
    + fld 35 16 (dutyWord x.eng.comp.d) + fld 19 16 (s16 (isumOf c x)) + fld 13 6 x.sh.nact
    + fld 0 13 (s.now - x.seq.mcs))

/-- Record an entry in an armed buffer of 4,096 entries (R309). -/
def silPush (e : BitVec 64) (x : Rail) : Rail :=
  if x.sil.frozen then x
  else
    let l := x.sil.entries ++ [e]
    { x with sil := { x.sil with entries := l.drop (l.length - 4096) } }

/-- Record the sample in the rail's buffer; what it has recorded stays known while a change of the bandgap could mark it (R124). -/
def silRecord (r : RailId) (c : RailCfg) (s : State) : State :=
  onRail r (fun x =>
    let w := silWord s c x
    silPush w { x with eng := { x.eng with
      before := x.eng.before.map fun b => { b with sil := if x.sil.frozen then none else some w } } }) s

/-- vout of an unmarked sample in 2^-24 / DIVK of 0.25 mV (R238, R391). -/
def voutOf (divk pos : Nat) (e16 : Int) : Int := (5 * divk * pos : Nat) - e16 * 2 ^ 35

/-! ## One sample -/

/-- The registers that every sample writes (R147): code, marks, error. A sample marked for another reason sets no ESAT though
its code is an end code. Log entry 51, DESIGN CHOICE. -/
def putSample (code ef : Int) (mark sat : Bool) (x : Rail) : Rail :=
  { x with eng := { x.eng with
      code := code, errReg := if mark then x.eng.errReg else ef, mark := mark, sat := sat, esat := x.eng.esat || (sat && !mark)
      marked := x.eng.marked || mark, markCnt := if mark then satInc 65535 x.eng.markCnt else x.eng.markCnt } }

/-- Pre-bias measurement by one unmarked sample (R226). -/
def prebSample (r : RailId) (c : RailCfg) (code : Int) (s : State) : State :=
  let x := s.rails[r]
  if code = -512 then onRail r (fun x => { x with eng := { x.eng with recDue := true } }) s
  else if code = 511 ∨ 8 ≤ x.seq.prebN then s
  else
    let n := x.seq.prebN + 1
    let sum := x.seq.prebSum + ((5 * c.eng.divk * x.eng.centre : Nat) - code * 32768)
    let s := onRail r (fun x => { x with seq := { x.seq with prebN := n, prebSum := sum } }) s
    if n = 8 then rearm 0 (.prebiasMeasured r) s else s

/-- How far the window rises after a saturated sample: 200 mV / k (R226). -/
def prebRise (c : RailCfg) : Nat := roundNat (160 * 32768) (max c.eng.divk 1)

/-- The conversion of a sample taken now spans the coming change of the active bandgap (R260). -/
def gapMark (s : State) : Bool := s.hadc.mon.gapAt.any (s.now ≤ ·)

/-- The words that a sample changes, as they stand before it (R124, R260). -/
def beforeOf (x : Rail) : Before :=
  { comp := x.eng.comp, clampI := x.eng.clampI, first := x.eng.first, modeChg := x.eng.modeChg, esat := x.eng.esat
    errReg := x.eng.errReg, lastPhase := x.eng.lastPhase, fold := x.lim.fold, recDue := x.eng.recDue, prebN := x.seq.prebN, prebSum := x.seq.prebSum
    vs := x.tel.vs }

/-- The words of a sample taken back: it is marked after all (R124, R260). -/
def putBefore (b : Before) (x : Rail) : Rail :=
  { x with
    eng := { x.eng with comp := b.comp, clampI := b.clampI, first := b.first, modeChg := b.modeChg, esat := b.esat
                        errReg := b.errReg, lastPhase := b.lastPhase, recDue := b.recDue, mark := true, marked := true
                        markCnt := satInc 65535 x.eng.markCnt, wordsDue := none, coriDue := none, before := none }
    lim := { x.lim with fold := b.fold }
    seq := { x.seq with prebN := b.prebN, prebSum := b.prebSum }
    tel := { x.tel with vs := b.vs } }

/-- The length of an EADC conversion in DPWM ticks: 32 ns, that is 25.6 (R35). -/
def convTicks : Nat := 25

/-- The fields of a Sillage entry that a late mark changes: MARK, CLAMPI, DUTY (R311). -/
def silLateMask : BitVec 64 := 0x003F_FFF8_0000_0000#64 &&& ~~~(1#64 <<< 52)

/-- The Sillage entry of a sample that is marked after all: MARK, with CLAMPI and DUTY as they stand for a marked sample (R311). -/
def silLate (x : Rail) (w : BitVec 64) : BitVec 64 :=
  (w &&& ~~~silLateMask) ||| BitVec.ofNat 64 (bitf 53 true + bitf 51 x.eng.clampI + fld 35 16 (dutyWord x.eng.comp.d))

/-- A list of entries whose newest one is `w`: it is marked. -/
def silLast (x : Rail) (w : BitVec 64) (l : List (BitVec 64)) : List (BitVec 64) :=
  if l.getLast? == some w then l.dropLast ++ [silLate x w] else l

/-- The entry `w` of the last sample is marked, in its buffer and in a record that a freeze has made since (R311, R344).
Log entry 8, DESIGN CHOICE. -/
def silAgain (r : RailId) (w : BitVec 64) (s : State) : State :=
  let x := s.rails[r]
  let s := onRail r (fun x => { x with sil := { x.sil with
    entries := silLast x w x.sil.entries, rearmed := x.sil.rearmed.map fun p => (p.1, silLast x w p.2.1, p.2.2) } }) s
  { s with nvl := { s.nvl with queue := s.nvl.queue.map fun q => if q.rail = r.val then { q with sil := silLast x w q.sil } else q } }

/-- A sample whose conversion spans the core clock edge `e` at which the active bandgap changes is marked and treated so (R124,
R260). -/
def remark (e : Nat) (rc : RailId × RailCfg) (s : State) : State :=
  let x := s.rails[rc.1]
  match x.eng.lastAt, x.eng.before with
  | some t, some b =>
    if e ≤ t + convTicks then
      let s := disarm (· == .prebiasMeasured rc.1) (onRail rc.1 (putBefore b) s)
      let x := s.rails[rc.1]
      let s := if x.eng.first && x.eng.on then wordsPut rc.1 t (onRail rc.1 (presetFirst rc.2) s) else s
      match b.sil with
      | some w => silAgain rc.1 w s
      | none => s
    else s
  | _, _ => s

/-- The mark of this sample and the window centre after it (R123, R226, R260). -/
def sampleMark (s : State) (c : RailCfg) (x : Rail) : Bool × Nat × Bool :=
  if x.seq.measuring then
    if x.eng.recDue then (true, x.eng.centre + prebRise c, true) else (gapMark s, x.eng.centre, false)
  else if recentreDue s c x then (true, roundNat (posNow s x) posUnit, true)
  else (gapMark s, x.eng.centre, false)

/-- The engine holds its words from M of a capacitance repetition until V1 has been sampled (R264). -/
def sndHeld (s : State) (r : RailId) (x : Rail) : Bool :=
  x.snd.run && x.snd.hold && match s.hadc.conv with | some v => v.user != .atomiser r 2 | none => true

/-- The computation of an unmarked sample in FF-VM and HYB. -/
def loopSample (r : RailId) (c : RailCfg) (ef : Int) (acts : Bool) (s : State) : State :=
  let x := s.rails[r]
  let pos := posNow s x
  let f := fun x : Rail =>
    let k := x.coef.work
    let m := if x.eng.first then preset c k (x.eng.preload * posUnit) x.eng.comp
      else if x.eng.modeChg then preset c k pos x.eng.comp else x.eng.comp
    let m := limitClamp acts m.d (compStep c k pos ef m)
    { x with eng := { x.eng with comp := m, first := false, modeChg := false, clampI := acts } }
  wordsPut r s.now (onRail r f s)

/-- A sample under the hold of a sounding: the words stand, the effective-limit clamp acts (R264). -/
def heldSample (acts : Bool) (x : Rail) : Rail :=
  { x with eng := { x.eng with clampI := acts, comp := limitClamp acts x.eng.comp.d x.eng.comp } }

/-- A CO-RI sample: its decision falls due with its words (R35, R134), by the coefficients in force now (R145, R146). -/
def coriTake (c : RailCfg) (ef : Int) (acts : Bool) (now : Nat) (x : Rail) : Rail :=
  let x := presetFirst c x
  { x with eng := { x.eng with clampI := acts, coriDue := some (wordsTick now, ef, x.coef.work.c5) } }

/-- One EADC sample of a rail that is not stopped (R120 to R136, R226, R238, R309). The clamp compares the rail sum with the
effective limit before this sample's fold-back. Log entry 51, DESIGN CHOICE. -/
def eadcSample (r : RailId) (c : RailCfg) (vpin : Int) (s : State) : State :=
  let x := s.rails[r]
  let pos := posNow s x
  let code := eadcCode c.eng.divk x.eng.centre vpin
  let sat := code == 511 || code == -512
  let e := errOf c.eng.divk x.eng.centre pos code
  let isum := isumOf c x
  let ef := narrow16 (e - llOf c x.eng.llineW isum)
  let mk := sampleMark s c x
  let acts := x.eng.on && decide ((ilimEff c x : Int) ≤ isum)
  let before := if mk.1 then none else some (beforeOf x)
  let s := onRail r (fun x => putSample code ef mk.1 sat { x with eng := { x.eng with before := before } }) s
  let s := onRail r (fun x => { x with eng := { x.eng with
    centre := mk.2.1, recnt := if mk.2.2 then (x.eng.recnt + 1) % 65536 else x.eng.recnt
    recDue := x.eng.recDue && !mk.1 } }) s
  let s := if x.seq.sw && !x.prot.ovArm && !latched x then
    ovLatch r c (onRail r (fun x => { x with prot := { x.prot with ovArm := true } }) s) else s
  let s :=
    if mk.1 then
      if x.eng.first && x.eng.on then wordsPut r s.now (onRail r (presetFirst c) s) else s
    else
      let s := onRail r (fun x => { x with
        lim := { x.lim with fold := foldAt c (foldX c pos code e) }
        tel := { x.tel with vs := ((voutOf c.eng.divk pos e, c.eng.divk) :: x.tel.vs).take 1024 } }) s
      if x.seq.measuring then prebSample r c code s
      else if !x.eng.on then s
      else
        if sndHeld s r x then onRail r (heldSample acts) s
        else if x.eng.mode = .cori then onRail r (coriTake c ef acts s.now) s
        else loopSample r c ef acts s
  silRecord r c s

end Sys2Proof.Machine
end

