-- ==== Sys2Proof/Machine/LimStep.lean ====
section
/-! DEFINITION. The stepped contributions to the effective limit: the throttle term (R288 to R290) and the budget term
(R239, R42). -/

namespace Sys2Proof.Machine

/-! ## Throttling -/

/-- The sensors that cover a rail (R288): for each bank of a non-bypassed channel, its stage channel and the on-die
sensor beside it. -/
def coverSet (c : RailCfg) (x : Rail) : List Nat :=
  ((avail c x).map fun q => bankOf (c.acc.phase.getD q 0)).eraseDups.flatMap fun b => [8 + b, b / 3]

/-- Some sensor of the rail's set is hot (R287, R288). -/
def coverHot (s : State) (c : RailCfg) (x : Rail) : Bool := (coverSet c x).any fun i => sensorHot (s.thm.sens.getD i {})

/-- Every sensor of the set has been evaluated afresh since a control-domain reset; a rail that was throttled at it waits for that
(R290). -/
def coverFresh (s : State) (c : RailCfg) (x : Rail) : Bool :=
  (coverSet c x).all fun i =>
    let k := s.thm.sens.getD i {}
    (k.valid || k.invalidHot) && !k.rorHold

/-- A rail becomes throttled (R288, R289): the period timing of a contribution that rises is kept. -/
def throttleOn (r : RailId) (c : RailCfg) (s : State) : State :=
  let s := onRail r (fun x => { x with lim := { x.lim with throttled := true, rising := false } }) s
  let s := { s with thm := { s.thm with throt := true } }
  if isArmed (.throttleStep r) s then s else arm (tperiodTicks c) (.throttleStep r) s

/-- Throttling of a rail ends (R289). -/
def throttleOff (r : RailId) (c : RailCfg) (s : State) : State :=
  if s.rails[r].lim.thr < c.cur.ilim then
    let s := onRail r (fun x => { x with lim := { x.lim with throttled := false, rising := true, held := false } }) s
    if isArmed (.throttleStep r) s then s else arm (tperiodTicks c) (.throttleStep r) s
  else disarm (· == .throttleStep r)
    (onRail r (fun x => { x with lim := { x.lim with throttled := false, rising := false, held := false } }) s)

/-- Decide the throttled state of one rail anew (R288). -/
def throttleRail (rc : RailId × RailCfg) (s : State) : State :=
  let x := s.rails[rc.1]
  let hot := coverHot s rc.2 x
  if hot && !x.lim.throttled then throttleOn rc.1 rc.2 s
  else if !hot && x.lim.throttled && (!x.lim.held || coverFresh s rc.2 x) then throttleOff rc.1 rc.2 s
  else s

/-- Decide the throttled state of every configured rail anew. -/
def throttleAll (s : State) : State := forEach (configured s) throttleRail s

/-- The control domain of a running island answers: a step is taken (R242, R290). -/
def stepsTaken (s : State) : Bool := islandUp s && answers s

/-- One step of the throttle contribution (R289); a step instant before the control domain answers is skipped, and the grid runs on
(R290), in STANDBY too (R324). -/
def throttleStepped (r : RailId) (c : RailCfg) (s : State) : State :=
  let x := s.rails[r]
  let again := arm (tperiodTicks c) (.throttleStep r)
  if !stepsTaken s then again s
  else if x.lim.throttled then
    let v := max (throtFloor c) (x.lim.thr - limStep c)
    let s := onRail r (fun x => { x with lim := { x.lim with thr := v } }) s
    if throtFloor c < v then again s else s
  else
    let v := min c.cur.ilim (x.lim.thr + limStep c)
    let s := onRail r (fun x => { x with lim := { x.lim with thr := v, rising := decide (v < c.cur.ilim) } }) s
    if v < c.cur.ilim then again s else s

/-! ## Budget -/

/-- The budget value of a share: PORT_BUDGET × SHARE / 128, truncated (R239). -/
def shareOf (budget share : Nat) : Nat := budget * share / 128

/-- A new budget value B of a rail (R239). -/
def budgetRail (r : RailId) (c : RailCfg) (b : Nat) (s : State) : State :=
  let x := s.rails[r]
  let eff := ilimEff c x
  let put := fun (v : Nat) (st : Bool) (s : State) =>
    onRail r (fun x => { x with lim := { x.lim with goal := b, bud := v, stepping := st } }) s
  if x.lim.stepping then
    if b < x.lim.bud then put x.lim.bud true s
    else disarm (· == .budgetStep r) (put b false s)
  else if eff ≤ b then put b false s
  else rearm (tperiodTicks c) (.budgetStep r) (put eff true s)

/-- A write to PORT_BUDGET (R217, R239). -/
def budgetWrite (p : PortId) (w : Word) (s : State) : State :=
  let s := onPort p (fun x => { x with budget := w.setWidth 16 }) s
  forEach (ownedRails s p) (fun r s =>
    match railCfg s r, portOf s r with
    | some c, some (_, _, sh) => if sh = 0 then s else budgetRail r c (shareOf (bits w 0 16) sh) s
    | _, _ => s) s

/-- One step of the budget contribution (R239); its grid runs on like that of throttling (R242). -/
def budgetStepped (r : RailId) (c : RailCfg) (s : State) : State :=
  let x := s.rails[r]
  let again := arm (tperiodTicks c) (.budgetStep r)
  if !stepsTaken s then again s
  else
    let v := max x.lim.goal (x.lim.bud - limStep c)
    let s := onRail r (fun x => { x with lim := { x.lim with bud := v, stepping := decide (x.lim.goal < v) } }) s
    if x.lim.goal < v then again s else s

end Sys2Proof.Machine
end

