-- ==== Sys2Proof/Machine/Sounding.lean ====
section
/-! DEFINITION. Coefficient selection (R143, R144) and sounding with the Atomiser (R263 to R266, R275). -/

namespace Sys2Proof.Machine

/-! ## Coefficient selection -/

/-- The sounding-indexed set: iL × NC + iC of the results in force, set 0 before the first (R63, R143). -/
def sndIndex (c : RailCfg) (x : Rail) : Nat :=
  if x.snd.valid then
    ((c.coef.ledge.take (c.coef.nl - 1)).filter (· ≤ x.snd.l)).length * c.coef.nc
      + ((c.coef.cedge.take (c.coef.nc - 1)).filter (· ≤ x.snd.c)).length
  else 0

/-- The host shadow set (R144). -/
def shadowSet (x : Rail) : CoefSet :=
  let w := fun i => signed 24 (x.coef.shadow.getD i 0).toNat
  ⟨w 0, w 1, w 2, w 3, w 4, w 5, w 6, x.coef.shift.toNat⟩

/-- A set holds no word outside the declared structure (R128) and a SHIFT of 0 to 23 (R63). -/
def setLegal (e : EngineCfg) (k : CoefSet) : Bool :=
  (decide (1 ≤ e.zeros) || k.c1 == 0) && (decide (2 ≤ e.zeros) || k.c2 == 0) && (decide (1 ≤ e.poles) || k.c3 == 0)
    && (decide (2 ≤ e.poles) || k.c4 == 0) && decide (k.shift ≤ 23)

/-- A set of the image, with its number. -/
def imageSet (c : RailCfg) (i : Nat) : Option (Nat × CoefSet) :=
  if i < c.coef.nl * c.coef.nc then (c.coef.sets[i]?).map fun k => (i, k) else none

/-- The set a selection mode names (R144); none when it is ignored and the set in use is kept. -/
def coefChoice (c : RailCfg) (x : Rail) (mode : BitVec 2) : Option (Nat × CoefSet) :=
  match mode with
  | 0 => imageSet c (sndIndex c x)
  | 1 => imageSet c c.eng.fixset
  | 2 => imageSet c (x.coef.hil.toNat * c.coef.nc + x.coef.hic.toNat)
  | _ => if setLegal c.eng (shadowSet x) then some (0x7F, shadowSet x) else none

/-- Load the set that a mode names; the mode is in force from here (R144). Log entry 61, DESIGN CHOICE. -/
def coefLoad (c : RailCfg) (mode : BitVec 2) (x : Rail) : Rail :=
  match coefChoice c x mode with
  | some (n, k) => { x with coef := { x.coef with sel := n, work := k, inForce := mode } }
  | none => x

/-- The loads of a master carrier start (R143, R144, R146): a host APPLY, or a new sounding index once the target is at
rest. -/
def coefDue (s : State) (c : RailCfg) (x : Rail) : Rail :=
  let x := if x.coef.applyDue then
      coefLoad c x.coef.cmode { x with coef := { x.coef with applyDue := false } }
    else x
  if x.coef.selDue && atRest s x then
    let x := { x with coef := { x.coef with selDue := false } }
    if x.coef.inForce = 0 then coefLoad c 0 x else x
  else x

/-- A write to RAIL_COEF_SEL (R144, R147). -/
def coefWrite (r : RailId) (w : Word) (s : State) : State :=
  onRail r (fun x => { x with coef := { x.coef with
    cmode := BitVec.ofNat 2 (bits w 24 2), shift := BitVec.ofNat 5 (bits w 19 5), hil := BitVec.ofNat 3 (bits w 11 3)
    hic := BitVec.ofNat 3 (bits w 8 3), applyDue := x.coef.applyDue || bitw w 31 } }) s

/-! ## Requests and start (R263) -/

/-- A write to RAIL_SND (R263, R275). -/
def sndWrite (r : RailId) (w : Word) (s : State) : State :=
  let s := onRail r (fun x => { x with snd := { x.snd with dt := w.setWidth 16 } }) s
  if bits w 24 8 = 0xA5 ∧ bitw w 23 then
    onRail r (fun x =>
      if (railState x = 1 ∨ railState x = 2) ∧ !x.snd.pend ∧ !x.snd.run then
        { x with snd := { x.snd with pend := true, auto := false } }
      else { x with snd := { x.snd with cause := 8 } }) s
  else s

/-- Some rail sounds. -/
def anySounding (s : State) : Bool := s.rails.toList.any fun x => x.snd.run

/-- The conditions for a pending sounding to start at a master carrier start. -/
def sndReady (s : State) (r : RailId) (x : Rail) : Bool :=
  x.snd.pend && !s.pwr.ctlHeld && railState x == 2 && !railMacer s r && atRest s x && x.eng.mode != .cori && !anySounding s

/-- ΔT in force (R264). -/
def sndDt (c : RailCfg) (x : Rail) : Nat := clampN 256 (min 8192 (c.md.period * 8)) x.snd.dt.toNat

/-- K of R264. -/
def sndK (c : RailCfg) : Nat := max 3 ((1600 + c.md.period - 1) / max c.md.period 1)

/-- The first repetition lies at this master carrier start, or at the next one when only that one begins a sampling period
(R150, R264). -/
def sndFirst (c : RailCfg) (no : Nat) : Nat := if c.md.period < 400 then no + no % 2 else no

/-- A sounding starts. Rails that wait at one master carrier start are served in ascending number. -/
def sndStart (r : RailId) (c : RailCfg) (s : State) : State :=
  let x := s.rails[r]
  let earlier := (allFin 24).any fun q => decide (q.val < r.val) && isArmed (.soundingStart q) s
  if sndReady s r x && !earlier then
    let first := sndFirst c x.seq.mcsNo
    let t := disarm (· == .soundingEnd r) (onRail r (fun x => { x with snd := { x.snd with
      pend := false, run := true, n := x.sh.nact, d0 := dutyWord x.eng.comp.d, rep := 0, capStage := false
      dis := [], dvs := [], dropped := 0, dtw := sndDt c x, nextNo := first, plan := [], pos := none, i0 := none
      hold := false } }) s)
    rearm ((first - x.seq.mcsNo) * c.md.period) (.soundingRepetition r first) t
  else s

/-! ## Repetitions (R264, R266) -/

/-- The HADC code of a saturated amplifier sample (range 0b11, R247). -/
def ampSat (v : Int) : Bool := decide (v ≤ -2048) || decide (2047 ≤ v)

/-- An inductance repetition at master carrier start `m`: the period from M is p0; ΔT is added to the phase's CMP_OFF in p1 and
subtracted in p3. -/
def sndInd (c : RailCfg) (m : Nat) (x : Rail) : Rail :=
  let l := active c x
  { x with snd := { x.snd with
    m0 := m, pos := l[x.snd.rep % max l.length 1]?, i0 := none, rep := x.snd.rep + 1, nextNo := m + 16
    plan := [(m + 1, x.snd.dtw), (m + 3, -(x.snd.dtw : Int))] } }

/-- A capacitance repetition at master carrier start `m`: every active phase gains ΔT in the period from M and loses it in the
next; the engine holds from M. -/
def sndCap (m : Nat) (x : Rail) : Rail :=
  { x with snd := { x.snd with
    m0 := m, pos := none, hold := true, nextNo := m + 64, plan := [(m, x.snd.dtw), (m + 1, -(x.snd.dtw : Int))] } }

/-- The repetitions of the stage are done. -/
def stageDone (x : Rail) : Bool := if x.snd.capStage then decide (16 ≤ x.snd.rep) else decide (2 * x.snd.n ≤ x.snd.rep)

/-- A repetition falls due, with master carrier start `m`. -/
def sndRep (r : RailId) (m : Nat) (c : RailCfg) (s : State) : State :=
  onRail r (fun x => if !x.snd.run || stageDone x then x else if x.snd.capStage then sndCap m x else sndInd c m x) s

/-- The Atomiser's sample `k` of a capacitance repetition: an urgent conversion of input 91 (R44, R45). -/
def sndSample (r : RailId) (k : Nat) (s : State) : State := urgentReq (.atomiser r k) 91 s

/-- What a running sounding does at a master carrier start: it arms the repetition of the next one, and requests Va at
M − K × P, V0 at M and V1 at M + K × P. -/
def sndTick (r : RailId) (c : RailCfg) (s : State) : State :=
  let x := s.rails[r]
  let y := x.snd
  let n := x.seq.mcsNo
  let k := sndK c
  let sum := isumOf c x
  if !y.run then s
  else
    let s := if n + 1 = y.nextNo ∧ !stageDone x then rearm c.md.period (.soundingRepetition r y.nextNo) s else s
    if !y.capStage then s
    else
      let s := if n + k = y.nextNo ∧ !stageDone x then
        sndSample r 0 (onRail r (fun x => { x with snd := { x.snd with sumA := sum, late := false } }) s) else s
      let s := if y.hold ∧ n = y.m0 then sndSample r 1 s else s
      if y.hold ∧ n = y.m0 + k then
        sndSample r 2 (onRail r (fun x => { x with snd := { x.snd with sum1 := sum } }) s) else s

/-- A result of ISLICE for position `q` in its carrier period `no`: i(p0) and i(p2) of an inductance repetition, the corrected
current `i`, marked or not; after the last repetition the capacitance stage follows. -/
def sndCurrent (q no : Nat) (i : Int) (x : Rail) : Rail :=
  let y := x.snd
  if !y.run || y.capStage || y.pos != some q then x
  else if no = y.m0 then { x with snd := { y with i0 := some i } }
  else if no = y.m0 + 2 then
    match y.i0 with
    | some i0 =>
      let last := decide (2 * y.n ≤ y.rep)
      { x with snd := { y with dis := (i - i0) :: y.dis, i0 := none, rep := if last then 0 else y.rep, capStage := last } }
    | none => x
  else x

/-- V1 has been converted: the repetition counts, is discarded, or is made again after a delayed sample (R45, R266). -/
def sndVolt (r : RailId) (c : RailCfg) (v1 : Int) (late : Bool) (s : State) : State :=
  let y := s.rails[r].snd
  let d := y.sum1 - y.sumA
  let drop := ampSat y.va || ampSat y.v0 || ampSat v1
    || decide ((c.cur.ilim : Int) < 64 * d) || decide ((c.cur.ilim : Int) < -64 * d)
  let n := if late then y.rep else y.rep + 1
  let s := onRail r (fun x => { x with snd := { x.snd with
    hold := false, rep := n
    dvs := if late || drop then x.snd.dvs else (v1 - y.v0 - (y.v0 - y.va)) :: x.snd.dvs
    dropped := if !late && drop then x.snd.dropped + 1 else x.snd.dropped } }) s
  if 16 ≤ n then rearm 0 (.soundingEnd r) s else s

/-- An Atomiser sample has been converted; `wait` is how long it waited for the converter. A delay of more than 1.0 µs repeats
the repetition (R45). -/
def sndTaken (r : RailId) (c : RailCfg) (k : Nat) (code : Int) (wait : Nat) (s : State) : State :=
  let late := decide (usTicks < wait) || s.rails[r].snd.late
  let put := fun f : RailSnd → RailSnd => onRail r (fun x => { x with snd := { f x.snd with late := late } }) s
  if !s.rails[r].snd.run then s
  else if k = 0 then put fun y => { y with va := code }
  else if k = 1 then put fun y => { y with v0 := code }
  else sndVolt r c code late s

/-! ## Results (R265, R266) -/

/-- L in 0.1 nH as a fraction (R265). -/
def sndL (pos : Nat) (x : Rail) (sumDi : Int) : Int × Int :=
  ((pos : Int) * (65536 - x.snd.d0) * x.snd.dtw * x.snd.n, 256 * 2 ^ 24 * x.snd.d0 * sumDi)

/-- C in 10 µF as a fraction (R265). -/
def sndC (c : RailCfg) (x : Rail) (sumDi sumDv : Int) : Int × Int :=
  ((c.md.period : Int) * sumDi * x.snd.dvs.length * c.eng.divk, 38400 * sumDv)

/-- A fraction lies outside lo … hi. -/
def outside (f : Int × Int) (lo hi : Int) : Bool :=
  decide (f.2 ≤ 0) || decide (f.1 < lo * f.2) || decide (hi * f.2 < f.1)

/-- Two measurements of one position differ by more than 25 % of the mean (R266). -/
def indScatter (x : Rail) (sumDi : Int) : Bool :=
  let l := x.snd.dis.reverse
  (List.range x.snd.n).any fun q =>
    let d := l.getD (q + x.snd.n) 0 - l.getD q 0
    decide (sumDi < 8 * x.snd.n * d) || decide (sumDi < -8 * x.snd.n * d)

/-- The accepted voltage measurements spread by more than 20 % of their mean (R266). -/
def capScatter (x : Rail) (sumDv : Int) : Bool :=
  match x.snd.dvs with
  | [] => false
  | d :: l => decide (sumDv < 5 * x.snd.dvs.length * (l.foldl max d - l.foldl min d))

/-- The end of a sounding: its cause, 0 when it is valid (R266). -/
def sndCause (c : RailCfg) (pos : Nat) (x : Rail) : BitVec 4 :=
  let sumDi := x.snd.dis.sum
  let sumDv := x.snd.dvs.sum
  if sumDi * 400 < 10 * c.acc.irated * (2 * x.snd.n) then 1
  else if indScatter x sumDi || capScatter x sumDv then 2
  else if 4 < x.snd.dropped then 3
  else if outside (sndL pos x sumDi) 50 20000 || outside (sndC c x sumDi sumDv) 1 60000 then 4
  else 0

/-- RAIL_SND_RES and RAIL_SND_AUX take the results (R265, R275). -/
def sndTake (c : RailCfg) (pos : Nat) (x : Rail) : Rail :=
  let sumDi := x.snd.dis.sum
  let sumDv := x.snd.dvs.sum
  let fl := sndL pos x sumDi
  let fc := sndC c x sumDi sumDv
  let old := sndIndex c x
  let x := { x with
    snd := { x.snd with valid := true, cause := 0, run := false, plan := [], hold := false
                        l := (fl.1 / fl.2).toNat, c := (fc.1 / fc.2).toNat
                        di := narrowU16 (16 * sumDi / (max x.snd.n 1 : Nat))
                        dv := narrowU16 (roundDiv (300000 * sumDv) (max (x.snd.dvs.length * c.eng.divk) 1 : Nat)) }
    coef := { x.coef with fallbk := false } }
  { x with coef := { x.coef with selDue := x.coef.selDue || sndIndex c x != old } }

/-- An invalid end (R143, R266). -/
def sndInvalid (cause : BitVec 4) (x : Rail) : Rail :=
  { x with snd := { x.snd with run := false, cause := cause, plan := [], hold := false }
           eng := { x.eng with sndfb := true }
           coef := { x.coef with fallbk := true } }

/-- A sounding has run all its repetitions. -/
def sndFinish (r : RailId) (c : RailCfg) (s : State) : State :=
  let x := s.rails[r]
  if x.snd.run && x.snd.capStage && decide (16 ≤ x.snd.rep) then
    let cause := sndCause c (posNow s x) x
    onRail r (fun x => if cause = 0 then sndTake c (posNow s x) x else sndInvalid cause x) s
  else s

end Sys2Proof.Machine
end

