-- ==== Sys2Proof/Machine/Phase.lean ====
section
/-! DEFINITION. Phase management (R41, R97, R98, R159 to R179): the steps of the active set, bypass and restore, the
balance trims, rotation, and everything that a master carrier start does. -/

namespace Sys2Proof.Machine

/-! ## Balance -/

/-- The trim shift in force (R160). -/
def tshiftOf (x : Rail) : Nat := max 8 x.sh.tshift.toNat

/-- The accumulators' limit in 2^-15 code (R159). -/
def accLimit (c : RailCfg) (x : Rail) : Int := (c.cur.trimmax * 2 ^ (tshiftOf x + 15) : Nat)

/-- The trims of the accumulators: rounded toward zero; 0 under rotation (R159, R164). -/
def trimsOf (x : Rail) : List Int :=
  if x.sh.rotate then List.replicate 32 0 else x.sh.acc.map fun a => a.tdiv (2 ^ (tshiftOf x + 15))

/-- The accumulators after a step of the active set (R163): bypassed ones are cleared, the mean of the new active set is
subtracted from each of its members. Log entry 61, DESIGN CHOICE. -/
def accStep (c : RailCfg) (x : Rail) : List Int :=
  let l := x.sh.acc.mapIdx fun q a => if x.sh.bypass.getLsbD q then 0 else a
  let act := active c x
  if x.sh.rotate then List.replicate 32 0
  else if x.eng.mode = .cori ∨ act.isEmpty then l
  else
    let mean := roundDiv ((act.map fun q => l.getD q 0).sum) (act.length : Nat)
    l.mapIdx fun q a => if act.contains q then a - mean else a

/-! ## Comparator thresholds (R42, R153) -/

/-- The comparator DAC of a channel: the per-phase threshold of the last master carrier start with its present offset and
gain (R153). -/
def thrChan (s : State) (c : RailCfg) (x : Rail) (i : Nat) (k : Chan) : Chan :=
  { k with thr := thrSetting c x.lim.effM x.lim.nM k.iofs (gainOf s i k.band) }

/-- Reload the DAC of the listed channels after a change of an offset or a gain (R153). -/
def thrRenew (r : RailId) (c : RailCfg) (l : List Nat) (s : State) : State :=
  onChans (l.filter c.acc.phase.contains) (thrChan s c s.rails[r]) s

/-- A new per-phase threshold is loaded: the present effective limit and N (R42, R153). -/
def thrLoad (r : RailId) (c : RailCfg) (s : State) : State :=
  thrRenew r c c.acc.phase (onRail r (fun x => { x with lim := { x.lim with effM := ilimEff c x, nM := x.sh.nact } }) s)

/-! ## Steps of the active set -/

/-- A channel leaves the active set (R98, R176): at the end of the on-time in progress, or at once.
Log entry 34, DEDUCED. -/
def leave (now : Nat) (st : ChSt) (k : Chan) : Chan :=
  if k.out == .on then
    { k with st := st, leaving := true, newOfs := none, joining := false, shOn := none, shOff := none, shOnAt := none }
  else toOff now st k

/-- A channel takes the offset and the words of a slot at its first carrier start under it, after an on-time in progress
(R98, R104); one at off level leaves it there. In CO-RI the counter runs on (R134). Log entry 33, DEDUCED. -/
def takeSlot (s : State) (c : RailCfg) (x : Rail) (ch sl off : Nat) (k : Chan) : Chan :=
  if x.eng.mode = .cori then
    { k with leaving := false, newOfs := none, joining := false, shOn := none, shOff := none, shOnAt := none
             nextCs := some (max s.now (k.cs + coriTicks)) }
  else
    let o := ofsTaps c.md.period x.sh.nact sl
    { k with leaving := false, newOfs := some o, nextCs := some (firstStart s c x.eng.mode x.seq.mcs o k)
             joining := k.out == .off, shOn := some 0, shOnAt := none, updAt := none
             shOff := some (if c.acc.phase.contains ch then off else 0) }

/-- The change of modulation of a channel: an on-time in progress keeps its words and its trim (R98, R136). At the change into
CO-RI its carrier trim joins CMP_OFF, and its counter runs on to 8,192 ticks, also where the phase is shed; at the change into FF-VM the count is set so that the off edge stands where the counter of
CO-RI would have placed it: at the next occurrence of its word after the on edge (R134). The carrier of that counter ends. -/
def switchWords (s : State) (c : RailCfg) (m : ModMode) (k : Chan) : Chan :=
  if m = .cori then
    { k with cmpOff := if k.out == .on then k.cmpOff + k.trim else k.cmpOff, trim := 0, onDone := true
             nextCs := k.nextCs.map fun _ => max s.now (k.cs + coriTicks) }
  else
    let off := matchOff s c .cori k
    let span := (off - k.cmpOn).emod (coriTicks * tickTaps : Nat)
    { k with trim := 0, cs := if k.out == .on then (((k.onAt : Int) + span - off) / tickTaps).toNat else k.cs
             nextCs := none }

/-- A shed channel without a carrier follows the master carrier: it samples like an active one (R150); in CO-RI its counter runs on
(R134). -/
def shedCarrier (s : State) (c : RailCfg) (x : Rail) (k : Chan) : Chan :=
  if x.seq.started && k.nextCs.isNone then
    { k with nextCs := some (if x.eng.mode = .cori then max s.now (k.cs + coriTicks) else carrierAt s.now x.seq.mcs 0 c.md.period) }
  else k

/-- The level of a channel at a step of a rail that discharges: low for an active phase, outside its negative limit, off for another
(R224, R232). -/
def dischLevel (now : Nat) (c : RailCfg) (low : Bool) (ch : Nat) (k : Chan) : Chan :=
  if low && c.acc.phase.contains ch then { k with out := if k.negHold then .off else .low } else toOff now k.st k

/-- What a step does to one channel of the accord: it leaves, or takes the offset and the words of the new N (R98). While
the accord does not switch, its carriers follow alone, and its levels while it discharges (R224). -/
def stepChan (s : State) (c : RailCfg) (x : Rail) (moved : Bool) (ch : Nat) (k : Chan) : Chan :=
  if k.st = .safe then k
  else match chanPos c ch with
    | none => k
    | some q =>
      let slot := slotPos c x q
      if !x.seq.sw then
        let k := { k with st := restState c x ch }
        let k := if x.seq.disch then dischLevel s.now c slot.isSome ch k else k
        match slot with
        | some sl => if moved && x.seq.started then { takeSlot s c x ch sl 0 k with joining := false } else k
        | none => if x.sh.bypass.getLsbD q then k else shedCarrier s c x k
      else if x.sh.bypass.getLsbD q then if k.st = .bypassed then k else leave s.now .bypassed k
      else match slot with
        | none =>
          let k := shedCarrier s c x k
          if k.st = .shed then k else leave s.now .shed k
        | some sl =>
          if !moved then k
          else { takeSlot s c x ch sl (distOff c x q x.seq.mcsNo) k with
            st := if k.st = .cycleTerm then ChSt.cycleTerm else ChSt.switching }

/-- The change of modulation that a step brings (R135, R136): a shedding step to CORIN or below enters CO-RI, an adding
step to COROUT or above leaves it. Log entry 34, DEDUCED. -/
def stepMode (c : RailCfg) (d : Option StepDec) (x : Rail) : Rail :=
  if c.md.mode = .ffvm ∧ c.md.toCori then
    if x.eng.mode = .ffvm ∧ d = some .shed ∧ x.sh.nact ≤ c.md.corin then
      { x with eng := { x.eng with mode := .cori, coriCnt := satInc 65535 x.eng.coriCnt, modeChg := false
                                   comp := { x.eng.comp with x := 0, rip := 0 } } }
    else if x.eng.mode = .cori ∧ d = some .add ∧ c.md.corout ≤ x.sh.nact then
      { x with eng := { x.eng with mode := .ffvm, modeChg := true } }
    else x
  else x

/-- What a change of the active set does to the sharing state (R159, R163): a round in progress is not applied, the accumulators
and trims follow. -/
def movedShare (c : RailCfg) (x : Rail) : Rail :=
  let x := { x with sh := { x.sh with
    given := List.replicate 32 false, roundNo := x.seq.mcsNo - 1, roundBad := true, trimNew := none } }
  let x := { x with sh := { x.sh with acc := accStep c x } }
  { x with sh := { x.sh with trim := if x.eng.mode = .cori then x.sh.trim else trimsOf x } }

/-- A position that is bypassed has a cleared accumulator (R163). -/
def clearBypassed (x : Rail) : Rail :=
  { x with sh := { x.sh with acc := x.sh.acc.mapIdx fun q a => if x.sh.bypass.getLsbD q then 0 else a } }

/-- A step restarts the rotation (R166): shedding, adding, a bypass, also of a shed position, and whatever else moves the active
set. Log entry 34, DEDUCED. -/
def restarts (moved : Bool) (old mask : Word) (d : Option StepDec) : Bool := moved || d.isSome || (old ||| mask) != old

/-- Apply a step at a master carrier start: N becomes `n`, the bypass set `mask` (R41, R163, R166, R172, R176). The
accumulators change only when the active set does; the carriers move with the active set, the slots and the modulation. -/
def stepSet (r : RailId) (c : RailCfg) (n : Nat) (mask : Word) (d : Option StepDec) (s : State) : State :=
  let x0 := s.rails[r]
  let old := active c x0
  let f := fun x : Rail =>
    let x := { x with sh := { x.sh with nact := n, bypass := mask, dwCnt := 0, decided := none } }
    let moved := active c x != old
    let x := stepMode c d x
    let x := if restarts moved x0.sh.bypass mask d then { x with sh := { x.sh with rot := 0, rotCnt := 0 } } else x
    let x := if moved then movedShare c x else clearBypassed x
    if moved ∨ mask ≠ x0.sh.bypass then sndAbortRail x else x
  let s := onRail r f s
  let x := s.rails[r]
  let change := x.eng.mode != x0.eng.mode
  let moved := active c x != old || change || (x.sh.rotate && x.sh.rot != x0.sh.rot)
  onChans (accordChans c) (fun ch k => stepChan s c x moved ch (if change then switchWords s c x.eng.mode k else k)) s

/-- The bypass set after the pending commands (R176, R177). -/
def dueMask (x : Rail) : Word :=
  let m := x.ph.bypDue.foldl (fun m q => m ||| (1#32 <<< q)) x.sh.bypass
  match x.ph.resDue with
  | some q => m &&& ~~~(1#32 <<< q)
  | none => m

/-- Non-bypassed positions of a mask. -/
def availOf (c : RailCfg) (m : Word) : Nat := ((List.range c.acc.nph).filter fun q => !m.getLsbD q).length

/-- Apply pending BYPASS and RESTORE commands, a RESTORE ends DONE (R179) and no longer holds the rail (R221), and a
comparator of it that stands asserted trips (R108); N falls only when an active phase leaves and no shed position is left
(R176, R177). The throttling set follows (R288). -/
def applyDue (r : RailId) (c : RailCfg) (s : State) : State :=
  let x := s.rails[r]
  if x.ph.bypDue.isEmpty && x.ph.resDue.isNone then s
  else
    let m := dueMask x
    let fin := fun x : Rail =>
      match x.ph.resDue with
      | none => { x with ph := { x.ph with bypDue := [] } }
      | some q =>
        let bad := x.seq.discBad &&& ~~~(1#32 <<< q)
        { x with ph := { x.ph with bypDue := [], resDue := none, resPos := none, busy := false, result := 0 }
                 seq := { x.seq with discBad := bad, discHold := x.seq.discHold && bad != 0 } }
    let t := throttleAll (onRail r fin (stepSet r c (min x.sh.nact (availOf c m)) m none s))
    match x.ph.resDue.bind fun q => toFin 192 (c.acc.phase.getD q 0) with
    | some ch => if t.chans[ch].rawTrip then phaseTrip ch t else t
    | none => t

/-- Apply the decided step (R170, R172). Log entry 34, DEDUCED. -/
def applyStep (r : RailId) (c : RailCfg) (s : State) : State :=
  let x := s.rails[r]
  match x.sh.decided with
  | none => s
  | some .add => stepSet r c (min (x.sh.nact + 1) (navl c x)) x.sh.bypass (some .add) s
  | some .shed => stepSet r c (x.sh.nact - 1) x.sh.bypass (some .shed) s

/-- The step that the evaluation at a master carrier start decides (R170, R173). Log entry 34, DEDUCED. -/
def decide_ (c : RailCfg) (x : Rail) : Option StepDec :=
  let n := x.sh.nact
  let nav := navl c x
  let st := railState x
  if x.sh.dwCnt + 1 < c.cur.dwell ∨ !(st = 1 ∨ st = 2) then none
  else if x.sh.forcen ≠ 0 then
    let t := min x.sh.forcen.toNat nav
    if n < t then some .add else if t < n ∧ 1 < n ∧ !x.eng.clampI then some .shed else none
  else if st = 2 then
    let e := c.cur.shed.getD (n - 1) (0xFFFF, 0)
    if n < nav ∧ e.1 ≠ 0xFFFF ∧ (e.1 : Int) ≤ ished x then some .add
    else if 1 < n ∧ ished x < (e.2 : Int) ∧ !x.eng.clampI then some .shed
    else none
  else none

/-! ## Loads of a master carrier start -/

/-- The working copy of TARGET and the slew load (R190, R191, R195): a move toward the same side goes on, another begins
anew. -/
def loadTarget (r : RailId) (c : RailCfg) (s : State) : State :=
  let x := s.rails[r]
  let sl := slewOf x.pos.slew
  let s1 := onRail r (fun x => { x with pos := { x.pos with slewW := sl } }) s
  if railState x = 2 ∧ (x.pos.tgtDue ∨ (sl ≠ x.pos.slewW ∧ !atRest s x)) then
    let s1 := onRail r (fun x => { x with pos := { x.pos with tgtDue := false, tgtW := x.pos.target.toNat } }) s1
    let dest := (if x.pos.tgtDue then x.pos.target.toNat else x.pos.tgtW) * posUnit
    let p := posNow s x
    match x.pos.moves with
    | m :: ms =>
      let same := decide (m.p0 < m.dest ∧ p < m.dest ∧ p < dest) || decide (m.dest < m.p0 ∧ m.dest < p ∧ dest < p)
      if same ∧ sl = m.s then
        let s1 := onRail r (fun x => { x with pos := { x.pos with moves := { m with dest := dest } :: ms } }) s1
        let dist := if m.p0 ≤ dest then dest - m.p0 else m.p0 - dest
        rearm (2 * (m.t0 / 2 + moveCycles dist (max sl 1)) - s.now) (.targetReached r) s1
      else moveTo r p sl dest s1
    | [] => moveTo r p sl dest s1
  else let _ := c; s1

/-- The other double-buffered fields load (R41, R144). Log entry 34, DEDUCED. -/
def loadRest (r : RailId) (c : RailCfg) (s : State) : State :=
  onRail r (fun x => coefDue s c { x with eng := { x.eng with llineW := x.eng.lline.toNat } }) s

/-! ## Trip period and back-drive -/

/-- The trip counter at the end of a master carrier period (R110); the first master carrier start after START closes the stopped span
before it as one period. Log entry 63, DESIGN CHOICE. -/
def tripPeriod (x : Rail) : Rail :=
  if x.trip.inPeriod then { x with trip := { x.trip with inPeriod := false, clean := 0 } }
  else
    let n := satInc 64 x.trip.clean
    { x with trip := { x.trip with clean := n, count := if 64 ≤ n ∧ !x.trip.latched then 0 else x.trip.count } }

/-- Back-drive begins or goes on (R233, R234): a rising ramp that has not
reached VBOOT pauses, the persistence counter runs. -/
def bdStart (r : RailId) (c : RailCfg) (s : State) : State :=
  let x := s.rails[r]
  if x.prot.bdAct then onRail r (fun x => { x with prot := { x.prot with bdClean := 0 } }) s
  else
    let s := onRail r (fun x => { x with prot := { x.prot with bdAct := true, bdClean := 0 } }) s
    let s := rearm (c.cur.bdtime * usTicks) (.backdrivePersist r) s
    match x.seq.ramp with
    | some (_, true) =>
      if x.seq.delay || decide (railState x ≠ 1 ∧ railState x ≠ 3) || posNow s x == c.eng.vboot * posUnit then s
      else moveStop r (onRail r (fun x => { x with prot := { x.prot with rampPause := true } }) s)
    | _ => s

/-- Back-drive ends after four clean periods: a paused ramp resumes (R233, R234). -/
def bdEnd (r : RailId) (c : RailCfg) (s : State) : State :=
  let x := s.rails[r]
  if !x.prot.bdAct then s
  else if x.prot.bdClean + 1 < 4 then
    onRail r (fun x => { x with prot := { x.prot with bdClean := x.prot.bdClean + 1 } }) s
  else
    let s := disarm (· == .backdrivePersist r) s
    let s := onRail r (fun x => { x with prot := { x.prot with bdAct := false, bdClean := 0, rampPause := false } }) s
    match x.prot.rampPause, x.seq.ramp with
    | true, some (i, true) => moveTo r (posNow s x) (c.seq.ramps.getD i ⟨0, 1, false⟩).slew (c.eng.vboot * posUnit) s
    | _, _ => s

/-- Back-drive detection over the period that ends (R233): only while the accord switches or discharges. -/
def bdPeriod (r : RailId) (c : RailCfg) (s : State) : State :=
  let x := s.rails[r]
  let cond := x.prot.negNow && x.prot.sumNeg && (x.seq.sw || x.seq.disch)
  let s := if cond then bdStart r c s else bdEnd r c s
  onRail r (fun x => { x with prot := { x.prot with negNow := false } }) s

/-- The rail sum at the start of a period, after its step: below zero or not (R169, R233). Log entry 66, DESIGN CHOICE. -/
def bdSeed (c : RailCfg) (x : Rail) : Rail := { x with prot := { x.prot with sumNeg := decide (isumOf c x < 0) } }

/-! ## Telemetry (R391, R420, R422) -/

/-- The mean of a window of vout in 1/4096 V, truncated; each sample is scaled by its DIVK (R391, R422). -/
def meanVout (l : List (Int × Nat)) : Int :=
  let ks := (l.map fun p => max p.2 1).eraseDups
  let k := ks.foldl (· * ·) 1
  let sum : Int := (l.map fun p => p.1 * ((k / max p.2 1 : Nat) : Int)).sum
  128 * sum / ((125 * max l.length 1 * 2 ^ 24 * k : Nat) : Int)

/-- Recompute the two telemetry registers, unless a window holds them: 0 while the rail does not switch; the rail sum of every master
carrier start enters its mean. -/
def telemetry (s : State) (r : RailId) (c : RailCfg) (x : Rail) : Rail :=
  let is := (isumOf c x :: x.tel.is).take 256
  let x := { x with tel := { x.tel with is := is } }
  if telMacer s r then x
  else if !x.seq.sw then { x with tel := { x.tel with vout := 0, iout := 0 } }
  else { x with tel := { x.tel with vout := narrowU16 (meanVout x.tel.vs), iout := is.sum / (is.length : Nat) } }

/-- A FIFO entry of 64 bits enters FIFO `f`; a full FIFO discards it and sets OVF (R419, R420). Answers whether it was
kept. -/
def fifoPush (f : FifoId) (e : Nat → BitVec 64) (s : State) : State × Bool :=
  let x := s.fifo[f]
  if 64 ≤ x.entries.length then
    let new : Lost := { at_ := cycle s, entry := e x.seq, ovf := x.ovf }
    (onFifo f (fun x => { x with ovf := true, lost := match x.lost with
      | some l => if l.at_ = cycle s then some { l with ovf := true } else some new
      | none => some new }) s, false)
  else (onFifo f (fun x => { x with
    entries := x.entries ++ [e x.seq], seq := (x.seq + 1) % 65536, fresh := some (cycle s, freshNow s x + 1) }) s, true)

/-- The FIFO that PINCLAIM gives to a claimant (R67, R359, R419). -/
def fifoOf (s : State) (claimant inst : Nat) : Option FifoId :=
  match s.sealed.img with
  | none => none
  | some im => (im.pins.find? fun p => p.rclass == 4 && p.claimant == claimant && p.cinst == inst && !p.observe).bind
      fun p => toFin 16 p.rindex

/-- The rail telemetry entry (R420). -/
def telEntry (s : State) (r : RailId) (seq : Nat) : BitVec 64 :=
  let x := s.rails[r]
  BitVec.ofNat 64 (fld 48 16 (tvout x) + fld 32 16 (s16 (tiout x)) + bitf 31 (telMacer s r) + fld 28 3 (railState x)
    + fld 22 6 x.sh.nact + fld 0 16 seq)

/-- Telemetry entries are made in the start table, in TERMINAL_ON and in the stop table (R420). -/
def telRuns (x : Rail) : Bool := railState x == 1 || railState x == 2 || railState x == 3

/-- Push the telemetry entry of a rail that owns a FIFO. -/
def telPush (r : RailId) (s : State) : State :=
  match fifoOf s 7 r.val with
  | some f => if telRuns s.rails[r] then (fifoPush f (telEntry s r) s).1 else s
  | none => s

/-! ## Rotation (R164 to R166) -/

/-- A channel moves to carrier slot `sl` at a rotation step (R165): its first start there lies at M + floor(O / 64), or at
M + PERIOD for slot 0, and the start of the old slot in the period from M is not taken. -/
def rotateChan (c : RailCfg) (x : Rail) (sl : Nat) (k : Chan) : Chan :=
  let o := ofsTaps c.md.period x.sh.nact sl
  { k with newOfs := some o, nextCs := some (if sl = 0 then x.seq.mcs + c.md.period else x.seq.mcs + o / tickTaps) }

/-- A rotation step: every active phase moves to the next carrier slot (R164, R165); a single phase has none to move to.
Log entry 34, DEDUCED. -/
def rotateStep (r : RailId) (c : RailCfg) (s : State) : State :=
  let x := s.rails[r]
  if x.sh.rotate && x.eng.mode != .cori then
    let s := onRail r (fun x => { x with sh := { x.sh with rot := (x.sh.rot + 1) % max x.sh.nact 1, rotCnt := 0 } }) s
    let x := s.rails[r]
    if x.sh.nact ≤ 1 then s
    else onChans (accordChans c) (fun ch k =>
      if k.nextCs.isSome && k.st != .safe then
        match (chanPos c ch).bind (slotPos c x) with
        | some sl => rotateChan c x sl k
        | none => k
      else k) s
  else s

/-- Count a master carrier period that ends toward the next rotation step; in CO-RI the count stops (R164, R166). -/
def rotateCount (r : RailId) (s : State) : State :=
  let x := s.rails[r]
  if x.sh.rotate && x.seq.mcsNo != 0 && x.eng.mode != .cori then
    let s := onRail r (fun x => { x with sh := { x.sh with rotCnt := x.sh.rotCnt + 1 } }) s
    if 64 ≤ x.sh.rotCnt + 1 then rearm 0 (.rotationStep r) s else s
  else s

/-! ## The master carrier start -/

/-- The epoch counter that times a rail: that of the bank of its first phase; all agree (R33, R409).
Log entry 1, DESIGN CHOICE. -/
def railEpoch (s : State) (c : RailCfg) : Nat :=
  match toFin 24 (bankOf (c.acc.phase.getD 0 0)) with
  | some b => s.banks[b].epoch.toNat
  | none => 0

/-- A master carrier start of a rail is due (R34, R409): the first one after START at the first epoch count E with
E mod PERIOD = 0, each further one PERIOD ticks after the one before it. -/
def mcsDue (s : State) (r : RailId) (c : RailCfg) : Bool :=
  let x := s.rails[r]
  match x.seq.mcsWait with
  | some t => decide (t < s.now) && railEpoch s c % max c.md.period 1 == 0
  | none => x.seq.mcsAt == some s.now

/-- The count of master carrier starts since START (R150), and the time of the next one. -/
def mcsCount (now period : Nat) (x : Rail) : Rail :=
  { x with seq := { x.seq with mcs := now, mcsNo := if x.seq.started then x.seq.mcsNo + 1 else 0, started := true
                               mcsWait := none, mcsAt := some (now + period) } }

/-- At the first master carrier start after START the carriers of the active positions begin (R97). -/
def carriersBegin (r : RailId) (c : RailCfg) (s : State) : State :=
  let x := s.rails[r]
  onChans (accordChans c) (fun ch k =>
    if k.st = .safe || k.nextCs.isSome then k
    else match (chanPos c ch).bind (slotPos c x) with
      | some sl => carrierJoin s c x sl k
      | none => k) s

/-- Take the snapshot of the rail sum, after a step of this start: its membership changes at the step (R169, R172). -/
def snapshot (c : RailCfg) (x : Rail) : Rail :=
  { x with sh := { x.sh with snaps := (isumOf c x :: x.sh.snaps).take 4 } }

/-- The trims of an applied round enter the distributor (R159). -/
def trimLoad (x : Rail) : Rail :=
  match x.sh.trimNew with
  | some l => if x.eng.mode = .cori then x else { x with sh := { x.sh with trim := l, trimNew := none } }
  | none => x

/-- Bypass, restore or the decided step, whichever the start applies (R174); else the dwell count advances with the period that has
ended (R170). A RESTORE that leaves
the active set as it is lets the rotation go on. -/
def mcsStep (r : RailId) (c : RailCfg) (s : State) : State :=
  let x := s.rails[r]
  if !x.ph.bypDue.isEmpty || x.ph.resDue.isSome then
    let t := applyDue r c s
    if x.ph.bypDue.isEmpty && active c t.rails[r] == active c x then rotateCount r t else t
  else if x.sh.decided.isSome && railState x != 3 then applyStep r c s
  else rotateCount r (onRail r (fun x => { x with sh := { x.sh with
    dwCnt := if x.seq.mcsNo = 0 then x.sh.dwCnt else satInc 65535 x.sh.dwCnt } }) s)

/-- A master carrier start of a rail whose tables or regulation run (R41). -/
def masterStart (r : RailId) (c : RailCfg) (s : State) : State :=
  let s := carriersBegin r c (onRail r (fun x => tripPeriod (mcsCount s.now c.md.period x)) (bdPeriod r c s))
  let s := onRail r (fun x => snapshot c (bdSeed c x)) (mcsStep r c s)
  let s := thrLoad r c (onRail r trimLoad s)
  let s := loadRest r c (loadTarget r c s)
  let s := onRail r (fun x => telemetry s r c { x with
    sh := { x.sh with decided := decide_ c x }
    eng := { x.eng with slrq := slrqOf c x.sh.nact (x.eng.comp.d / 2 ^ 16).toNat } }) s
  let x := s.rails[r]
  let s := if telRuns x ∧ (x.seq.mcsNo + 1) % 1024 = 0 ∧ (fifoOf s 7 r.val).isSome then rearm 0 (.telemetryPush r) s else s
  let s := sndTick r c s
  if sndReady s r x then rearm 0 (.soundingStart r) s else s

/-! ## RAIL_PHCMD (R175 to R179, R181) -/

/-- The rail is stopped or latched: a change of the available set applies at once (R176). -/
def setAtOnce (x : Rail) : Bool := railState x == 0 || railState x == 4

/-- The end of a RAIL_PHCMD command: RESULT and POS; REJECT_STATE also sets PHREJ and counts (R179). -/
def phResult (q : Nat) (res : Byte) (x : Rail) : Rail :=
  let x := { x with ph := { x.ph with pos := q, result := res } }
  if res = 0x80 then { x with sh := { x.sh with phRej := true }, ph := { x.ph with rejCnt := satInc 255 x.ph.rejCnt } }
  else x

/-- Why a BYPASS is not carried out; 0 when it is (R175). Log entry 34, DEDUCED. -/
def bypassCode (c : RailCfg) (x : Rail) (q : Nat) : Byte :=
  if x.ph.busy then 0x80
  else if !c.acc.bypass then 0x90
  else if c.acc.nph ≤ q ∨ (dueMask x).getLsbD q then 0x93
  else if availOf c (dueMask x) < c.acc.nmin + 1 then 0x91
  else if railState x = 1 ∨ railState x = 3 then 0x80
  else 0x00

/-- BYPASS of position `q` (R175, R176). -/
def phBypass (r : RailId) (c : RailCfg) (q : Nat) (s : State) : State :=
  let code := bypassCode c s.rails[r] q
  let s := onRail r (phResult q code) s
  if code = 0 then
    let s := onRail r (fun x => { x with ph := { x.ph with bypDue := x.ph.bypDue ++ [q] } }) s
    if setAtOnce s.rails[r] then applyDue r c s else s
  else s

/-- The bank of a position. -/
def posBank (c : RailCfg) (q : Nat) : Option BankId := toFin 24 (bankOf (c.acc.phase.getD q 0))

/-- The last BIST of the position's bank failed (R177). -/
def bistFailed (s : State) (c : RailCfg) (q : Nat) : Bool :=
  match posBank c q with
  | some b => s.banks[b].bistDone && !s.banks[b].bistPass
  | none => false

/-- Why a RESTORE does not start; 0 when it does (R177, R179). Log entry 34, DEDUCED. -/
def restoreCode (s : State) (c : RailCfg) (x : Rail) (q : Nat) : Byte :=
  if x.ph.busy then 0x80
  else if c.acc.nph ≤ q ∨ !x.sh.bypass.getLsbD q then 0x93
  else if railState x = 1 ∨ railState x = 3 then 0x80
  else if bistFailed s c q then 0x94
  else 0x00

/-- RESTORE of position `q`: the single-phase discovery begins; BUSY reads 1 (R177). -/
def phRestore (r : RailId) (c : RailCfg) (q : Nat) (s : State) : State :=
  let code := restoreCode s c s.rails[r] q
  if code = 0 then
    let ch := c.acc.phase.getD q 0
    probeBegin (if c.acc.pair then [ch, ch + 1] else [ch])
      (onRail r (fun x => { x with ph := { x.ph with busy := true, pos := q, resPos := some q } }) s)
  else onRail r (phResult q code) s

/-- BAL_TRIM and BAL_ROTATE (R167, R179). -/
def phBalance (r : RailId) (rot : Bool) (q : Nat) (s : State) : State :=
  let x := s.rails[r]
  if x.ph.busy ∨ !isStopped x then onRail r (phResult q 0x80) s
  else onRail r (fun x =>
    let x := phResult q 0 x
    { x with sh := { x.sh with rotate := rot, rot := 0, rotCnt := 0, acc := List.replicate 32 0
                               trim := List.replicate 32 0, trimNew := none } }) s

/-- A write to RAIL_PHCMD (R179, R181). -/
def phcmdWrite (r : RailId) (c : RailCfg) (w : Word) (s : State) : State :=
  let q := bits w 8 5
  if bits w 24 8 = 0xA5 then
    match bits w 0 4 with
    | 1 => phBypass r c q s
    | 2 => phRestore r c q s
    | 3 => phBalance r false q s
    | 4 => phBalance r true q s
    | _ => s
  else s

/-- A RAIL_PHCMD word of a command and a position. -/
def phcmdWord (cmd q : Nat) : Word := mkWord [fld 24 8 0xA5, fld 8 5 q, cmd]

end Sys2Proof.Machine
end

