-- ==== Sys2Proof/Machine/Isense.lean ====
section
/-! DEFINITION. Current sensing (R148 to R162, R181, R182): the ISLICE sample and its result, the negative limit (R232),
the balance rounds, offset calibration, the BREF and BTSF comparators. -/

namespace Sys2Proof.Machine

/-! ## Sample and mark (R148, R156) -/

/-- The ISLICE code of `v` µV: 0.5 mV steps, 10 bits (R148). Log entry 7, DESIGN CHOICE. -/
def isliceCode (v : Int) : Int := clampI (-512) 511 (roundDiv v 500)

/-- The mark of a sample taken now: the first that applies (R156). -/
def sampleIMark (s : State) (ch : ChanId) : IMark :=
  match owner s ch with
  | none => match toFin 24 (bankOf ch.val) with
    | some b => if s.banks[b].brefMark then .bref else .noacc
    | none => .noacc
  | some (r, _, q, odd) =>
    let x := s.rails[r]
    if x.sh.bypass.getLsbD q then .bypass
    else if x.seq.cal then .offcal
    else match toFin 24 (bankOf ch.val) with
      | some b => if s.banks[b].brefMark then .bref else if odd then .pairls else .none
      | none => .none

/-- Below this PERIOD the ISLICE samples once per second carrier period (R150). -/
def isliceTicks : Nat := 400

/-- The round a sample belongs to: the number of the master carrier start before it; where a period is sampled only after
even-numbered starts, that even number (R150, R159). -/
def sampleNo (s : State) (ch : ChanId) : Nat :=
  match owner s ch with
  | some (r, c, _, _) =>
    let n := s.rails[r].seq.mcsNo
    if c.md.period < isliceTicks then n - n % 2 else n
  | none => 0

/-- An ISLICE sample of a channel is due (R150): SPOINT after its carrier start, in CO-RI after the master carrier start, in
every second period of a short PERIOD; once. Channels without a carrier, and the calibration, have no such schedule (log
entry 11, DESIGN CHOICE). -/
def isliceDue (s : State) (ch : ChanId) : Bool :=
  let k := s.chans[ch]
  k.smpAt != some s.now && match owner s ch with
    | none => true
    | some (r, c, _, odd) =>
      let x := s.rails[r]
      let cori := x.eng.mode == .cori
      if odd || x.seq.cal || !x.seq.started || k.st == .bypassed || k.st == .safe then true
      else
        let t := if cori then x.seq.mcs else k.cs
        let no := if cori then x.seq.mcsNo else k.csNo
        s.now == t + c.acc.spoint * c.md.period / 256 && (decide (isliceTicks ≤ c.md.period) || no % 2 == 0)

/-- A channel's ISLICE samples (R150); the gain of its band is fixed at the sample instant (R155). -/
def isliceTake (ch : ChanId) (v : Int) (s : State) : State :=
  if islandUp s && isliceDue s ch then
    onChan ch (fun k => { k with
      smp := some ⟨isliceCode v, sampleIMark s ch, gainOf s ch.val k.band, sampleNo s ch, k.csNo⟩, smpAt := some s.now }) s
  else s

/-! ## Correction (R152) -/

/-- i_p in 0.125 A units: (c − OFS)(1 + g) IRATED / 400, rounded to nearest. -/
def ampsOf (irated : Nat) (code ofs g : Int) : Int := roundDiv ((code - ofs) * (32768 + g) * irated) (400 * 32768)

/-- A corrected code in 2^-15 code (R159). -/
def corrected (code ofs g : Int) : Int := (code - ofs) * (32768 + g)

/-! ## Balance rounds (R159, R161, R162) -/

/-- The law applied to a complete round. Log entry 34, DEDUCED. -/
def roundApply (r : RailId) (c : RailCfg) (s : State) : State :=
  let x := s.rails[r]
  let act := active c x
  let cs := act.map fun q => (x.sh.round.getD q none).getD 0
  let ibar := roundDiv cs.sum (max act.length 1 : Nat)
  let lim := accLimit c x
  let acc := x.sh.acc.mapIdx fun q a =>
    if act.contains q then clampI (-lim) lim (a + ibar - (x.sh.round.getD q none).getD 0) else a
  let cnt := x.sh.satCnt.mapIdx fun q n =>
    if act.contains q then if acc.getD q 0 = lim ∨ acc.getD q 0 = -lim then n + 1 else 0 else n
  let hit := act.filter fun q => cnt.getD q 0 == 4096
  let f := fun x : Rail =>
    let x := { x with sh := { x.sh with acc := acc, satCnt := cnt, roundBad := true } }
    { x with sh := { x.sh with trimNew := some (trimsOf x) } }
  forEach hit (fun q s => match toFin 32 q with | some q => rearm 0 (.trimsat r q) s | none => s) (onRail r f s)

/-- One result enters its round: the first sample of each active phase after master carrier start `no`; a round with a marked
sample, or under a freeze, is not applied (R159, R161, R174). -/
def roundAdd (r : RailId) (c : RailCfg) (q : Nat) (m : Smp) (v : Int) (s : State) : State :=
  let x := s.rails[r]
  let act := active c x
  if x.sh.rotate ∨ x.eng.mode = .cori ∨ !x.seq.sw ∨ !act.contains q then s
  else
    let f := fun x : Rail =>
      let x := if x.sh.roundNo = m.no then x else
        { x with sh := { x.sh with roundNo := m.no, roundBad := false, round := List.replicate 32 none } }
      if m.mark = .none && !trimFrozen s c x then
        { x with sh := { x.sh with round := modAt x.sh.round q fun o => if o.isSome then o else some v } }
      else { x with sh := { x.sh with roundBad := true } }
    let s := onRail r f s
    let x := s.rails[r]
    let full := act.all fun q => (x.sh.round.getD q none).isSome
    if full && !x.sh.roundBad then
      if x.snd.run then onRail r (fun x => { x with sh := { x.sh with roundBad := true } }) s
      else roundApply r c s
    else s

/-! ## Negative limit (R232) -/

/-- A phase engages its negative limit: off level in place of low level. -/
def negEngage (k : Chan) : Chan := { k with negHold := true, out := if k.out == .low then OutLvl.off else k.out }

/-- NEGLIM, and NEGCNT at most once per master carrier period. -/
def negCount (x : Rail) : Rail :=
  { x with prot := { x.prot with negLim := true, negNow := true
                                 negCnt := if x.prot.negNow then x.prot.negCnt else satInc 255 x.prot.negCnt } }

/-- The negative limit of an active or discharging phase acts on an unmarked result. -/
def negLimit (r : RailId) (c : RailCfg) (ch : ChanId) (q : Nat) (amps : Int) (s : State) : State :=
  let x := s.rails[r]
  let k := s.chans[ch]
  let acts := (active c x).contains q && (x.seq.sw || x.seq.disch) && k.st != .safe
  if !acts then s
  else if amps < -(c.cur.ineg : Int) then onRail r negCount (onChan ch negEngage s)
  else if x.seq.disch && k.negHold then
    onChan ch (fun k => { k with negHold := false, out := if k.out == .off then OutLvl.low else k.out }) s
  else s

/-! ## Result (R151, R152) -/

/-- An unmarked contribution replaces the phase's earlier one; a marked one leaves an earlier one standing (R37, R151,
R156, R181). -/
def contribute (q : Nat) (mark : IMark) (amps : Int) (x : Rail) : Rail :=
  if mark = .none then
    { x with sh := { x.sh with contrib := modAt x.sh.contrib q fun _ => amps
                               given := modAt x.sh.given q fun _ => true
                               ever := modAt x.sh.ever q fun _ => true
                               held := modAt x.sh.held q fun _ => false } }
  else { x with sh := { x.sh with held := modAt x.sh.held q fun _ => x.sh.ever.getD q false } }

/-- A sample of the calibration enters the sum of its position: 16 of them (R154). Log entry 7, DESIGN CHOICE. -/
def calAdd (q : Nat) (m : Smp) (x : Rail) : Rail :=
  if m.mark = .offcal && x.seq.cal && decide (x.seq.calCnt.getD q 16 < 16) then
    { x with seq := { x.seq with calSum := modAt x.seq.calSum q (· + m.code), calCnt := modAt x.seq.calCnt q (· + 1) } }
  else x

/-- A conversion completes; a rail sum below zero at any instant of a period counts for it (R233). Log entry 11, DESIGN CHOICE.
Log entry 66, DESIGN CHOICE. -/
def isliceDone (ch : ChanId) (s : State) : State :=
  let k := s.chans[ch]
  match k.smp with
  | none => s
  | some m =>
    match owner s ch with
    | none => onChan ch (fun k => { k with smp := none, mark := m.mark, code := m.code }) s
    | some (r, c, q, odd) =>
      if odd then onChan ch (fun k => { k with smp := none, mark := m.mark }) s
      else
        let amps := narrow16 (ampsOf c.acc.irated m.code k.iofs m.gain)
        let s := onChan ch (fun k => { k with smp := none, mark := m.mark, code := m.code, amps := amps }) s
        let s := onRail r (fun x => sndCurrent q m.cno amps (contribute q m.mark amps (calAdd q m x))) s
        let s := onRail r (fun x => if isumOf c x < 0 then { x with prot := { x.prot with sumNeg := true } } else x) s
        let s := roundAdd r c q m (corrected m.code k.iofs m.gain) s
        if m.mark = .none then negLimit r c ch q amps s else s

/-! ## Offset calibration (R154) -/

/-- OFS_p from the sum of 16 codes: the rounded mean, clipped to ±32. -/
def ofsOf (sum : Int) : Int := clampI (-32) 32 (roundDiv sum 16)

/-- The rounded mean lies outside ±32. -/
def ofsClips (sum : Int) : Bool := decide (roundDiv sum 16 < -32) || decide (32 < roundDiv sum 16)

/-- Set the offset of one position; a clipped mean sets OFSCLIP. -/
def ofsSet (r : RailId) (c : RailCfg) (q : Nat) (sum : Int) (s : State) : State :=
  let s := match toFin 192 (c.acc.phase.getD q 0) with
    | some ch => onChan ch (fun k => { k with iofs := ofsOf sum }) s
    | none => s
  if ofsClips sum then onRail r (fun x => { x with sh := { x.sh with ofsClip := true } }) s else s

/-- The calibration of a rail is at its end: 16 µs have passed since START (R222). Log entry 7, DESIGN CHOICE. -/
def calReady (r : RailId) (s : State) : Bool := s.agenda.any fun d => calEvent r d.ev && decide (d.at_ ≤ s.now)

/-- The sums of a calibration: those of the command, or where it brings none, those of the ISLICE results.
Log entry 7, DESIGN CHOICE. -/
def calSums (sums : List Int) (x : Rail) : List Int := if sums.isEmpty then x.seq.calSum else sums

/-- The calibration of a start command ends: every non-bypassed channel has its offset, start state 0 acts (R154,
R222). -/
def calDone (r : RailId) (c : RailCfg) (sums : List Int) (s : State) : State :=
  let x := s.rails[r]
  if x.seq.cal && railState x == 1 && calReady r s then
    let s := forEach (avail c x) (fun q s => ofsSet r c q ((calSums sums x).getD q 0) s) (disarm (calEvent r) s)
    beginAction r c (thrRenew r c c.acc.phase s)
  else s

/-! ## BREF and BTSF (R111, R157) -/

/-- The BREFb window comparator changes; in a bank without a channel of an accord it is off (R437).
Log entry 12, DESIGN CHOICE. Log entry 28, DEDUCED. -/
def brefWindow (b : BankId) (up : Bool) (s : State) : State :=
  if !islandUp s || !bankUsed s b || s.banks[b].brefWin == up then s
  else brefEvent b (onBank b (fun k => { k with brefWin := up }) s)

/-- The effects of BTSFb above its trip level (R111): BTSFFLT, a disturbance event, every rail with a channel in the bank
latched. Log entry 32, DEDUCED. -/
def btsfAct (b : BankId) (s : State) : State :=
  let s := brefEvent b (onBank b (fun k => { k with btsfFlt := true }) s)
  forEach (configured s) (fun rc s =>
    if (accordBanks rc.2).contains b.val then btsfLatch rc.1 rc.2 b.val s else s) s

/-- The BTSFb comparator changes. Log entry 12, DESIGN CHOICE. Log entry 32, DEDUCED. -/
def btsfChange (b : BankId) (up : Bool) (s : State) : State :=
  let was := s.banks[b].btsfRaw
  let s := onBank b (fun k => { k with btsfRaw := up }) s
  if up && !was && islandUp s && isSealed s then btsfAct b s else s

end Sys2Proof.Machine
end

