-- ==== Sys2Proof/Machine/Thermal.lean ====
section
/-! DEFINITION. The thermal block (R277 to R292): readings, junction temperature, band, hot states, rate of rise and the
shutdown decision. -/

namespace Sys2Proof.Machine

/-- TBAND in force (R71). -/
def tbandCfg (s : State) : Option TbandCfg := s.sealed.img.map (·.tband)

/-- The sensor of an HADC input: on-die sensors 0 to 7, stage channels 8 to 31 (R277). -/
def sensorOf (input : Nat) : Option (Fin 32) :=
  if input < 24 then toFin 32 (8 + input) else if input < 32 then toFin 32 (input - 24) else none

/-- The temperature of a mean × 16 in 1/3072 of 0.125 °C (R278). -/
def tempFull (i : Fin 32) (mean : Int) : Int :=
  if i.val < 8 then 3 * (75 * mean - 2400 * 1024) else 4 * (75 * mean - 512000)

/-- The reading lies in its valid range (R278). -/
def tempOk (i : Fin 32) (mean : Int) : Bool :=
  if i.val < 8 then decide (-440 * 3072 ≤ tempFull i mean) && decide (tempFull i mean ≤ 1400 * 3072)
  else decide (131072 ≤ 48 * mean) && decide (48 * mean < 1015808)

/-- The hot threshold of a sensor: EDGE[4] on the die, THM_STHOT for a stage channel (R287). -/
def hotLevel (s : State) (t : TbandCfg) (i : Fin 32) : Int :=
  if i.val < 8 then t.edges.getD 4 0 else signed 16 s.thm.sthot.toNat

/-- A valid reading (R278, R279, R287, R291), truncated toward minus infinity. Log entry 73, DESIGN CHOICE. -/
def sensorGood (lvl : Int) (hyst : Nat) (i : Fin 32) (mean : Int) (k : Sensor) : Sensor :=
  let full := tempFull i mean
  let temp := full / 3072
  { k with valid := true, invalidHot := false, full := full, temp := temp
           hotT := decide (lvl ≤ temp) || (k.hotT && decide (lvl - hyst ≤ temp))
           shutCnt := if i.val < 8 ∧ 1200 ≤ temp then satInc 2 k.shutCnt else 0 }

/-- An invalid reading (R279, R287). -/
def sensorBad (k : Sensor) : Sensor := { k with valid := false, invalidHot := true, shutCnt := 0 }

/-- The on-die sensor with the highest valid reading (R280), the lowest of several. Log entry 72, DESIGN CHOICE. -/
def hottest (l : List Sensor) : Option (Nat × Int) :=
  (l.take 8).zipIdx.foldl (fun b p =>
    if p.1.valid then
      match b with
      | some (_, t) => if t < p.1.temp then some (p.2, p.1.temp) else b
      | none => some (p.2, p.1.temp)
    else b) none

/-- Recompute Tj (R280): without a valid reading it holds. -/
def junction (t : Thermal) : Thermal :=
  match hottest t.sens with
  | some (i, v) => { t with tjValid := true, tj := v, jsrc := i }
  | none => { t with tjValid := false }

/-- A new Tj (R280): a slot write or erase in progress when the write window closes has to stop (R281). -/
def setTj (s : State) : State :=
  let s := { s with thm := junction s.thm }
  match s.img.op with
  | .write _ | .erase _ => { s with img := { s.img with winStop := s.img.winStop || !winOpen s } }
  | _ => s

/-- The band that a Tj gives from band `b` (R283). -/
def bandNext (t : TbandCfg) (tj : Int) (b : Nat) : Nat :=
  let up := (t.edges.filter fun e => decide (e ≤ tj)).length
  let dn := (t.edges.filter fun e => decide (e - t.hyst ≤ tj)).length
  if b < up then up else if dn < b then dn else b

/-- Decide the band at a new Tj (R283 to R285): every channel takes the new band at its loading point; a change aborts
every sounding. Log entry 35, DEDUCED. -/
def bandDecide (t : TbandCfg) (s : State) : State :=
  if !s.thm.tjValid then s
  else
    let b := bandNext t s.thm.tj s.thm.band
    if b = s.thm.band ∧ s.thm.bandSel then s
    else
      let chg := decide (b ≠ s.thm.band)
      let s := { s with
        thm := { s.thm with band := b, bandSel := true, bandChg := s.thm.bandChg || chg }
        chans := mapTab (fun _ k => { k with bandDue := true, bandSw := placesEdges k }) s.chans }
      if chg then forEach (allFin 24) sndAbort s else s

/-- An unmarked averaged result of a temperature input (R278 to R291). -/
def thermalReading (i : Fin 32) (mean : Int) (s : State) : State :=
  match tbandCfg s with
  | none => s
  | some t =>
    let ok := tempOk i mean
    let f := if ok then sensorGood (hotLevel s t i) t.hyst i mean else sensorBad
    let s := { s with thm := { s.thm with sens := modAt s.thm.sens i.val f, sensFlt := s.thm.sensFlt || !ok } }
    let s := if i.val < 8 then bandDecide t (setTj s) else s
    let s := throttleAll s
    if (s.thm.sens.getD i.val {}).shutCnt = 2 ∧ ok then
      let s := fatalFirst s
      if fatalArmed s then fatalEnter 7 { s with thm := { s.thm with tshut := true } } else s
    else s

/-! ## Rate of rise (R286) -/

/-- 62.5 ms in DPWM ticks. -/
def evalTicks : Nat := 62500 * usTicks

/-- The rate in 0.1 °C/s, S12; what the field holds of a rate outside the format is open (log entry 5, DESIGN CHOICE). -/
def rateField (d : Int) : Int :=
  let v := 10 * d / 24576
  if -2048 ≤ v ∧ v ≤ 2047 then v else (Config.narrow16 v).toInt

/-- One sensor at an evaluation tick. -/
def sensorTick (ror : Nat) (k : Sensor) : Sensor :=
  if !k.valid then { k with hist := [], overN := 0, underN := 0, rate := 0 }
  else
    let hist := (k.full :: k.hist).take 16
    match k.hist[15]? with
    | none => { k with hist := hist, overN := 0, underN := 0, rate := 0 }
    | some old =>
      let d := k.full - old
      let high := decide ((ror : Int) * 24576 < 10 * d)
      let over' := if high then satInc 2 k.overN else 0
      let under' := if high then 0 else satInc 8 k.underN
      { k with hist := hist, rate := rateField d, overN := over', underN := under'
               rorx := (k.rorx || over' == 2) && under' != 8, rorHold := k.rorHold && under' != 8 }

/-- One sensor at an evaluation tick inside the device window: the tick has its place in the history, a tick without a valid reading
empties it, and nothing is decided (R286, R292). -/
def sensorWait (k : Sensor) : Sensor := { k with hist := if k.valid then (k.full :: k.hist).take 16 else [] }

/-- An evaluation tick: rates, exceedances and throttling (R286 to R288); inside the device window nothing is used
(R292). -/
def thermalEval (s : State) : State :=
  match tbandCfg s with
  | none => s
  | some t =>
    if s.hadc.mon.macDev then { s with thm := { s.thm with sens := s.thm.sens.map sensorWait } }
    else
      let sens := s.thm.sens.mapIdx fun i k => sensorTick (t.ror.getD i 0) k
      let started := (List.zipWith (fun a b => !a.rorx && b.rorx) s.thm.sens sens).any id
      throttleAll { s with thm := { s.thm with sens := sens, rorx := s.thm.rorx || started } }

end Sys2Proof.Machine
end

