-- ==== Sys2Proof/Machine/Hadc.lean ====
section
/-! DEFINITION. The housekeeping ADC (R44, R45, R247 to R262): slots and arbitration, host requests, marks and averaging,
supply monitors, sense-line resistance, reference comparison; the discovery classes (R267 to R272). -/

namespace Sys2Proof.Machine

/-! ## Arbitration (R44, R45, R249, R253) -/

/-- A slot of the frame is one of an entry's (R72). -/
def entrySlot (e : HadcEntry) (f : Nat) : Bool := decide (e.start ≤ f) && (f - e.start) % max e.stride 1 == 0

/-- An entry's input is low-impedance (R248). -/
def entryLowz (e : HadcEntry) : Bool := inputInternal e.chan || e.lowz

/-- The conversions whose own slot is slot `f` of the frame: entries, and settling conversions of the next slot (R253). -/
def slotDue (l : List HadcEntry) (f : Nat) : List ConvUser :=
  (l.zipIdx.filter fun p => entrySlot p.1 f).map (fun p => .entry p.2)
    ++ (l.zipIdx.filter fun p => !entryLowz p.1 && entrySlot p.1 ((f + 1) % 1024)).map fun p => .settle p.2

/-- Start the conversion of a scheduled user. -/
def convSched (now : Nat) (l : List HadcEntry) (u : ConvUser) (h : Hadc) : Hadc :=
  let i := match u with | .entry i => i | .settle i => i | _ => 0
  match l[i]? with
  | some e => convStart now u e.chan e.range (entryLowz e) h
  | none => h

/-- A RESTORE probes in a bank (R267). -/
def restoreIn (s : State) (b : Nat) : Bool :=
  (configured s).any fun rc =>
    let x := s.rails[rc.1]
    x.ph.resDue.isNone && match x.ph.resPos with
      | some q => bankOf (rc.2.acc.phase.getD q 0) == b
      | none => false

/-- The request of HADC_REQ is refused (R251); discovery runs in a bank of its mask until that bank is done. Log entry 35, DEDUCED. -/
def reqRefused (s : State) : Bool :=
  let q := s.hadc.req
  let i := q.chan.toNat
  i == 91 || decide (93 ≤ i) || inputRange i != some q.range.toNat
    || ((hadcEntries s).any fun e => e.chan == i && e.range != q.range.toNat)
    || (decide (56 ≤ i) && decide (i < 80)
      && ((s.hadc.mon.discRun && s.hadc.mon.discMask.getLsbD (i - 56) && !s.hadc.mon.doneMask.getLsbD (i - 56)) || restoreIn s (i - 56)))

/-- Grant a free converter at a slot start: urgent, scheduled, host, self-test (R44, R249, R257). A pending trigger
whose request has become illegal is refused there (R251); it converts HADC_REQ as it stands there. Log entry 71, DESIGN CHOICE. -/
def grant (now : Nat) (bad : Bool) (l : List HadcEntry) (keep : List (ConvUser × Nat)) (h : Hadc) : Hadc :=
  match h.urgent with
  | u :: us => urgentStart now u { h with urgent := us, late := keep }
  | [] =>
    match keep with
    | k :: ks => convSched now l k.1 { h with late := ks }
    | [] =>
      let q := h.req
      let go := fun tmr => convStart now (.host tmr) q.chan.toNat q.range.toNat (inputInternal q.chan.toNat || q.lowz)
      let h := { h with late := [] }
      let self := convStart now .selfTest 95 0 true
      if bad && q.pendHost then self { h with req := { q with pendHost := false, reqRej := true } }
      else if bad && q.pendTmr then self { h with req := { q with pendTmr := false, reqRej := true } }
      else if q.pendHost then go false { h with req := { q with pendHost := false } }
      else if q.pendTmr then go true { h with req := { q with pendTmr := false } }
      else self h

/-- A slot opens: scheduled conversions more than 2.0 µs late are skipped, then the converter is granted unless a
conversion still runs (R249). -/
def slotOpen (s : State) : State :=
  if !hadcUp s then s
  else
    let l := hadcEntries s
    let h := s.hadc
    let n := h.slot
    let q := h.late ++ (slotDue l (n % 1024)).map fun u => (u, n)
    let keep := q.filter fun p => decide (n ≤ p.2 + 2)
    let h := { h with slot := n + 1, running := true
                      mon := { h.mon with skip := h.mon.skip || decide (keep.length < q.length) } }
    { s with hadc := if h.conv.isSome then { h with late := keep } else grant s.now (reqRefused s) l keep h }

/-! ## Host requests (R250, R251) -/

/-- A trigger of one of the two sources (R250). -/
def hostTrigger (tmr : Bool) (s : State) : State :=
  let q := s.hadc.req
  let q' :=
    if reqRefused s then { q with reqRej := true }
    else if tmr then if q.pendTmr then { q with ovr := true } else { q with pendTmr := true }
    else if q.pendHost then { q with ovr := true } else { q with pendHost := true }
  { s with hadc := { s.hadc with req := q' } }

/-- A write to HADC_REQ (R274): W1C bits, the configuration, then GO. -/
def reqWrite (w : Word) (s : State) : State :=
  let q := s.hadc.req
  let s := { s with hadc := { s.hadc with req := { q with
    ovr := q.ovr && !bitw w 30, reqRej := q.reqRej && !bitw w 29, lowz := bitw w 24
    range := BitVec.ofNat 2 (bits w 22 2), tsel := BitVec.ofNat 5 (bits w 8 5), trigTmr := bitw w 7
    chan := BitVec.ofNat 7 (bits w 0 7) } } }
  if bitw w 31 then hostTrigger false s else s

/-! ## Averaging (R255) -/

/-- An empty filter of an averaging code. -/
def resFresh (avg : Nat) : SchRes := { avg := avg, mark := .filling }

/-- An unmarked code enters the filter. -/
def resPush (code : Int) (x : SchRes) : SchRes :=
  let win := (code :: x.win).take (2 ^ x.avg)
  let full := x.full || decide (win.length = 2 ^ x.avg)
  { x with win := win, full := full, mark := if full then .none else .filling
           mean := roundDiv (16 * win.sum) (max win.length 1 : Nat) }

/-- The filter after a change of AVG: a result of the same core cycle enters the new filter (R273). -/
def resAgain (now avg : Nat) (x : SchRes) : SchRes :=
  match x.last with
  | some (t, code) =>
    if t = now then { resPush code (resFresh avg) with last := x.last, mark := .filling, chgAt := some now }
    else { resFresh avg with chgAt := some now }
  | none => { resFresh avg with chgAt := some now }

/-- An unmarked result of the core cycle `now` enters the filter; in the cycle of a change of AVG it is marked FILLING (R273). -/
def resTake (now : Nat) (code : Int) (x : SchRes) : SchRes :=
  let y := { resPush code x with last := some (now, code) }
  if x.chgAt = some now then { y with mark := .filling } else y

/-- A write to HADC_AVGSET (R255, R274): APPLY restarts the filter of an entry whose AVG changes. -/
def avgWrite (w : Word) (s : State) : State :=
  let e := bits w 8 7
  let a := bits w 0 3
  let h := { s.hadc with avgEntry := BitVec.ofNat 7 e, avgCode := BitVec.ofNat 3 a }
  let h := if bitw w 31 ∧ e < (hadcEntries s).length then
      { h with res := modAt h.res e fun x => if x.avg = min a 6 then x else resAgain (cycle s) (min a 6) x }
    else h
  { s with hadc := h }

/-! ## Supply monitors (R258) -/

/-- Low and high limit of supply `i` (input 80 + i) at the converter input in µV, times its scale. -/
def supplyLimits (i : Nat) (high : Bool) : Int × Int :=
  if i = 0 then (760000, 840000) else if i = 1 then (1710000, 1890000)
  else if i < 6 then if high then (2970000, 3630000) else (1620000, 1980000)
  else (1700000, 3700000)

/-- The divider in front of a supply's input (R248). -/
def supplyScale (i : Nat) : Int := if i = 0 then 1 else if i = 1 then 2 else 4

/-- One unmarked result of a supply. -/
def supplyResult (i : Nat) (code : Int) (s : State) : State :=
  let m := s.hadc.mon
  let uv4096 := code * 1200000 * supplyScale i
  let hi := if 2 ≤ i ∧ i < 6 then (m.ioHigh.getD (i - 2) none).getD (decide (2500000 * 4096 ≤ uv4096)) else false
  let m := if 2 ≤ i ∧ i < 6 then { m with ioHigh := modAt m.ioHigh (i - 2) fun _ => some hi } else m
  let lim := supplyLimits i hi
  let out := decide (uv4096 < lim.1 * 4096) || decide (lim.2 * 4096 < uv4096)
  let nOut := if out then satInc 2 (m.supOut.getD i 0) else 0
  let nIn := if out then 0 else satInc 2 (m.supIn.getD i 0)
  let bit : Byte := 1#8 <<< i
  let live := m.supLive.getLsbD i
  let m := { m with supOut := modAt m.supOut i fun _ => nOut, supIn := modAt m.supIn i fun _ => nIn
                    supLive := if nOut = 2 then m.supLive ||| bit else if nIn = 2 then m.supLive &&& ~~~bit else m.supLive
                    supWarn := m.supWarn || (nOut == 2 && !live) }
  { s with hadc := { s.hadc with mon := m } }

/-! ## Sense-line resistance (R237, R244) -/

/-- R_P + R_N in 0.1 Ω: the mean of the last 16 codes through the gain of 64 at 10 µA. -/
def rlineOf (l : List Nat) : Nat := min 1023 (roundNat (l.sum * 1500000) (max l.length 1 * 2048 * 640))

/-- One measurement of a rail's line resistance, unmarked; a negative code counts as 0 (R237). Log entry 69, DESIGN CHOICE. -/
def lineResult (code : Int) (x : Rail) : Rail :=
  let l := (code.toNat :: x.sns.last).take 16
  { x with sns := { x.sns with last := l, rline := rlineOf l, measCnt := (x.sns.measCnt + 1) % 65536
                               valid := x.sns.valid || decide (l.length = 16) } }

/-! ## Reference comparison (R259 to R262) -/

/-- A difference of 3.60 mV in range 0b11: code × 300 mV / 4,096 exceeds it (R259). -/
def pairDisagrees (code : Int) : Bool := decide (3600 * 4096 < code * 300000) || decide (3600 * 4096 < -code * 300000)

/-- 10 ms in DPWM ticks. -/
def tenMs : Nat := 10000 * usTicks

/-- The pair of a two-way comparison: 0 for A − B, 1 for A − VREFX, 2 for B − VREFX (R260, R261); A − B where no source is excluded.
Log entry 35, DEDUCED. Log entry 70, DESIGN CHOICE. -/
def twoWayPair (m : HadcMon) : Nat := if m.excl = 1 then 2 else if m.excl = 2 then 1 else 0

/-- The comparison runs two-way; after rounds with no agreeing pair until a reset (R261). Log entry 70, DESIGN CHOICE. -/
def isTwoWay (s : State) : Bool := !xpres s || s.hadc.mon.excl != 0 || s.hadc.mon.twoWay

/-- The odd source of a round by its disagreeing pairs: 0 for agreement, 1 to 3 for A, B, VREFX, 4 for no agreeing pair
(R260). -/
def oddSource (ab ax bx : Bool) : Nat :=
  match ab, ax, bx with
  | true, true, true => 4
  | true, true, false => 1
  | true, false, true => 2
  | false, true, true => 3
  | _, _, _ => 0

/-- A round has ended with the disagreements `d` of its pairs (R260, R261). -/
def roundEnd (d : List Bool) (s : State) : State :=
  let m := s.hadc.mon
  let put := fun (m : HadcMon) => { s with hadc := { s.hadc with mon := m } }
  if isTwoWay s then
    let bad := d.getD (twoWayPair m) false
    let since := if bad then some (m.since.getD s.now) else none
    let s' := put { m with lastRound := d, lastOk := !bad, since := since, odd := 0, nopair := false }
    if bad ∧ tenMs < s.now - m.since.getD s.now ∧ !m.freeze then rearm 0 .reffrz s' else s'
  else
    let o := oddSource (d.getD 0 false) (d.getD 1 false) (d.getD 2 false)
    if o = 0 then put { m with lastRound := d, lastOk := true, since := none, odd := 0, nopair := false }
    else if o = 4 then
      let since := if m.nopair then m.since.getD s.now else s.now
      let over' := decide (tenMs < s.now - since)
      put { m with lastRound := d, lastOk := false, odd := 0, nopair := !over', twoWay := over'
                   since := some (if over' then s.now else since) }
    else
      let since := if m.odd.toNat = o then m.since.getD s.now else s.now
      let s' := put { m with lastRound := d, lastOk := false, odd := BitVec.ofNat 2 o, nopair := false
                             since := some since }
      if tenMs < s.now - since then rearm 0 .refsw s' else s'

/-- One unmarked result of difference input 88 + `i`; the round ends once each scheduled one has delivered (R259). -/
def refResult (i : Nat) (code : Int) (s : State) : State :=
  let m := s.hadc.mon
  let round := modAt m.round i fun _ => some (pairDisagrees code)
  let need := [0, 1, 2].filter fun k => (hadcEntries s).any fun e => e.chan == 88 + k
  let full := need.all fun k => (round.getD k none).isSome
  let round' := if full then List.replicate 3 none else round
  let s := { s with hadc := { s.hadc with mon := { m with round := round' } } }
  if full then roundEnd (round.map fun o => o.getD false) s else s

/-- The odd source timed for more than 10 ms is excluded; an active bandgap gives way to the other at the next core clock edge, which marks the
engine samples that span the change and aborts every sounding (R260, R266). Log entry 35, DEDUCED. -/
def excludeOdd (s : State) : State :=
  let m := s.hadc.mon
  let sw := m.odd == m.active
  let edge := 2 * (cycle s + 1)
  let s := { s with hadc := { s.hadc with mon := { m with
    excl := m.odd, odd := 0, since := none, refSw := true, active := if sw then ~~~m.active else m.active
    gapAt := if sw then some edge else m.gapAt } } }
  if sw then forEach (configured s) (remark edge) (forEach (allFin 24) sndAbort s) else s

/-- The host writes HADC_REF (R261, R262, R274). -/
def refWrite (w : Word) (s : State) : State :=
  let m := s.hadc.mon
  let m := if bitw w 31 ∧ m.freeze ∧ m.lastOk then { m with freeze := false } else m
  let ok : Bool := match m.excl with
    | 1 => !m.lastRound.getD 0 false && !m.lastRound.getD 1 false
    | 2 => !m.lastRound.getD 0 false && !m.lastRound.getD 2 false
    | 3 => !m.lastRound.getD 1 false && !m.lastRound.getD 2 false
    | _ => false
  let m := if bitw w 30 ∧ ok then { m with excl := 0, since := none, odd := 0, nopair := false, twoWay := false } else m
  let s := { s with hadc := { s.hadc with mon := m } }
  -- a VSEL selection held by the raise freeze is applied once it ends (R197)
  if s.hadc.mon.freeze then s
  else forEach (allFin 24) (fun r s =>
    match s.rails[r].pos.vselHeld, vselTarget s r with
    | some t, some (p, _) =>
      let s := onPort p (fun x => { x with vselPend := false }) s
      if railState s.rails[r] = 2 then vselWrite r p t s
      else onRail r (fun x => { x with pos := { x.pos with vselHeld := none } }) s
    | _, _ => s) s

/-! ## VHOLD (R346, R349, R350) -/

/-- An unmarked averaged result of input 87: VHOLD is four times the input; the gate looks at the head record. -/
def holdResult (mean : Int) (s : State) : State :=
  let s := { s with nvl := { s.nvl with v87 := some (mean.toNat * 9375) } }
  if s.nvl.queue.isEmpty || isArmed .logCommitStart s then s else arm 0 .logCommitStart s

/-! ## Conversion results (R252) -/

/-- The mark of a completed conversion, before averaging. -/
def convMark (s : State) (c : Conv) : HMark :=
  if c.settling then .settling
  else if c.rset then .rangeset
  else if s.hadc.mon.macDev then .macer
  else match toFin 24 (c.input - 32) with
    | some r => if 32 ≤ c.input ∧ railMacer s r then .macer else .none
    | none => .none

/-! ## The probe of a discovery (R267, R268) -/

/-- The accord of a channel has PAIR mode, and the even channel whose class it reports. -/
def pairOf (s : State) (ch : Nat) : Bool × Nat :=
  match toFin 192 ch with
  | some c => match owner s c with
    | some (_, k, _, odd) => (k.acc.pair, if odd then ch - 1 else ch)
    | none => (false, ch)
  | none => (false, ch)

/-- A host request may probe the channel: in no accord, of a stopped or latched rail, or bypassed (R267). -/
def mayProbe (s : State) (ch : Nat) : Bool :=
  match toFin 192 ch with
  | none => false
  | some c => match owner s c with
    | none => true
    | some (r, _, q, _) => isStopped s.rails[r] || latched s.rails[r] || s.rails[r].sh.bypass.getLsbD q

/-- A discovery of whole banks that runs probes the channel (R267). -/
def discProbes (s : State) (ch : ChanId) : Bool :=
  let m := s.hadc.mon
  m.discRun && m.discMask.getLsbD (bankOf ch.val) && (m.discForRun || mayProbe s ch.val)

/-- A discovery that runs probes the channel: one of its bank, or that of a RESTORE on it (R177, R267). -/
def probing (s : State) (ch : ChanId) : Bool :=
  discProbes s ch || match owner s ch with
    | some (r, _, q, _) => s.rails[r].ph.resPos == some q && s.rails[r].ph.resDue.isNone
    | none => false

/-- The channels that a discovery of whole banks begins to probe. -/
def discBegin (s : State) : State :=
  probeBegin (((allFin 192).filter fun ch => discProbes s ch).map (·.val)) s

/-- The bank has USER 7 slots (R72, R248). -/
def probeSlots (s : State) (b : Nat) : Bool := (hadcEntries s).any fun e => e.chan == 56 + b

/-- The channel has its own CS test: an odd partner of a PAIR phase reports the class of the even one (R269). -/
def csTested (s : State) (ch : ChanId) : Bool := (pairOf s ch.val).2 == ch.val

/-- V0 and V1 of a probed channel have been taken; in a bank without USER 7 slots they are those that the command carries.
Log entry 35, DEDUCED. -/
def csReady (s : State) (ch : ChanId) : Bool := !probeSlots s (bankOf ch.val) || !csTested s ch || s.chans[ch].pv1.isSome

/-- Each interval of the PWM test (R268). -/
def pullTicks : Nat := 20 * usTicks

/-- The settling time of the probe current before V1 (R268). -/
def settleTicks : Nat := 30 * usTicks

/-- The banks of a discovery that its results `probes` complete (R272): every channel that is probed there has been measured.
Log entry 15, DEDUCED. -/
def banksDone (probes : List (ChanId × Probe)) (s : State) : BitVec 24 :=
  let m := s.hadc.mon
  BitVec.ofNat 24 (((List.range 24).map fun b => bitf b (m.discMask.getLsbD b && !m.doneMask.getLsbD b
    && (probes.any fun p => bankOf p.1.val == b)
    && (allFin 192).all fun ch => bankOf ch.val != b || !discProbes s ch || csReady s ch)).sum)

/-- The channel of a bank whose CS test has its turn: channels in ascending order (R268, R272). Log entry 57, DESIGN CHOICE. -/
def csTurn (s : State) (b : Nat) : Option ChanId :=
  (allFin 192).find? fun ch => bankOf ch.val == b && probing s ch && csTested s ch && s.chans[ch].pv1.isNone

/-- A conversion of a bank's probe input, begun at `at_`, is V0 of the channel whose turn it is, once its PWM test is over, or V1,
once the probe current has settled (R268, R272). Log entry 57, DESIGN CHOICE. -/
def csResult (b : Nat) (code : Int) (at_ : Nat) (s : State) : State :=
  match csTurn s b with
  | none => s
  | some ch =>
    let k := s.chans[ch]
    match k.probeAt, k.pv0 with
    | some t, none =>
      if at_ < t + 2 * pullTicks then s else onChan ch (fun k => { k with pv0 := some (code, s.now) }) s
    | some _, some (_, t0) =>
      if at_ < t0 + settleTicks then s
      else onChan ch (fun k => { k with pv1 := some code }) s
    | none, _ => s

/-- Every channel that the discovery probes has been measured (R272). -/
def discReady (s : State) : Bool := (allFin 192).all fun ch => !discProbes s ch || csReady s ch

/-- What an unmarked result of an entry feeds: thermal decisions on the averaged result, monitors, comparisons and discovery on
the result itself; `at_` is the start of its conversion. -/
def entryFeed (i : Nat) (e : HadcEntry) (code : Int) (at_ : Nat) (s : State) : State :=
  let x := s.hadc.res.getD i {}
  if e.chan < 32 then
    match sensorOf e.chan with
    | some k => if x.mark = .none then thermalReading k x.mean s else s
    | none => s
  else if e.chan < 56 then match toFin 24 (e.chan - 32) with | some r => onRail r (lineResult code) s | none => s
  else if 56 ≤ e.chan ∧ e.chan < 80 then csResult (e.chan - 56) code at_ s
  else if e.chan = 87 then if x.mark = .none then holdResult x.mean s else s
  else if 80 ≤ e.chan ∧ e.chan ≤ 86 then supplyResult (e.chan - 80) code s
  else if 88 ≤ e.chan ∧ e.chan ≤ 90 then refResult (e.chan - 88) code s
  else s

/-- A result of a schedule entry (R252, R255). A result inside a Maceration window of the device restarts the reference
persistence (R273). -/
def entryResult (i : Nat) (code : Int) (mark : HMark) (at_ : Nat) (s : State) : State :=
  match (hadcEntries s)[i]? with
  | none => s
  | some e =>
    match mark with
    | .none => entryFeed i e code at_ { s with hadc := { s.hadc with
        res := modAt s.hadc.res i (resTake (cycle s) code) } }
    | .macer =>
      let m := s.hadc.mon
      let m := if 88 ≤ e.chan ∧ e.chan ≤ 90 then { m with since := none, odd := 0, nopair := false } else m
      { s with hadc := { s.hadc with mon := m, res := modAt s.hadc.res i fun x =>
          { x with mark := if x.full then .macer else .filling } } }
    | _ => s

/-- A self-test result: more than 6 LSB from 2,048 is a failure, four in a row set STFAIL (R257). -/
def selfTestResult (code : Int) (mark : HMark) (s : State) : State :=
  if mark ≠ .none then s
  else
    let m := s.hadc.mon
    let bad := decide (code < 2042) || decide (2054 < code)
    let n := if bad then satInc 255 m.stCnt else 0
    { s with hadc := { s.hadc with mon := { m with stCnt := n, stFail := m.stFail || (bad && decide (n = 4)) } } }

/-- A sample of the running test has been converted: VH, or ΔV, with its instant (R347). -/
def blotTaken (diff : Bool) (code : Int) (at_ : Nat) (n : Nvl) : Nvl :=
  if !n.testRun || n.onAt.any (at_ < ·) then n
  else if diff then { n with sampB := some (code, at_) } else { n with sampA := some (code, at_) }

/-- A conversion completes with `v` µV at the converter's input. Log entry 11, DESIGN CHOICE. -/
def convDone (v : Int) (s : State) : State :=
  match s.hadc.conv with
  | none => s
  | some c =>
    let mark := convMark s c
    let code := hadcCode c.range v
    let s := { s with hadc := { s.hadc with conv := none } }
    let s := match c.user with
      | .entry i => entryResult i code mark c.start s
      | .host tmr =>
        let q := s.hadc.req
        { s with hadc := { s.hadc with req := { q with
          resMark := mark, resSrc := tmr, resChan := c.input, resCode := BitVec.ofNat 12 (twos 12 code) } } }
      | .selfTest => selfTestResult code mark s
      | .atomiser r k => match railCfg s r with | some cf => sndTaken r cf k code c.wait s | none => s
      | .blotter diff => { s with nvl := blotTaken diff code c.start s.nvl }
      | _ => s
    match s.hadc.urgent with
    | u :: us => { s with hadc := urgentStart s.now u { s.hadc with urgent := us } }
    | [] => s

/-! ## Discovery classes (R268 to R270) -/

/-- The results of the PWM test (R268); `other` is a pair of readings that R268 gives none of its four names. -/
inductive PwmRes where
  | f | l | m | h | other
  deriving DecidableEq, Repr

/-- A pin reads low, below 30 % of VDDIO, or high, above 70 % (R268). -/
def readsLow (v : Int) : Bool := decide (v < 300)

/-- A pin reads high. -/
def readsHigh (v : Int) : Bool := decide (700 < v)

/-- The result of the PWM test from the readings under the pull-up and the pull-down (R268). Log entry 35, DEDUCED. -/
def pwmTest (up down : Int) : PwmRes :=
  if readsHigh up && readsLow down then .f
  else if readsLow up && readsLow down then .l
  else if readsHigh up && readsHigh down then .h
  else if readsLow up || readsHigh up || readsLow down || readsHigh down then .other
  else .m

/-- A limit of R269, in mV, in the unit of a probe's voltages: 1/16 µV. -/
def probeMv (v : Int) : Int := 16000 * v

/-- V0 shows the fault level (R269). -/
def faultLevel (p : Probe) : Bool := decide (probeMv 300 < p.v0)

/-- |V0| ≤ 25 mV. -/
def v0Small (p : Probe) : Bool := decide (-probeMv 25 ≤ p.v0) && decide (p.v0 ≤ probeMv 25)

/-- The class code of a channel (R269): the first row that its results match, voltages in 1/16 µV. -/
def classOf (pair : Bool) (p : Probe) : Nat :=
  let d := p.v1 - p.v0
  let pwm := pwmTest p.up p.down
  if faultLevel p then 4
  else if pwm = .f ∧ probeMv 850 < p.v1 then 0
  else if pwm = .m ∧ v0Small p ∧ d ≤ probeMv 100 then 1
  else if pwm = .m ∧ v0Small p ∧ probeMv 400 ≤ d ∧ d ≤ probeMv 600 then 2
  else if pair ∧ pwm = .l ∧ pwmTest p.oUp p.oDown = .l ∧ v0Small p ∧ d ≤ probeMv 100 then 3
  else 4

/-- A probe with the voltages that its conversions gave, in 1/16 µV: 2.4 V over 4,096 codes (R247, R268); else those of the
command. Log entry 35, DEDUCED. -/
def measuredProbe (s : State) (ch : Nat) (p : Probe) : Probe :=
  match (toFin 192 ch).map fun i => (s.chans[i].pv0, s.chans[i].pv1) with
  | some (some (v0, _), some v1) => { p with v0 := 9375 * v0, v1 := 9375 * v1 }
  | _ => { p with v0 := 16 * p.v0, v1 := 16 * p.v1 }

/-- What discovery measured on a channel. -/
def probeOf (probes : List (ChanId × Probe)) (ch : Nat) : Option Probe :=
  (probes.find? fun p => p.1.val == ch).map (·.2)

/-- The class of a channel in a word of BANK_DISC_LAST. -/
def lastClassOf (k : Bank) (j : Nat) : Nat := k.lastClass.toNat / 2 ^ (3 * j) % 8

/-- The class that a discovery reports for channel `j` of bank `b` (R267, R269): in PAIR mode that of the even channel;
for a channel that was not probed 0b111 at READY→RUN, its earlier class at a host request. -/
def chanClass (s : State) (forRun : Bool) (probes : List (ChanId × Probe)) (b : BankId) (j : Nat) : Nat :=
  let (pair, even) := pairOf s (8 * b.val + j)
  match probeOf probes even with
  | some p => classOf pair p
  | none => if forRun then 7 else lastClassOf s.banks[b] j

/-- The class words of a bank (R270, R276): UNATTR when BTSFb stands asserted and no channel shows the fault level. -/
def bankClasses (s : State) (forRun : Bool) (b : BankId) (probes : List (ChanId × Probe)) : BitVec 24 × Bool :=
  let l := List.range 8
  let cls := (l.map fun j => fld (3 * j) 3 (chanClass s forRun probes b j)).sum
  let hit := l.any fun j => match probeOf probes (8 * b.val + j) with | some p => faultLevel p | none => false
  (BitVec.ofNat 24 cls, s.banks[b].btsfRaw && !hit)

/-- The recorded class of a channel (R272, R276). -/
def recordedClass (s : State) (ch : Nat) : Nat :=
  match toFin 24 (bankOf ch) with
  | some b => s.banks[b].discClass.toNat / 2 ^ (3 * (ch % 8)) % 8
  | none => 7

/-- A host request for discovery (R267, R274). Log entry 35, DEDUCED. -/
def discWrite (w : Word) (s : State) : State :=
  let m := s.hadc.mon
  if bits w 24 8 ≠ 0xA5 then s
  else
    let mask : BitVec 24 := BitVec.ofNat 24 (bits w 0 24)
    if mask = 0 then s else
    let rej := m.discRun || (List.range 24).any fun b => mask.getLsbD b && restoreIn s b
    let m' := if rej then { m with discRej := true }
      else { m with discRun := true, discForRun := false, discMask := mask, doneMask := 0 }
    let t := { s with hadc := { s.hadc with mon := m' } }
    if rej then t else discBegin t

/-- Write the classes of the banks of a mask; a READY→RUN discovery writes BANK_DISC too (R272). -/
def writeClasses (forRun : Bool) (mask : BitVec 24) (probes : List (ChanId × Probe)) (s : State) : State :=
  forEach (allFin 24) (fun b t =>
    if mask.getLsbD b.val then
      let (cls, un) := bankClasses s forRun b probes
      onBank b (fun k =>
        let k := { k with lastValid := true, lastUnattr := un, lastClass := cls }
        if forRun then { k with discValid := true, discUnattr := un, discClass := cls } else k) t
    else t) s

/-- Some channel that the discovery has probed is classed absent or faulty (R272); a partner has the class of the even channel (R269). -/
def anyFaultClass (s : State) : Bool :=
  (allFin 192).any fun ch => discProbes s ch && match toFin 24 (bankOf ch.val) with
    | some b => let k := lastClassOf s.banks[b] (ch.val % 8); k == 0 || k == 4
    | none => false

/-- The non-bypassed positions of a rail whose last class is absent or faulty (R178, R221). Log entry 35, DEDUCED. -/
def badPositions (s : State) (c : RailCfg) (x : Rail) : List Nat :=
  (avail c x).filter fun q =>
    let ch := c.acc.phase.getD q 0
    match toFin 24 (bankOf ch) with
    | some b => let k := lastClassOf s.banks[b] (ch % 8); k == 0 || k == 4
    | none => false

/-- What a discovery does to a rail (R178, R221): at READY→RUN its bad positions are bypassed, or the rail is held; a
later discovery that finds none, or none that cannot be bypassed, ends the hold. -/
def discRail (forRun : Bool) (rc : RailId × RailCfg) (s : State) : State :=
  let (r, c) := rc
  let bad := badPositions s c s.rails[r]
  let hold := fun (v : Bool) => onRail r fun x => { x with seq := { x.seq with
    discHold := v, discBad := if v then (bad.map fun q => 1#32 <<< q).foldl (· ||| ·) 0 else 0 } }
  let canBypass := bad.isEmpty || (c.acc.bypass && decide (c.acc.nmin + bad.length ≤ navl c s.rails[r]))
  if !canBypass then if forRun then hold true s else s
  else if forRun && !bad.isEmpty then
    hold false (applyDue r c (onRail r (fun x => { x with ph := { x.ph with bypDue := x.ph.bypDue ++ bad } }) s))
  else hold false s

/-- What the channels that the discovery probes have shown. -/
def discResults (probes : List (ChanId × Probe)) (s : State) : List (ChanId × Probe) :=
  let m := s.hadc.mon
  let probes := (if m.discForRun then probes else probes.filter fun p => mayProbe s p.1.val).filter
    fun p => m.discMask.getLsbD (bankOf p.1.val)
  probes.map fun p => (p.1, measuredProbe s p.1.val p.2)

/-- The banks a discovery has completed are those of a mask. -/
def banksMarked (mask : BitVec 24) (s : State) : State :=
  { s with hadc := { s.hadc with mon := { s.hadc.mon with doneMask := mask } } }

/-- Some banks of a discovery have completed: their classes, DONEMASK (R270, R272, R273). Log entry 15, DEDUCED. -/
def discPart (probes : List (ChanId × Probe)) (s : State) : State :=
  let m := s.hadc.mon
  let done := banksDone probes s
  banksMarked (m.doneMask ||| done) (writeClasses m.discForRun done (discResults probes s) s)

/-- A discovery has run on every bank of its mask: the classes of those left, DISCDONE, DISCFLT, the rails (R178, R221, R272).
Log entry 15, DEDUCED. Log entry 35, DEDUCED. -/
def discFinish (probes : List (ChanId × Probe)) (s : State) : State :=
  let m := s.hadc.mon
  let s := writeClasses m.discForRun (m.discMask &&& ~~~m.doneMask) (discResults probes s) s
  let flt := anyFaultClass s
  let s := { s with hadc := { s.hadc with mon := { s.hadc.mon with
    discRun := false, discForRun := false, doneMask := m.discMask, discDone := true
    discFlt := s.hadc.mon.discFlt || flt } } }
  forEach (configured s) (discRail m.discForRun) s

/-! ## RESTORE (R177) -/

/-- Discovery of a RESTORE passes: the class found is the recorded one, or the one that matches the channel's mode when
that was absent or faulty (R177). -/
def restorePasses (s : State) (c : RailCfg) (ch k : Nat) : Bool :=
  let rec_ := recordedClass s ch
  if rec_ = 0 ∨ rec_ = 4 then k == (if c.acc.pair then 3 else 1) else k == rec_

/-- The single-channel discovery writes BANK_DISC_LAST of its channel (R272). -/
def writeLast (ch k : Nat) (s : State) : State :=
  match toFin 24 (bankOf ch) with
  | none => s
  | some b =>
    let j := ch % 8
    onBank b (fun x => { x with
      lastValid := true
      lastClass := (x.lastClass &&& ~~~(7#24 <<< (3 * j))) ||| (BitVec.ofNat 24 k <<< (3 * j)) }) s

/-- A single-channel discovery completes (R272): DISCDONE, DISCFLT, and, unless a discovery of whole banks runs, the bank in
DONEMASK. -/
def discOne (b : Nat) (flt : Bool) (s : State) : State :=
  let m := s.hadc.mon
  { s with hadc := { s.hadc with mon := { m with
    discDone := true, discFlt := m.discFlt || flt, doneMask := if m.discRun then m.doneMask else 1#24 <<< b } } }

/-- The restore discovery ends, once its channel has been measured (R177, R268): on a pass the channel is calibrated and rejoins at the next master carrier start,
at once on a rail that is stopped or latched. -/
def restoreDone (r : RailId) (c : RailCfg) (p : Probe) (cal : Int) (s : State) : State :=
  let x := s.rails[r]
  match x.ph.resPos with
  | none => s
  | some q =>
    let ch := c.acc.phase.getD q 0
    if x.ph.resDue.isSome || !(toFin 192 ch).all (csReady s) then s else
    let k := classOf c.acc.pair (measuredProbe s ch p)
    let pass := restorePasses s c ch k
    let s := writeLast ch k s
    let s := if c.acc.pair then writeLast (ch + 1) k s else s
    let s := discOne (bankOf ch) (k == 0 || k == 4) s
    if pass then
      let s := thrRenew r c [ch] (ofsSet r c q cal s)
      let s := onRail r (fun x => { x with ph := { x.ph with resDue := some q } }) s
      if setAtOnce s.rails[r] then applyDue r c s else s
    else onRail r (fun x => { x with ph := { x.ph with busy := false, resPos := none, result := 0x92 } }) s

end Sys2Proof.Machine
end

