-- ==== Sys2Proof/Machine/Nvl.lean ====
section
/-! DEFINITION. The NV log and the Blotter (R339 to R356): slots in flash, the scan, the test, the gate, the two-phase
commit, erases, read-out. -/

namespace Sys2Proof.Machine

/-! ## Slots (R339, R340) -/

/-- First byte of a record slot. -/
def slotAddr (i : Nat) : Nat := 0x100000 + 1024 * (i % 256)

/-- The STATE word of a slot. -/
def slotState (m : List Host.Cell) (i : Nat) : Nat := leNat (flashReadList m (slotAddr i) 4)

/-- STATE values (R340). -/
def stFree : Nat := 0xFFFFFFFF
/-- Phase 1 done. -/
def stOpen : Nat := 0xFFFFA5A5
/-- Phase 2 done. -/
def stCommitted : Nat := 0x0000A5A5

/-- Program the STATE word of a slot. -/
def putState (v i : Nat) (s : State) : State := { s with flash := flashProgList s.flash (slotAddr i) (natLe 4 v) }

/-- The SEQ word of a slot. -/
def slotSeq (m : List Host.Cell) (i : Nat) : Nat := leNat (flashReadList m (slotAddr i + 4) 4)

/-- The committed slots. -/
def committedSlots (m : List Host.Cell) : List Nat := (List.range 256).filter fun i => slotState m i == stCommitted

/-- The slot with the highest SEQ. -/
def newestOf (m : List Host.Cell) (l : List Nat) : Option Nat :=
  l.foldl (fun b i => match b with
    | some j => if slotSeq m j < slotSeq m i then some i else b
    | none => some i) none

/-- The committed slot of age `n`, newest first (R354). -/
def slotOfAge (m : List Host.Cell) : List Nat → Nat → Nat → Option Nat
  | _, _, 0 => none
  | l, n, fuel + 1 =>
    match newestOf m l with
    | none => none
    | some i => if n = 0 then some i else slotOfAge m (l.filter (· != i)) (n - 1) fuel

/-- A full load reads the flash: one from QSPI (R80, R352). -/
def loadReads (s : State) : Bool := s.img.phase == .reading && s.img.op != .host

/-- The log may erase (R281, R352): the window is open, no full load reads the flash, no commit runs. -/
def logMayErase (s : State) : Bool := winOpen s && !loadReads s && !s.nvl.busy

/-! ## The scan (R341) -/

/-- The STATE of a slot is none of R340. -/
def corruptSlot (m : List Host.Cell) (i : Nat) : Bool :=
  let v := slotState m i
  v != stFree && v != stOpen && v != stCommitted && v != 0

/-- Program every OPEN slot but the one being written to VOID. -/
def voidOpen (s : State) : State :=
  let l := (List.range 256).filter fun i => slotState s.flash i == stOpen && !(s.nvl.busy && i == s.nvl.wslot)
  { forEach l (putState 0) s with nvl := { (forEach l (putState 0) s).nvl with voidDue := false } }

/-- A block is wholly FREE: erased. -/
def blockFree (m : List Host.Cell) (k : Nat) : Bool :=
  m.all fun c => !(decide (0x100000 + 4096 * k ≤ c.1) && decide (c.1 < 0x100000 + 4096 * (k + 1)))

/-- The first FREE slot at or after `i` in the ring. -/
def firstFree (m : List Host.Cell) (i : Nat) : Nat :=
  ((List.range 256).map fun k => (i + k) % 256).find? (fun j => slotState m j == stFree) |>.getD (i % 256)

/-- MEDIA with its cause. -/
def media (cause : BitVec 4) (s : State) : State := { s with nvl := { s.nvl with media := true, mcause := cause } }

/-- Erase a block of the ring. -/
def eraseBlock (k : Nat) (s : State) : State :=
  { s with flash := flashErase s.flash (0x100000 + 4096 * (k % 64)) 4096
           nvl := { s.nvl with eraseDue := s.nvl.eraseDue.filter (· != k) } }

/-- A block falls due for its erase (R339, R341). -/
def eraseLater (wait k : Nat) (s : State) : State :=
  rearm wait .logBlockErase { s with nvl := { s.nvl with eraseDue := s.nvl.eraseDue ++ [k] } }

/-- A head record waits for the gate. -/
def gateArm (s : State) : State :=
  if s.nvl.queue.isEmpty then s else rearm 0 .logCommitStart s

/-- What the scan finds: the newest record, the write slot behind it, the pass of the ring, whether OPEN slots stand. -/
def scanRead (s : State) : State :=
  let m := s.flash
  let new := newestOf m (committedSlots m)
  let w := firstFree m (match new with | some i => i + 1 | none => 0)
  let lap := match new with
    | some i => leNat (flashReadList m (slotAddr i + 0x18) 4) + if w ≤ i then 1 else 0
    | none => 0
  { s with nvl := { s.nvl with
    scan := false, wslot := w, lap := lap, seq := (match new with | some i => slotSeq m i | none => 0)
    voidDue := (List.range 256).any fun i => slotState m i == stOpen, headNew := true } }

/-- The erase of block `k` belongs to pass 1,000,000 of the ring (R353). Log entry 37, DEDUCED. -/
def enduranceOver (k lap : Nat) : Bool := decide (1000000 ≤ (if k = 0 then lap + 1 else lap))

/-- The controller stops erasing for good: MEDIA with MCAUSE 0x4 (R353). -/
def endurance (s : State) : State := { (media 4 s) with nvl := { (media 4 s).nvl with stopped := true } }

/-- The block after the write position must stand erased: one that does not sets MEDIA and is erased, now or when the
window allows, unless the endurance limit is reached (R341, R353). Log entry 37, DEDUCED. -/
def scanErase (s : State) : State :=
  let k := (s.nvl.wslot / 4 + 1) % 64
  if blockFree s.flash k then s
  else if enduranceOver k s.nvl.lap then endurance s
  else if logMayErase s then eraseBlock k (media 2 s)
  else eraseLater (1024 * usTicks) k (media 2 s)

/-- The scan starts with the control domain. -/
def scanStart (s : State) : State := { s with nvl := { s.nvl with scan := true } }

/-! ## The Blotter (R347 to R349) -/

/-- Start a test, or let it wait for the commit, the test or the device window that runs; one that started in this core cycle
serves (R355). The sink switches on. -/
def testStart (s : State) : State :=
  if s.nvl.testRun && s.nvl.onAt.any (· / 2 == cycle s) then s
  else if s.nvl.testRun || s.nvl.busy || s.hadc.mon.macDev || !hadcUp s then
    { s with nvl := { s.nvl with testDue := true } }
  else
    { s with nvl := { s.nvl with testRun := true, testDue := false, onAt := some s.now, sampA := none, sampB := none } }

/-- The 20 mA sink stands on VHOLD: for 50.0 µs of a test (R347). -/
def sinkOn (s : State) : Bool := s.nvl.testRun && s.nvl.onAt.any fun t => decide (s.now < t + 50 * usTicks)

/-- The urgent requests of a test: input 87 at 2.0 µs after the sink, the difference path at 48.0 µs (R347). -/
def blotSample (s : State) : State :=
  match s.nvl.onAt with
  | none => s
  | some t =>
    if !s.nvl.testRun then s
    else if s.now = t + 2 * usTicks then urgentReq (.blotter false) 87 s
    else if s.now = t + 48 * usTicks then urgentReq (.blotter true) 96 s
    else s

/-- Start the test that waits. -/
def testWaiting (s : State) : State := if s.nvl.testDue then testStart s else s

/-- The scan completes (R341); a test that a hitless reset broke off starts anew (R355). Log entry 37, DEDUCED. -/
def scanDone (s : State) : State :=
  if !s.nvl.scan then s
  else
    let bad := (List.range 256).any (corruptSlot s.flash)
    let t := scanRead s
    let t := if winOpen t then voidOpen t else t
    let t := if bad then media 1 t else t
    testWaiting (gateArm (scanErase t))

/-- The result of a test from the two codes and Δt in core cycles (R348). -/
inductive TestOut where
  | invalid
  | low (c e : Frac)
  | pass (c e : Frac)
  deriving DecidableEq, Repr

/-- Classify a test (R348). -/
def testOut (n : Nvl) (vh dv : Int) (dt : Nat) : TestOut :=
  let c := capFrac dt dv.toNat
  let e := energyOf c (vhOf vh) (vstopU n.vstop)
  if dv ≤ 0 ∨ 2047 ≤ dv ∨ c.num < 80000 * c.den ∨ 2750000 * c.den < c.num then .invalid
  else if vhOf vh ≤ vstopU n.vstop ∨ tooLow e then .low c e else .pass c e

/-- The Blotter has measured the two codes and, between the sample instants, Δt in core cycles (R347). -/
def measured (n : Nvl) (vh dv : Int) (dt : Nat) : Bool :=
  match n.sampA, n.sampB with
  | some (a, ta), some (b, tb) => a == vh && b == dv && tb / 2 - ta / 2 == dt
  | _, _ => false

/-- A test ends with what its two samples gave (R347 to R350): the gate decides before a waiting test starts. Log entry 37,
DEDUCED. -/
def testEnd (vh dv : Int) (dt : Nat) (s : State) : State :=
  if !s.nvl.testRun || !measured s.nvl vh dv dt then s
  else
    let n := s.nvl
    let n := { n with vh := roundNat (vhOf vh) (10000 * uvUnit), dvuv := narrowU16 (roundDiv (dv * 9375) 1024)
                      testRun := false, testAt := some s.now }
    let good := fun (c e : Frac) (pass : Bool) (r : BlotRes) =>
      { n with result := r, capUf := c.num / (1000 * c.den), eavl := min 65535 (e.num / (e.den * tenMicroJ)), cap := c
               q := qLoad c (vhOf vh) (vstopU n.vstop), testOk := pass, seen := true, blotFail := n.blotFail || !pass
               cresync := n.cresync || n.resync, resync := false }
    let n := match testOut n vh dv dt with
      | .invalid => { n with result := .invalid, q := {}, testOk := false, blotFail := true, resync := false }
      | .low c e => { good c e false .low with headNew := false }
      | .pass c e => good c e true .pass
    let s := { s with nvl := n }
    if n.queue.isEmpty then testWaiting s else gateArm s

/-! ## The gate (R350) -/

/-- The last test is younger than BPERIOD. -/
def testYoung (s : State) : Bool :=
  match s.nvl.testAt with
  | some t => decide (s.now - t < bperiodTicks s.nvl.bperiod)
  | none => false

/-- The gate may call a test at this evaluation: not right after a test has ended, and where that test ended LOW, for the records queued
then once BPERIOD has passed (R350, R355). Log entry 37, DEDUCED. -/
def mayTest (s : State) : Bool :=
  s.nvl.testAt != some s.now && (s.nvl.headNew || s.nvl.result != .low || !testYoung s)

/-- The 12 snapshot words, excerpt and the rest of a record's body from byte 0x004 to 0x3FB (R343). -/
def recordBody (s : State) (q : LogRec) : List Byte :=
  natLe 4 (s.nvl.seq + 1) ++ natLe 2 q.event ++ natLe 1 q.cls ++ natLe 1 q.rail ++ natLe 4 q.gen ++ natLe 4 q.secs
    ++ natLe 4 q.subus ++ natLe 4 s.nvl.lap ++ natLe 1 (b2n q.silOld + 2 * b2n q.silNone) ++ natLe 1 q.sil.length
    ++ natLe 2 0 ++ q.snap.flatMap leBytes ++ leBytes (nvlBlot s) ++ leBytes (nvlCount s) ++ List.replicate 40 0
    ++ q.sil.flatMap (fun e => natLe 8 e.toNat) ++ List.replicate (8 * (111 - q.sil.length)) 0xFF ++ natLe 4 0

/-- Program phase 1 of the head record into the write slot: OPEN, then the body (R340). -/
def openSlot (s : State) : State :=
  match s.nvl.queue with
  | [] => s
  | q :: _ =>
    let body := recordBody s q
    let s := putState stOpen s.nvl.wslot s
    { s with flash := flashProgList s.flash (slotAddr s.nvl.wslot + 4) (body ++ natLe 4 (crc32 body)) }

/-- The head record leaves the queue without having been committed (R351, R353). -/
def dropHead (s : State) : State :=
  gateArm { s with nvl := { s.nvl with queue := s.nvl.queue.drop 1, headNew := true, drop := true
                                       dropCnt := satInc 255 s.nvl.dropCnt } }

/-- Due erases run before a slot is written, when the flash may be erased (R341, R352). -/
def eraseAll (s : State) : State := if logMayErase s then forEach s.nvl.eraseDue eraseBlock s else s

/-- Open the write slot for the head record, when it is FREE; else the record is dropped (R340, R353). Log entry 37, DEDUCED. -/
def openFree (s : State) : State :=
  if slotState s.flash s.nvl.wslot = stFree then openSlot s
  else dropHead { s with nvl := { s.nvl with busy := false, retry := false } }

/-- A commit starts (R351). Slots still to be voided are voided, and due blocks erased, first. Log entry 37, DEDUCED. -/
def commitStart (s : State) : State :=
  let s := eraseAll (if s.nvl.voidDue then voidOpen s else s)
  openFree { s with nvl := { s.nvl with busy := true, retry := false } }

/-- The gate holds the head record. -/
def gateHold (s : State) : State := { s with nvl := { s.nvl with holdPend := true } }

/-- The gate calls a test: the one that runs serves it (R350, R355). -/
def gateTest (s : State) : State := if s.nvl.testRun then s else testStart s

/-- The gate decides whether the head record may start (R350); a commit waits for the end of a full load that reads the flash
(R352). -/
def gate (s : State) : State :=
  let n := s.nvl
  if n.queue.isEmpty || n.busy || !hadcUp s then s
  else if !winOpen s || n.scan || s.hadc.mon.macDev then gateHold s
  else
    match n.v87 with
    | none => gateHold s
    | some v =>
      if tooLow (eVoltage n v) || !n.seen then gateHold s
      else if tooLow (eCounter n) then
        if n.testRun || mayTest s then gateTest { s with nvl := { s.nvl with resync := true } }
        else gateHold s
      else if n.testOk && testYoung s then if loadReads s then s else commitStart s
      else if n.testRun || mayTest s then gateTest s
      else gateHold s

/-- The gate has its turn; then a test that waits (R347, R350). -/
def gateTurn (s : State) : State := testWaiting (gate s)

/-! ## Commit, erase (R339, R351, R353) -/

/-- The write position advances; a pass of the ring completes after slot 255, and a move into the erased block makes the
erase of the next one due, unless it would begin pass 1,000,000. -/
def advance (s : State) : State :=
  let w := (s.nvl.wslot + 1) % 256
  let lap := if w = 0 then s.nvl.lap + 1 else s.nvl.lap
  let s := { s with nvl := { s.nvl with wslot := w, lap := lap } }
  if w % 4 ≠ 0 then s
  else
    let k := (w / 4 + 1) % 64
    if s.nvl.stopped then s
    else if enduranceOver k lap then endurance s
    else eraseLater 0 k s

/-- The erases that waited for the commit follow it (R351). -/
def erasePending (s : State) : State := if s.nvl.eraseDue.isEmpty then s else rearm 0 .logBlockErase s

/-- COMMITTED is programmed (R349, R351). Log entry 11, DESIGN CHOICE. -/
def commitDone (s : State) : State :=
  if !s.nvl.busy then s
  else
    let s := putState stCommitted s.nvl.wslot s
    let n := s.nvl
    let s := { s with nvl := { n with
      busy := false, retry := false, logged := true, seq := n.seq + 1, queue := n.queue.drop 1, headNew := true
      q := qDebit n.q (vstopU n.vstop) } }
    testWaiting (gateArm (erasePending (advance s)))

/-- A program was not confirmed within 1.0 ms (R351): the slot becomes VOID; one retry in the next slot, then the record
is discarded. -/
def programTimeout (s : State) : State :=
  if !s.nvl.busy then s
  else
    let again := !s.nvl.retry
    let s := advance (putState 0 s.nvl.wslot (media 3 s))
    if again then openFree { s with nvl := { s.nvl with retry := true } }
    else testWaiting (erasePending (dropHead { s with nvl := { s.nvl with busy := false, retry := false } }))

/-- The oldest due block erase runs, or waits for the window, a load, or a commit (R281, R339, R351, R352). Log entry 37,
DEDUCED. -/
def blockErase (s : State) : State :=
  match s.nvl.eraseDue with
  | [] => s
  | k :: _ => if logMayErase s then erasePending (eraseBlock k s) else rearm (1024 * usTicks) .logBlockErase s

/-! ## Read-out (R354) -/

/-- A write to NVL_RDCTRL (R354, R356). -/
def rdctrlWrite (w : Word) (s : State) : State :=
  let a := bits w 0 8
  let r := { s.nrd with rdErr := s.nrd.rdErr && !bitw w 30, age := BitVec.ofNat 8 a, ready := false }
  match if s.nvl.scan then none else slotOfAge s.flash (committedSlots s.flash) a 256 with
  | none => { s with nrd := { r with rdErr := true, fetch := none } }
  | some i => { s with nrd := { r with fetch := some i } }

/-- The record stands in the read buffer. -/
def fetchDone (s : State) : State :=
  match s.nrd.fetch with
  | none => s
  | some i =>
    let b := flashReadList s.flash (slotAddr i) 1024
    let ok := leNat (b.drop 0x3FC) == crc32 ((b.drop 4).take 0x3F8)
    { s with nrd := { s.nrd with buf := b, ptr := 0, crcOk := ok, ready := true, fetch := none } }

/-- A read of NVL_RDDATA: the next word; the pointer advances by 4 bytes. -/
def rddataNext (s : State) : State :=
  if s.nrd.ready then { s with nrd := { s.nrd with ptr := (s.nrd.ptr + 4) % 1024 } } else s

/-! ## NVL_TIME and NVL_CFG (R356) -/

/-- DPWM ticks in a second. -/
def secTicks : Nat := 1000000 * usTicks

/-- A second has elapsed. -/
def timeTick (s : State) : State :=
  rearm secTicks .nvlTimeTick { s with nvl := { s.nvl with secs := s.nvl.secs + 1, secAt := s.now } }

/-- A write to NVL_TIME sets the value, which then advances once per second. -/
def timeWrite (w : Word) (s : State) : State :=
  rearm secTicks .nvlTimeTick { s with nvl := { s.nvl with secs := w, secAt := s.now } }

/-- A write to NVL_CFG: the period of the Blotter runs anew. Log entry 37, DEDUCED. -/
def nvlCfgWrite (w : Word) (s : State) : State :=
  let s := { s with nvl := { s.nvl with vstop := BitVec.ofNat 10 (bits w 16 10), bperiod := BitVec.ofNat 16 (bits w 0 16) } }
  rearm (bperiodTicks s.nvl.bperiod) .blotterTest s

/-- A write to NVL_CTRL (R347). -/
def blotWrite (w : Word) (s : State) : State := if bits w 24 8 = 0xA5 ∧ bitw w 23 then testStart s else s

end Sys2Proof.Machine
end

