-- ==== Sys2Proof/Machine/Timers.lean ====
section
/-! DEFINITION. The timer bank (R358 to R376): commands, counting, the match and its actions, capture, slow-clock
running. -/

namespace Sys2Proof.Machine

/-! ## Ownership (R358, R359) -/

/-- The sealed image holds an owner claim for the timer (R358). -/
def timerOwned (s : State) (t : TimerId) : Bool :=
  (pinClaims s).any fun p => p.rclass == 3 && p.rindex == t.val && p.claimant == 5 && p.cinst == 0xFE && !p.observe

/-! ## Refusals (R361) -/

/-- TERR is set once more in this core cycle (R376, R432). Log entry 8, DESIGN CHOICE. -/
def terrHit (s : State) : Option (Nat × Nat × Bool) :=
  match s.tmr.terrAt with
  | some (t, n, was) => if t = cycle s then some (t, n + 1, was) else some (cycle s, 1, s.tmr.terr)
  | none => some (cycle s, 1, s.tmr.terr)

/-- A refused command or write: REJ, REJCNT, TERR. -/
def tmrRefuse (s : State) : State :=
  { s with tmr := { s.tmr with rej := true, terr := true, terrAt := terrHit s, rejCnt := satInc 255 s.tmr.rejCnt } }

/-- TERR with a flag of one timer. -/
def tmrErr (s : State) : State := { s with tmr := { s.tmr with terr := true, terrAt := terrHit s } }

/-! ## The match (R364, R366) -/

/-- A match action: 0b11 acts as none. -/
def actCode (a : BitVec 2) : Nat := if a.toNat = 3 then 0 else a.toNat

/-- The self action of a timer that matches: SACT, and LACT when LINK names the timer itself. -/
def selfAct (t : Nat) (k : Timer) : Nat :=
  max (actCode k.sact) (if k.link.toNat = t then actCode k.lact else 0)

/-- The linked action that the matching timers apply to timer `t`: START over RESET over none. -/
def linkAct (l : List (Nat × Timer)) (t : Nat) : Nat :=
  (l.map fun p => if p.1 ≠ t ∧ p.2.link.toNat = t then actCode p.2.lact else 0).foldl max 0

/-- A timer re-armed by an action: counter 0, output to OUTINIT unless the pins hold (slow-clock mode). -/
def rearmed (slow : Bool) (k : Timer) : Timer :=
  { k with st := .armed, count := 0, half := none, out := if slow then k.out else k.outinit }

/-- A MATCH of 0 acts as 1. -/
def matchAt (k : Timer) : Nat := max 1 k.mtch.toNat

/-- A run ends in core cycle `now` at count `n`, not by a STOP (R376): the first half of a capture pair waits for a second edge of the
same core cycle (R375). -/
def runEnd (now n : Nat) (k : Timer) : Timer :=
  { k with matched := false, half := none, endAt := some now, endHalf := k.half, endCount := n, stopped := false }

/-- The timer itself at its match in core cycle `now`, by the strongest action that reaches it. Log entry 36, DEDUCED. -/
def ownMatch (now : Nat) (slow : Bool) (a : Nat) (k : Timer) : Timer :=
  let n := if slow then matchAt k else if k.count = matchAt k then k.count else k.mtch.toNat
  let k := { runEnd now n k with out := if slow then k.out else !k.out }
  match a with
  | 2 => { k with st := .running, count := 0 }
  | 1 => rearmed slow k
  | _ => { k with st := .done, count := n }

/-- A linked action on a timer that does not match at this edge: the timer and whether the action missed. A timer that a
command has started at this edge still stands ARMED: it starts once (R375). -/
def linked (now : Nat) (slow : Bool) (a : Nat) (k : Timer) : Timer × Bool :=
  let miss := ({ k with linkMiss := true }, true)
  match a, standing now k with
  | 0, _ => (k, false)
  | _, .idle => miss
  | 1, .armed => (k, false)
  | 1, .running => ({ k with count := 0 }, false)
  | 1, .done => (rearmed slow k, false)
  | _, .armed => ({ k with st := .running, count := 0, linkAt := some now }, false)
  | _, .running => miss
  | _, .done => ({ k with st := .running, count := 0, half := none, startAt := some now }, false)

/-- The matching timers of the present edge. -/
def matching (s : State) : List (Nat × Timer) :=
  s.tmr.tmr.toList.zipIdx.filterMap fun p => if p.1.matched then some (p.2, p.1) else none

/-- The timers `l` with those that a matching timer's linked action joins to one of them. -/
def joined (ms : List (Nat × Timer)) (l : List Nat) : List Nat :=
  ms.foldl (fun l p =>
    if actCode p.2.lact = 0 then l
    else if l.contains p.1 || l.contains p.2.link.toNat then [p.1, p.2.link.toNat].filter (!l.contains ·) ++ l else l) l

/-- The matches that meet at timer `t`: its own, and those that linked actions join to it, directly or through other timers
(R366). -/
def meeting (t : TimerId) (s : State) : List (Nat × Timer) :=
  let ms := matching s
  let l := ms.foldl (fun l _ => joined ms l) [t.val]
  ms.filter fun p => l.contains p.1

/-- What the matches `l` of the present edge do to timer `t`. -/
def edgeOf (now : Nat) (slow : Bool) (l : List (Nat × Timer)) (t : Nat) (k : Timer) : Timer × Bool :=
  if l.any (·.1 == t) then (ownMatch now slow (max (selfAct t k) (linkAct l t)) k, false) else linked now slow (linkAct l t) k

/-- Matches of the present edge: DONE bits, outputs, actions, and outside slow-clock mode the HADC trigger (R364, R366,
R372). -/
def matchThese (l : List (Nat × Timer)) (s : State) : State :=
  let slow := s.tmr.slowMode
  let miss := s.tmr.tmr.toList.zipIdx.any fun p => (edgeOf (cycle s) slow l p.2 p.1).2
  let b := s.tmr
  let s := { s with tmr := { b with
    tmr := mapTab (fun t k => (edgeOf (cycle s) slow l t k).1) b.tmr
    done := b.done || !l.isEmpty, terr := b.terr || miss, terrAt := if miss then terrHit s else b.terrAt
    doneMask := b.doneMask ||| mkWord (l.map fun p => bitf p.1 true) } }
  if !slow && s.hadc.req.trigTmr && l.any (fun p => p.1 == s.hadc.req.tsel.toNat) then hostTrigger true s else s

/-- The matches that meet at timer `t`, in one: the other timers' matches of the edge still wait for a MATCH write (R375). -/
def matchGroup (t : TimerId) (s : State) : State :=
  let l := meeting t s
  if l.isEmpty then s else matchThese l s

/-! ## Commands (R361 to R363) -/

/-- ARM; in slow-clock mode the output pin holds its level (R361, R372). -/
def tmrArm (slow : Bool) (k : Timer) : Timer :=
  { k with st := .armed, count := 0, capr := 0, capf := 0, width := 0, pairRdy := false, stopped := false, half := none
           out := if slow then k.out else k.outinit }

/-- A TMR_CMD command on a timer in core cycle `now`; none when it is not legal in its state (R361). -/
def tmrCmdOn (now : Nat) (slow : Bool) (cmd : Nat) (k : Timer) : Option Timer :=
  match cmd, standing now k with
  | 1, .idle => some (tmrArm slow k)
  | 1, .done => some (tmrArm slow k)
  | 2, .armed => some { k with st := .running, startAt := some now }
  | 3, .running => some { runEnd now k.count k with st := .done, stopped := true }
  | 4, .armed => some { k with st := .idle, count := 0, half := none }
  | 4, .running => some { runEnd now k.count k with st := .idle, count := 0 }
  | 4, .done => some { k with st := .idle, count := 0, half := none }
  | _, _ => none

/-- A command of TMR_CMD on timer `t` (R358, R361): a match of the timer at this edge and its actions come first (R375). -/
def tmrCmd (t : TimerId) (cmd : Nat) (s : State) : State :=
  if cmd = 0 ∨ 4 < cmd then s
  else if !timerOwned s t then tmrRefuse s
  else
    let s := matchGroup t s
    match tmrCmdOn (cycle s) s.tmr.slowMode cmd s.tmr.tmr[t] with
    | some k => onTimer t (fun _ => k) s
    | none => tmrRefuse s

/-- A write to TMR_CMD (R376). -/
def tmrCmdWrite (w : Word) (s : State) : State :=
  if bits w 24 8 = 0xA5 then
    match toFin 32 (bits w 8 5) with
    | some t => tmrCmd t (bits w 0 4) s
    | none => s
  else s

/-- A write to TMR_GSTART (R363): a timer that a linked START has started at this very edge still stands ARMED (R375). -/
def gstart (mask : Word) (s : State) : State :=
  let l := (allFin 32).filter fun t => mask.getLsbD t.val
  if l.all fun t => timerOwned s t && standing (cycle s) s.tmr.tmr[t] == .armed then
    forEach l (fun t => onTimer t fun k => { k with st := .running, grpAt := some (cycle s) }) s
  else tmrRefuse s

/-- The timer runs, and not only from a START of the present edge, behind which a TMR_CFG write still takes effect (R362,
R375). -/
def runsSince (now : Nat) (k : Timer) : Bool := standing now k == .running

/-- A write to TMR_CFG of the timer that interface `i` selects (R362, R376). -/
def tmrCfg (i : Iface) (w : Word) (s : State) : State :=
  let t := selTimer i s
  if !timerOwned s t || runsSince (cycle s) s.tmr.tmr[t] then tmrRefuse s
  else onTimer t (fun k => { k with
    gated := bitw w 31, glvl := bitw w 30, capen := bitw w 29, cappol := bitw w 28, outinit := bitw w 26
    sact := BitVec.ofNat 2 (bits w 14 2), lact := BitVec.ofNat 2 (bits w 12 2), link := BitVec.ofNat 5 (bits w 0 5) }) s

/-! ## Counting (R364, R365, R368) -/

/-- The counter advances at core edges: not gated, or the gate stands at GLVL. -/
def advances (k : Timer) : Bool := k.st == .running && (!k.gated || k.gateIn == k.glvl)

/-- The core edge of core cycle `now`. -/
def countEdge (now : Nat) (k : Timer) : Timer :=
  if advances k then
    let n := k.count + 1
    { k with count := n, matched := n == matchAt k, stepAt := some now }
  else k

/-- A write to TMR_MATCHt (R365): a value at or below the present count forces the match now; one above it, where the
counter has just stepped to it, matches normally at this edge. A timer that does not run, or not before the next core edge,
takes the value; so does one whose counter stepped to the old MATCH at this edge (R375). -/
def matchWrite (t : TimerId) (w : Word) (s : State) : State :=
  let k := s.tmr.tmr[t]
  if !runsSince (cycle s) k then onTimer t (fun k => { k with mtch := w }) s
  else
    let steps := k.stepAt == some (cycle s)
    let present : Int := if steps then (k.count : Int) - 1 else k.count
    let late := decide ((w.toNat : Int) ≤ present)
    let now := steps && decide (0 < k.count) && decide ((w.toNat : Int) = present + 1)
    let s := onTimer t (fun k => { k with mtch := w, late := k.late || late, matched := late || now }) s
    if late || now then matchGroup t s else s

/-! ## Capture (R369, R370) -/

/-- A FIFO entry of a capture pair: WIDTH and the first-edge count. -/
def pairEntry (width first : Nat) : BitVec 64 := BitVec.ofNat 64 (fld 32 32 width + fld 0 32 first)

/-- The entry that the full FIFO `f` discards first in this core cycle was the pair of timer `t` (R370, R432); `old` is the state before
it. Log entry 8, DESIGN CHOICE. -/
def pairLost (t : TimerId) (f : FifoId) (old s : State) : State :=
  if old.fifo[f].lost.all (fun d => d.at_ != cycle old) then
    onFifo f (fun x => { x with lost := x.lost.map fun d => { d with pair := some (t, old.tmr.tmr[t].capOvr) } }) s
  else s

/-- The second edge of a pair, at count `n`. Log entry 36, DEDUCED. -/
def pairDone (t : TimerId) (first n : Nat) (rising : Bool) (s : State) : State :=
  let width := twos 32 ((n : Int) - first)
  let s := onTimer t (fun k => { k with
    half := none, endHalf := none, width := width, capr := if rising then n else k.capr, capf := if rising then k.capf else n }) s
  let s := { s with tmr := { s.tmr with capRdy := true } }
  match fifoOf s 6 t.val with
  | some f =>
    let p := fifoPush f (fun _ => pairEntry width first) s
    if p.2 then p.1 else tmrErr (onTimer t (fun k => { k with capOvr := true }) (pairLost t f s p.1))
  | none => onTimer t (fun k => { k with pairRdy := true }) s

/-- The first half of a pair that a run has left in this very core cycle (R375). -/
def lastHalf (now : Nat) (k : Timer) : Option Nat := if k.endAt = some now then k.endHalf else none

/-- The timer captures: it runs, and not only from a START of this very edge, or its run has ended at this very edge with a pair half
recorded (R361, R369, R375). Log entry 8, DESIGN CHOICE. -/
def captures (now : Nat) (k : Timer) : Bool := runsSince now k || (lastHalf now k).isSome

/-- An edge of the capture input of a timer. Log entry 36, DEDUCED. -/
def captureEdge (t : TimerId) (rising : Bool) (s : State) : State :=
  let k := s.tmr.tmr[t]
  if !(captures (cycle s) k && k.capen && !s.tmr.slowMode) then s
  else if k.pairRdy && (fifoOf s 6 t.val).isNone then
    if k.capOvr then s else tmrErr (onTimer t (fun k => { k with capOvr := true }) s)
  else match lastHalf (cycle s) k, k.half with
    | some first, _ => if rising = k.cappol then pairDone t first k.endCount rising s else s
    | none, some first => if rising = k.cappol then pairDone t first k.count rising s else s
    | none, none =>
      if rising != k.cappol then
        onTimer t (fun k => { k with half := some k.count, capr := if rising then k.count else k.capr
                                     capf := if rising then k.capf else k.count }) s
      else s

/-! ## Slow-clock running (R372, R373) -/

/-- The core clock does not reach the timers: STANDBY, a wake or a recovery until READY, a debug halt (R372). -/
def coreStopped (s : State) : Bool := s.pwr.dev == .standby || s.pwr.wake != .none || s.tap.halted

/-- One slow-clock edge of a timer: the match is taken when the counter would reach or pass MATCH. -/
def slowEdge (step : Nat) (k : Timer) : Timer :=
  if k.st == .running && !k.gated then
    if matchAt k ≤ k.count + step then { k with matched := true }
    else { k with count := k.count + step }
  else k

/-- A slow-clock edge: 12,207 ticks, 12,208 at every 32nd. Log entry 36, DEDUCED. -/
def slowTick (s : State) : State :=
  if coreStopped s then
    let n := (s.tmr.slowCnt + 1) % 32
    let step := if n = 0 then 12208 else 12207
    let b := s.tmr
    let s := { s with tmr := { b with slowMode := true, slowCnt := n, tmr := mapTab (fun _ => slowEdge step) b.tmr } }
    let l := matching s
    if l.isEmpty then s
    else
      matchThese l { s with tmr := { s.tmr with
        slowWas := some { at_ := s.now, tmr := s.tmr.tmr, done := b.done, terr := b.terr, doneMask := b.doneMask } } }
  else s

/-- Back to core ticks (R372). -/
def slowLeave (s : State) : State := { s with tmr := { s.tmr with slowMode := false } }

/-- The matches of a slow-clock edge at which the slow clock is lost are no matches (R375).
Log entry 8, DESIGN CHOICE. -/
def slowUndo (s : State) : State :=
  match s.tmr.slowWas with
  | some e =>
    if e.at_ = s.now then
      { s with tmr := { s.tmr with tmr := e.tmr, done := e.done, terr := e.terr, doneMask := e.doneMask, slowWas := none } }
    else s
  | none => s

/-- The slow clock is lost in slow-clock mode: every running timer ends without a match (R373). -/
def slowLost (s : State) : State :=
  if s.tmr.slowMode then
    let s := slowUndo s
    let lost := fun (_ : Nat) (k : Timer) =>
      if k.st == .running then { k with st := .done, slow := true, stopped := false, half := none, matched := false } else k
    { s with tmr := { s.tmr with slowErr := true, tmr := mapTab lost s.tmr.tmr } }
  else s

/-- A timer under a reset of page 0x06: IDLE, its output low (R374). Log entry 28, DEDUCED. Log entry 36, DEDUCED. -/
def tmrReset (s : State) : State :=
  pinInputs <| { s with
    tmr := { ({} : TmrBank) with tmr := mapTab (fun _ k => { gateIn := k.gateIn, capIn := k.capIn }) s.tmr.tmr }
    hif := { s.hif with selS := 0, selI := 0, selT := 0 } }

end Sys2Proof.Machine
end

