-- ==== Sys2Proof/Machine/Nelink.lean ====
section
/-! DEFINITION. Nelink (R401 to R414): frames, roles, peers, the time base, and the sync pulse of the banks (R99, R285). -/

namespace Sys2Proof.Machine

/-! ## Frames (R403 to R405) -/

/-- The bits of a frame from the start of frame to the end of the CRC. -/
def nlBits (f : NlFrame) : List Bool :=
  let body := msbBits f.id.toNat 5 0 ++ msbBits f.ty.toNat 3 0 ++ msbBits f.pl.toNat 31 0
  false :: body ++ msbBits (crc8 body) 7 0

/-- Stuff bits of a run that stands at `n` equal bits of level `lv`: one after five (R402). -/
def stuffCount : List Bool → Bool → Nat → Nat
  | [], _, n => if n = 5 then 1 else 0
  | b :: bs, lv, n =>
    if n = 5 then 1 + if b = !lv then stuffCount bs b 2 else stuffCount bs b 1
    else if b = lv then stuffCount bs lv (n + 1) else stuffCount bs b 1

/-- A frame's length on the line in DPWM ticks: 80 a bit (R402, R403). -/
def nlTicks (f : NlFrame) : Nat := 80 * (54 + stuffCount (nlBits f) true 0)

/-- A frame handed to NLD; a device with a duplicate CHAINID sends none (R410). Log entry 38, DEDUCED. -/
def nlSend (ty : BitVec 4) (pl : Word) (s : State) : State :=
  if s.nl.mute || (nelinkCfg s).isNone then s
  else
    let f : NlFrame := ⟨BitVec.ofNat 6 (chainId s), ty, pl⟩
    { s with nl := { s.nl with txq := (s.nl.txq ++ [f]).drop (s.nl.txq.length - 3) } }

/-- NELINK.ROLE in force. -/
def nlRoleCfg (s : State) : Nat := match nelinkCfg s with | some n => n.role | none => 0

/-- Phases of the configured rails. -/
def cfgPhases (s : State) : Nat := ((configured s).map fun rc => rc.2.acc.nph).sum

/-- The HELLO payload (R404). -/
def helloWord (s : State) : Word :=
  mkWord [fld 16 16 0x6192, fld 11 5 (configured s).length, fld 9 2 (nlRoleCfg s), bitf 8 (s.nl.role == .master),
    fld 0 8 (cfgPhases s)]

/-- Send a HELLO; the next follows 16.0 ms later (R410). -/
def nlHello (s : State) : State := rearm (16000 * usTicks) (.nlHelloTimer true) (nlSend 4 (helloWord s) s)

/-! ## Roles (R406, R407) -/

/-- Drop the negotiation and supervision timers. -/
def nlDisarm (s : State) : State :=
  disarm (fun e => e == .nlListenEnd true || e == .nlHelloTimer true || e == .mlost) s

/-- Take a role; a change sets ROLECHG, and the role is announced by a HELLO (R406, R410). -/
def nlSetRole (r : NlRole) (mid : BitVec 6) (s : State) : State :=
  let n := s.nl
  { s with nl := { n with role := r, masterId := mid, roleChg := n.roleChg || n.role != r, listening := false, claiming := false } }

/-- A master that stops being one tells the peers: its HELLO payload has changed (R404, R410).
Log entry 38, DEDUCED. -/
def nlStepDown (s : State) : State := if s.nl.role = .master then nlSend 4 (helloWord (nlSetRole .listening 0 s)) s else s

/-- Start to listen (R406): 1.0 ms, and 200 µs more for ROLE 1. -/
def nlListen (s : State) : State :=
  if (nelinkCfg s).isNone then s
  else if s.nl.mute then nlSetRole .free 0 (nlDisarm s)
  else
    let t := if nlRoleCfg s = 1 then 1200 else 1000
    let s := nlSetRole .listening 0 (nlDisarm (nlStepDown s))
    arm (t * usTicks) (.nlListenEnd true) { s with nl := { s.nl with listening := true, tb := none } }

/-- The supervision of the master: 16 µs without a pulse, 1.0 ms without a TIMEBASE (R407). -/
def nlWatch (s : State) : State :=
  rearm (min (s.nl.syncAt + 16 * usTicks) (s.nl.tbAt + 1000 * usTicks) - s.now) .mlost s

/-- Follow a sender (R406). -/
def nlFollow (id : BitVec 6) (s : State) : State :=
  if s.nl.role == .follower && s.nl.masterId == id then s
  else
    let s := nlSetRole .follower id (nlDisarm s)
    nlHello (nlWatch { s with nl := { s.nl with syncAt := s.now, tbAt := s.now, noClaim := false, tb := none } })

/-- A frame of this controller has ended; without a dominant ACK it counts in NOACK (R405). -/
def nlSent (acked : Bool) (s : State) : State :=
  if acked then s else { s with nl := { s.nl with noAck := satInc 255 s.nl.noAck } }

/-- The CLAIM payload (R404). -/
def claimPayload (s : State) : Word := mkWord [fld 16 16 0x6192, fld 14 2 (nlRoleCfg s)]

/-- Send the CLAIM, whose frame ends its length later (R403, R406). Log entry 38, DEDUCED. -/
def nlClaimSend (wait : Nat) (s : State) : State :=
  let f : NlFrame := ⟨BitVec.ofNat 6 (chainId s), 1, claimPayload s⟩
  arm (wait + nlTicks f) (.nlListenEnd true)
    (nlSend 1 (claimPayload s) { s with nl := { s.nl with listening := false, claiming := true } })

/-- The listen period ends: claim, or run free; at the end of its own CLAIM frame the controller is master (R405, R406).
Log entry 38, DEDUCED. -/
def nlListenDone (acked : Bool) (s : State) : State :=
  if s.nl.claiming then nlHello (nlSetRole .master (BitVec.ofNat 6 (chainId s)) (nlSent acked s))
  else if !s.nl.listening then s
  else if nlRoleCfg s = 0 || s.nl.noClaim then
    let s := nlSetRole .free 0 s
    nlHello { s with nl := { s.nl with noClaim := false } }
  else nlClaimSend 0 s

/-- The 16.0 ms of a HELLO elapse (R410). -/
def nlHelloDue (acked : Bool) (s : State) : State :=
  let s := nlHello s
  if s.nl.mute then s else nlSent acked s

/-- The master is lost (R407). Log entry 38, DEDUCED. -/
def nlLost (s : State) : State :=
  if s.nl.role == .follower then nlListen { s with nl := { s.nl with mlost := true } } else s

/-- NL_CMD RENEGOTIATE (R407): a YIELD from a master, refused otherwise. -/
def nlRenegotiate (s : State) : State :=
  if (nelinkCfg s).isSome && s.nl.role == .master then
    let s := nlSend 2 0 s
    nlListen { s with nl := { s.nl with noClaim := true } }
  else { s with nl := { s.nl with cmdRej := true } }

/-- A write to NL_CMD (R414). -/
def nlCmdWrite (w : Word) (s : State) : State :=
  if bits w 24 8 = 0xA5 ∧ bits w 0 4 = 1 then nlRenegotiate s else s

/-! ## Received frames (R404 to R410) -/

/-- A lost arbitration of this controller's own frame counts (R405, R414). -/
def nlArb (lost : Bool) (s : State) : State :=
  if lost then { s with nl := { s.nl with lostArb := satInc 255 s.nl.lostArb } } else s

/-- A CLAIM that lost the arbitration, or stopped on an error, goes out again after the next idle, 11 bits, unless the frame that
won has ended the claim (R402, R405). Log entry 38, DEDUCED. -/
def nlRetry (lost : Bool) (s : State) : State :=
  if lost && s.nl.claiming then nlClaimSend (11 * 80) (disarm (· == .nlListenEnd true) s) else s

/-- Its own CHAINID from another controller: DUPID; it runs free and sends no more (R410). -/
def nlDup (s : State) : State :=
  nlSetRole .free 0 (nlDisarm { s with nl := { s.nl with dupId := true, mute := true, tb := none } })

/-- A frame is heard: a NELINK section is in force, the device serves READY, RUN or SAFE, and the control domain
answers. -/
def nlHears (s : State) : Bool := (nelinkCfg s).isSome && ctlUp s && groupUp s 3

/-- A CLAIM (R406, R410). Log entry 38, DEDUCED. -/
def nlClaim (id : BitVec 6) (pl : Word) (s : State) : State :=
  if bits pl 16 16 ≠ 0x6192 ∨ bits pl 0 14 ≠ 0 then s
  else if id.toNat = chainId s then nlDup s
  else if s.nl.mute then s
  else nlFollow id s

/-- A LEAVE or YIELD from the master starts a new negotiation (R407). -/
def nlMasterGone (id : BitVec 6) (s : State) : State :=
  if s.nl.role == .follower && s.nl.masterId == id then nlListen s else s

/-- A YIELD (R407). -/
def nlYield (id : BitVec 6) (pl : Word) (s : State) : State := if pl = 0 then nlMasterGone id s else s

/-- Pulses from the start of a frame that ends now to the last one (R408). Log entry 38, DEDUCED. -/
def pulsesSince (f : NlFrame) (s : State) : Nat :=
  let sof := s.now - nlTicks f
  (s.nl.syncAt - sof + 4095) / 4096

/-- A TIMEBASE (R406, R408): its sender is followed; the boundary pulse is the sixteenth after the one before it.
Log entry 38, DEDUCED. -/
def nlTimebase (id : BitVec 6) (pl : Word) (s : State) : State :=
  if bits pl 0 12 ≠ 0 ∨ id.toNat = chainId s ∨ s.nl.mute then s
  else
    let n := pulsesSince ⟨id, 3, pl⟩ s
    let s := nlFollow id s
    nlWatch { s with nl := { s.nl with tb := some (BitVec.ofNat 20 (bits pl 12 20), 16 - n), tbAt := s.now } }

/-- Insert a peer, in order of CHAINID. -/
def putPeer (id : BitVec 6) (pl : Word) : List (BitVec 6 × Word) → List (BitVec 6 × Word)
  | [] => [(id, pl)]
  | p :: ps => if id < p.1 then (id, pl) :: p :: ps else if id = p.1 then (id, pl) :: ps else p :: putPeer id pl ps

/-- A HELLO (R410). Log entry 38, DEDUCED. -/
def nlHelloIn (id : BitVec 6) (pl : Word) (s : State) : State :=
  if bits pl 16 16 ≠ 0x6192 then s
  else if id.toNat = chainId s then nlDup s
  else
    let new := !s.nl.peers.any fun p => p.1 == id
    rearm (50000 * usTicks) (.nlPeerTimeout id)
      { s with nl := { s.nl with peers := putPeer id pl s.nl.peers, peerChg := s.nl.peerChg || new } }

/-- A peer is removed (R410). -/
def nlDropPeer (id : BitVec 6) (s : State) : State :=
  if s.nl.peers.any fun p => p.1 == id then
    disarm (· == .nlPeerTimeout id)
      { s with nl := { s.nl with peers := s.nl.peers.filter (fun p => p.1 != id), peerChg := true } }
  else s

/-- A LEAVE (R407, R410). -/
def nlLeave (id : BitVec 6) (pl : Word) (s : State) : State :=
  if pl = 0 then nlMasterGone id (nlDropPeer id s) else s

/-- NLERR with cause CRC (R405). -/
def nlCrcErr (s : State) : State :=
  { s with nl := { s.nl with nlErr := true, errCause := 1, crcCnt := satInc 255 s.nl.crcCnt } }

/-- NLERR with cause bit (R405). -/
def nlBitErr (s : State) : State :=
  { s with nl := { s.nl with nlErr := true, errCause := 2, bitCnt := satInc 255 s.nl.bitCnt } }

/-- A frame with a CRC, stuff or bit error, an own frame without ACK, a frame of an undefined TYPE, which is acknowledged (R404,
R405). An own CLAIM that lost the arbitration to it, or stopped on the error, goes out again. Log entry 38, DEDUCED. -/
def nlBad (k : NlFault) (s : State) : State :=
  match k with
  | .crc lost => nlRetry lost (nlCrcErr (nlArb lost s))
  | .bit lost => nlRetry lost (nlBitErr (nlArb lost s))
  | .undefinedType lost => nlRetry lost (reply .ack (nlArb lost s))
  | .own => nlRetry true (nlBitErr s)
  | .noAck => nlSent false s

/-! ## Time base (R99, R408) -/

/-- The nearest correction of the low 12 bits of an epoch to `v`, in ticks. -/
def lowCorr (e : BitVec 32) (v : Nat) : Int := signed 12 (twos 12 ((v : Int) - (e.toNat % 4096 : Nat)))

/-- The epoch at the boundary pulse: bits 31:12 of the frame, the low bits kept. -/
def boundaryEpoch (hi : BitVec 20) (e : BitVec 32) : BitVec 32 := BitVec.ofNat 32 (hi.toNat * 4096 + e.toNat % 4096)

/-- The boundary pulse: every bank loads bits 31:12 when they differ (R408). -/
def boundaryLoad (hi : BitVec 20) (s : State) : State :=
  let s := { s with nl := { s.nl with tb := none } }
  if s.banks[(0 : Fin 24)].epoch.toNat / 4096 = hi.toNat then s
  else
    { s with nl := { s.nl with slipCnt := s.nl.slipCnt + 1 }
             banks := mapTab (fun _ k => { k with epoch := boundaryEpoch hi k.epoch }) s.banks }

/-- A bank passes its sync pulse: the low 12 bits of its epoch are zero (R99). -/
def pulseNow (k : Bank) : Bool := k.epoch.toNat % 4096 == 0

/-- A bank whose count has been set to one with low bits zero passes its sync pulse at that count (R99); `old` is the bank before. -/
def pulseSet (b : BankId) (old : Bank) (s : State) : State :=
  if pulseNow s.banks[b] && !pulseNow old then rearm 0 (.syncPulse b) s else s

/-- A pulse at SYNC_IN (R99, R408): a follower takes EPOCHOFS as the low bits of bank 0, with SYNCERR where they differ by more than
1 tick, and counts to the boundary; another controller only sees the pulse go by. Log entry 38, DEDUCED. -/
def nlSyncIn (s : State) : State :=
  match nelinkCfg s with
  | none => s
  | some n =>
    if s.nl.role != .follower then { s with nl := { s.nl with syncAt := s.now } }
    else
      let e := s.banks[(0 : Fin 24)].epoch
      let c := lowCorr e n.epochofs
      let s := pulseSet 0 s.banks[(0 : Fin 24)]
        (onBank 0 (fun k => { k with epoch := k.epoch + BitVec.ofInt 32 c, syncErr := k.syncErr || decide (1 < c.natAbs) }) s)
      let s := nlWatch { s with nl := { s.nl with lastCorr := BitVec.ofInt 16 c, syncAt := s.now } }
      match s.nl.tb with
      | none => s
      | some (hi, k) => if k ≤ 1 then boundaryLoad hi s else { s with nl := { s.nl with tb := some (hi, k - 1) } }

/-- What the pulse of the bank before it does to a bank (R33, R99). -/
def pulseIn (e : BitVec 32) (k : Bank) : Bank :=
  if k.syncLoad then { k with epoch := e, syncLoad := false }
  else
    let d := lowCorr k.epoch (e.toNat % 4096)
    if d < -1 ∨ 1 < d then { k with syncErr := true, syncLoad := true } else k

/-- The master's TIMEBASE at the pulses whose epoch bits 17:12 are 0x30 (R408). Log entry 38, DEDUCED. -/
def nlMasterPulse (b : BankId) (s : State) : State :=
  let e := s.banks[b].epoch.toNat
  if b.val = 23 ∧ s.nl.role = .master ∧ e / 4096 % 64 = 0x30 ∧ !s.pwr.ctlHeld then
    nlSend 3 (BitVec.ofNat 32 ((e / 4096 + 16) * 4096)) s
  else s

/-- A channel for which its bank's sync pulse is a loading point takes a waiting band value (R285). -/
def pulseBand (s : State) (b : Nat) (i : Nat) (k : Chan) : Chan :=
  if bankOf i = b ∧ loadsAtPulse k then bandLoad s k else k

/-- The channels of a rail whose gain changes with the pulse of bank `b`. -/
def pulseGains (s : State) (b : Nat) (c : RailCfg) : List Nat :=
  c.acc.phase.filter fun i => match toFin 192 i with
    | some ch => bankOf i == b && s.chans[ch].bandDue && loadsAtPulse s.chans[ch]
    | none => false

/-- The sync pulse of a bank (R99, R153, R285). -/
def syncPulse (b : BankId) (s : State) : State :=
  let s := disarm (· == .syncPulse b) s
  if !islandUp s || !pulseNow s.banks[b] then s
  else
    let t := { s with chans := mapTab (pulseBand s b.val) s.chans }
    let t := forEach (configured s) (fun rc => thrRenew rc.1 rc.2 (pulseGains s b.val rc.2)) t
    let t := match toFin 24 (b.val + 1) with
      | some n => pulseSet n s.banks[n] (onBank n (pulseIn s.banks[b].epoch) t)
      | none => t
    nlMasterPulse b t

/-- The level of SYNC_OUT (R99, R401): bank 23 drives it high for 8 ticks from its pulse while a NELINK section is in force,
else it is low. -/
def syncOut (s : State) : Bool :=
  scanOut s 194 <| islandUp s && (nelinkCfg s).isSome
    && decide (s.banks[(23 : Fin 24)].epoch.toNat % 4096 < 8)

end Sys2Proof.Machine
end

