-- ==== Sys2Proof/Machine/ExecPhase.lean ====
section
/-! DEFINITION. Meanings: carriers, edges, engine and current samples, trips of phases and banks (R41, R95 to R115, R126 to
R165, R420). -/

namespace Sys2Proof.Machine

/-- Act on a configured rail while the island runs. Log entry 11, DESIGN CHOICE. -/
def onIsland (r : RailId) (f : RailCfg → State → State) (s : State) : State :=
  if islandUp s then
    match railCfg s r with
    | some c => f c s
    | none => s
  else s

/-- A step instant of a rail's contributions: its grid runs in every device state (R242, R290). -/
def onGrid (e : Instr) (r : RailId) (f : RailCfg → State → State) (s : State) : State :=
  onFire e (fun s => match railCfg s r with | some c => f c s | none => s) s

/-- Act on a configured rail when an event of it is armed. -/
def onDue (e : Instr) (r : RailId) (f : RailCfg → State → State) (s : State) : State := onFire e (onIsland r f) s

/-- The counter latch of a large rail (R110, R113): CAUSE counter, WHERE the position of the last trip. -/
def tripLatch (r : RailId) (ch : ChanId) (c : RailCfg) (s : State) : State :=
  let x := s.rails[r]
  match chanPos c ch.val with
  | some q => if latchOpen s x && !x.trip.latched then latchTrip r c 2 q s else s
  | none => s

/-- A master carrier start of a rail when it is due. -/
def masterDue (r : RailId) (c : RailCfg) (s : State) : State := if mcsDue s r c then masterStart r c s else s

/-- A rotation step is due with this master carrier start: the starts of the old slots from here on are not taken (R165). -/
def rotates (s : State) (r : RailId) (x : Rail) : Bool :=
  isArmed (.rotationStep r) s && x.seq.mcs == s.now && x.sh.rotate && x.eng.mode != .cori && decide (1 < x.sh.nact)

/-- A carrier start of a channel when it is due (R97, R103, R110, R134, R165): a band that loads renews the threshold (R153). A
channel at safe level ignores its carrier (R114). -/
def carrierZero (ch : ChanId) (s : State) : State :=
  if !islandUp s then s
  else match owner s ch with
    | none => s
    | some (r, c, q, odd) =>
      let x := s.rails[r]
      if !startDue s s.chans[ch] || rotates s r x then s
      else
        let m := x.eng.mode
        let due := s.chans[ch].bandDue
        let no := x.seq.mcsNo
        let sounds := x.snd.run && !odd && (active c x).contains q
        let t := onChan ch (fun k =>
          if m = .cori then wrapStart s no k
          else periodStart s c m no (if sounds then sndShadow c x s.now q no k else k)) s
        let t := if due then thrRenew r c [ch.val] t else t
        if m = .cori then t else startTrip r c ch odd t

/-- A compare match of a channel: the on edge or the off edge that is due (R93, R95). -/
def edgeAct (ch : ChanId) (on : Bool) (s : State) : State :=
  if !islandUp s then s
  else match owner s ch with
    | none => s
    | some (r, c, _, _) => onChan ch (edge s c s.rails[r].eng.mode on) s

/-- An EADC sample is due (R120): at master carrier start + SOFFSET + m × SPACING for m from 0 to M, once.
Log entry 1, DESIGN CHOICE. -/
def sampleDue (s : State) (r : RailId) (c : RailCfg) : Bool :=
  let x := s.rails[r]
  let d := s.now - x.seq.mcs
  let m := if c.eng.spacing ≤ c.md.period then c.md.period / max c.eng.spacing 1 - 1 else 0
  x.seq.started && x.eng.lastAt != some s.now && !mcsDue s r c && decide (c.eng.soffset ≤ d)
    && (d - c.eng.soffset) % max c.eng.spacing 1 == 0 && decide ((d - c.eng.soffset) / max c.eng.spacing 1 ≤ m)

/-- An EADC sample of a rail when it is due. -/
def eadcDue (vpin : Int) (r : RailId) (c : RailCfg) (s : State) : State :=
  if sampleDue s r c then eadcSample r c vpin (onRail r (fun x => { x with eng := { x.eng with lastAt := some s.now } }) s)
  else s

/-- TRIMSAT and its position (R162). -/
def trimSatSet (r : RailId) (q : Nat) (s : State) : State :=
  onRail r (fun x => { x with sh := { x.sh with trimSat := true, satPos := q } }) s

/-- A phase current-limit comparator changes; its assertion is a trip edge (R108, R109). -/
def phaseLimit (ch : ChanId) (up : Bool) (s : State) : State :=
  let was := s.chans[ch].rawTrip
  let t := onChan ch (fun k => { k with rawTrip := up }) s
  if up && !was then phaseTrip ch t else t

/-- A disturbance period ends, 2 µs after its last event (R157). -/
def brefClose (b : BankId) (s : State) : State := onBank b (fun k => { k with brefMark := false }) s

/-! ## Carriers -/

/-- MASTER_CARRIER_START (R41). The master carrier count of a rail returns to zero. -/
def execMasterCarrierStart (r : RailId) (s : State) : Out :=
  act (onIsland r (masterDue r)) s

/-- TRIP_COUNT_REACHED (R110). The count has reached TRIPN. -/
def execTripCountReached (r : RailId) (ch : ChanId) (s : State) : Out :=
  act (onDue (.tripCountReached r ch) r (tripLatch r ch)) s

/-- ROTATION_STEP (R165). 64 master carrier periods have passed. -/
def execRotationStep (r : RailId) (s : State) : Out :=
  act (onDue (.rotationStep r) r (rotateStep r)) s

/-- TELEMETRY_PUSH (R420). Every 1,024th master carrier start. -/
def execTelemetryPush (r : RailId) (s : State) : Out :=
  act (onDue (.telemetryPush r) r (fun _ => telPush r)) s

/-- CARRIER_START (R97). The carrier count of a channel returns to zero. -/
def execCarrierStart (ch : ChanId) (s : State) : Out :=
  act (carrierZero ch) s

/-- COMPARE_MATCH (R95). The carrier count reaches a compare word. -/
def execCompareMatch (ch : ChanId) (on : Bool) (s : State) : Out :=
  act (edgeAct ch on) s

/-- SYNC_PULSE (R99). The low 12 bits of the bank's epoch are zero. -/
def execSyncPulse (b : BankId) (s : State) : Out :=
  act (syncPulse b) s

/-! ## Samples -/

/-- EADC_SAMPLE (R126). A sample at a sense-pin voltage of `vpin` µV runs the engine. Log entry 7, DESIGN CHOICE. -/
def execEadcSample (r : RailId) (vpin : Int) (s : State) : Out :=
  act (onIsland r (eadcDue vpin r)) s

/-- ISLICE_SAMPLE (R150). The ISLICE takes a current signal of `v` µV. Log entry 7, DESIGN CHOICE. -/
def execIsliceSample (ch : ChanId) (v : Int) (s : State) : Out :=
  act (isliceTake ch v) s

/-- ISLICE_RESULT (R151). The conversion completes. -/
def execIsliceResult (ch : ChanId) (s : State) : Out :=
  act (fun s => if islandUp s then isliceDone ch s else s) s

/-- TRIMSAT (R162). 4,096 applied rounds at the limit. -/
def execTrimsat (r : RailId) (q : Fin 32) (s : State) : Out :=
  act (onDue (.trimsat r q) r (fun _ => trimSatSet r q.val)) s

/-! ## Trips -/

/-- PHASE_CURRENT_LIMIT_TRIP (R109). The comparator asserts or deasserts. -/
def execPhaseCurrentLimitTrip (ch : ChanId) (up : Bool) (s : State) : Out :=
  act (phaseLimit ch up) s

/-- BTSF_TRIP (R111). The BTSFb comparator asserts or deasserts. -/
def execBtsfTrip (b : BankId) (up : Bool) (s : State) : Out :=
  act (btsfChange b up) s

/-- BREF_WINDOW_TRIP (R157). The window comparator trips or returns. -/
def execBrefWindowTrip (b : BankId) (up : Bool) (s : State) : Out :=
  act (brefWindow b up) s

/-- BREF_DISTURBANCE_END (R157). 2 µs after the last event. -/
def execBrefDisturbanceEnd (b : BankId) (s : State) : Out :=
  act (onFire (.brefDisturbanceEnd b) (brefClose b)) s

end Sys2Proof.Machine
end

