-- ==== Sys2Proof/Machine/Aes.lean ====
section
/-! DEFINITION. AES-128 and the AES-128 CMAC of NIST SP 800-38B that R76 names. Bytes are natural numbers below 256. -/

namespace Sys2Proof.Machine

/-- Doubling in GF(2^8) with x^8 + x^4 + x^3 + x + 1. -/
def gfDouble (a : Nat) : Nat := if a < 128 then a * 2 else (a * 2) ^^^ 0x11B

/-- Product in GF(2^8), over the low `n` bits of `b`. -/
def gfMulN : Nat → Nat → Nat → Nat
  | 0, _, _ => 0
  | n + 1, a, b => (if b % 2 = 1 then a else 0) ^^^ gfMulN n (gfDouble a) (b / 2)

/-- Product in GF(2^8). -/
def gfMul (a b : Nat) : Nat := gfMulN 8 a b

/-- The inverse in GF(2^8), a^254; 0 stays 0. -/
def gfInv (a : Nat) : Nat :=
  let a2 := gfMul a a
  let a4 := gfMul a2 a2
  let a8 := gfMul a4 a4
  let a16 := gfMul a8 a8
  let a32 := gfMul a16 a16
  let a64 := gfMul a32 a32
  let a128 := gfMul a64 a64
  gfMul a2 (gfMul a4 (gfMul a8 (gfMul a16 (gfMul a32 (gfMul a64 a128)))))

/-- A byte rotated left. -/
def rotByte (a k : Nat) : Nat := (a * 2 ^ k) % 256 + a / 2 ^ (8 - k)

/-- The S-box. -/
def sbox (a : Nat) : Nat :=
  let i := gfInv a
  i ^^^ rotByte i 1 ^^^ rotByte i 2 ^^^ rotByte i 3 ^^^ rotByte i 4 ^^^ 0x63

/-- Byte-wise exclusive or. -/
def xorBytes (a b : List Nat) : List Nat := List.zipWith (· ^^^ ·) a b

/-- The next round key from the last one and its round constant. -/
def nextKey (rc : Nat) (k : List Nat) : List Nat :=
  let w (i : Nat) : List Nat := (k.drop (4 * i)).take 4
  let l := w 3
  let t := [sbox (l.getD 1 0) ^^^ rc, sbox (l.getD 2 0), sbox (l.getD 3 0), sbox (l.getD 0 0)]
  let a := xorBytes (w 0) t
  let b := xorBytes (w 1) a
  let c := xorBytes (w 2) b
  a ++ b ++ c ++ xorBytes (w 3) c

/-- SubBytes and ShiftRows on a column-major block. -/
def subShift (b : List Nat) : List Nat := (List.range 16).map fun i => sbox (b.getD ((5 * i) % 16) 0)

/-- MixColumns of one column. -/
def mixCol (a b c d : Nat) : List Nat :=
  [gfMul 2 a ^^^ gfMul 3 b ^^^ c ^^^ d, a ^^^ gfMul 2 b ^^^ gfMul 3 c ^^^ d,
    a ^^^ b ^^^ gfMul 2 c ^^^ gfMul 3 d, gfMul 3 a ^^^ b ^^^ c ^^^ gfMul 2 d]

/-- MixColumns. -/
def mixCols (b : List Nat) : List Nat :=
  (List.range 4).flatMap fun i =>
    mixCol (b.getD (4 * i) 0) (b.getD (4 * i + 1) 0) (b.getD (4 * i + 2) 0) (b.getD (4 * i + 3) 0)

/-- The rounds left; the last one has no MixColumns. -/
def aesRounds : List Nat → List Nat → List Nat → List Nat
  | [], _, b => b
  | [rc], k, b => xorBytes (subShift b) (nextKey rc k)
  | rc :: rcs, k, b =>
    let k := nextKey rc k
    aesRounds rcs k (xorBytes (mixCols (subShift b)) k)

/-- AES-128 of one 16-byte block. -/
def aes (key b : List Nat) : List Nat :=
  aesRounds [0x01, 0x02, 0x04, 0x08, 0x10, 0x20, 0x40, 0x80, 0x1B, 0x36] key (xorBytes b key)

/-- Bytes, most significant first, as a number. -/
def beNat (bs : List Nat) : Nat := bs.foldl (fun n b => n * 256 + b) 0

/-- A number as 16 bytes, most significant first. -/
def beBytes (n : Nat) : List Nat := (List.range 16).map fun i => n / 2 ^ (8 * (15 - i)) % 256

/-- Doubling in GF(2^128), the sub-key step of CMAC. -/
def cmacDouble (b : List Nat) : List Nat :=
  let n := beNat b
  beBytes (if n < 2 ^ 127 then n * 2 else (n * 2) % 2 ^ 128 ^^^ 0x87)

/-- The chained blocks before the last, then the last with its sub-key; `fuel` bounds the blocks. -/
def cmacBlocks (key k1 k2 : List Nat) : Nat → List Nat → List Nat → List Nat
  | 0, x, _ => x
  | fuel + 1, x, m =>
    if (m.drop 16).isEmpty then
      let last := if m.length = 16 then xorBytes m k1
        else xorBytes (m ++ 0x80 :: List.replicate 15 0) k2
      aes key (xorBytes x last)
    else cmacBlocks key k1 k2 fuel (aes key (xorBytes x (m.take 16))) (m.drop 16)

/-- The CMAC of a message: the whole 16 bytes (R76). -/
def cmac (key m : List Nat) : List Nat :=
  let zero := List.replicate 16 0
  let k1 := cmacDouble (aes key zero)
  cmacBlocks key k1 (cmacDouble k1) (m.length / 16 + 1) zero m

end Sys2Proof.Machine
end

