-- ==== Sys2Proof/Machine/ImgRead.lean ====
section
/-! DEFINITION. Reading a topology image: its header, directory and sections (R52 to R74) as the structures of
Config.lean. Every reader is total; ImgCheck.lean says which images the loader accepts. -/

namespace Sys2Proof.Machine

/-! ## Bytes -/

/-- One byte. -/
def u8 (b : List Byte) (o : Nat) : Nat := (b.getD o 0).toNat

/-- A field of `n` bytes, little-endian (R15). -/
def uN (n : Nat) (b : List Byte) (o : Nat) : Nat := leNat ((b.drop o).take n)

/-- A 2-byte field. -/
def u16 (b : List Byte) (o : Nat) : Nat := uN 2 b o

/-- A 4-byte field. -/
def u32 (b : List Byte) (o : Nat) : Nat := uN 4 b o

/-- The little-endian fields of a table of `n` entries of `k` bytes each, from the front of `b`. -/
def fields (k : Nat) : Nat → List Byte → List Nat
  | 0, _ => []
  | n + 1, b => uN k b 0 :: fields k n (b.drop k)

/-- The fields of a table of `n` entries of `k` bytes each at `o`. -/
def tab (n k : Nat) (b : List Byte) (o : Nat) : List Nat := fields k n (b.drop o)

/-- The sub-records of `k` bytes each at `o`. -/
def recs {α : Type} (n k : Nat) (b : List Byte) (o : Nat) (f : List Byte → α) : List α :=
  (List.range n).map fun i => f ((b.drop (o + k * i)).take k)

/-- Every byte of a reserved field is zero (R52). -/
def zeros (b : List Byte) (o n : Nat) : Bool := ((b.drop o).take n).all (· == 0)

/-! ## Header and directory (R53, R54) -/

/-- A section: its directory entry and its LENGTH bytes. -/
structure Sec where
  ty : Nat
  inst : Nat
  group : Nat
  rsv : Nat
  off : Nat
  len : Nat
  crc : Nat
  data : List Byte
  deriving DecidableEq, Repr

/-- IMGLEN of a header. -/
def hdrLen (b : List Byte) : Nat := u32 b 0x0C

/-- FLAGS.AUTH of a header. -/
def hdrAuth (b : List Byte) : Bool := (u16 b 0x16).testBit 0

/-- FLAGS.PATCH of a header. -/
def hdrPatch (b : List Byte) : Bool := (u16 b 0x16).testBit 1

/-- Directory entry `i` and its section's bytes. -/
def readSec (b : List Byte) (i : Nat) : Sec :=
  let o := 0x40 + 16 * i
  ⟨u8 b o, u8 b (o + 1), u8 b (o + 2), u8 b (o + 3), u32 b (o + 4), u32 b (o + 8), u32 b (o + 12),
    (b.drop (u32 b (o + 4))).take (u32 b (o + 8))⟩

/-- The directory. -/
def readDir (b : List Byte) : List Sec := (List.range (u16 b 0x14)).map (readSec b)

/-- The section of a type and instance. -/
def secOf (l : List Sec) (ty inst : Nat) : Option Sec := l.find? fun s => s.ty == ty && s.inst == inst

/-- Its bytes; none of them when it is absent. -/
def secData (l : List Sec) (ty inst : Nat) : List Byte := ((secOf l ty inst).map (·.data)).getD []

/-- The per-rail section types of R55. -/
def railTypes : List Nat := [0x01, 0x03, 0x04, 0x05, 0x06, 0x07]

/-- A type is per rail. -/
def isRailType (t : Nat) : Bool := railTypes.contains t

/-- The global section types that an image requires. -/
def needGlobals : List Nat := [0x02, 0x08, 0x09, 0x0A, 0x0B, 0x0C]

/-! ## Per-rail sections (R59, R61 to R66) -/

/-- ACCORD (R61). -/
def readAccord (d : List Byte) : AccordCfg :=
  let n := u8 d 1
  { nph := n, nmin := u8 d 2, bypass := (u8 d 3).testBit 0, pair := (u8 d 3).testBit 1
    phase := (tab 32 1 d 4).take n, safe := (tab 32 1 d 0x24).take n
    irated := u16 d 0x44, peak := u16 d 0x46, spoint := u8 d 0x48 }

/-- ENGINE (R62). -/
def readEngine (d : List Byte) : EngineCfg :=
  let st := u8 d 1
  { integ := st.testBit 0, zeros := st / 2 % 4, poles := st / 8 % 4, llEn := st.testBit 5, fixed := st.testBit 6
    fixset := u8 d 2, divk := u16 d 4, lline := u16 d 6, spacing := u16 d 8, soffset := u16 d 0x0A
    vmax := u16 d 0x0C, vmin := u16 d 0x0E, vboot := u16 d 0x10, slew := u16 d 0x12 }

/-- One coefficient set (R63). -/
def readSet (d : List Byte) : CoefSet :=
  let c (i : Nat) : Int := signed 24 (uN 3 d (3 * i))
  ⟨c 0, c 1, c 2, c 3, c 4, c 5, c 6, u8 d 0x15⟩

/-- COEFF (R63). -/
def readCoeff (d : List Byte) : CoeffCfg :=
  let nl := u8 d 1
  let nc := u8 d 2
  { nl := nl, nc := nc, ledge := (tab 7 2 d 4).take (nl - 1), cedge := (tab 7 2 d 0x12).take (nc - 1)
    sets := recs (nl * nc) 24 d 0x20 readSet }

/-- MODULATION (R64). -/
def readMod (d : List Byte) : ModCfg :=
  { mode := match u8 d 1 with | 0 => .ffvm | 1 => .cori | _ => .hyb
    toCori := (u8 d 2).testBit 0, corin := u8 d 3, period := u16 d 4, dmax := u16 d 6, dmin := u16 d 8
    toncl := u16 d 0x0A, tonco := u16 d 0x0C, ripg := u8 d 0x0E, corout := u8 d 0x0F }

/-- A table of pairs of 2-byte fields. -/
def readPairs (n : Nat) (d : List Byte) (o : Nat) : List (Nat × Nat) := recs n 4 d o fun p => (u16 p 0, u16 p 2)

/-- CURVES (R65). -/
def readCurves (d : List Byte) : CurveCfg :=
  { rotate := u8 d 1 == 1, tripn := u8 d 2, fbLinear := u8 d 3 == 1, ilim := u16 d 4, tfloor := u16 d 6
    tperiod := u16 d 8, dwell := u16 d 0x0A, trimmax := u16 d 0x0C, ovth := u16 d 0x0E, uvth := u16 d 0x10
    ineg := u16 d 0x12, bdtime := u16 d 0x14, fold := readPairs 8 d 0x18, shed := readPairs 32 d 0x38 }

/-- ACTION of a state record (R59). -/
def readAction (n : Nat) : SmAction :=
  match n with
  | 1 => .rampUp | 2 => .regulate | 3 => .rampDown | 4 => .discharge | 5 => .measurePrebias | 6 => .assertPg
  | 7 => .deassertPg | 8 => .terminalOn | 9 => .terminalOff | _ => .holdOff

/-- A state record (R59). -/
def readState (d : List Byte) : SmState :=
  { action := readAction (u8 d 1), ramp := u8 d 2, duration := u32 d 4
    slots := [(u8 d 8, u8 d 9), (u8 d 10, u8 d 11), (u8 d 12, u8 d 13)] }

/-- A ramp entry (R66). -/
def readRamp (d : List Byte) : RampCfg := { delay := u32 d 0, slew := u16 d 4, fromPrebias := u8 d 6 == 1 }

/-- SEQUENCE (R66). -/
def readSeq (d : List Byte) : SeqCfg :=
  let ns := u8 d 1
  let nt := u8 d 2
  let nr := u8 d 3
  { pgrise := u16 d 4, pgfall := u16 d 6, pgdelay := u32 d 8, ramps := recs nr 8 d 0x10 readRamp
    start := recs ns 16 d (0x10 + 8 * nr) readState, stop := recs nt 16 d (0x10 + 8 * nr + 16 * ns) readState }

/-- The six sections of rail `n`; none for a rail without ACCORD. -/
def readRail (l : List Sec) (rev n : Nat) : Option RailCfg :=
  (secOf l 0x01 n).map fun a =>
    { acc := readAccord a.data, eng := readEngine (secData l 0x03 n), coef := readCoeff (secData l 0x04 n)
      md := readMod (secData l 0x05 n), cur := readCurves (secData l 0x06 n), seq := readSeq (secData l 0x07 n)
      rev := rev }

/-! ## Global sections (R67, R70 to R74) -/

/-- A PINCLAIM entry (R67). -/
def readClaim (d : List Byte) : PinClaim :=
  { rclass := u8 d 0, rindex := u16 d 2, claimant := u8 d 4, cinst := u8 d 5, observe := u8 d 6 == 1 }

/-- PINCLAIM (R67). -/
def readPins (d : List Byte) : List PinClaim := recs (u16 d 0) 8 d 4 readClaim

/-- PROTO (R70). -/
def readProto (n : Nat) : Proto := match n with | 1 => .vsel | 2 => .avs | 3 => .vcmd2 | 4 => .vcmd1 | _ => .unused

/-- A PORTS record (R70). -/
def readPort (d : List Byte) : PortCfg :=
  { proto := readProto (u8 d 0), nrail := u8 d 1, step := u8 d 2, budget := u16 d 4
    rails := tab 8 1 d 8, share := tab 8 1 d 0x10
    vsel := (List.range 8).map fun i => tab 8 2 d (0x18 + 16 * i) }

/-- PORTS (R70). -/
def readPorts (d : List Byte) : List PortCfg := recs 8 160 d 0 readPort

/-- A band record (R71). -/
def readBand (d : List Byte) : BandCfg :=
  { dll := (tab 64 1 d 0).map (signed 8), stRise := u16 d 64, stFall := u16 d 66, pairRise := u16 d 68
    pairFall := u16 d 70, gain := (tab 192 2 d 72).map (signed 16) }

/-- TBAND (R71). -/
def readTband (d : List Byte) : TbandCfg :=
  { edges := (tab 5 2 d 0).map (signed 16), hyst := u8 d 10, ror := tab 32 1 d 12
    bands := recs 6 464 d 48 readBand }

/-- A schedule entry (R72). -/
def readEntry (d : List Byte) : HadcEntry :=
  { chan := u8 d 0, user := u8 d 1, start := u16 d 2, stride := u16 d 4, avg := u8 d 6, lowz := (u8 d 7).testBit 0
    range := u8 d 7 / 2 % 4 }

/-- HADC (R72). -/
def readHadc (d : List Byte) : HadcCfg := { maceration := u16 d 0, entries := recs (u16 d 2) 8 d 8 readEntry }

/-- HOSTIF (R74). -/
def readHostif (d : List Byte) : HostifCfg :=
  { strapmode := u8 d 0, smbaddr := u8 d 1, pecreq := u8 d 2 == 1, i3csa := u8 d 3, hotjoin := (u8 d 4).testBit 0
    ibiEn := (u8 d 4).testBit 1, wdog := u16 d 6 }

/-- NELINK (R74). -/
def readNelink (d : List Byte) : NelinkCfg := { role := u8 d 0, chainid := u8 d 1, epochofs := u16 d 2 }

/-- A whole image: every rail at revision 0 (R83). -/
def readImage (b : List Byte) (l : List Sec) : ImageCfg :=
  { gen := u32 b 0x10, auth := hdrAuth b, epoch := u8 b 0x1A, keyidx := u8 b 0x18
    rails := (List.range 24).map (readRail l 0)
    pins := readPins (secData l 0x02 0xFF), ports := readPorts (secData l 0x08 0xFF)
    tband := readTband (secData l 0x09 0xFF), hadc := readHadc (secData l 0x0A 0xFF)
    irq := tab 448 1 (secData l 0x0B 0xFF) 0, hostif := readHostif (secData l 0x0C 0xFF)
    nelink := (secOf l 0x0D 0xFF).map fun s => readNelink s.data }

/-! ## TAGS (R75) -/

/-- A TAGS entry: GROUP, REV and TAG. -/
structure TagEnt where
  group : Nat
  rsv : Nat
  rev : Nat
  tag : List Byte
  deriving DecidableEq, Repr

/-- The entries of TAGS. -/
def readTags (d : List Byte) : List TagEnt :=
  recs (min (u8 d 0) ((d.length - 4) / 20)) 20 d 4 fun p => ⟨u8 p 0, u8 p 1, u16 p 2, p.drop 4⟩

/-- REV of a group; 0 without an entry. -/
def tagRev (d : List Byte) (g : Nat) : Nat := (((readTags d).find? (·.group == g)).map (·.rev)).getD 0

end Sys2Proof.Machine
end

