-- ==== Sys2Proof/Machine/ImgCheck.lean ====
section
/-! DEFINITION. The checks of the image loader in the order of R56: header, directory, section CRCs, authentication and
every field of every section, each with its code of R89. Log entry 40, DEDUCED, gives the order inside step 2 and what IMG_ERR
names where R56 and R88 leave it open. -/

namespace Sys2Proof.Machine

/-- A failure of the loader: CODE of R89, TYPE and INST of the failing section, both claims and the resource (R88). -/
structure LdErr where
  code : Nat
  ty : Nat := 0
  inst : Nat := 0
  claimA : Nat := 0
  claimB : Nat := 0
  res : Nat := 0
  deriving DecidableEq, Repr

/-- A failure unless `ok`. -/
def need (ok : Bool) (e : LdErr) : Option LdErr := if ok then none else some e

/-- The failure that comes first (R56). Log entry 40, DEDUCED. -/
def firstErr (l : List (Option LdErr)) : Option LdErr := l.findSome? id

/-! ## Codes (R89) -/

/-- FIELD_RANGE. -/
def cField : Nat := 0x0C
/-- TABLE_ORDER. -/
def cOrder : Nat := 0x0D
/-- SM_INVALID. -/
def cState : Nat := 0x0E

/-! ## Step 1: the header (R53) -/

/-- Largest IMGLEN of the kind of load (R52). -/
def lenLimit (patch : Bool) : Nat := if patch then 32768 else 393216

/-- The header of a load or of a patch; `trailer` is LEN of a committed slot's trailer. Log entry 40, DEDUCED. -/
def checkHeader (patch : Bool) (trailer : Option Nat) (b : List Byte) : Option LdErr :=
  let n := hdrLen b
  let f (ok : Bool) : Option LdErr := need ok ⟨cField, 0, 0, 0, 0, 0⟩
  firstErr
    [need (u32 b 0 == 0x49545658) ⟨0x01, 0, 0, 0, 0, 0⟩,
      need (u32 b 0x3C == crc32 (b.take 0x3C)) ⟨0x04, 0, 0, 0, 0, 0⟩,
      need (u16 b 4 == 0x0100 && u16 b 6 == 64) ⟨0x02, 0, 0, 0, 0, 0⟩,
      need (u32 b 8 == 0x6192) ⟨0x03, 0, 0, 0, 0, 0⟩,
      need (decide (n ≤ lenLimit patch) && n % 16 == 0 && trailer.all (· == n)) ⟨0x05, 0, 0, 0, 0, 0⟩,
      f (decide (1 ≤ u32 b 0x10) && decide (u32 b 0x10 ≤ 0xFFFFFFFE)),
      f (decide (1 ≤ u16 b 0x14) && decide (u16 b 0x14 ≤ 320)),
      f (decide (u16 b 0x16 < 4) && hdrPatch b == patch),
      f (decide (u8 b 0x18 ≤ 3)),
      f (decide (1 ≤ u8 b 0x19) && decide (u8 b 0x19 ≤ 25)),
      f (decide (u8 b 0x1A ≤ 64)),
      f (u8 b 0x1B == 0 && u32 b 0x1C == 0x40 && zeros b 0x28 20)]

/-! ## Step 2: the directory (R52, R54, R55) -/

/-- TYPE is defined, and allowed in this kind of load. -/
def typeOk (patch auth : Bool) (t : Nat) : Bool :=
  if patch then isRailType t || t == 0x0E
  else decide (1 ≤ t) && decide (t ≤ 0x0E) && (t != 0x0E || auth)

/-- INST, GROUP and the reserved byte of an entry (R54). -/
def entryOk (s : Sec) : Bool :=
  s.rsv == 0 && if isRailType s.ty then decide (s.inst < 24) && s.group == s.inst + 1
    else s.inst == 0xFF && s.group == if s.ty == 0x0E then 0xFF else 0

/-- The place of a section in the order of R55. -/
def dirKey (s : Sec) : Nat := if isRailType s.ty then s.inst * 16 + s.ty else 0x1000 + s.ty

/-- One entry after those before it, `fin` being the end of the section before it. -/
def checkEntry (patch auth : Bool) (len fin : Nat) (before : List Sec) (s : Sec) : Option LdErr :=
  let e (c : Nat) : LdErr := ⟨c, s.ty, s.inst, 0, 0, 0⟩
  firstErr
    [need (typeOk patch auth s.ty) (e 0x08),
      need (entryOk s) (e cField),
      need (!before.any fun p => p.ty == s.ty && p.inst == s.inst) (e 0x09),
      need (before.all fun p => decide (dirKey p < dirKey s)) (e 0x06),
      need (s.off % 16 == 0 && decide (fin ≤ s.off) && decide (s.off + s.len ≤ len)) (e 0x06)]

/-- The entries in directory order. Log entry 40, DEDUCED. -/
def checkEntries (patch auth : Bool) (len : Nat) : Nat → List Sec → List Sec → Option LdErr
  | _, _, [] => none
  | fin, before, s :: ss =>
    match checkEntry patch auth len fin before s with
    | some e => some e
    | none => checkEntries patch auth len (s.off + s.len) (before ++ [s]) ss

/-- The padding before each section and after the last is zero (R52); that between the directory and the first section is held
to the same. Log entry 50, DESIGN CHOICE. -/
def checkPad (b : List Byte) (len : Nat) : Nat → List Sec → Bool
  | fin, [] => zeros b fin (len - fin)
  | fin, s :: ss => zeros b fin (s.off - fin) && checkPad b len (s.off + s.len) ss

/-- The rails that per-rail sections name. -/
def dirRails (l : List Sec) : List Nat := ((l.filter fun s => isRailType s.ty).map (·.inst)).eraseDups

/-- A required section is absent (R55). -/
def checkMissing (patch : Option Nat) (auth : Bool) (l : List Sec) : Option LdErr :=
  let miss (t i : Nat) : Option LdErr := need (secOf l t i).isSome ⟨0x0A, t, i, 0, 0, 0⟩
  let rails := match patch with | some n => [n] | none => dirRails l
  firstErr (rails.flatMap (fun r => railTypes.map fun t => miss t r)
    ++ (if patch.isSome then [] else needGlobals.map fun t => miss t 0xFF)
    ++ if patch.isSome || auth then [miss 0x0E 0xFF] else [])

/-- Groups that have sections in the directory (R53). -/
def dirGroups (l : List Sec) : List Nat := ((l.map (·.group)).filter (· != 0xFF)).eraseDups

/-- Step 2: `patch` is the RAIL of PATCH_BEGIN. Log entry 40, DEDUCED. -/
def checkDir (patch : Option Nat) (b : List Byte) : Option LdErr :=
  let l := readDir b
  let n := hdrLen b
  let dirEnd := 0x40 + 16 * u16 b 0x14
  let fin := match l.getLast? with | some s => s.off + s.len | none => 0
  firstErr
    [need (n == (fin + 15) / 16 * 16) ⟨0x05, 0, 0, 0, 0, 0⟩,
      need (decide (dirEnd ≤ n)) ⟨0x06, 0, 0, 0, 0, 0⟩,
      checkEntries patch.isSome (hdrAuth b) n dirEnd [] l,
      need (checkPad b n dirEnd l) ⟨0x06, 0, 0, 0, 0, 0⟩,
      need (u8 b 0x19 == (dirGroups l).length) ⟨cField, 0, 0, 0, 0, 0⟩,
      match patch with
      | some r => (l.find? fun s => isRailType s.ty && s.inst != r).map fun s => ⟨0x83, s.ty, s.inst, 0, 0, 0⟩
      | none => none,
      checkMissing patch (hdrAuth b) l]

/-! ## Step 3: the section CRCs -/

/-- The section CRCs in directory order. -/
def checkCrcs (l : List Sec) : Option LdErr :=
  firstErr (l.map fun s => need (crc32 s.data == s.crc) ⟨0x07, s.ty, s.inst, 0, 0, 0⟩)

/-! ## Step 4: authentication (R75 to R77) -/

/-- The bytes of a list as natural numbers. -/
def natsOf (l : List Byte) : List Nat := l.map (·.toNat)

/-- The message of group `g` (R76): group 0 takes every directory entry but that of TAGS. -/
def tagMessage (b : List Byte) (l : List Sec) (rev g : Nat) : List Nat :=
  let secs := l.filter fun s => s.group == g
  let dir := l.zipIdx.flatMap fun p =>
    if (if g = 0 then p.1.ty != 0x0E else p.1.group == g) then (b.drop (0x40 + 16 * p.2)).take 16 else []
  natsOf ((b.drop 8).take 4 ++ (b.drop 0x10).take 4
      ++ [BitVec.ofNat 8 g, BitVec.ofNat 8 (u8 b 0x1A)] ++ natLe 2 rev ++ [BitVec.ofNat 8 secs.length, 0, 0, 0]
      ++ b.take 0x3C ++ dir)
    ++ secs.flatMap fun s => natsOf s.data

/-- The bytes of a CMAC key, most significant first (log entry 41, PRESUMED). -/
def keyBytes (k : BitVec 128) : List Nat := beBytes k.toNat

/-- The tag of an entry fails. Log entry 41, PRESUMED. -/
def tagFails (b : List Byte) (l : List Sec) (key : BitVec 128) (t : TagEnt) : Bool :=
  cmac (keyBytes key) (tagMessage b l t.rev t.group) != natsOf t.tag

/-- The groups concerned when TAGS does not pair one entry with each group, in ascending order of GROUP (R75). -/
def badGroups (groups ents : List Nat) : List Nat :=
  groups.filter (fun g => !ents.contains g) ++ ents.filter (fun g => !groups.contains g)
    ++ (ents.zip (ents.drop 1)).flatMap fun p => if p.2 ≤ p.1 then [min p.1 p.2] else []

/-- The least of a list. -/
def leastOf : List Nat → Option Nat
  | [] => none
  | a :: l => some (l.foldl min a)

/-- TAGS itself: COUNT, LENGTH, order and pairing (R75). TAG_MISMATCH and KEY_REVOKED carry TYPE 0; a COUNT or LENGTH that is wrong while
every group pairs names the least group of the directory. Log entry 60, DESIGN CHOICE. -/
def checkTags (b : List Byte) (l : List Sec) (d : List Byte) : Option LdErr :=
  let groups := dirGroups l
  let bad := badGroups groups ((readTags d).map (·.group))
  let e (g : Nat) : LdErr := ⟨0x21, 0, g, 0, 0, 0⟩
  match leastOf bad with
  | some g => some (e g)
  | none => need (u8 d 0 == u8 b 0x19 && d.length == 4 + 20 * u8 d 0) (e ((leastOf groups).getD 0))

/-- Step 4. `verify`: the tags have to verify (R78, R83); those of a patch with FLAGS.AUTH under a seal without AUTH need not.
KEY_REVOKED comes before the pairing of TAGS.
Log entry 50, DESIGN CHOICE. Log entry 60, DESIGN CHOICE. -/
def checkAuth (o : Otp) (verify : Bool) (b : List Byte) (l : List Sec) : Option LdErr :=
  let ki := u8 b 0x18
  let d := secData l 0x0E 0xFF
  let key := if o.revoked.getLsbD ki then none else o.keys.getD ki none
  let tags := if (secOf l 0x0E 0xFF).isNone then none
    else
      firstErr [need (!verify || key.isSome) ⟨0x22, 0, 0, 0, 0, 0⟩,
        checkTags b l d,
        match key with
        | some k => if verify then ((readTags d).find? (tagFails b l k)).map fun t => ⟨0x21, 0, t.group, 0, 0, 0⟩
          else none
        | none => none]
  firstErr
    [need (!o.authReq || hdrAuth b) ⟨0x20, 0, 0, 0, 0, 0⟩, tags, need (decide (o.fuses ≤ u8 b 0x1A)) ⟨0x23, 0, 0, 0, 0, 0⟩]

/-! ## Step 5: the sections -/

/-- A check of a field: whether it passes, and the code when it does not. -/
abbrev FieldCk := Bool × Nat

/-- A range check. -/
def rng (ok : Bool) : FieldCk := (ok, cField)

/-- `lo ≤ v ≤ hi`. -/
def within (lo hi v : Nat) : Bool := decide (lo ≤ v) && decide (v ≤ hi)

/-- ACCORD after NPH and NMIN (R61). -/
def ckAccord (d : List Byte) : List FieldCk :=
  let n := u8 d 1
  [rng (decide (u8 d 3 < 4))]
    ++ (tab 32 1 d 4).zipIdx.map (fun p => rng (if p.2 < n then decide (p.1 < 192) else p.1 == 0xFF))
    ++ (tab 32 1 d 0x24).zipIdx.map (fun p => rng (if p.2 < n then decide (p.1 < 3) else p.1 == 0))
    ++ [rng (within 8 0x3200 (u16 d 0x44)), rng (decide (0x8000 ≤ u16 d 0x46)), rng (zeros d 0x49 3)]

/-- ENGINE (R62). -/
def ckEngine (d : List Byte) : List FieldCk :=
  let st := u8 d 1
  let k := u16 d 4
  let vmax := u16 d 0x0C
  let vmin := u16 d 0x0E
  [rng (decide (st < 128) && st / 2 % 4 != 3 && st / 8 % 4 != 3), rng (u8 d 3 == 0), rng (within 0x28F6 0x8000 k),
    rng (decide (40 ≤ u16 d 8)), rng (decide (u16 d 0x0A < u16 d 8)),
    rng (decide (vmax * 5 * k ≤ 235929600) && decide (vmax ≤ 4400)),
    rng (decide (32768000 ≤ vmin * 5 * k) && decide (vmin ≤ vmax)), rng (within vmin vmax (u16 d 0x10)),
    rng (within 1 320 (u16 d 0x12)), rng (zeros d 0x14 12)]

/-- One edge list of COEFF: the first `used` strictly increase, the rest are 0xFFFF, else FIELD_RANGE (R63).
Log entry 50, DESIGN CHOICE. -/
def ckEdges (used : Nat) (l : List Nat) : List FieldCk :=
  l.zipIdx.map fun p =>
    if used ≤ p.2 then rng (p.1 == 0xFFFF) else (p.2 == 0 || decide (l.getD (p.2 - 1) 0 < p.1), cOrder)

/-- One coefficient set against the structure of the engine (R63, R127, R128, R137). -/
def ckSet (e : EngineCfg) (d : List Byte) : List FieldCk :=
  let c := readSet d
  [rng (decide (1 ≤ e.zeros) || c.c1 == 0), rng (decide (2 ≤ e.zeros) || c.c2 == 0),
    rng (decide (1 ≤ e.poles) || c.c3 == 0), rng (decide (2 ≤ e.poles) || c.c4 == 0),
    rng (decide (0 ≤ c.c6) && decide (c.c6 * e.vmax < 800 * 2 ^ 24)), rng (decide (c.shift ≤ 23)), rng (zeros d 0x16 2)]

/-- COEFF after its count fields (R63). -/
def ckCoeff (e : EngineCfg) (d : List Byte) : List FieldCk :=
  let nl := u8 d 1
  let nc := u8 d 2
  [rng (u8 d 3 == 0)]
    ++ ckEdges (nl - 1) (tab 7 2 d 4) ++ ckEdges (nc - 1) (tab 7 2 d 0x12)
    ++ (recs (nl * nc) 24 d 0x20 (ckSet e)).flatten

/-- MODULATION (R62, R64, R137). -/
def ckMod (a : AccordCfg) (e : EngineCfg) (d : List Byte) : List FieldCk :=
  let m := u8 d 1
  let fl := u8 d 2
  let per := u16 d 4
  let cori := m == 1 || fl == 1
  let tonco := u16 d 0x0C
  [rng (decide (m ≤ 2)), rng (decide (fl ≤ 1) && (fl == 0 || m == 0)), rng (within 1 a.nph (u8 d 3)),
    rng (within 200 5333 per && decide (e.soffset < per)), rng (decide (u16 d 8 < u16 d 6)),
    rng (m != 2 || within 8 (per - 1) (u16 d 0x0A)), rng (!cori || (within 8 1024 tonco && decide (tonco < per))),
    rng (!cori || decide (1 ≤ u8 d 0x0E)),
    rng (decide (u8 d 3 < u8 d 0x0F) && (fl == 0 || decide (u8 d 0x0F ≤ a.nph)))]

/-- The SHED table (R65, R171). -/
def shedOk (n : Nat) (l : List (Nat × Nat)) : Bool :=
  (l.getD 0 (0, 0)).2 == 0 && (l.getD (n - 1) (0, 0)).1 == 0xFFFF
    && (l.drop n).all (fun p => p == (0xFFFF, 0xFFFF))
    && (l.take n).all (fun p => p.1 == 0xFFFF || p.2 == 0xFFFF || decide (p.2 < p.1))
    && (((l.take n).drop 1).zip (l.take n)).all fun p => decide (p.1.2 < p.2.1)

/-- CURVES (R58, R65, R129, R160, R171, R227, R289). -/
def ckCurves (a : AccordCfg) (e : EngineCfg) (m : ModCfg) (d : List Byte) : List FieldCk :=
  let ilim := u16 d 4
  let fold := readPairs 8 d 0x18
  [rng (decide (u8 d 1 ≤ 1)), rng (decide (a.nph ≤ 8) || decide (1 ≤ u8 d 2)), rng (decide (u8 d 3 ≤ 1)),
    rng (decide (ilim ≤ a.nph * a.irated) && decide (e.divk * e.lline * ilim ≤ 64000 * 8 * 32768)),
    rng (decide (0x0800 ≤ u16 d 6)), rng (within 1 1000 (u16 d 8)), rng (decide (1 ≤ u16 d 0x0A)),
    rng (decide (u16 d 0x0C ≤ m.period * 8)), rng (within 0x828F 0xC000 (u16 d 0x0E)),
    rng (within 0x4000 0x7D71 (u16 d 0x10)), rng (within 8 a.irated (u16 d 0x12)), rng (decide (1 ≤ u16 d 0x14)),
    rng (zeros d 0x16 2), ((fold.zip (fold.drop 1)).all fun p => decide (p.1.1 < p.2.1), cOrder),
    (shedOk a.nph (readPairs 32 d 0x38), cOrder)]

/-- One transition slot of a table of `cnt` states (R60). -/
def ckSlot (cnt : Nat) (p : Nat × Nat) : FieldCk := (decide (p.1 ≤ 0x0A) && (p.1 == 0 || decide (p.2 < cnt)), cState)

/-- One state record of a table (R59, R60, R227). `term` is the table's terminal ACTION, `other` the other table's. -/
def ckState (nr cnt term other : Nat) (l : List (List Byte)) (i : Nat) (d : List Byte) : List FieldCk :=
  let act := u8 d 1
  let st := readState d
  let ramps := act == 1 || act == 3
  [rng (u8 d 0 == i), (decide (act ≤ 9), cState),
    (act != term || (l.take i).all (fun p => u8 p 1 != term), cState), rng (act != other),
    rng (if ramps then decide (u8 d 2 < nr) else u8 d 2 == 0xFF), rng (u8 d 3 == 0)]
    ++ st.slots.map (ckSlot cnt)
    ++ [(act == 8 || act == 9 || st.slots.any (fun p => p.1 != 0), cState), rng (zeros d 0x0E 2)]

/-- One state table: exactly one terminal state (R60). -/
def ckTable (nr term other : Nat) (l : List (List Byte)) : List FieldCk :=
  (l.zipIdx.flatMap fun p => ckState nr l.length term other l p.2 p.1) ++ [(l.any fun p => u8 p 1 == term, cState)]

/-- SEQUENCE (R59, R60, R66, R227). -/
def ckSeq (c : CurveCfg) (d : List Byte) : List FieldCk :=
  let ns := u8 d 1
  let nr := u8 d 3
  let pr := u16 d 4
  [rng (decide (pr ≤ 0x8000) && decide (0x8000 < c.ovth)), rng (decide (c.uvth < u16 d 6) && decide (u16 d 6 < pr)),
    rng (zeros d 0x0C 4)]
    ++ (recs nr 8 d 0x10 fun p =>
      [rng (within 1 320 (u16 p 4)), rng (decide (u8 p 6 ≤ 1)), rng (u8 p 7 == 0)]).flatten
    ++ ckTable nr 8 9 (recs ns 16 d (0x10 + 8 * nr) id)
    ++ ckTable nr 9 8 (recs (u8 d 2) 16 d (0x10 + 8 * nr + 16 * ns) id)

/-- The resource class that a claimant takes (R67); 0x09 is implicit only (R68). -/
def claimClass (c : Nat) : Option Nat :=
  if within 1 4 c || c == 10 then some 2 else if c == 5 then some 3 else if c == 6 || c == 7 then some 4 else none

/-- A pin of R67: PGOODn, LPnCLK, LPnDAT, LPnSEL bit 0 to 2, and the single pins with number 0. Log entry 50, DESIGN CHOICE. -/
def pinOk (i : Nat) : Bool :=
  let n := i % 256
  match i / 256 with
  | 1 => decide (n < 24)
  | 2 => decide (n < 8)
  | 3 => decide (n < 8)
  | 4 => decide (n < 32) && n % 4 != 3
  | c => within 5 10 c && n == 0

/-- One PINCLAIM entry after those before it (R67, R68, R225, R358, R359, R419). -/
def ckClaim (all : List PinClaim) (rails : List Nat) (before : List PinClaim) (d : List Byte) : Bool :=
  let p := readClaim d
  let owned := all.any fun q => q.rclass == 3 && q.claimant == 5 && q.rindex == p.cinst
  let once := !before.any fun q => q.claimant == p.claimant && q.cinst == p.cinst
  u8 d 1 == 0 && u8 d 7 == 0 && decide (u8 d 6 ≤ 1) && claimClass p.claimant == some p.rclass
    && (match p.rclass with
      | 2 => pinOk p.rindex
      | 3 => decide (p.rindex < 32)
      | _ => decide (p.rindex < 16))
    && match p.claimant with
      | 1 => decide (p.cinst < 24) && once
      | 2 => owned && p.observe && once
      | 3 => owned && p.observe && once
      | 4 => owned && !p.observe && once && within 2 4 (p.rindex / 256)
      | 5 => p.cinst == 0xFE && !p.observe
      | 6 => owned && !p.observe && once
      | 7 => rails.contains p.cinst && !p.observe && once
      | _ => true

/-- PINCLAIM. -/
def ckPins (rails : List Nat) (d : List Byte) : List FieldCk :=
  let l := readPins d
  rng (zeros d 2 2)
    :: (recs (u16 d 0) 8 d 4 id).zipIdx.map fun p => rng (ckClaim l rails (l.take p.2) p.1)

/-- The VSEL entries of an owned rail lie inside its VMIN to VMAX (R185). -/
def vselOk (vmin vmax : Nat) (p : PortCfg) (i : Nat) : Bool := (p.vsel.getD i []).all (within vmin vmax)

/-- A PORTS record (R70, R185): a used entry of RAILS is a rail number. Log entry 50, DESIGN CHOICE. -/
def ckPort (eng : Nat → Option EngineCfg) (d : List Byte) : List FieldCk :=
  let p := readPort d
  let pr := u8 d 0
  [rng (decide (pr ≤ 4)), rng (decide (p.nrail ≤ 8) && (pr != 0 || p.nrail == 0)),
    rng (decide (p.step ≤ 2) && (p.step == 0 || (pr != 1 && pr != 2)) && (pr != 4 || p.step != 0)),
    rng (u8 d 3 == 0 && zeros d 6 2)]
    ++ p.rails.zipIdx.map (fun q => rng (if q.2 < p.nrail then decide (q.1 < 24) else q.1 == 0xFF))
    ++ (List.range p.nrail).map (fun i => match eng (p.rails.getD i 0xFF) with
      | some e => rng (vselOk e.vmin e.vmax p i)
      | none => rng true)
    ++ [rng (zeros d 0x98 8)]

/-- TBAND (R71, R101, R102, R282). -/
def ckTband (d : List Byte) : List FieldCk :=
  let t := readTband d
  let pairs := t.edges.zip (t.edges.drop 1)
  (t.edges.zipIdx.flatMap fun p =>
      [rng (decide (-320 ≤ p.1) && decide (p.1 ≤ 1000)),
        (p.2 == 0 || decide (t.edges.getD (p.2 - 1) 0 < p.1), cOrder)])
    ++ [rng (decide (4 ≤ t.hyst)), (pairs.all fun p => decide ((t.hyst : Int) < p.2 - p.1), cOrder),
      rng (u8 d 11 == 0), rng (t.ror.all fun r => decide (1 ≤ r)), rng (zeros d 44 4)]
    ++ (recs 6 464 d 48 fun q =>
      let b := readBand q
      rng (b.dll.all (fun v => decide (-32 ≤ v) && decide (v ≤ 31)) && decide (b.stRise ≤ 1023)
        && decide (b.stFall ≤ 1023) && within 128 4095 b.pairRise && within 128 4095 b.pairFall
        && b.gain.all (fun v => decide (-8192 ≤ v) && decide (v ≤ 8192)) && zeros q 456 8))

/-- A schedule entry (R72, R248, R268). -/
def ckEntry (d : List Byte) : Bool :=
  let e := readEntry d
  inputUser e.chan == some e.user && inputRange e.chan == some e.range && decide (e.start < 1024)
    && within 1 1024 e.stride && decide (e.avg ≤ 6) && decide (u8 d 7 < 8) && (e.user != 7 || within 32 512 e.stride)

/-- The inputs that a schedule must hold: 24 to 31 and BTSF of the banks in use (R277), 87 (R346), 88 and all of 89, 90,
92 or none (R259). -/
def inputsOk (banks chans : List Nat) : Bool :=
  let has (i : Nat) : Bool := chans.contains i
  (List.range 8).all (fun i => has (24 + i)) && banks.all has && has 87 && has 88
    && has 89 == has 90 && has 90 == has 92

/-- HADC (R72). -/
def ckHadc (banks : List Nat) (d : List Byte) : List FieldCk :=
  let h := readHadc d
  [rng (within 1 10000 h.maceration), rng (zeros d 4 4)]
    ++ recs (u16 d 2) 8 d 8 (fun p => rng (ckEntry p)) ++ [rng (inputsOk banks (h.entries.map (·.chan)))]

/-- HOSTIF (R74, R386): I3CSA is a 7-bit address and bits 7:2 of I3COPT are 0. Log entry 50, DESIGN CHOICE. -/
def ckHostif (d : List Byte) : List FieldCk :=
  let a := u8 d 1
  let bad := decide (a < 0x10) || a == 0x28 || a == 0x37 || a == 0x61 || decide (0x78 ≤ a)
  [rng (decide (u8 d 0 ≤ 1)), rng (u8 d 0 != 1 || !bad), rng (decide (u8 d 2 ≤ 1)), rng (decide (u8 d 3 ≤ 0x7F)),
    rng (decide (u8 d 4 < 4)), rng (u8 d 5 == 0), rng (zeros d 8 8)]

/-- NELINK (R74, R408). -/
def ckNelink (d : List Byte) : List FieldCk :=
  [rng (decide (u8 d 0 ≤ 2)), rng (decide (u8 d 1 ≤ 63) || u8 d 1 == 0xFF), rng (decide (u16 d 2 ≤ 255)),
    rng (zeros d 4 12)]

/-- TAGS in step 5: reserved bytes, and REV of group 0 (R75). -/
def ckTagRest (d : List Byte) : List FieldCk :=
  rng (zeros d 1 3) :: (readTags d).map fun t => rng (t.rsv == 0 && (t.group != 0 || t.rev == 0))

/-- The banks that an accord touches. -/
def phaseBanks (a : AccordCfg) : List Nat := (a.phase.map bankOf).eraseDups

/-- The count fields on which a section's length depends (R56); FIXSET of the rail's ENGINE section is held to NL × NC at NC,
the later field of the relation (R56, R63). -/
def countsOk (e : EngineCfg) (t : Nat) (d : List Byte) : Bool :=
  match t with
  | 0x02 => decide (u16 d 0 ≤ 512)
  | 0x04 => within 1 8 (u8 d 1) && within 1 8 (u8 d 2) && decide (e.fixset < u8 d 1 * u8 d 2)
  | 0x07 => within 2 16 (u8 d 1) && within 2 16 (u8 d 2) && within 1 8 (u8 d 3)
  | 0x0A => decide (u16 d 2 ≤ 96)
  | _ => true

/-- The length of a section's format (R61 to R74). -/
def secLength (t : Nat) (d : List Byte) : Nat :=
  match t with
  | 0x01 => 76
  | 0x02 => 4 + 8 * u16 d 0
  | 0x03 => 32
  | 0x04 => 32 + 24 * (u8 d 1 * u8 d 2)
  | 0x05 => 16
  | 0x06 => 184
  | 0x07 => 16 + 8 * u8 d 3 + 16 * (u8 d 1 + u8 d 2)
  | 0x08 => 1280
  | 0x09 => 2832
  | 0x0A => 8 + 8 * u16 d 2
  | 0x0B => 448
  | 0x0C => 16
  | 0x0D => 16
  | _ => 4 + 20 * u8 d 0

/-- NPH and NMIN of an ACCORD section (R61). -/
def sizeOk (d : List Byte) : Bool :=
  let n := u8 d 1
  let m := u8 d 2
  within 1 32 n && within 1 n m && (!(u8 d 3).testBit 0 || decide (m < n))

/-- The remaining fields of a section, in ascending offset; `base` is the sealed image that a patch goes into (R83). -/
def ckFields (base : Option ImageCfg) (l : List Sec) (s : Sec) : List FieldCk :=
  let d := s.data
  let a := readAccord (secData l 0x01 s.inst)
  let e := readEngine (secData l 0x03 s.inst)
  let eng (r : Nat) : Option EngineCfg := (secOf l 0x03 r).map fun q => readEngine q.data
  let rails := dirRails l
  match s.ty with
  | 0x01 => ckAccord d ++ (match base with
    | some im => [rng ((phaseBanks a).all fun b => im.hadc.entries.any (·.chan == b))]
    | none => [])
  | 0x02 => ckPins rails d
  | 0x03 => ckEngine d ++ (match base with
    | some im => im.ports.map fun p => rng ((p.rails.take p.nrail).zipIdx.all fun q =>
        q.1 != s.inst || vselOk e.vmin e.vmax p q.2)
    | none => [])
  | 0x04 => ckCoeff e d
  | 0x05 => ckMod a e d
  | 0x06 => ckCurves a e (readMod (secData l 0x05 s.inst)) d
  | 0x07 => ckSeq (readCurves (secData l 0x06 s.inst)) d
  | 0x08 => (recs 8 160 d 0 (ckPort eng)).flatten
  | 0x09 => ckTband d
  | 0x0A => ckHadc ((rails.flatMap fun r => phaseBanks (readAccord (secData l 0x01 r))).eraseDups) d
  | 0x0B => [rng (d.all fun v => decide (v.toNat < 16))]
  | 0x0C => ckHostif d
  | 0x0D => ckNelink d
  | _ => ckTagRest d

/-- One section in the order of R56. -/
def checkSec (base : Option ImageCfg) (l : List Sec) (s : Sec) : Option LdErr :=
  let e (c : Nat) : LdErr := ⟨c, s.ty, s.inst, 0, 0, 0⟩
  firstErr
    ([need (countsOk (readEngine (secData l 0x03 s.inst)) s.ty s.data) (e cField), need (s.data.length == secLength s.ty s.data) (e 0x0B),
        need (s.ty != 0x01 || sizeOk s.data) (e 0x62), need (!isRailType s.ty || u8 s.data 0 == s.inst) (e cField)]
      ++ (ckFields base l s).map fun c => need c.1 (e c.2))

/-- Step 5: each section in directory order. -/
def checkSecs (base : Option ImageCfg) (l : List Sec) : Option LdErr := l.findSome? (checkSec base l)

end Sys2Proof.Machine
end

