-- ==== Sys2Proof/Machine/ImgClaims.lean ====
section
/-! DEFINITION. Step 6 of R56: the claims of an image or of a patch, explicit and implicit (R67 to R69), and the
capacities; with the claim registers of R88. Claims stand in directory order (log entry 40, DEDUCED). -/

namespace Sys2Proof.Machine

/-- What a claim is: an observer, an exclusive claim, the odd partner of a PAIR entry, an odd PAIR entry. -/
inductive ClaimKind where
  | observe | exclusive | partner | oddEntry
  deriving DecidableEq, Repr

/-- A claim on resource `idx` of a class, with its word of R88. -/
structure Claim where
  cls : Nat
  idx : Nat
  word : Nat
  kind : ClaimKind
  deriving DecidableEq, Repr

/-- The claim word of R88: SRC, TYPE, INST, entry index. Log entry 40, DEDUCED. -/
def claimWord (src : Bool) (ty inst idx : Nat) : Nat :=
  bitf 31 src + fld 24 7 ty + fld 16 8 inst + fld 0 16 idx

/-- The entry index of an implicit claim (R68). -/
def implicitIdx : Nat := 0xFFFE

/-- The implicit claims of a configured rail (R68). -/
def railClaims (src : Bool) (n : Nat) (a : AccordCfg) : List Claim :=
  let w := claimWord src 0x01 n implicitIdx
  (a.phase.flatMap fun p =>
      if a.pair then if p % 2 = 1 then [⟨1, p, w, .oddEntry⟩] else [⟨1, p, w, .exclusive⟩, ⟨1, p + 1, w, .partner⟩]
      else [⟨1, p, w, .exclusive⟩])
    ++ [⟨2, 0x100 + n, w, .exclusive⟩]

/-- The implicit claims of every configured rail of an image. -/
def imageRailClaims (src : Bool) (skip : Option Nat) (rails : List (Option RailCfg)) : List Claim :=
  rails.zipIdx.flatMap fun p => match p.1 with
    | some c => if skip = some p.2 then [] else railClaims src p.2 c.acc
    | none => []

/-- The explicit claims of PINCLAIM. -/
def pinclaimClaims (src : Bool) (l : List PinClaim) : List Claim :=
  l.zipIdx.map fun p =>
    ⟨p.1.rclass, p.1.rindex, claimWord src 0x02 0xFF p.2, if p.1.observe then .observe else .exclusive⟩

/-- The pins that a port's protocol claims (R68). -/
def portPins (p : Proto) (n : Nat) : List Nat :=
  let clk := 0x200 + n
  let dat := 0x300 + n
  let sel := 0x400 + 4 * n
  match p with
  | .unused => []
  | .vsel => [sel, sel + 1, sel + 2]
  | .avs => [clk, dat, sel]
  | .vcmd2 => [clk, dat, sel]
  | .vcmd1 => [clk, dat]

/-- The claims of the global sections, the fault pair last. -/
def globalClaims (src : Bool) (pins : List PinClaim) (ports : List PortCfg) (nl : Bool) : List Claim :=
  pinclaimClaims src pins
    ++ (ports.zipIdx.flatMap fun p => (portPins p.1.proto p.2).map fun i =>
      ⟨2, i, claimWord src 0x08 p.2 implicitIdx, .exclusive⟩)
    ++ (if nl then [0x600, 0x700, 0x800].map fun i => ⟨2, i, claimWord src 0x0D 0xFF implicitIdx, .exclusive⟩ else [])
    ++ [0x900, 0xA00].map fun i => ⟨2, i, claimWord src 0x00 0xFF implicitIdx, .exclusive⟩

/-- Slot `f` is one of a schedule entry's, with the settling slot before each slot of an external input (R253). -/
def entryTakes (e : HadcEntry) (f : Nat) : Bool :=
  entrySlot e f || (!entryLowz e && entrySlot e ((f + 1) % 1024))

/-- The slots of a schedule entry. -/
def entrySlots (e : HadcEntry) : List Nat := (List.range 1024).filter (entryTakes e)

/-- The claims of the HADC section on slots and inputs. -/
def hadcClaims (l : List HadcEntry) : List Claim :=
  l.zipIdx.flatMap fun p =>
    let w := claimWord false 0x0A 0xFF p.2
    ⟨7, p.1.chan, w, .exclusive⟩ :: (entrySlots p.1).map fun f => ⟨5, f, w, .exclusive⟩

/-- The claims of the ports on rails (R89 RAIL_OWNER): PORTS is a global section, and entry 8 × port + port-local rail of its
RAILS lists is the one that claims (R54, R88). Log entry 50, DESIGN CHOICE. -/
def ownerClaims (ports : List PortCfg) : List Claim :=
  ports.zipIdx.flatMap fun p => (p.1.rails.take p.1.nrail).zipIdx.map fun q =>
    ⟨6, q.1, claimWord false 0x08 0xFF (8 * p.2 + q.2), .exclusive⟩

/-- The code of a conflict on a resource class (R89); a channel that a partner also claims is PAIR_PARTNER, whichever two claims
are named. Log entry 50, DESIGN CHOICE. -/
def conflictCode (cls : Nat) (l : List Claim) : Nat :=
  match cls with
  | 1 => if l.any (·.kind == .partner) then 0x41 else 0x40
  | 2 => 0x42
  | 3 => 0x43
  | 4 => 0x44
  | 5 => 0x45
  | 6 => 0x46
  | _ => 0x47

/-- TYPE and INST of the section that a claim word stands for (R54, R88): an implicit claim of a port lies in PORTS, INST 0xFF;
none for the fault pair. -/
def claimSec (w : Nat) : Option (Nat × Nat) :=
  let ty := w / 2 ^ 24 % 128
  if ty = 0 then none else if ty = 0x08 then some (ty, 0xFF) else some (ty, w / 2 ^ 16 % 256)

/-- The failure of a conflict: IMG_ERR names the section of the later claim that lies in one; in a patch that is one of the
sealed image. Log entry 50, DESIGN CHOICE. -/
def conflictErr (code cls idx a b : Nat) : LdErr :=
  let sec := ((claimSec b).or (claimSec a)).getD (0, 0)
  ⟨code, sec.1, sec.2, a, b, cls * 2 ^ 24 + idx % 65536⟩

/-- The conflict on one resource: an odd PAIR entry alone, or two claims that are not observers (R69, R89). -/
def resourceErr (cls idx : Nat) (l : List Claim) : Option LdErr :=
  let ex := l.filter fun c => c.kind != .observe
  match ex.find? (·.kind == .oddEntry) with
  | some c => some (conflictErr 0x41 cls idx c.word 0)
  | none => match ex with
    | a :: b :: _ => some (conflictErr (conflictCode cls ex) cls idx a.word b.word)
    | _ => none

/-- The first conflict: ascending resource class, then ascending index (R56). -/
def firstConflict (l : List Claim) : Option LdErr :=
  (List.range 8).findSome? fun cls =>
    let k := l.filter (·.cls == cls)
    let top := (k.map (·.idx)).foldl max 0
    (List.range (top + 1)).findSome? fun i => resourceErr cls i (k.filter (·.idx == i))

/-- More than 819 slots are occupied (R46, R72). -/
def rateOver (l : List HadcEntry) : Bool :=
  decide (819 < ((List.range 1024).filter fun f => l.any fun e => entryTakes e f).length)

/-- The capacities of one port: BUDGET_SHARE, then RAIL_UNCONF (R56). -/
def portCaps (rails : List (Option RailCfg)) (p : PortCfg) : List (Option LdErr) :=
  [need (decide ((p.share.take p.nrail).sum ≤ 128)) ⟨0x61, 0x08, 0xFF, 0, 0, 0⟩,
    need ((p.rails.take p.nrail).all fun r => (rails.getD r none).isSome) ⟨0x63, 0x08, 0xFF, 0, 0, 0⟩]

/-- Step 6 of a full image. -/
def checkClaims (im : ImageCfg) : Option LdErr :=
  let l := imageRailClaims false none im.rails ++ globalClaims false im.pins im.ports im.nelink.isSome
    ++ hadcClaims im.hadc.entries ++ ownerClaims im.ports
  firstErr ([firstConflict l, need (!rateOver im.hadc.entries) ⟨0x60, 0x0A, 0xFF, 0, 0, 0⟩]
    ++ im.ports.flatMap (portCaps im.rails))

/-- Step 6 of a patch for rail `n`: its accord against the other rails and the pins of the sealed image (R83). -/
def checkPatchClaims (im : ImageCfg) (n : Nat) (a : AccordCfg) : Option LdErr :=
  firstConflict (railClaims false n a ++ imageRailClaims true (some n) im.rails
    ++ (globalClaims true im.pins im.ports im.nelink.isSome).filter fun c => c.cls == 2)

/-! ## Whole checks -/

/-- Every check of R56 before the commit, on a full image's bytes; the image when all pass. -/
def checkImage (o : Otp) (trailer : Option Nat) (b : List Byte) : Except LdErr ImageCfg :=
  let l := readDir b
  match firstErr [checkHeader false trailer b] with
  | some e => .error e
  | none => match firstErr [checkDir none b, checkCrcs l, checkAuth o (hdrAuth b) b l, checkSecs none l] with
    | some e => .error e
    | none =>
      let im := readImage b l
      match checkClaims im with
      | some e => .error e
      | none => .ok im

/-- Every check of a patch for rail `n` (R83): `stopped` the rail's state, `auth` IMG_SEAL.AUTH, `im` the sealed image;
the rail's new configuration when all pass. RAIL_RUNNING and BASE_GEN stand after step 3, PATCH_REV after step 4.
Log entry 50, DESIGN CHOICE. -/
def checkPatch (o : Otp) (auth stopped : Bool) (im : ImageCfg) (n : Nat) (b : List Byte) : Except LdErr RailCfg :=
  let l := readDir b
  let d := secData l 0x0E 0xFF
  let rev := tagRev d (n + 1)
  let old := ((im.rails.getD n none).map (·.rev)).getD 0
  let a := readAccord (secData l 0x01 n)
  match firstErr [checkHeader true none b, checkDir (some n) b, checkCrcs l,
      need stopped ⟨0x81, 0, 0, 0, 0, 0⟩, need (u32 b 0x10 == im.gen) ⟨0x82, 0, 0, 0, 0, 0⟩, checkAuth o auth b l,
      need (decide (old < rev)) ⟨0x84, 0, 0, 0, 0, 0⟩, checkSecs (some im) l, checkPatchClaims im n a] with
  | some e => .error e
  | none => match readRail l rev n with
    | some c => .ok c
    | none => .error ⟨0x0A, 0x01, n, 0, 0, 0⟩

end Sys2Proof.Machine
end

