-- ==== Sys2Proof/Machine/Seal.lean ====
section
/-! DEFINITION. The commit of an image and of a patch (R40, R78, R79, R84): what the seal loads into the island. -/

namespace Sys2Proof.Machine

/-! ## One rail -/

/-- The budget contribution that a rail takes at the seal (R239): the share of the port that owns it, ILIM without one. -/
def sealBudget (s : State) (r : RailId) (c : RailCfg) : Nat :=
  match portOf s r with
  | some (p, _, sh) => if sh = 0 then c.cur.ilim else shareOf s.ports[p].budget.toNat sh
  | none => c.cur.ilim

/-- The engine of a newly committed rail: RAIL_LLINE of the image, the modulation of the image, an empty compensator;
its status bits and counters stay (R127, R147). -/
def sealEng (c : RailCfg) (e : RailEng) : RailEng :=
  { e with
    lline := BitVec.ofNat 16 c.eng.lline, llineW := c.eng.lline, mode := c.md.mode, comp := {}, recDue := false
    first := false, modeChg := false, lastPhase := 0, on := false, clampI := false }

/-- The selection mode that ENGINE.STRUCT bit 6 gives (R144). -/
def sealMode (c : RailCfg) : BitVec 2 := if c.eng.fixed then 1 else 0

/-- Sharing and shedding of a newly committed rail (R160, R168): no position is bypassed, N is NPH, every accumulator
is clear, TSHIFT reads 12. FORCEN and the status bits stay. -/
def sealShare (c : RailCfg) (k : RailShare) : RailShare :=
  { ({} : RailShare) with
    forcen := k.forcen, trimSat := k.trimSat, phRej := k.phRej, ofsClip := k.ofsClip, satPos := k.satPos
    rotate := c.cur.rotate, nact := c.acc.nph }

/-- RAIL_PHCMD of a newly committed rail: a RESTORE in progress ends ABORTED. -/
def sealPh (k : RailPh) : RailPh :=
  { k with busy := false, result := if k.busy then 0x89 else k.result, bypDue := [], resPos := none, resDue := none }

/-- The limit contributions after the seal (R238, R239, R294), with the per-phase threshold of all phases. -/
def sealLim (c : RailCfg) (b : Nat) : RailLim :=
  { fold := foldAt c 0x8000, goal := b, bud := b, thr := c.cur.ilim
    effM := min (min (foldAt c 0x8000) c.cur.ilim) (min b c.cur.ilim), nM := c.acc.nph }

/-- A rail as a commit leaves it. Log entry 31, DEDUCED. -/
def sealRail (c : RailCfg) (b : Nat) (x : Rail) : Rail :=
  let x := { x with
    eng := sealEng c x.eng
    coef := { x.coef with cmode := sealMode c, applyDue := false, selDue := false
                          fallbk := x.coef.fallbk || !x.snd.valid }
    pos := { x.pos with slew := BitVec.ofNat 9 c.eng.slew, slewW := slewOf (BitVec.ofNat 9 c.eng.slew), tgtDue := false
                        vselHeld := none }
    sh := sealShare c x.sh
    ph := sealPh x.ph
    seq := { x.seq with smIdx := 0, table := false, preb := none, measuring := false, started := false
                        mcsWait := none, mcsAt := none }
    lim := sealLim c b
    tel := { x.tel with vout := 0, iout := 0 } }
  coefLoad c (sealMode c) x

/-- A rail that the image does not configure: its registers stand at their Reset values, the comparator levels stay
(R417). -/
def unsealRail (x : Rail) : Rail :=
  { ({} : Rail) with
    prot := { ovRaw := x.prot.ovRaw, uvRaw := x.prot.uvRaw, snsP := x.prot.snsP, snsN := x.prot.snsN }
    seq := { pgComp := x.seq.pgComp, seqIn := x.seq.seqIn } }

/-! ## Channels -/

/-- A channel that a commit assigns: it stands at off level; an odd partner of a pair carries PAIRLS (R90, R117, R182). -/
def sealChan (odd : Bool) (k : Chan) : Chan :=
  { ({} : Chan) with
    st := .stopped, out := .off, lateOn := k.lateOn, lateOff := k.lateOff, cmpClip := k.cmpClip, cbc := k.cbc
    rawTrip := k.rawTrip, band := k.band, bandDue := k.bandDue, bandSw := k.bandSw
    mark := if odd then .pairls else k.mark, code := k.code
    amps := k.amps, iofs := k.iofs, cs := k.cs }

/-- A channel that a commit leaves in no accord (R90). -/
def freeChan (k : Chan) : Chan :=
  { ({} : Chan) with rawTrip := k.rawTrip, band := k.band, bandDue := k.bandDue, bandSw := k.bandSw, cs := k.cs }

/-- Assign one channel under the configuration in force. Log entry 31, DEDUCED. -/
def assignChan (s : State) (i : Nat) (k : Chan) : Chan :=
  match toFin 192 i with
  | none => k
  | some ch => match owner s ch with
    | some (_, _, _, odd) => sealChan odd k
    | none => freeChan k

/-! ## Comparators that already stand asserted -/

/-- Phase current-limit comparators of a rail that stand asserted trip it (R108). Log entry 31, DEDUCED. -/
def rawTrips (c : RailCfg) (s : State) : State :=
  forEach c.acc.phase (fun i s => match toFin 192 i with
    | some ch => if s.chans[ch].rawTrip then phaseTrip ch s else s
    | none => s) s

/-- Every bank of the list whose BTSFb stands above its trip level trips (R111). Log entry 31, DEDUCED.
Log entry 32, DEDUCED. -/
def rawBtsf (l : List Nat) (s : State) : State :=
  forEach (allFin 24) (fun b s => if l.contains b.val && s.banks[b].btsfRaw then btsfAct b s else s) s

/-- While the fatal hold lasts, the channels of a newly committed rail stand at safe level (R314).
Log entry 31, DEDUCED. -/
def holdSafe (c : RailCfg) (s : State) : State :=
  if s.glb.latched then onChans (accordChans c) (fun _ => toSafe s.now) s else s

/-- A commit disturbs the banks in which a channel has entered or left safe level since `old` (R157). -/
def brefMoved (old s : State) : State :=
  brefEvents ((((List.range 192).filter fun i => match toFin 192 i with
    | some ch => (old.chans[ch].st == .safe) != (s.chans[ch].st == .safe)
    | none => false)).map bankOf).eraseDups s

/-! ## The full commit -/

/-- Timed events of rails, and of the master's supervision, that end with the configuration they belong to. -/
def railTimer (e : Instr) : Bool :=
  match e with
  | .budgetStep _ => true
  | .throttleStep _ => true
  | .backdrivePersist _ => true
  | .soundingStart _ => true
  | .soundingEnd _ => true
  | _ => false

/-- PORTS.BUDGET of a port (R70). -/
def imgBudget (im : ImageCfg) (i : Nat) : Nat := match im.ports[i]? with | some p => p.budget | none => 0

/-- AVG of a schedule entry (R72). -/
def imgAvg (im : ImageCfg) (i : Nat) : Nat := match im.hadc.entries[i]? with | some e => e.avg | none => 0

/-- IRQ_EN at the seal: bit 0 of each route byte (R73, R302). -/
def sealIrq (im : ImageCfg) : IrqEn :=
  BitVec.ofNat 448 ((List.range 448).map fun n => bitf n ((im.irq.getD n 0).testBit 0)).sum

/-- The HADC after the seal: the schedule starts, every filter is empty (R255, R324). -/
def sealHadc (im : ImageCfg) (h : Hadc) : Hadc :=
  let conv := match h.conv with
    | some c => match c.user with | .entry _ => none | .settle _ => none | _ => some c
    | none => none
  { h with slot := 0, lastInput := none, conv := conv, late := []
           res := (List.range 96).map fun i => resFresh (imgAvg im i)
           mon := { h.mon with round := List.replicate 3 none } }

/-- The watchdog counts from its full timeout while an image with a timeout is sealed (R335). -/
def wdogStart (s : State) : State :=
  let n := (hostif s).wdog
  { s with pwr := { s.pwr with wdRun := isSealed s && decide (0 < n), wdog := n * msCycles } }

/-- Nelink at the seal: the controller listens, or there is no chain (R55, R406). Log entry 38, DEDUCED. -/
def sealNelink (s : State) : State :=
  if (nelinkCfg s).isSome then nlListen s
  else nlDisarm { s with nl := { ({} : Nelink) with roleChg := s.nl.roleChg, mlost := s.nl.mlost, peerChg := s.nl.peerChg
                                                    nlErr := s.nl.nlErr, dupId := s.nl.dupId, mute := s.nl.mute } }

/-- An acceptance of the port that waits. -/
def vselTimer (p : PortId) (e : Instr) : Bool := match e with | .vselAccept q _ => q == p | _ => false

/-- A VSEL port reads the index at its pins from the seal on, and again once its unit answers after a reset: it is accepted when it has
been stable for 1.00 µs (R196, R215). Log entry 31, DEDUCED. -/
def vselAgain (s : State) : State :=
  forEach (allFin 8) (fun p s =>
    let s := disarm (vselTimer p) s
    match portCfg s p with
    | some pc =>
      if pc.proto = .vsel then arm (s.pwr.ifFrom - s.now + usTicks) (.vselAccept p ⟨s.ports[p].vselPin.toNat, s.ports[p].vselPin.isLt⟩) s else s
    | none => s) s

/-- Commit and seal of a full image in one core cycle (R78, R79). Log entry 31, DEDUCED. -/
def sealImage (im : ImageCfg) (src : BitVec 2) (s : State) : State :=
  let old := s
  let s := disarm railTimer s
  let s := { s with
    sealed := { img := some im, auth := im.auth, source := src, loadPend := false, patched := 0 }
    irqEn := sealIrq im
    ports := mapTab (fun i p => { p with
      budget := BitVec.ofNat 16 (imgBudget im i), hold := [], vselPend := false }) s.ports
    hadc := sealHadc im s.hadc
    thm := { s.thm with band := 0, bandSel := false }
    chans := mapTab (fun _ k => { k with band := none, bandDue := false }) s.chans }
  let s := pinInputs { s with
    rails := mapTab (fun i x => match toFin 24 i with
      | some r => match railCfg s r with
        | some c => sealRail c (sealBudget s r c) x
        | none => unsealRail x
      | none => x) s.rails }
  let s := forEach (allFin 24) brefRelease { s with chans := mapTab (assignChan s) s.chans }
  let s := forEach (configured s) (fun rc s => thrLoad rc.1 rc.2 s) s
  let s := brefMoved old (forEach (configured s) (fun rc s => holdSafe rc.2 s) s)
  let s := rawBtsf (List.range 24) s
  let s := forEach (configured s) (fun rc s => rawTrips rc.2 s) s
  vselAgain (sealNelink (wdogStart (throttleAll s)))

/-! ## The commit of a patch -/

/-- The sealed image with rail `n` replaced. -/
def patchImage (n : RailId) (c : RailCfg) (im : ImageCfg) : ImageCfg :=
  { im with rails := modAt im.rails n.val fun _ => some c }

/-- The channels that rail `n` held before are free, those of its new accord take off level. -/
def patchChans (n : RailId) (old : List Nat) (s : State) : State :=
  let new := match railCfg s n with | some c => accordChans c | none => []
  { s with chans := mapTab (fun i k =>
      if old.contains i ∨ new.contains i then assignChan s i k else k) s.chans }

/-- PATCH_APPLY commits rail `n`'s partition alone in one core cycle (R84, R256, R263); the neighbours are told of the
new phases by a HELLO (R410). Log entry 31, DEDUCED. -/
def commitPatch (n : RailId) (c : RailCfg) (s : State) : State :=
  let from_ := s
  let old := match railCfg s n with | some c => accordChans c | none => []
  let s := disarm (fun e => e == .budgetStep n || e == .throttleStep n || e == .soundingStart n || e == .soundingEnd n) s
  let s := { s with sealed := { s.sealed with
    img := s.sealed.img.map (patchImage n c), patched := s.sealed.patched ||| (1#24 <<< n.val) } }
  let b := sealBudget s n c
  let s := onRail n (fun x =>
    let x := sealRail c b x
    { x with snd := { x.snd with firstDue := true } }) s
  let s := forEach (allFin 24) brefRelease (patchChans n old s)
  let s := brefMoved from_ (holdSafe c (thrLoad n c s))
  let s := rawTrips c (rawBtsf (accordBanks c) s)
  let s := macerRail n (throttleAll s)
  if (nelinkCfg s).isSome && !s.nl.listening then nlHello s else s

end Sys2Proof.Machine
end

