-- ==== Sys2Proof/Machine/Loader.lean ====
section
/-! DEFINITION. The image loader (R51, R77 to R89, R281, R456): commands of IMG_CTRL, the IMG_DATA stream, full loads, the
Flacon slots and patches. -/

namespace Sys2Proof.Machine

/-! ## Slots (R49, R50) -/

/-- First byte of a Flacon: A for false, B for true. -/
def flaconBase (b : Bool) : Nat := if b then 0x80000 else 0

/-- First byte of a Flacon's trailer. -/
def trailerAt (b : Bool) : Nat := flaconBase b + 0x7FFF0

/-- The trailer's 16 bytes. -/
def trailer (s : State) (b : Bool) : List Byte := flashReadList s.flash (trailerAt b) 16

/-- COMMIT and TCRC of the trailer are right. -/
def trailerOk (s : State) (b : Bool) : Bool :=
  let t := trailer s b
  u32 t 0 == 0x5EA1C0DE && u32 t 12 == crc32 (t.take 12)

/-- The header bytes of a slot. -/
def slotHeader (s : State) (b : Bool) : List Byte := flashReadList s.flash (flaconBase b) 64

/-- The slot is committed (R50). -/
def slotCommitted (s : State) (b : Bool) : Bool :=
  let t := trailer s b
  let h := slotHeader s b
  trailerOk s b && u32 t 4 == u32 h 0x10 && u32 t 8 == u32 h 0x0C

/-- The image bytes of a slot: as many as its header states, within the limit of R52. -/
def slotBytes (s : State) (b : Bool) : List Byte :=
  flashReadList s.flash (flaconBase b) (max 64 (min 393216 (hdrLen (slotHeader s b))))

/-- Every check before the commit on a slot (R56); LEN of the trailer is compared when the trailer itself is right. -/
def slotImage (s : State) (b : Bool) : Except LdErr ImageCfg :=
  checkImage s.otp (if trailerOk s b then some (u32 (trailer s b) 8) else none) (slotBytes s b)

/-- The GEN that IMG_GEN_A or IMG_GEN_B reports (R88). -/
def slotGen (s : State) (b : Bool) : Word :=
  if slotCommitted s b then BitVec.ofNat 32 (u32 (trailer s b) 4) else 0xFFFFFFFF#32

/-- IMG_GEN_A and IMG_GEN_B report the trailers as they stand in the flash. Log entry 14, DEDUCED. -/
def readGens (s : State) : State := { s with img := { s.img with genA := slotGen s false, genB := slotGen s true } }

/-- The slots a boot load or LOAD_AUTO tries, in order (R51). -/
def slotOrder (s : State) : List Bool :=
  match slotCommitted s false, slotCommitted s true with
  | true, true =>
    if u32 (trailer s false) 4 < u32 (trailer s true) 4 then [true, false] else [false, true]
  | true, false => [false]
  | false, true => [true]
  | false, false => []

/-! ## Ends of an operation -/

/-- A command ignored with CMDERR alone (R86, R87). -/
def imgIgnore (s : State) : State := { s with img := { s.img with cmdErr := true } }

/-- The loader returns to idle; a log record may now start (R352). -/
def imgIdle (s : State) : State :=
  gateArm { s with img := { s.img with phase := .idle, op := .none, isOpen := false, need := none, buf := [], passed := none }
                   sealed := { s.sealed with loadPend := false } }

/-- IMG_ERR, the claim registers and IMG_ERR_RES (R88); an outcome without a conflict leaves the last three at 0.
Log entry 62, DESIGN CHOICE. -/
def putErr (e : LdErr) (s : State) : State :=
  { s with img := { s.img with
    errCode := BitVec.ofNat 8 e.code, errType := BitVec.ofNat 8 e.ty, errInst := BitVec.ofNat 8 e.inst
    claimA := BitVec.ofNat 32 e.claimA, claimB := BitVec.ofNat 32 e.claimB, errRes := BitVec.ofNat 32 e.res } }

/-- A failure without a section. -/
def codeErr (code : Nat) : LdErr := { code := code }

/-- A command refused with REJECT_STATE (R86, R89): CMDERR, REJCNT and the code, not LOADERR. Log entry 30, DEDUCED. -/
def imgReject (s : State) : State :=
  putErr (codeErr 0x80) { s with img := { s.img with cmdErr := true, rejCnt := satInc 255 s.img.rejCnt } }

/-- LOADERR with its code, the loader left as it is. -/
def imgErr (e : LdErr) (s : State) : State :=
  putErr e { s with img := { s.img with loadErr := true } }

/-- The operation ends with a failure: LOADERR and IMG_ERR. Log entry 30, DEDUCED. -/
def imgFail (e : LdErr) (s : State) : State := imgErr e (imgIdle s)

/-- The operation ends without a failure. -/
def imgDone (s : State) : State := putErr (codeErr 0) (imgIdle s)

/-- An operation begins. -/
def imgBegin (op : ImgOp) (ph : ImgPhase) (s : State) : State :=
  { s with img := { s.img with op := op, phase := ph, winStop := false } }

/-- A stream opens (R456). -/
def imgOpen (op : ImgOp) (ph : ImgPhase) (s : State) : State :=
  { s with img := { s.img with op := op, phase := ph, isOpen := true, need := none, buf := [], count := 0, winStop := false } }

/-- A flash program or erase refused or stopped by the write window (R281): TEMP_WINDOW, THM_STATUS.WINREF. -/
def winRefuse (s : State) : State := { s with thm := { s.thm with winRef := true } }

/-! ## Full loads -/

/-- A full load is legal (R79): nothing is sealed, or every rail is stopped and the device is in READY.
Log entry 30, DEDUCED. -/
def fullLegal (s : State) : Bool :=
  !isSealed s || (s.pwr.dev == .ready && s.rails.toList.all isStopped)

/-- A full load may still commit at its end (R79); a fatal hold that fell in the load does not stop it (R314).
Log entry 30, DEDUCED. -/
def fullStands (s : State) : Bool := fullLegal s || (s.glb.latched && s.rails.toList.all isStopped)

/-- A load from QSPI begins: IMG_SEAL.LOADPEND reads 1 (R87). -/
def qspiBegin (op : ImgOp) (s : State) : State :=
  imgBegin op .reading { s with sealed := { s.sealed with loadPend := true } }

/-- The boot load starts by itself (R80). -/
def bootStart (s : State) : State :=
  if s.img.bootDue && s.img.phase == .idle && ctlUp s then
    qspiBegin .boot { s with img := { s.img with bootDue := false } }
  else s

/-- The outcome of the slots tried: nothing to try, the last failure, an image with its slot and whether it was the
second one tried. -/
inductive LoadRes where
  | nothing
  | bad (e : LdErr)
  | good (im : ImageCfg) (b : Bool) (fb : Bool)

/-- Try a slot as the second one. -/
def trySecond (s : State) (b : Bool) : LoadRes :=
  match slotImage s b with
  | .ok im => .good im b true
  | .error e => .bad e

/-- Try the slots in order (R51). Log entry 30, DEDUCED. -/
def trySlots (s : State) (l : List Bool) : LoadRes :=
  match l with
  | [] => .nothing
  | b :: bs =>
    match slotImage s b with
    | .ok im => .good im b false
    | .error e => match bs with
      | [] => .bad e
      | b2 :: _ => trySecond s b2

/-- The sealed image of a load from QSPI: LOAD_AUTO falls back, and shows it, as the boot load does (R51, R87).
Log entry 50, DESIGN CHOICE. -/
def qspiSeal (im : ImageCfg) (b fb : Bool) (s : State) : State :=
  let s := sealImage im (if b then 2 else 1) (imgDone s)
  { s with img := { s.img with fallback := s.img.fallback || fb } }

/-- A load from QSPI ends (R51, R80). -/
def qspiDone (l : List Bool) (flashId : Byte) (s : State) : State :=
  let s := readGens s
  if flashId = 0x00#8 ∨ flashId = 0xFF#8 then imgFail (codeErr 0x88) s
  else if !fullStands s then imgFail (codeErr 0x80) s
  else match trySlots s l with
    | .nothing => imgIdle s
    | .bad e => imgFail e s
    | .good im b fb => qspiSeal im b fb s

/-- A load of one named slot: it never falls back, and an uncommitted slot gives TRAILER (R51, R89). -/
def oneSlot (b : Bool) (flashId : Byte) (s : State) : State :=
  if slotCommitted s b || flashId == 0x00#8 || flashId == 0xFF#8 then qspiDone [b] flashId s
  else imgFail (codeErr 0x0F) (readGens s)

/-- A complete stream of LOAD_HOST ends (R81). -/
def hostDone (s : State) : State :=
  if !fullStands s then imgFail (codeErr 0x80) s
  else match checkImage s.otp none s.img.buf with
    | .ok im => sealImage im 3 (imgDone s)
    | .error e => imgFail e s

/-- A full load finishes its checks, and commits and seals, or fails (R78). -/
def fullDone (flashId : Byte) (s : State) : State :=
  match s.img.op with
  | .boot => qspiDone (slotOrder s) flashId s
  | .auto => qspiDone (slotOrder s) flashId s
  | .slotA => oneSlot false flashId s
  | .slotB => oneSlot true flashId s
  | .host => if s.img.phase = .checking then hostDone s else s
  | _ => s

/-! ## The stream (R456) -/

/-- The stream's command takes a patch. Log entry 11, DESIGN CHOICE. -/
def streamPatch (op : ImgOp) : Bool := match op with | .stage _ => true | _ => false

/-- The stream is complete; a SLOT_WRITE ends when its last program is confirmed. A patch that is staged completely leaves the code of
IMG_ERR as it stands: CODE returns to NONE when a load, a slot operation or the commit of a patch ends well.
Log entry 30, DEDUCED. Log entry 60, DESIGN CHOICE. -/
def streamEnd (s : State) : State :=
  let s := { s with img := { s.img with isOpen := false } }
  match s.img.op with
  | .stage n => imgIdle { s with img := { s.img with ready := some n, stag := s.img.buf } }
  | .write _ => s
  | _ => { s with img := { s.img with phase := .checking } }

/-- A failure of the stream: a patch being staged is discarded, a slot stays uncommitted. -/
def streamFail (e : LdErr) (s : State) : State :=
  imgFail e { s with img := { s.img with ready := if streamPatch s.img.op then none else s.img.ready } }

/-- The write or erase in progress has to stop: the window has closed since it began (R281). -/
def winShut (s : State) : Bool := s.img.winStop || !winOpen s

/-- Program the last page of the stream into the slot; once the window has closed the write stops at the page boundary (R82). -/
def writePage (b : Bool) (s : State) : State :=
  let n := s.img.buf.length
  let k := if n % 256 = 0 then 256 else n % 256
  if winShut s then streamFail (codeErr 0x85) (winRefuse s)
  else { s with flash := flashProgList s.flash (flaconBase b + (n - k)) (s.img.buf.drop (n - k)) }

/-- A page boundary, or the end of the stream, of a slot write. -/
def pageStep (fin : Bool) (s : State) : State :=
  match s.img.op with
  | .write b => if s.img.buf.length % 256 = 0 ∨ fin then writePage b s else s
  | _ => s

/-- Step 1 of R56 on the first 64 bytes; a stream that states fewer is complete with them. Log entry 60, DESIGN CHOICE. -/
def streamHeader (s : State) : State :=
  match checkHeader (streamPatch s.img.op) none s.img.buf with
  | some e => streamFail e s
  | none => { s with img := { s.img with need := some (max 64 (hdrLen s.img.buf)) } }

/-- The stream has the bytes that its header states. -/
def streamFull (s : State) : Bool := match s.img.need with | some n => decide (n ≤ s.img.count) | none => false

/-- A word written to IMG_DATA. -/
def dataWrite (w : Word) (s : State) : State :=
  if !s.img.isOpen then imgIgnore s
  else
    let s := { s with img := { s.img with buf := s.img.buf ++ leBytes w, count := s.img.count + 4 } }
    let s := if s.img.count = 64 then streamHeader s else s
    if !s.img.isOpen then s
    else
      let fin := streamFull s
      let s := pageStep fin s
      if s.img.isOpen && fin then streamEnd s else s

/-! ## Slot commands (R82) -/

/-- The slot is the source of the sealed image. -/
def sourceSlot (s : State) (b : Bool) : Bool := isSealed s && s.sealed.source == if b then 2 else 1

/-- SLOT_ERASE, SLOT_WRITE, SLOT_COMMIT pass the source slot and the window, then `f` acts (R82, R281); a refusal sets LOADERR
and IMG_ERR, neither CMDERR nor REJCNT. They come before REJECT_STATE of an unerased slot.
Log entry 13, DEDUCED. Log entry 30, DEDUCED. Log entry 50, DESIGN CHOICE. Log entry 60, DESIGN CHOICE. -/
def slotGuard (b : Bool) (f : State → State) (s : State) : State :=
  if sourceSlot s b then imgErr (codeErr 0x86) s
  else if !winOpen s then imgErr (codeErr 0x85) (winRefuse s)
  else f s

/-- The slot has been erased since its last commit. -/
def slotErased (s : State) (b : Bool) : Bool := if b then s.img.erasedB else s.img.erasedA

/-- A SLOT_CHECK of the slot has passed since the last SLOT_WRITE. -/
def slotChecked (s : State) (b : Bool) : Bool := if b then s.img.checkedB else s.img.checkedA

/-- Record whether a slot is erased. -/
def putErased (b v : Bool) (s : State) : State :=
  { s with img := { s.img with erasedA := if b then s.img.erasedA else v, erasedB := if b then v else s.img.erasedB } }

/-- Record whether a slot has passed its check. -/
def putChecked (b v : Bool) (s : State) : State :=
  { s with img := { s.img with checkedA := if b then s.img.checkedA else v, checkedB := if b then v else s.img.checkedB } }

/-- SLOT_ERASE begins: the sector of the trailer goes first, so that the slot is uncommitted from here (R85). -/
def eraseBegin (b : Bool) (s : State) : State :=
  let s := putErased b false s
  imgBegin (.erase b) .erasing { s with flash := flashErase s.flash (flaconBase b + 0x7F000) 4096 }

/-- All 128 sectors are erased, or the erase was not confirmed (R89), or the window has closed and it stops (R281). -/
def eraseDone (ok : Bool) (s : State) : State :=
  match s.img.op with
  | .erase b =>
    if winShut s then imgFail (codeErr 0x85) (readGens (winRefuse s))
    else if ok then imgDone (readGens (putErased b true { s with flash := flashErase s.flash (flaconBase b) 0x80000 }))
    else imgFail (codeErr 0x88) (readGens s)
  | _ => s

/-- SLOT_WRITE begins. -/
def writeBegin (b : Bool) (s : State) : State := imgOpen (.write b) .writing (putChecked b false s)

/-- SLOT_COMMIT begins, unless the slot is unchecked: LOADERR and IMG_ERR alone. Log entry 50, DESIGN CHOICE. -/
def commitBegin (b : Bool) (s : State) : State :=
  if slotChecked s b then imgBegin (.commit b) .writing s else imgErr (codeErr 0x87) s

/-- The trailer of a slot, from its header (R50). -/
def trailerBytes (h : List Byte) : List Byte :=
  let t := natLe 4 0x5EA1C0DE ++ natLe 4 (u32 h 0x10) ++ natLe 4 (u32 h 0x0C)
  t ++ natLe 4 (crc32 t)

/-- The trailer has been programmed, or the last page of a slot write; or a program was not confirmed, the trailer's or that of
any page of a slot write (R89).
Log entry 30, DEDUCED. -/
def slotCommitEnd (ok : Bool) (s : State) : State :=
  match s.img.op with
  | .commit b =>
    if ok then
      let s := { s with flash := flashProgList s.flash (trailerAt b) (trailerBytes (slotHeader s b)) }
      imgDone (readGens (putErased b false s))
    else imgFail (codeErr 0x88) (readGens s)
  | .write _ => if !ok then streamFail (codeErr 0x88) s else if s.img.isOpen then s else imgDone (readGens s)
  | _ => s

/-- SLOT_CHECK ends: every check of R56 except the commit. -/
def slotCheckEnd (flashId : Byte) (s : State) : State :=
  match s.img.op with
  | .check b =>
    if flashId = 0x00#8 ∨ flashId = 0xFF#8 then imgFail (codeErr 0x88) s
    else match slotImage s b with
      | .ok _ => imgDone (putChecked b true s)
      | .error e => imgFail e s
  | _ => s

/-- A slot write or erase whose window has closed stops (R82, R281). -/
def writeStopped (s : State) : State :=
  if !winShut s then s
  else match s.img.op with
    | .write _ => if s.img.isOpen then streamFail (codeErr 0x85) (winRefuse s) else s
    | .erase _ => imgFail (codeErr 0x85) (readGens (winRefuse s))
    | _ => s

/-! ## Patches (R83, R84) -/

/-- PATCH_APPLY: the staged patch is checked; a passed one waits for its commit cycle, a failed one is discarded. A rail that
the sealed image does not configure counts as stopped (R83, R84). Log entry 50, DESIGN CHOICE. -/
def applyBegin (n : Nat) (s : State) : State :=
  match s.sealed.img, toFin 24 n with
  | some im, some r =>
    let s' := { s with img := { s.img with ready := none, stag := [] } }
    match checkPatch s.otp s.sealed.auth (isStopped s.rails[r]) im n s.img.stag with
    | .ok c => imgBegin (.apply n) .committing { s' with img := { s'.img with passed := some (n, c) } }
    | .error e => imgFail e s'
  | _, _ => imgReject s

/-- The commit cycle of a patch: a rail that has left the stopped state since the check is RAIL_RUNNING.
Log entry 30, DEDUCED. -/
def patchDone (s : State) : State :=
  match s.img.passed with
  | none => s
  | some (n, c) =>
    match toFin 24 n with
    | none => s
    | some r =>
      if isStopped s.rails[r] then commitPatch r c (imgDone s) else imgFail (codeErr 0x81) s

/-! ## Keys and epochs (R77) -/

/-- REVOKE of a key slot. -/
def revokeKey (k : BitVec 2) (s : State) : State :=
  let used := match s.sealed.img with | some im => im.keyidx == k.toNat | none => false
  if used then imgReject s else { s with otp := { s.otp with revoked := s.otp.revoked ||| (1#4 <<< k.toNat) } }

/-- EPOCH_ADVANCE. -/
def epochNext (s : State) : State :=
  match s.sealed.img with
  | none => imgReject s
  | some im =>
    if 64 ≤ s.otp.fuses ∨ im.epoch < s.otp.fuses + 1 then imgReject s
    else { s with otp := { s.otp with fuses := s.otp.fuses + 1 } }

/-! ## IMG_CTRL (R86, R87) -/

/-- The operation stages or applies a patch. -/
def patchOp (op : ImgOp) : Bool := match op with | .stage _ | .apply _ => true | _ => false

/-- ABORT: no effect when idle; the operation that runs ends (R81, R86). A patch staged completely before it stays staged.
Log entry 30, DEDUCED. -/
def imgAbort (s : State) : State :=
  if s.img.phase = .idle then s
  else
    let drop := patchOp s.img.op
    imgFail (codeErr 0x89) (readGens { s with img := { s.img with
      ready := if drop then none else s.img.ready, stag := if drop then [] else s.img.stag } })

/-- A legal command of IMG_CTRL on an idle loader. Log entry 60, DESIGN CHOICE. -/
def imgRun (cmd slot rail : Nat) (s : State) : State :=
  let b := slot == 1
  match cmd with
  | 1 => if fullLegal s then qspiBegin .auto s else imgReject s
  | 2 => if fullLegal s then qspiBegin .slotA s else imgReject s
  | 3 => if fullLegal s then qspiBegin .slotB s else imgReject s
  | 4 => if fullLegal s then imgOpen .host .reading s else imgReject s
  | 5 => imgBegin (.check b) .checkingSlot s
  | 6 => if isSealed s then imgOpen (.stage rail) .staging { s with img := { s.img with ready := none, stag := [] } }
    else imgReject s
  | 7 => if s.img.ready = some rail then applyBegin rail s else imgReject s
  | 9 => slotGuard b (eraseBegin b) s
  | 10 => slotGuard b (fun s => if slotErased s b then writeBegin b s else imgReject s) s
  | 11 => slotGuard b (commitBegin b) s
  | 12 => revokeKey (BitVec.ofNat 2 slot) s
  | _ => epochNext s

/-- The fields of a command are ones it may carry (R87); CMD codes 0x0, 0xE and 0xF name none. Log entry 50, DESIGN CHOICE. -/
def imgFields (cmd slot rail : Nat) : Bool :=
  match cmd with
  | 0 => false
  | 5 => decide (slot < 2)
  | 6 => decide (rail < 24)
  | 7 => decide (rail < 24)
  | 9 => decide (slot < 2)
  | 10 => decide (slot < 2)
  | 11 => decide (slot < 2)
  | 14 => false
  | 15 => false
  | _ => true

/-- A write to IMG_CTRL. -/
def imgCtrl (w : Word) (s : State) : State :=
  let cmd := bits w 0 4
  let slot := bits w 16 2
  let rail := bits w 8 5
  if bits w 24 8 ≠ 0xA5 ∨ !imgFields cmd slot rail then imgIgnore s
  else if cmd = 8 then imgAbort s
  else if s.img.phase ≠ .idle then imgReject s
  else imgRun cmd slot rail s

/-- An IMG_CTRL word with its key. -/
def imgWordOf (cmd slot rail : Nat) : Word := mkWord [fld 24 8 0xA5, fld 16 2 slot, fld 8 5 rail, cmd]

end Sys2Proof.Machine
end

