-- ==== Sys2Proof/Machine/Reset.lean ====
section
/-! DEFINITION. The resets (R14, R29 to R32, R85, R262, R273, R290, R312, R314, R336, R374): what a control-domain reset,
a reset of the island and a power-on reset leave, and the start of the control domain at READY entry and at its release
(R324, R32). -/

namespace Sys2Proof.Machine

/-! ## The fields of the control domain -/

/-- The control-domain fields of a rail (R336); a RESTORE that runs ends ABORTED (0x89). -/
def ctlRail (x : Rail) : Rail :=
  { x with
    trip := { x.trip with clrRej := false }
    prot := { x.prot with clrRej := false }
    sh := { x.sh with phRej := false }
    ph := { x.ph with busy := false, result := if x.ph.busy then 0x89 else 0, rejCnt := 0, pos := 0, trimRd := 0
                      resPos := none, resDue := none }
    pos := { x.pos with hrej := false }
    seq := { x.seq with seqRej := false, rejCnt := 0 }
    sns := {}
    lim := { x.lim with held := x.lim.throttled }
    sil := { x.sil with rdErr := false } }

/-- A sounding that runs ends ABORT; an automatic request is made again once the control domain answers (R266). -/
def ctlSound (r : RailId) (s : State) : State :=
  let again := s.rails[r].snd.run && s.rails[r].snd.auto
  onRail r (fun x => { x with snd := { x.snd with pend := x.snd.pend || again } }) (sndAbort r s)

/-- The self-test registers of a bank (R182). -/
def ctlBank (k : Bank) : Bank :=
  { k with bistRun := false, bistDone := false, bistPass := false, bistRej := false, bistRejCnt := 0, failMap := 0
           failItem := 0 }

/-- A port unit after a control-domain reset (R32, R217): frames are discarded, PORT_BUDGET is island state. -/
def ctlPort (p : Port) : Port :=
  { ({} : Port) with budget := p.budget, frames := p.frames, vselPend := p.vselPend, alert := p.alert, vselPin := p.vselPin }

/-- The response of a frame whose slot has not ended is withdrawn (R32, R215). Log entry 21, DESIGN CHOICE. -/
def respKept (s : State) : Resp :=
  let runs := fun (pr : Proto) => (allFin 8).any fun p =>
    (match portCfg s p with | some pc => pc.proto == pr | none => false) && decide (s.now < s.ports[p].busyTo)
  match s.resp with
  | .vcmd2 f => if runs .vcmd2 then .none else .vcmd2 f
  | .vcmd1 f => if runs .vcmd1 then .none else .vcmd1 f
  | .avs k d st => if runs .avs then .none else .avs k d st
  | r => r

/-- The monitors of the HADC: references, exclusions and the raise freeze hold (R262); a READY→RUN discovery starts
again from its first bank (R273). Log entry 15, DEDUCED. Log entry 35, DEDUCED. -/
def ctlMon (m : HadcMon) : HadcMon :=
  { ({} : HadcMon) with
    refSw := m.refSw, refFrz := m.refFrz, freeze := m.freeze, active := m.active, excl := m.excl, twoWay := m.twoWay
    discRun := m.discRun && m.discForRun, discForRun := m.discForRun, discMask := if m.discForRun then m.discMask else 0
    doneMask := if m.discRun && !m.discForRun then m.doneMask else 0 }

/-- A discovery on host request that runs ends with the reset (R273): the banks that have completed keep the classes found, the
others report not probed, DONEMASK shows which. Log entry 15, DEDUCED. -/
def ctlDisc (s : State) : State :=
  let m := s.hadc.mon
  let bank := fun (b : Nat) (k : Bank) =>
    if m.discMask.getLsbD b && !m.doneMask.getLsbD b then
      { k with lastValid := true, lastUnattr := false, lastClass := 0xFFFFFF#24 }
    else k
  if m.discRun && !m.discForRun then { s with banks := mapTab bank s.banks } else s

/-- The HADC after a control-domain reset: the schedule and the filters start again (R255). Log entry 35, DEDUCED. -/
def ctlHadc (s : State) : Hadc :=
  { ({} : Hadc) with
    mon := ctlMon s.hadc.mon }

/-- The thermal block: THM_STHOT, the band, THROT, BANDCHG and TSHUT are island state; the evaluation history is lost, and
an exceedance that stood cannot end before new ticks exist (R290). -/
def ctlThm (t : Thermal) : Thermal :=
  { t with
    sensFlt := false, rorx := false, winRef := false, tjValid := false, tj := 0, jsrc := 0
    sens := t.sens.map fun k => { ({} : Sensor) with rorHold := k.rorx || k.rorHold } }

/-- The NV log: the queue and the registers marked Island. hold; a commit, a test and a scan that run end (R85); a test that
ran with a record queued is called again (R355). Log entry 37, DEDUCED. -/
def ctlNvl (n : Nvl) : Nvl :=
  { n with
    vstop := 0x12C, bperiod := 0x0064, logged := false, cresync := false, blotFail := false, holdPend := false
    drop := false, media := false, scan := false, busy := false, mcause := 0, dropCnt := 0, testRun := false
    testDue := n.testRun && !n.queue.isEmpty, seen := false, headNew := !n.queue.isEmpty, v87 := none
    resync := false, voidDue := false
    secs := 0, seq := 0, lap := 0, retry := false, eraseDue := [], onAt := none }

/-- The host interfaces: no dynamic address, pointers and limits at their Reset values; the straps are keep-alive, TMR_SEL
belongs to page 0x06 (R374, R376, R379). -/
def ctlHif (h : Hif) : Hif :=
  { ({} : Hif) with
    strapValid := h.strapValid, lvl0 := h.lvl0, lvl1 := h.lvl1, kaAddr := h.kaAddr, selS := h.selS, selI := h.selI
    selT := h.selT }

/-- Nelink: role, master, time-base counters and the mute after DUPID hold (island); the frame in flight is lost
(R409). -/
def ctlNl (n : Nelink) : Nelink :=
  { ({} : Nelink) with
    role := n.role, masterId := n.masterId, slipCnt := n.slipCnt, lastCorr := n.lastCorr, noClaim := n.noClaim
    mute := n.mute, syncAt := n.syncAt, tbAt := n.tbAt, listening := n.listening || n.claiming }

/-- A load of a slot is due or in progress (R80). -/
def loadPends (i : ImgLd) : Bool :=
  i.bootDue || match i.op with | .boot | .auto | .slotA | .slotB => true | _ => false

/-- The loader (R85): what is staged or streamed is discarded; a QSPI full load over a sealed image is kept, and starts
again at the release; without a seal the boot load starts again while a load is pending (R80). What is known of the slots holds.
Log entry 13, DEDUCED. -/
def ctlImg (s : State) : ImgLd :=
  let i := s.img
  let keep := isSealed s && s.sealed.loadPend
  { ({} : ImgLd) with
    op := if keep then i.op else .none, phase := if keep then .reading else .idle, erasedA := i.erasedA
    erasedB := i.erasedB, checkedA := i.checkedA, checkedB := i.checkedB, bootDue := !isSealed s && loadPends i }

/-- Timed events of the control domain. -/
def ctlTimer (e : Instr) : Bool :=
  match e with
  | .logCommitStart => true
  | .logBlockErase => true
  | .logScan => true
  | .blotterTest => true
  | .nvlTimeTick => true
  | .thermalTick => true
  | .hotJoinRequest => true
  | .vselAccept _ _ => true
  | .bootLoad => true
  | .nlPeerTimeout _ => true
  | .macerationEnd _ => true
  | .controlDomainRelease => true
  | _ => false

/-- Every field of the control domain takes its Reset value (R14, R29, R336); page 0x06 stands apart (R374). A self-test that runs
ends with it, and its outputs are free (R90, R180).
Log entry 24, DEDUCED. Log entry 47, DEDUCED. -/
def ctlFields (s : State) : State :=
  let s := ctlDisc (forEach (allFin 24) ctlSound (disarm ctlTimer s))
  { s with
    chans := mapTab (fun _ => bistFree) s.chans
    rails := mapTab (fun _ => ctlRail) s.rails
    banks := mapTab (fun _ => ctlBank) s.banks
    resp := respKept s
    ports := mapTab (fun _ => ctlPort) s.ports
    hadc := ctlHadc s
    thm := ctlThm s.thm
    glb := { s.glb with accErr := false, sealWr := false, clrRej := false }
    pwr := { s.pwr with cmdRej := false, runTo := false, retLost := false, stbyAbt := false, rejCnt := 0, wakeTime := 0
                        pllTry := 0, dllTry := 0, wdRun := false }
    nvl := ctlNvl s.nvl
    nrd := {}
    hif := ctlHif s.hif
    nl := ctlNl s.nl
    img := ctlImg s
    sealed := { s.sealed with loadPend := isSealed s && s.sealed.loadPend && (ctlImg s).phase == .reading }
    tap := { s.tap with ir := .bypass, result := 0 } }

/-! ## The island -/

/-- The comparator levels at a channel's pins outlast a reset of its registers. Log entry 28, DEDUCED. -/
def rawChan (k : Chan) : Chan := { ({} : Chan) with rawTrip := k.rawTrip, cs := k.cs }

/-- The epoch counts on until the release sets it to 0 (R99); BTSFRAW follows its pin (R14), the BREF window comparator is off
without an accord (R437). Log entry 28, DEDUCED. -/
def rawBank (k : Bank) : Bank := { ({} : Bank) with epoch := k.epoch, btsfRaw := k.btsfRaw }

/-- The regulation island takes its Reset values and the seal is released (R29, R78): no image, every channel without an
accord, every Sillage buffer armed and empty, the fatal hold ended, bandgap A without exclusions, the log queue empty.
Log entry 13, DEDUCED. Log entry 16, DEDUCED. -/
def islandReset (s : State) : State :=
  { s with
    chans := mapTab (fun _ => rawChan) s.chans
    banks := mapTab (fun _ => rawBank) s.banks
    rails := mapTab (fun _ => unsealRail) s.rails
    ports := mapTab (fun _ p => { p with budget := 0, vselPend := false, hold := [], alert := false }) s.ports
    hadc := {}, thm := {}, nvl := {}, irqEn := 0, glb := { ballP := s.glb.ballP, ballN := s.glb.ballN }, nl := {}, sealed := {}
    img := { s.img with op := .none, phase := .idle, bootDue := true }
    agenda := [] }

/-- The reset of both domains that RESET_N and OFF entry give (R29, R330, R374): the trace FIFOs hold (R419), the TAP is
in Test-Logic-Reset (R379); the pad latches hold the safe levels for a moment (R333); the VDDIO groups keep the level they
detected while VDD stays ready (R436). -/
def coreReset (s : State) : State :=
  let t := pinInputs (tmrReset (islandReset (ctlFields s)))
  padHold s { t with
    tap := { t.tap with ir := .idcode, halted := false }
    pwr := { ({} : Power) with
      dev := t.pwr.dev, vddBo := t.pwr.vddBo, vddaBo := t.pwr.vddaBo, io := t.pwr.io, ioUp := t.pwr.ioUp } }

/-- The straps are read (R386). Log entry 19, DEDUCED. -/
def strapRead (s : State) : State :=
  { s with hif := { s.hif with strapValid := true, lvl0 := Config.strap0, lvl1 := Config.strap1 } }

/-- Power-on reset (R29, R331, R336): the state after reset; time, the open values drawn, the flash, the one-time controls,
the levels at the comparators', the pair's and the timers' pins, the supplies of the VDDIO groups and the commands that wait are no part of it. The straps are
read at its release (R386). Log entry 13, DEDUCED. Log entry 19, DEDUCED. Log entry 28, DEDUCED. -/
def powerOn (s : State) : State :=
  let t := strapRead <| padHold s { State.reset with
    glb := { ballP := s.glb.ballP, ballN := s.glb.ballN }
    pending := s.pending, now := s.now, free := s.free, flash := s.flash, otp := s.otp, pins := s.pins
    pwr := { State.reset.pwr with ioUp := s.pwr.ioUp }
    chans := mapTab (fun _ k => { ({} : Chan) with rawTrip := k.rawTrip }) s.chans
    banks := mapTab (fun _ k => { ({} : Bank) with btsfRaw := k.btsfRaw }) s.banks
    rails := mapTab (fun _ => unsealRail) s.rails
    tmr := (tmrReset { s with sealed := {} }).tmr }
  { t with hif := { t.hif with kaAddr := BitVec.ofNat 7 (strapAddr t) } }

/-! ## The start of the control domain -/

/-- One in-band interrupt request for each group with a routed PEND bit at 1, behind those outstanding (R314, R395).
Log entry 23, PRESUMED. -/
def ibiAgain (s : State) : State :=
  if (hostif s).ibiEn then
    { s with hif := { s.hif with ibi := (s.hif.ibi ++ ((pendList s).filter (routeIbi s)).map srcGroup).eraseDups } }
  else s

/-- The averaged results of the schedule in force start to fill (R255, R274). -/
def hadcBegin (s : State) : State :=
  { s with hadc := { s.hadc with
    res := (List.range 96).map fun i => match s.sealed.img with | some im => resFresh (imgAvg im i) | none => {} } }

/-- The control domain starts, at READY entry and at its release (R32, R324, R341): the watchdog from its full timeout,
the log scan, the evaluation ticks, NVL_TIME, the Blotter's period, Hot-Join, the load that is due.
Log entry 14, DEDUCED. -/
def ctlStart (s : State) : State :=
  let s := vselAgain (hadcBegin (readGens (wdogStart s)))
  let s := rearm 0 .logScan s
  let s := rearm evalTicks .thermalTick s
  let s := rearm secTicks .nvlTimeTick { s with nvl := { s.nvl with secAt := s.now } }
  let s := rearm (bperiodTicks s.nvl.bperiod) .blotterTest s
  let s := if (hostif s).hotjoin then rearm (s.pwr.ifFrom - s.now) .hotJoinRequest s else s
  ibiAgain (if s.img.bootDue then rearm 0 .bootLoad s else s)

/-- A control-domain reset (R29 to R32): without a seal the island resets too (R29). A GOTO STANDBY that runs is abandoned
(R337). The domain is held for 64 core cycles; its interfaces answer 40 µs after the reset (R32, R379). Log entry 16, DEDUCED.
Log entry 39, DEDUCED. -/
def ctlReset (kind : BitVec 3) (s : State) : State :=
  let abandon := s.pwr.tgt == some .standby
  let dev := s.pwr.dev
  let open' := !isSealed s
  let s := tmrReset (ctlFields s)
  let due := s.img.bootDue
  let s := if open' then { islandReset s with img := { s.img with bootDue := due } } else s
  let s := { s with pwr := { s.pwr with
    dev := if open' then .ready else dev, tgt := if abandon then none else s.pwr.tgt, refReg := s.pwr.refReg && !open'
    stbyAbt := abandon, ctlHeld := true, rstKind := kind } }
  arm 128 .controlDomainRelease { s with pwr := { s.pwr with ifFrom := s.now + 40 * usTicks } }

/-- The epoch counters start at 0 (R99). -/
def epochZero (s : State) : State := { s with banks := mapTab (fun _ k => { k with epoch := 0 }) s.banks }

/-- The control domain is released (R32, R99, R273, R336): a READY→RUN discovery starts again; RSTCAUSE names the reset; without a seal the island is released with it.
Log entry 39, DEDUCED. -/
def ctlRelease (s : State) : State :=
  if s.pwr.ctlHeld then
    let s := if isSealed s then s else epochZero s
    let s := if s.hadc.mon.discRun then discBegin s else s
    ctlStart { s with pwr := { s.pwr with ctlHeld := false }, ka := { s.ka with rstCause := s.pwr.rstKind } }
  else s

end Sys2Proof.Machine
end

