-- ==== Sys2Proof/Machine/Power.lean ====
section
/-! DEFINITION. Power states (R318 to R330): state commands, the wake, entry to READY, RUN, STANDBY and OFF, RESET_N and
WAKE, the keep-alive responder, the clock and supply monitors, the release of the fatal hold (R298), the scrubber
(R296). -/

namespace Sys2Proof.Machine

/-! ## The wake (R324, R325) -/

/-- Timed events of a wake. -/
def wakeTimer (e : Instr) : Bool :=
  match e with
  | .supplyTimeout => true
  | .referenceQualTimeout => true
  | .pllAttemptTimeout => true
  | .dllAttemptTimeout => true
  | _ => false

/-- A wake begins at its wake edge: the domain switches close (R324, R325). Log entry 19, DEDUCED. -/
def wakeStart (src : BitVec 2) (s : State) : State :=
  let s := if s.hif.strapValid then s else strapRead s
  let s := { s with
    pwr := { s.pwr with tgt := some .ready, wake := .supplies, recov := false, wakeAt := s.now
                        refRc := false, pllTry := 0, dllTry := 0 }
    ka := { s.ka with wakeSrc := src, rstCause := if s.ka.offEntry then 5 else s.ka.rstCause, offEntry := false
                      was := some (s.ka.wakeSrc, s.ka.rstCause, s.ka.offEntry) } }
  rearm (2000 * usTicks) .supplyTimeout s

/-- A wake that fails ends in STANDBY; the seal and the retention array stay as they were (R325).
Log entry 17, DEDUCED. -/
def wakeFail (s : State) : State :=
  let s := disarm wakeTimer s
  let adr := if s.pwr.dev == .standby then s.hif.kaAddr else BitVec.ofNat 7 (strapAddr s)
  { s with
    pwr := { s.pwr with dev := .standby, tgt := none, wake := .none, recov := false, pllLk := false, dllLk := false
                        vddBo := false, vddaBo := false, io := List.replicate 4 none }
    hif := { s.hif with kaAddr := adr } }

/-- The supplies are ready: each VDDIO group sets its buffers to the level it detects (R436), for 1.8 V when it is absent (R451),
the reference is qualified next. Log entry 19, DEDUCED. -/
def wakeSupplies (s : State) : State :=
  if s.pwr.wake = .supplies then
    rearm (5000 * usTicks) .referenceQualTimeout
      (disarm wakeTimer { s with pwr := { s.pwr with
        wake := .refQual, io := (List.range 4).map fun g => some (groupUp s g && Config.vddio33 g) } })
  else s

/-- The supplies were not ready in 2.0 ms: SUPTO. -/
def wakeSupFail (s : State) : State :=
  if s.pwr.wake = .supplies then wakeFail { s with ka := { s.ka with supTo := true } } else s

/-- A PLL attempt starts. -/
def pllStart (s : State) : State :=
  rearm (200 * usTicks) .pllAttemptTimeout
    (disarm wakeTimer { s with pwr := { s.pwr with wake := .pll, pllTry := s.pwr.pllTry + 1 } })

/-- A DLL attempt starts. -/
def dllStart (s : State) : State :=
  rearm (100 * usTicks) .dllAttemptTimeout
    (disarm wakeTimer { s with pwr := { s.pwr with wake := .dll, dllTry := s.pwr.dllTry + 1 } })

/-- The reference is qualified, or it is not and gives way to the RC. Log entry 11, DESIGN CHOICE. -/
def wakeRef (rc : Bool) (s : State) : State :=
  if s.pwr.wake = .refQual then pllStart { s with pwr := { s.pwr with refRc := rc } } else s

/-- The core PLL locks in a wake. Log entry 11, DESIGN CHOICE. -/
def wakePll (s : State) : State :=
  if s.pwr.wake = .pll then dllStart { s with pwr := { s.pwr with pllLk := true } } else s

/-- A PLL attempt ends without lock: 4 attempts on each reference (R325). -/
def wakePllFail (s : State) : State :=
  if s.pwr.wake ≠ .pll then s
  else
    let n := s.pwr.pllTry
    if !s.pwr.refRc then
      if n < 4 then pllStart s else pllStart { s with pwr := { s.pwr with refRc := true } }
    else if n = 4 ∨ 8 ≤ n then wakeFail { s with ka := { s.ka with pllTo := true } }
    else pllStart s

/-- A DLL attempt ends without lock: 4 attempts (R325). -/
def wakeDllFail (s : State) : State :=
  if s.pwr.wake ≠ .dll then s
  else if s.pwr.dllTry < 4 then dllStart s
  else wakeFail { s with ka := { s.ka with dllTo := true } }

/-! ## Entry to READY -/

/-- The output of a channel when the pad latches open: off level, safe level, or the weak bias (R90, R318). -/
def padOut (k : Chan) : Chan :=
  { k with out := match k.st with | .noAccord => .weak | .safe => .safe | _ => .off }

/-- Current-limit comparators and BTSF lines that stand asserted trip (R108, R111). -/
def rawAll (s : State) : State :=
  if isSealed s then forEach (configured s) (fun rc s => rawTrips rc.2 s) (rawBtsf (List.range 24) s) else s

/-- A brown-out that still stands at the entry to READY is detected there (R299, R319). -/
def brownoutStands (s : State) : State :=
  let s := if s.pwr.vddBo then fatalRaise 4 (fun g => { g with vddBo := true }) s else s
  if s.pwr.vddaBo then fatalRaise 5 (fun g => { g with vddaBo := true }) s else s

/-- READY is entered (R324 step 7, R325): WAKETIME in microseconds, rounded (R455), REFFB when the reference ended on the RC. A
comparator or a detector that already stands asserted acts (R108, R111, R299). -/
def enterReady (s : State) : State :=
  let us := (s.now - s.pwr.wakeAt + usTicks / 2) / usTicks
  let s := slowLeave (disarm wakeTimer s)
  let s := { s with
    pwr := { s.pwr with dev := .ready, tgt := none, wake := .none, recov := false, wakeTime := narrowU16 us
                        refReg := s.pwr.refRc, retained := false }
    glb := { s.glb with refFb := s.glb.refFb || s.pwr.refRc }
    chans := mapTab (fun _ => padOut) s.chans }
  brownoutStands (rawAll (ctlStart (if (nelinkCfg s).isSome then nlListen s else s)))

/-- The DLL locks in a wake: the epochs count from 0 (R99); what the retention array holds is restored first. -/
def wakeDll (s : State) : State :=
  if s.pwr.wake ≠ .dll then s
  else
    let s := disarm wakeTimer (epochZero { s with pwr := { s.pwr with dllLk := true } })
    if s.pwr.retained then { s with pwr := { s.pwr with wake := .restore } } else enterReady s

/-- The retention array has been read (R324, R325): an uncorrectable error discards it, as RESET_N would, and sets
RETLOST; without an image the timers have no pins (R359). -/
def wakeRestore (ok : Bool) (s : State) : State :=
  if s.pwr.wake ≠ .restore then s
  else if ok then enterReady s
  else
    let s := pinInputs (islandReset s)
    enterReady { s with pwr := { s.pwr with retLost := true, retained := false } }

/-! ## State commands (R320) -/

/-- Idle (R320): the loader is idle, and no log commit, flash program or erase is in progress. -/
def pwrIdle (s : State) : Bool := s.img.phase == .idle && !s.nvl.busy

/-- The rail's START took effect in the present core cycle (R337). Log entry 8, DESIGN CHOICE. -/
def startedNow (s : State) (x : Rail) : Bool := match x.seq.mcsWait with | some t => t / 2 == cycle s | none => false

/-- A START of the core cycle of a GOTO READY is refused: READY is entered first (R220, R337). Log entry 8, DESIGN CHOICE. -/
def startUndo (s : State) : State :=
  forEach (configured s) (fun rc s =>
    if startedNow s s.rails[rc.1] && !latched s.rails[rc.1] then
      onRail rc.1 seqRefuse (stopCarriers rc.1 rc.2 (railHalt rc.1 s))
    else s) s

/-- The table of R320; `g` is the GOTO code. A GOTO OFF in the core cycle of a class F trip is refused (R337).
Log entry 8, DESIGN CHOICE. -/
def gotoLegal (s : State) (g : Nat) : Bool :=
  if s.pwr.tgt.isSome then false
  else match s.pwr.dev with
    | .off => g == 1 || g == 2
    | .standby => g == 0 || g == 2
    | .ready => match g with
      | 0 => pwrIdle s
      | 1 => pwrIdle s
      | 3 => isSealed s
      | _ => false
    | .run => g == 2 && s.rails.toList.all fun x => isStopped x || latched x || startedNow s x
    | .safe => g == 0 && s.glb.fatalOcc != some (cycle s)

/-- OFF is entered (R330, R336): every effect of RESET_N; PWR_KA takes its Reset values; the straps are read (R386).
Log entry 19, DEDUCED. -/
def enterOff (s : State) : State :=
  let l := s.nl.txq.filter fun f => f.ty == 5
  let s := strapRead (coreReset s)
  { s with
    nl := { s.nl with txq := l }
    pwr := { ({} : Power) with dev := .off, padsUntil := s.pwr.padsUntil, ioUp := s.pwr.ioUp }
    ka := { offEntry := true }
    hif := { s.hif with kaAddr := BitVec.ofNat 7 (strapAddr s) } }

/-- A legal GOTO OFF from a running state (R330): the neighbours are told by a LEAVE (R410), the core reset and OFF follow at the
next core clock edge; a class F trip of this core cycle comes first (R337). Log entry 38, DEDUCED. Log entry 58, DESIGN CHOICE. -/
def offStart (s : State) : State := nlSend 5 0 { s with pwr := { s.pwr with tgt := some .off, goAt := some (cycle s) } }

/-- A core clock edge behind the GOTO OFF: OFF is entered (R330). Log entry 58, DESIGN CHOICE. -/
def offEnter (s : State) : State :=
  if s.pwr.tgt == some .off && s.pwr.goAt.any (· < cycle s) then enterOff s else s

/-- A legal GOTO STANDBY from READY (R329): the save begins, the neighbours are told by a LEAVE (R407). The watchdog runs
until the save is complete: its reset abandons the command (R337). -/
def leaveReady (s : State) : State :=
  nlSend 5 0 { s with pwr := { s.pwr with tgt := some .standby, goAt := some (cycle s) } }

/-- STANDBY from OFF: the slow clock starts, nothing is retained. Log entry 19, DEDUCED. -/
def offStandby (s : State) : State :=
  let s := if s.hif.strapValid then s else strapRead s
  { s with pwr := { s.pwr with dev := .standby, retained := false }
           hif := { s.hif with kaAddr := BitVec.ofNat 7 (strapAddr s) } }

/-- A discovery of READY→RUN begins (R327). -/
def runDiscover (s : State) : State :=
  discBegin { s with
    pwr := { s.pwr with runWait := false }
    hadc := { s.hadc with mon := { s.hadc.mon with discRun := true, discForRun := true, discMask := 0xFFFFFF, doneMask := 0 } } }

/-- A legal GOTO RUN (R327): it waits up to 10 ms for the temperature band. -/
def runStart (s : State) : State :=
  let s := { s with pwr := { s.pwr with tgt := some .run } }
  if s.thm.bandSel then runDiscover s
  else rearm (10000 * usTicks) .runTimeout { s with pwr := { s.pwr with runWait := true } }

/-- The band has been selected while GOTO RUN waits for it. -/
def runBand (s : State) : State :=
  if s.pwr.runWait && s.thm.bandSel && s.thm.tjValid then disarm (· == .runTimeout) (runDiscover s) else s

/-- No valid Tj 10 ms after GOTO RUN: RUNTO (R327). -/
def runExpire (s : State) : State :=
  if s.pwr.runWait then
    { s with pwr := { s.pwr with tgt := none, runWait := false, runTo := true } }
  else s

/-- RUN is entered once its discovery has completed; the device window starts (R256, R327). -/
def enterRun (s : State) : State :=
  macerDev { s with pwr := { s.pwr with dev := .run, tgt := none } }

/-- Results of a discovery: they complete banks, and once every channel it probes has been measured, the discovery
(R272, R327). -/
def discEnd (probes : List (ChanId × Probe)) (s : State) : State :=
  if !s.hadc.mon.discRun then s
  else if discReady s then
    let forRun := s.hadc.mon.discForRun
    let s := discFinish probes s
    if forRun && s.pwr.tgt == some .run then enterRun s else s
  else discPart probes s

/-- A legal state command takes effect; `src` is the source of a wake. Log entry 58, DESIGN CHOICE. -/
def gotoDo (src : BitVec 2) (g : Nat) (s : State) : State :=
  match g with
  | 0 => if islandUp s then offStart s else enterOff s
  | 1 => if s.pwr.dev = .off then offStandby s else leaveReady s
  | 2 => if s.pwr.dev = .run then startUndo { s with pwr := { s.pwr with dev := .ready } } else wakeStart src s
  | _ => runStart s

/-- A state command through PWR_CMD; a GOTO above 0b011 is ignored. -/
def pwrGoto (g : Nat) (s : State) : State :=
  if 3 < g then s else if gotoLegal s g then gotoDo 0 g s else pwrReject s

/-- A write to PWR_CMD (R338). -/
def pwrCmdWrite (w : Word) (s : State) : State := if bits w 24 8 = 0xA5 then pwrGoto (bits w 0 3) s else s

/-- The keep-alive responder serves OFF, STANDBY and a wake (R322), while the VDDIO group of HSCL and HSDA is powered (R321). -/
def kaServes (s : State) : Bool := groupUp s 3 && match s.pwr.dev with | .off => true | .standby => true | _ => false

/-- A WAKE edge of this moment gives way to a responder command: its wake is taken back (R337).
Log entry 8, DESIGN CHOICE. -/
def wakeYield (s : State) : State :=
  match s.ka.was with
  | some (src, cause, entry) =>
    if s.pwr.tgt.isSome && s.pwr.wake == .supplies && s.ka.wakeSrc == 1 && s.pwr.wakeAt / 2 == cycle s then
      disarm wakeTimer { s with
        pwr := { s.pwr with tgt := none, wake := .none }
        ka := { s.ka with wakeSrc := src, rstCause := cause, offEntry := entry, was := none } }
    else s
  | none => s

/-- A command taken in the present core cycle. -/
def tookGo (n : Nat) (s : State) : State := { s with pwr := { s.pwr with goAt := some n } }

/-- A state command of the responder: a legal one takes effect; a refusal NACKs the data byte and sets KAREJ (R320). Either way it has
been taken, and a WAKE edge of its core cycle is ignored (R337). -/
def kaTake (g : Nat) (s : State) : State :=
  tookGo (cycle s) (if gotoLegal s g then reply .ack (gotoDo 2 g s) else reply .nack { s with ka := { s.ka with kaRej := true } })

/-- A state command through the responder (R320, R337). Log entry 18, DEDUCED. -/
def kaGoto (g : Nat) (s : State) : State := if 3 < g then reply .ack s else kaTake g (wakeYield s)

/-- Write Byte 0xD1 to the responder (R322): nonzero bits 7:3 NACK the byte. -/
def kaStateWrite (d : Byte) (pec : Pec) (s : State) : State :=
  if pec = .bad ∨ 8 ≤ d.toNat then reply .nack s else kaGoto (d.toNat % 8) s

/-- GOTO by whatever path the device state leaves open: the responder, else PWR_CMD. -/
def gotoAny (g : Nat) (s : State) : State := if kaServes s then kaGoto g s else if hostUp s then pwrGoto g s else s

/-- A step instant of a budget or of throttling. -/
def gridEvent : Instr → Bool
  | .budgetStep _ => true
  | .throttleStep _ => true
  | _ => false

/-- STANDBY is entered (R329, R336): the retention array holds the registers marked Island, the seal and the image, if there is
one; control-domain registers and the Sillage buffers are not retained; the step grids of budgets and throttling run on (R290).
Without an image the next wake runs the boot load.
Log entry 28, DEDUCED. Log entry 39, DEDUCED. -/
def enterStandby (s : State) : State :=
  if s.pwr.tgt ≠ some .standby then s
  else
    let adr := BitVec.ofNat 7 (smbAddr s)
    let keep := isSealed s
    let s := ctlFields s
    let s := if keep then s else { s with img := { s.img with op := .none, phase := .idle, bootDue := true } }
    { s with
      pwr := { s.pwr with dev := .standby, tgt := none, retained := true, pllLk := false, dllLk := false
                          vddBo := false, vddaBo := false, io := List.replicate 4 none }
      hif := { s.hif with kaAddr := adr }
      tap := { s.tap with ir := .idcode, halted := false }
      rails := mapTab (fun _ x => { x with sil := {} }) s.rails
      banks := mapTab (fun _ k => { k with brefWin := false, brefMark := false }) s.banks
      chans := mapTab (fun _ k => { k with out := .weak }) s.chans
      agenda := s.agenda.filter fun d => gridEvent d.ev }

/-! ## RESET_N and WAKE (R323, R332) -/

/-- The retention array is discarded; the device is or stays in STANDBY (R332). -/
def dropRetained (s : State) : State :=
  let s := wakeFail (coreReset s)
  { s with ka := { s.ka with rstCause := 2, offEntry := false } }

/-- RESET_N with the core powered: the recovery runs steps 3 to 7 of R324 from the release, `low` ticks from now.
Log entry 17, DEDUCED. -/
def resetCore (low : Nat) (s : State) : State :=
  let s := coreReset s
  let s := { s with
    pwr := { s.pwr with dev := .off, tgt := some .ready, wake := .refQual, recov := true, wakeAt := s.now + low }
    ka := { s.ka with rstCause := 2, wakeSrc := 3 } }
  rearm (low + 5000 * usTicks) .referenceQualTimeout s

/-- A RESET_N pulse that acts. Log entry 17, DEDUCED. -/
def resetAct (low : Nat) (s : State) : State :=
  if s.pwr.recov then resetCore low s
  else if s.pwr.wake ≠ .none then dropRetained s
  else match s.pwr.dev with
    | .off => s
    | .standby => dropRetained s
    | _ => resetCore low s

/-- A low pulse of `ns` on RESET_N (R332): one of 50 ns to 200 ns acts in full or not at all.
Log entry 12, DESIGN CHOICE. Log entry 48, DESIGN CHOICE. -/
def resetPulse (ns : Nat) (s : State) : State :=
  if ns < 50 then s
  else if 200 ≤ ns then resetAct (ns * 4 / 5) s
  else
    let act := Config.resetPulseActs s.free
    let s := { s with free := s.free + 1 }
    if act then resetAct (ns * 4 / 5) s else s

/-- WAKE may act (R323): in STANDBY only with an exclusive claim of claimant 0x0A on the pin (class 0x05, R67), or without a
retained image; a responder command of the same cycle goes before it (R337). Log entry 8, DESIGN CHOICE. -/
def wakeAllowed (s : State) : Bool :=
  s.pwr.goAt != some (cycle s) && match s.pwr.dev with
  | .off => s.pwr.tgt.isNone
  | .standby => s.pwr.tgt.isNone && (!isSealed s || (pinClaims s).any fun p =>
      p.rclass == 2 && p.rindex == 0x500 && p.claimant == 0x0A && !p.observe)
  | _ => false

/-- A high pulse of `ns` on WAKE (R323). Log entry 12, DESIGN CHOICE. Log entry 48, DESIGN CHOICE. -/
def wakePulse (ns : Nat) (s : State) : State :=
  if ns < 200 then s
  else if 1000 ≤ ns then if wakeAllowed s then wakeStart 1 s else s
  else
    let act := Config.wakePulseActs s.free
    let s := { s with free := s.free + 1 }
    if act && wakeAllowed s then wakeStart 1 s else s

/-! ## Soft reset and watchdog (R334, R335) -/

/-- A host soft reset. -/
def softReset (s : State) : State := if hostUp s then ctlReset 3 s else s

/-- A write to PWR_RST requests the reset; the end of the transfer that carries it asserts it. -/
def pwrRstWrite (w : Word) (s : State) : State :=
  if bits w 24 8 = 0xA5 ∧ bitw w 0 ∧ hostUp s then { s with pwr := { s.pwr with softReq := true } } else s

/-- A transfer ends: the STOP condition, or the end of an I3C write (R334). -/
def xferEnd (s : State) : State :=
  if s.pwr.softReq then ctlReset 3 { s with pwr := { s.pwr with softReq := false } } else s

/-- The watchdog has expired: the reset, and WDRST. -/
def wdogExpire (s : State) : State :=
  if s.pwr.wdRun && s.pwr.wdog == 0 && !s.pwr.ctlHeld then
    let s := ctlReset 4 s
    { s with glb := { s.glb with wdRst := true } }
  else s

/-- KICK restarts the count while it runs. -/
def wdogKick (s : State) : State := if s.pwr.wdRun then wdogStart s else s

/-- A write to PWR_WDOG. -/
def pwrWdogWrite (w : Word) (s : State) : State := if bits w 24 8 = 0xA5 ∧ bitw w 23 then wdogKick s else s

/-! ## Clock and supply monitors (R28, R116, R331) -/

/-- The supplies have been reported ready and the switches are closed: the brown-out detectors are armed (R331). -/
def boArmed (s : State) : Bool := islandUp s || (s.pwr.wake != .none && s.pwr.wake != .supplies)

/-- The VDD brown-out detector. Log entry 12, DESIGN CHOICE. -/
def vddStep (up : Bool) (s : State) : State :=
  if !boArmed s then s
  else
    let rise := up && !s.pwr.vddBo
    let s := { s with pwr := { s.pwr with vddBo := up } }
    if rise then fatalRaise 4 (fun g => { g with vddBo := true }) s else s

/-- The VDDA brown-out detector. Log entry 12, DESIGN CHOICE. -/
def vddaStep (up : Bool) (s : State) : State :=
  if !boArmed s then s
  else
    let rise := up && !s.pwr.vddaBo
    let s := { s with pwr := { s.pwr with vddaBo := up } }
    if rise then fatalRaise 5 (fun g => { g with vddaBo := true }) s else s

/-- The monitor of the DPWM clock (R116). Log entry 12, DESIGN CHOICE. -/
def dpwmStep (lost : Bool) (s : State) : State :=
  if !islandUp s then s
  else
    let rise := lost && !s.pwr.dpwmBad
    let s := { s with pwr := { s.pwr with dpwmBad := lost } }
    if rise then fatalRaise 3 (fun g => { g with dpwmClk := true }) s else s

/-- The core PLL loses lock (R28). -/
def pllDrop (s : State) : State :=
  if islandUp s then
    fatalRaise 1 (fun g => { g with pllLock := true }) { s with pwr := { s.pwr with pllLk := false } }
  else s

/-- The DLL loses lock (R28). -/
def dllDrop (s : State) : State :=
  if islandUp s then
    fatalRaise 2 (fun g => { g with dllLock := true }) { s with pwr := { s.pwr with dllLk := false } }
  else s

/-- The PLL locks: a step of a wake, or lock regained while the fatal hold lasts (R298). -/
def pllGain (s : State) : State :=
  if islandUp s then { s with pwr := { s.pwr with pllLk := true } } else wakePll s

/-- The DLL locks. -/
def dllGain (s : State) : State :=
  if islandUp s then { s with pwr := { s.pwr with dllLk := true } } else wakeDll s

/-- The reference is lost: the PLL moves to the RC without loss of lock (R28). -/
def refLost (s : State) : State :=
  if islandUp s && !s.pwr.refRc then
    { s with pwr := { s.pwr with refRc := true, refReg := true }, glb := { s.glb with refFb := true } }
  else s

/-- The slow clock is lost (R28, R373). -/
def slowClkLost (s : State) : State :=
  slowLost (if islandUp s then { s with glb := { s.glb with slowClk := true } } else s)

/-! ## The release of the fatal hold (R298) -/

/-- Every condition of R298 holds, whichever source raised the hold (log entry 42, DEDUCED); CFGUNC is never released here. -/
def fatalClearable (s : State) : Bool :=
  let p := s.pwr
  p.pllLk && p.dllLk && !p.dpwmBad && !p.vddBo && !p.vddaBo && !s.glb.cfgBad
    && s.thm.tjValid && (s.thm.sens.take 8).all fun k => !k.valid || decide (k.temp < 1120)

/-- The hold ends: the channels of every stopped rail take off level, the device enters READY; comparators that still stand
asserted trip (R108). -/
def fatalRelease (s : State) : State :=
  let g := s.glb
  let s := { s with
    glb := { g with latched := false, cause := 0, fatalAt := none, fatalOcc := none
                    clrAt := some (cycle s), clrCause := g.cause }
    pwr := { s.pwr with dev := .ready, tgt := none } }
  rawAll (forEach (configured s) (fun rc s => if latched s.rails[rc.1] then s else freeChans rc.1 rc.2 s) s)

/-- A write to GLB_FATAL (R298, R314, R315). A release asked for without a hold has no effect.
Log entry 8, DESIGN CHOICE. Log entry 29, DEDUCED. -/
def fatalWrite (w : Word) (s : State) : State :=
  let s := if bitw w 21 then { s with glb := { s.glb with clrRej := false } } else s
  if bits w 24 8 = 0xA5 ∧ bitw w 22 ∧ s.glb.latched then
    if fatalClearable s && s.glb.fatalOcc != some (cycle s) then fatalRelease s
    else { s with glb := { s.glb with clrRej := true } }
  else s

/-! ## The scrubber (R296) -/

/-- One error that a pass meets. -/
def scrubOne (e : ScrubErr) (s : State) : State :=
  let g := s.glb
  if !e.double then { s with glb := { g with cfgCor := true, corCnt := satInc 65535 g.corCnt } }
  else if e.inForce then
    let s := { s with glb := { g with cfgUnc := true, cfgBad := true, part := e.part } }
    fatalRaise 6 id s
  else s

/-- A pass over both copies, every 10 ms while the island runs. -/
def scrubPass (errs : List ScrubErr) (s : State) : State := if islandUp s then forEach errs scrubOne s else s

end Sys2Proof.Machine
end

