-- ==== Sys2Proof/Machine/Ports.lean ====
section
/-! DEFINITION. The load ports (R184 to R217): legality, VSEL, the VCMD-2, VCMD-1 and AVSBus frames at their apply points,
the responses and the ports' own status. -/

namespace Sys2Proof.Machine

/-- The port units answer (R32). -/
def portUp (s : State) : Bool := islandUp s && answers s && groupUp s 2

/-- The port speaks a protocol in the sealed image (R70). -/
def portSpeaks (s : State) (p : PortId) (pr : Proto) : Bool :=
  portUp s && match portCfg s p with | some pc => pc.proto == pr | none => false

/-- PORTS.STEP. -/
def portStep (s : State) (p : PortId) : Nat := match portCfg s p with | some pc => pc.step | none => 0

/-- The rail of a port-local index with its configuration; none when it is not owned (R184). -/
def ownedRail (s : State) (p : PortId) (i : Nat) : Option (RailId × RailCfg) :=
  match localRail s p i with
  | some r => (railCfg s r).map fun c => (r, c)
  | none => none

/-! ## Commands to a rail (R193, R194) -/

/-- SET_TARGET on a rail: its outcome at the apply point (R201, R215). -/
def setAck (s : State) (r : RailId) (t : Nat) (ovr : Bool) : Ack :=
  let x := s.rails[r]
  if railState x ≠ 2 then .rejectState
  else if raiseRefused s x t then .raiseFrozen
  else if ovr || hostNow s x then .hostOvr
  else .ok

/-- A port command writes TARGET. -/
def portTarget (r : RailId) (t : Nat) (s : State) : State := onRail r (putTarget 2 t) s

/-- A port command writes RAIL_SLEW; it loads at the next master carrier start. -/
def portSlew (r : RailId) (v : Nat) (s : State) : State :=
  onRail r (fun x => { x with pos := { x.pos with slew := BitVec.ofNat 9 v } }) s

/-- START: its outcome. -/
def startAck (s : State) (r : RailId) : Ack := if startOk s r then .ok else .rejectState

/-- STOP: its outcome. -/
def stopAck (s : State) (r : RailId) : Ack := if stopOk s r then .ok else .rejectState

/-! ## Status and counters (R217) -/

/-- A LINKERR with its cause. -/
def linkErr (cause : BitVec 2) (x : Port) : Port :=
  { x with linkErr := true, linkCause := cause, errCnt := satInc 255 x.errCnt }

/-- What an outcome leaves in the port's status. -/
def ackStatus (a : Ack) (code : Nat) (acc : Bool) (x : Port) : Port :=
  let x := { x with lastAck := BitVec.ofNat 4 code, accepted := if acc then (x.accepted + 1) % 65536 else x.accepted }
  match a with
  | .rejectState => { x with rej := true, rejCnt := satInc 255 x.rejCnt }
  | .raiseFrozen => { x with raiseFrz := true }
  | .hostOvr => { x with hostOvr := true }
  | .badCrc => linkErr 1 x
  | _ => x

/-- LINKCAUSE of a link error. -/
def causeCode : LinkCause → BitVec 2
  | .crc => 1 | .frame => 2 | .rate => 3

/-- A frame that gets no response. -/
def linkFail (p : PortId) (cause : LinkCause) (s : State) : State :=
  reply .none (onPort p (linkErr (causeCode cause)) s)

/-! ## VSEL (R196, R197) -/

/-- DPWM ticks between two accepted indices (R196). -/
def vselGap : Nat := 2 * usTicks

/-- An index waits for the 2.00 µs after the one accepted before. -/
def vselEarly (s : State) (p : PortId) : Bool :=
  match s.ports[p].vselAt with | some t => decide (s.now < t + vselGap) | none => false

/-- An index is accepted: every owned rail in TERMINAL_ON takes its entry; selections held under the index before are
dropped. -/
def vselTake (p : PortId) (j : Nat) (s : State) : State :=
  let rs := ownedRails s p
  let s := onPort p (fun x => { x with vselIdx := BitVec.ofNat 3 j, vselPend := false, vselAt := some s.now
                                       accepted := (x.accepted + 1) % 65536 }) s
  let s := forEach rs (fun r => onRail r fun x => { x with pos := { x.pos with vselHeld := none } }) s
  forEach rs (fun r s =>
    match vselTarget s r with
    | some (p, t) => if railState s.rails[r] = 2 then vselWrite r p t s else s
    | none => s) s

/-- The unit of a VSEL port will answer at the end of the interval of R32. -/
def vselSoon (s : State) (p : PortId) : Bool :=
  !s.pwr.ctlHeld && decide (s.now < s.pwr.ifFrom) && match portCfg s p with | some pc => pc.proto == .vsel | none => false

/-- An index has been stable for 1.00 µs: it is accepted, or waits for the spacing of R196, and a later one takes its place; a
unit that does not answer yet reads its index again once it does, that of its latest change (R32, R215). -/
def vselStep (p : PortId) (j : Fin 8) (s : State) : State :=
  if islandUp s then
    let s := disarm (vselTimer p) (onPort p (fun x => { x with vselPin := BitVec.ofNat 3 j.val }) s)
    if !portSpeaks s p .vsel then
      if vselSoon s p then arm (s.pwr.ifFrom - s.now + usTicks) (.vselAccept p j) s else s
    else if vselEarly s p then arm (s.ports[p].vselAt.getD 0 + vselGap - s.now) (.vselAccept p j) s
    else vselTake p j.val s
  else s

/-! ## Response slots (R198, R205, R217) -/

/-- A frame has come, answered or not: the port is busy to the end of its response slot, `n` ticks away (R198, R203, R205, R208).
Log entry 21, DESIGN CHOICE. -/
def slotRuns (n : Nat) (s : State) (x : Port) : Port := { x with busyTo := s.now + n, frames := x.frames + 1 }

/-! ## VCMD-2 (R199 to R203) -/

/-- The response and the status of a VCMD-2 frame. -/
def v2answer (p : PortId) (f : BitVec 32) (a : Ack) (data : Nat) (s : State) : State :=
  reply (.vcmd2 (v2resp a (v2seq f) data)) (onPort p (fun x => slotRuns (Config.slotTicks true) s (ackStatus a a.v2 (a == .ok) x)) s)

/-- READ item 0x3 (R202). -/
def v2state (s : State) (x : Rail) : Nat :=
  fld 0 3 (railState x) + bitf 3 (moving s x) + bitf 4 (raiseFrozen s) + bitf 5 (x.pos.src == 1)

/-- The owned-rail mask of a port. -/
def ownedMask (s : State) (p : PortId) : Nat :=
  ((List.range 8).map fun i => bitf i (localRail s p i).isSome).sum

/-- A READ item of a rail; none when it is refused. -/
def v2item (s : State) (p : PortId) (r : RailId) (item : Nat) : Option Nat :=
  let x := s.rails[r]
  match item with
  | 0 => some (targetCode (portStep s p) x.pos.target.toNat)
  | 1 => some (targetCode (portStep s p) (posNow s x / posUnit))
  | 2 => some x.pos.slew.toNat
  | 3 => some (v2state s x)
  | 4 => some (ownedMask s p)
  | _ => none

/-- READ: the item stands in bits 11:8 of the frame, the low four of DATA; the others are zero (R199, R202). -/
def v2read (p : PortId) (f : BitVec 32) (s : State) : State :=
  let d := v2data f
  if d % 16 = 4 then if d = 4 then v2answer p f .ok (ownedMask s p) s else v2answer p f .badData 0 s
  else match ownedRail s p (v2rail f) with
    | none => v2answer p f .badRail 0 s
    | some (r, _) =>
      if 16 ≤ d then v2answer p f .badData 0 s
      else match v2item s p r d with
        | none => v2answer p f .badData 0 s
        | some v => v2answer p f .ok v s

/-- A command of an owned rail (OP 0 to 3, 5), the data already known to fit its field. -/
def v2rail' (p : PortId) (f : BitVec 32) (ovr : Bool) (r : RailId) (c : RailCfg) (s : State) : State :=
  let d := v2data f
  match v2op f with
  | 0 => match legalTarget c (portStep s p) d with
    | none => v2answer p f .badData 0 s
    | some t =>
      let a := setAck s r t ovr
      v2answer p f a 0 (if a = .ok then portTarget r t s else s)
  | 1 => if 1 ≤ d ∧ d ≤ 320 then v2answer p f .ok 0 (portSlew r d s) else v2answer p f .badData 0 s
  | 2 => if d ≠ 0 then v2answer p f .badData 0 s
    else
      let a := startAck s r
      v2answer p f a 0 (if a = .ok then startRail r c s else s)
  | 3 => if d ≠ 0 then v2answer p f .badData 0 s
    else
      let a := stopAck s r
      v2answer p f a 0 (if a = .ok then stopRail r c s else s)
  | _ => v2answer p f (if d = 0 then .ok else .badData) 0 s

/-- A VCMD-2 frame at its apply point (R199 to R203): START bits, CRC, OP, rail, data, in the order of R201. -/
def v2frame (p : PortId) (f : BitVec 32) (ovr : Bool) (s : State) : State :=
  if !portSpeaks s p .vcmd2 || !f.getLsbD 31 then reply .none s
  else if f.getLsbD 30 then linkFail p .frame (onPort p (slotRuns (Config.slotTicks true) s) s)
  else if !v2crcOk f then v2answer p f .badCrc 0 s
  else if 6 ≤ v2op f then v2answer p f .badOp 0 s
  else if v2op f = 4 then v2read p f s
  else match ownedRail s p (v2rail f) with
    | none => v2answer p f .badRail 0 s
    | some (r, c) => v2rail' p f ovr r c s

/-! ## VCMD-1 (R205 to R207) -/

/-- The response and the status of a VCMD-1 frame. -/
def v1answer (p : PortId) (a : Ack) (data : Nat) (s : State) : State :=
  reply (.vcmd1 (v1resp a data)) (onPort p (fun x => slotRuns (Config.slotTicks false) s (ackStatus a a.v1 (a == .ok) x)) s)

/-- A command of an owned rail. -/
def v1rail' (p : PortId) (f : BitVec 16) (ovr : Bool) (r : RailId) (c : RailCfg) (s : State) : State :=
  let d := v1data f
  match v1op f with
  | 0 => match legalTarget c (portStep s p) d with
    | none => v1answer p .badData 0 s
    | some t =>
      let a := setAck s r t ovr
      v1answer p a 0 (if a = .ok then portTarget r t s else s)
  | 1 => if 1 ≤ d ∧ d ≤ 160 then v1answer p .ok 0 (portSlew r (2 * d) s) else v1answer p .badData 0 s
  | 2 => if d ≠ 0 then v1answer p .badData 0 s
    else v1answer p .ok (targetCode (portStep s p) s.rails[r].pos.target.toNat) s
  | _ =>
    if d = 1 then
      let a := startAck s r
      v1answer p a 0 (if a = .ok then startRail r c s else s)
    else if d = 0 then
      let a := stopAck s r
      v1answer p a 0 (if a = .ok then stopRail r c s else s)
    else v1answer p .badData 0 s

/-- A VCMD-1 frame at its apply point. -/
def v1frame (p : PortId) (f : BitVec 16) (ovr : Bool) (s : State) : State :=
  if !portSpeaks s p .vcmd1 || !f.getLsbD 15 then reply .none s
  else if f.getLsbD 14 then linkFail p .frame (onPort p (slotRuns (Config.slotTicks false) s) s)
  else if !v1parOk f then v1answer p .badCrc 0 s
  else match ownedRail s p (v1rail f) with
    | none => v1answer p .badRail 0 s
    | some (r, c) => v1rail' p f ovr r c s

/-! ## AVSBus (R208 to R210) -/

/-- The owned rails that a Select addresses, with their configurations. -/
def avsRails (s : State) (p : PortId) (sel : BitVec 4) : List (RailId × RailCfg) :=
  if sel = 0xF#4 then (List.range 8).filterMap (ownedRail s p)
  else match ownedRail s p sel.toNat with | some rc => [rc] | none => []

/-- StatusResp: VDone, StatusAlert, AVSControl, MFR, from bit 4 down (R210); VDone and AVSControl are 0 where Select names no owned rail.
Log entry 20, DEDUCED. Log entry 65, DESIGN CHOICE. -/
def avsStatus (s : State) (p : PortId) (sel : BitVec 4) (a : Ack) : BitVec 5 :=
  let l := avsRails s p sel
  let done := !l.isEmpty && l.all fun rc => !moving s s.rails[rc.1]
  let ctl := l.any fun rc => s.rails[rc.1].pos.src == 2
  BitVec.ofNat 5 (bitf 4 done + bitf 3 s.ports[p].alert + bitf 2 ctl + a.mfr.toNat)

/-- The answer of a frame: it goes out in the next frame, this frame carries the one before (R208). A frame of a write,
or one without an action, has no stated CmdData: an open value (log entry 5, DESIGN CHOICE). -/
def avsAnswer (p : PortId) (sel : BitVec 4) (a : Ack) (data : Option (BitVec 16)) (s : State) : State :=
  let before := s.ports[p].avsResp
  let (d, s) := match data with
    | some d => (d, s)
    | none => ((drawFree s).1.setWidth 16, (drawFree s).2)
  let st := avsStatus s p sel a
  let s := onPort p (fun x => { slotRuns Config.avsTicks s (ackStatus a a.avs (a.avs == 0) x) with
    avsResp := some (BitVec.ofNat 2 a.avs, d, st), avsOut := a.mfr }) s
  match before with
  | some (k, d, st) => reply (.avs k d st) s
  | none => reply .none s

/-- The answer of a commit that is carried out while a held write is not: the status of the held write stands already.
Log entry 20, DEDUCED. -/
def avsReply (p : PortId) (sel : BitVec 4) (b : Ack) (data : Option (BitVec 16)) (s : State) : State :=
  let x := s.ports[p]
  let t := avsAnswer p sel b data s
  onPort p (fun y => { y with rej := x.rej, rejCnt := x.rejCnt, raiseFrz := x.raiseFrz, hostOvr := x.hostOvr }) t

/-- One write, by its data type (R208). Log entry 20, DEDUCED. -/
def avsDo (ty : BitVec 4) (d : BitVec 16) (rc : RailId × RailCfg) (s : State) : State :=
  if ty = 0x0#4 then portTarget rc.1 (avsTarget d.toNat) s
  else if ty = 0x4#4 then portTarget rc.1 rc.2.eng.vboot s
  else if ty = 0x1#4 then portSlew rc.1 (4 * (d.toNat % 256)) s
  else s

/-- The data of a write are in range for a rail (R188, R208). -/
def avsFits (ty : BitVec 4) (d : BitVec 16) (c : RailCfg) : Bool :=
  if ty = 0x0#4 then (legalTarget c 0 (avsTarget d.toNat)).isSome
  else if ty = 0x1#4 then d.toNat / 256 == d.toNat % 256 && decide (1 ≤ d.toNat % 256) && decide (d.toNat % 256 ≤ 80)
  else true

/-- The outcome of a write for one rail at the apply point. -/
def avsOne (s : State) (ty : BitVec 4) (d : BitVec 16) (ovr : Bool) (rc : RailId × RailCfg) : Ack :=
  if !avsFits ty d rc.2 then .badData
  else if ty = 0x0#4 then setAck s rc.1 (avsTarget d.toNat) ovr
  else if ty = 0x4#4 then setAck s rc.1 rc.2.eng.vboot ovr
  else .ok

/-- A write is of a type that is supported. -/
def avsWritable (ty : BitVec 4) : Bool := ty == 0x0#4 || ty == 0x1#4 || ty == 0x4#4 || ty == 0xE#4

/-- The outcome of a write over its rails: the first refusal refuses it whole (R209); a host override on one of them lets the write
reach none and counts as carried out. Log entry 20, DEDUCED. Log entry 55, DESIGN CHOICE. -/
def avsOutcome (s : State) (p : PortId) (ty sel : BitVec 4) (d : BitVec 16) (ovr : Bool) : Ack :=
  let l := avsRails s p sel
  if !avsWritable ty then .badOp
  else if l.isEmpty then .badRail
  else
    let acks := l.map (avsOne s ty d ovr)
    match acks.find? fun a => a != .ok && a != .hostOvr with
    | some a => a
    | none => if acks.contains .hostOvr then .hostOvr else .ok

/-- Carry out a write that passes; a Status write clears StatusAlert by a 1 in CmdData[15:11].
Log entry 20, DEDUCED. -/
def avsCommit (p : PortId) (ty sel : BitVec 4) (d : BitVec 16) (s : State) : State :=
  if ty = 0xE#4 then
    if 2048 ≤ d.toNat then onPort p (fun x => { x with alert := false }) s else s
  else forEach (avsRails s p sel) (avsDo ty d) s

/-- A held write at its apply point: it applies, or its refusal or override sets the port's status (R193, R194, R215).
Log entry 20, DEDUCED. -/
def avsHeldOne (p : PortId) (ovr : Bool) (h : BitVec 4 × BitVec 4 × BitVec 16) (s : State) : State :=
  match avsOutcome s p h.1 h.2.1 h.2.2 ovr with
  | .ok => avsCommit p h.1 h.2.1 h.2.2 s
  | a => onPort p (fun x => { ackStatus a 0 false x with lastAck := x.lastAck }) s

/-- The held writes apply at the apply point of the commit, each by its own checks. Log entry 20, DEDUCED. -/
def avsHeld (p : PortId) (ovr : Bool) (s : State) : State :=
  forEach s.ports[p].hold (avsHeldOne p ovr) (onPort p (fun x => { x with hold := [] }) s)

/-- The outcome that a commit answers: its own, or the first of a held write that has not been carried out.
Log entry 20, DEDUCED. -/
def avsJoint (s : State) (p : PortId) (a : Ack) (ovr : Bool) : Ack :=
  if a = .ok then
    match (s.ports[p].hold.map fun h => avsOutcome s p h.1 h.2.1 h.2.2 ovr).find? (· != .ok) with
    | some b => b
    | none => .ok
  else a

/-- A write and commit. -/
def avsWrite (p : PortId) (ty sel : BitVec 4) (d : BitVec 16) (ovr : Bool) (s : State) : State :=
  if portSpeaks s p .avs then
    let a := avsOutcome s p ty sel d ovr
    let b := avsJoint s p a ovr
    let s := if a = .ok then avsCommit p ty sel d (avsHeld p ovr s) else if a = .hostOvr then avsHeld p ovr s else s
    if a = .ok then avsReply p sel b none s else avsAnswer p sel a none s
  else reply .none s

/-- A write and hold: the rails and the data are checked now, the states at the commit. Log entry 20, DEDUCED. -/
def avsHold (p : PortId) (ty sel : BitVec 4) (d : BitVec 16) (s : State) : State :=
  if portSpeaks s p .avs then
    let l := avsRails s p sel
    let a : Ack := if !avsWritable ty then .badOp else if l.isEmpty then .badRail
      else if l.all fun rc => avsFits ty d rc.2 then .ok else .badData
    let keep := s.ports[p].hold.filter fun h => !(h.1 == ty && h.2.1 == sel)
    let s := if a = .ok then onPort p (fun x => { x with hold := keep ++ [(ty, sel, d)] }) s else s
    avsAnswer p sel a none s
  else reply .none s

/-- The rail whose value a read returns: the one that Select names, the first owned one for Select 0xF.
Log entry 20, DEDUCED. -/
def avsFirst (s : State) (p : PortId) (sel : BitVec 4) : Option Rail := (avsRails s p sel).head?.map fun rc => s.rails[rc.1]

/-- A read of a rail's value; with Select 0xF over several rails that differ the spec names no value (log entry 5, DESIGN
CHOICE). -/
def avsRead (p : PortId) (sel : BitVec 4) (v : Rail → Nat) (s : State) : State :=
  if portSpeaks s p .avs then
    match avsFirst s p sel with
    | none => avsAnswer p sel .badRail none s
    | some x =>
      let same := (avsRails s p sel).all fun rc => v s.rails[rc.1] == v x
      avsAnswer p sel .ok (if same then some (BitVec.ofNat 16 (v x)) else none) s
  else reply .none s

/-- RAIL_SLEW as VoutTransRate: both bytes floor(RAIL_SLEW / 4). -/
def avsRate (x : Rail) : Nat := x.pos.slew.toNat / 4 * 257

/-- A Status read: StatusResp in CmdData[15:11]. -/
def avsStatRead (p : PortId) (sel : BitVec 4) (s : State) : State :=
  if portSpeaks s p .avs then
    if (avsRails s p sel).isEmpty then avsAnswer p sel .badRail none s
    else avsAnswer p sel .ok (some (BitVec.ofNat 16 ((avsStatus s p sel .ok).toNat * 2048))) s
  else reply .none s

/-- A Version read. -/
def avsVersRead (p : PortId) (sel : BitVec 4) (s : State) : State :=
  if portSpeaks s p .avs then
    if (avsRails s p sel).isEmpty then avsAnswer p sel .badRail none s
    else avsAnswer p sel .ok (some Config.avsVersion) s
  else reply .none s

/-- A frame that takes no action (R208, R209). -/
def avsNothing (p : PortId) (sel : BitVec 4) (why : AvsBad) (s : State) : State :=
  if portSpeaks s p .avs then
    match why with
    | .unsupported => avsAnswer p sel .badOp none s
    | .crc => avsAnswer p sel .badCrc none s
    | .rate => avsAnswer p sel .badOp none (onPort p (linkErr 3) s)
  else reply .none s

end Sys2Proof.Machine
end

