-- ==== Sys2Proof/Machine/RegWrite.lean ====
section
/-! DEFINITION. Register access (R9 to R15, R380, R416, R417): what a write does to every register, the side effects of a
read, and transfers over several registers; the bank self-test (R180) and the control of the Sillage buffer (R312). -/

namespace Sys2Proof.Machine

/-- An access to an address that no register occupies (R12). -/
def accErr (s : State) : State := { s with glb := { s.glb with accErr := true } }

/-! ## Bank self-test (R180) -/

/-- The channels of a bank. -/
def bankChans (b : BankId) : List Nat := (List.range 8).map fun j => 8 * b.val + j

/-- A self-test is legal: every channel of the bank is bypassed or in no accord. -/
def bistLegal (s : State) (b : BankId) : Bool :=
  (bankChans b).all fun i => match toFin 192 i with
    | some ch => match owner s ch with
      | some (r, _, q, _) => s.rails[r].sh.bypass.getLsbD q
      | none => true
    | none => true

/-- START of a self-test: the bank's outputs stand at off level while it runs, and the last result is gone.
Log entry 25, DEDUCED. Log entry 59, DESIGN CHOICE. -/
def bistStart (b : BankId) (s : State) : State :=
  if bistLegal s b then
    onChans (bankChans b) (fun _ => bistHold)
      (onBank b (fun k => { k with bistRun := true, bistDone := false, bistPass := false, failMap := 0, failItem := 0 }) s)
  else onBank b (fun k => { k with bistRej := true, bistRejCnt := satInc 15 k.bistRejCnt }) s

/-- A write to BANK_BIST. -/
def bistWrite (b : BankId) (w : Word) (s : State) : State :=
  let s := if bitw w 20 then onBank b (fun k => { k with bistRej := false, bistRejCnt := 0 }) s else s
  if bits w 24 8 = 0xA5 ∧ bitw w 0 then bistStart b s else s

/-- A self-test completes: PASS when no channel and no item has failed; the outputs return to their channels' level.
Log entry 11, DESIGN CHOICE. Log entry 25, DEDUCED. -/
def bistEnd (b : BankId) (map : Byte) (item : BitVec 4) (s : State) : State :=
  if s.banks[b].bistRun then
    onChans (bankChans b) (fun _ => bistFree)
      (onBank b (fun k => { k with bistRun := false, bistDone := true, bistPass := map == 0 && item == 0, failMap := map
                                   failItem := item }) s)
  else s

/-! ## The Sillage buffer (R310, R312) -/

/-- A host freeze: EVENT 0x1FF. -/
def silFreeze (r : RailId) (s : State) : State :=
  { onRail r (freezeSil (cycle s) 0x1FF) s with glb := { s.glb with silFrz := s.glb.silFrz || !s.rails[r].sil.frozen } }

/-- A buffer that REARM clears and arms; what it held stands until the core cycle ends (R312, R314). -/
def silArmed (now : Nat) (l : RailSil) : RailSil :=
  let k := silKept now l
  { l with frozen := false, event := 0, index := 0, entries := [], rearmed := some (now, k.entries, k.index) }

/-- REARM clears and arms the buffer; a freeze cause of the same core cycle wins: the buffer freezes with the new EVENT and its previous
contents (R312, R314). Log entry 8, DESIGN CHOICE. -/
def silRearm (r : RailId) (s : State) : State :=
  let l := s.rails[r].sil
  if l.causeAt = some (cycle s) then
    { onRail r (fun x => { x with sil := { x.sil with frozen := true, event := x.sil.causeEv } }) s with
      glb := { s.glb with silFrz := true } }
  else onRail r (fun x => { x with sil := silArmed (cycle s) x.sil }) s

/-- A write to RAIL_SIL; a FREEZE beside a REARM wins: the contents stay, with the new EVENT (R314). -/
def silWrite (r : RailId) (w : Word) (s : State) : State :=
  let s := if bitw w 28 then onRail r (fun x => { x with sil := { x.sil with rdErr := false } }) s else s
  if bitw w 30 then
    if bitw w 29 then silFreeze r (onRail r (fun x => { x with sil := { x.sil with frozen := false } }) s)
    else silFreeze r s
  else if bitw w 29 then silRearm r s
  else s

/-- A refused readout sets RDERR. -/
def silErr (r : RailId) (s : State) : State := onRail r (fun x => { x with sil := { x.sil with rdErr := true } }) s

/-- The side effect of a read of RAIL_SIL_DLO. -/
def silReadLo (r : RailId) (s : State) : State := if silRefused s.rails[r] then silErr r s else s

/-- The side effect of a read of RAIL_SIL_DHI: INDEX advances, to 0 after COUNT − 1. -/
def silReadHi (r : RailId) (s : State) : State :=
  if silRefused s.rails[r] then silErr r s
  else onRail r (fun x => { x with sil := { x.sil with
    index := BitVec.ofNat 12 (if x.sil.entries.length ≤ x.sil.index.toNat + 1 then 0 else x.sil.index.toNat + 1) } }) s

/-! ## Other side effects of reads -/

/-- A read of TMR_COUNT of a running timer (R367). -/
def countRead (i : Iface) (s : State) : State :=
  let t := selTimer i s
  if standing (cycle s) s.tmr.tmr[t] = .running then tmrErr (onTimer t (fun k => { k with rdErr := true }) s) else s

/-- A pair that has found room after all: its timer has lost none, and TERR falls back unless something else has set it in this core
cycle (R370, R376, R432). Log entry 8, DESIGN CHOICE. -/
def pairKept (l : Lost) (s : State) : State :=
  match l.pair with
  | some (t, ovr) =>
    let s := onTimer t (fun k => { k with capOvr := ovr }) s
    match s.tmr.terrAt with
    | some (at_, n, was) =>
      if at_ = cycle s then
        { s with tmr := { s.tmr with terr := if n ≤ 1 then was else s.tmr.terr, terrAt := some (at_, n - 1, was) } }
      else s
    | none => s
  | none => s

/-- A read of TFIFOf_HI removes the head (R421), not of a FIFO that was empty before this core cycle; an entry that a full FIFO has
discarded in it finds room behind the head (R432). Log entry 8, DESIGN CHOICE. -/
def fifoPop (f : FifoId) (s : State) : State :=
  let x := s.fifo[f]
  if fifoVoid s x then s
  else
    let l := x.entries.drop 1
    let plain := onFifo f (fun x => { x with entries := l }) s
    match x.lost with
    | some d =>
      if d.at_ = cycle s then
        pairKept d (onFifo f (fun x => {
          entries := l ++ [d.entry], ovf := d.ovf, seq := (x.seq + 1) % 65536, lost := none
          fresh := some (cycle s, freshNow s x + 1) }) s)
      else plain
    | none => plain

/-- A trace FIFO has discarded an entry in this core cycle: its OVF stays 1 (R432). -/
def ovfNow (s : State) (x : Tfifo) : Bool := match x.lost with | some d => d.at_ == cycle s | none => false

/-- The rail of a page whose rail is configured. -/
def pageRail (s : State) (page : Nat) : Option (RailId × RailCfg) :=
  if 0x10 ≤ page ∧ page < 0x28 then
    (toFin 24 (page - 0x10)).bind fun r => (railCfg s r).map fun c => (r, c)
  else none

/-- The side effect of a read (R12, R312, R354, R367, R421). -/
def readEffect (i : Iface) (a : BitVec 16) (s : State) : State :=
  let page := pageOf a
  let off := offOf a
  if (regVal i s a).isNone then accErr s
  else if page = 0 ∧ 0x40 ≤ off ∧ off < 0xC0 ∧ off % 8 = 4 then
    match toFin 16 ((off - 0x40) / 8) with | some f => fifoPop f s | none => s
  else if page = 5 ∧ off = 0x28 then rddataNext s
  else if page = 6 ∧ off = 0x24 then countRead i s
  else match pageRail s page with
    | some (r, _) => if off = 0xA8 then silReadLo r s else if off = 0xAC then silReadHi r s else s
    | none => s

/-- A read of one register: its word, and what the read leaves. -/
def regRead (i : Iface) (a : BitVec 16) (s : State) : Word × State := ((regVal i s a).getD 0, readEffect i a s)

/-! ## Writes, page by page -/

/-- Page 0x00. Log entry 47, DEDUCED. -/
def glbWrite (off : Nat) (w : Word) (s : State) : State :=
  let g := s.glb
  let k := fun (v : Bool) (i : Nat) => v && !bitw w i
  match off with
  | 0x10 => { s with glb := { g with
      pllLock := k g.pllLock 31, dllLock := k g.dllLock 30, dpwmClk := k g.dpwmClk 29, vddBo := k g.vddBo 28
      vddaBo := k g.vddaBo 27, cfgUnc := k g.cfgUnc 26, cfgCor := k g.cfgCor 25, refFb := k g.refFb 24
      slowClk := k g.slowClk 23, wdRst := k g.wdRst 22, accErr := k g.accErr 21, sealWr := k g.sealWr 20 } }
  | 0x14 => fatalWrite w s
  | 0xC0 => { s with fifo := mapTab (fun i x => { x with ovf := x.ovf && (!bitw w i || ovfNow s x) }) s.fifo }
  | _ => s

/-- Page 0x01. -/
def pwrWrite (off : Nat) (w : Word) (s : State) : State :=
  let p := s.pwr
  let ka := s.ka
  match off with
  | 0x04 => pwrCmdWrite w s
  | 0x08 => { s with pwr := { p with
      cmdRej := p.cmdRej && !bitw w 31, runTo := p.runTo && !bitw w 30, retLost := p.retLost && !bitw w 29
      stbyAbt := p.stbyAbt && !bitw w 28, rejCnt := if bitw w 31 then 0 else p.rejCnt } }
  | 0x10 => pwrRstWrite w s
  | 0x14 => pwrWdogWrite w s
  | 0x18 => { s with ka := { ka with
      supTo := ka.supTo && !bitw w 15, pllTo := ka.pllTo && !bitw w 14, dllTo := ka.dllTo && !bitw w 13
      kaRej := ka.kaRej && !bitw w 12 } }
  | _ => s

/-- Page 0x02. -/
def imgWrite (off : Nat) (w : Word) (s : State) : State :=
  let m := s.img
  match off with
  | 0x00 => imgCtrl w s
  | 0x04 => { s with img := { m with
      cmdErr := m.cmdErr && !bitw w 31, loadErr := m.loadErr && !bitw w 30, fallback := m.fallback && !bitw w 29
      rejCnt := if bitw w 8 then 0 else m.rejCnt } }
  | 0x20 => dataWrite w s
  | _ => s

/-- Page 0x03. -/
def hadcWrite (off : Nat) (w : Word) (s : State) : State :=
  let m := s.hadc.mon
  match off with
  | 0x00 => reqWrite w s
  | 0x08 => { s with hadc := { s.hadc with mon := { m with
      skip := m.skip && !bitw w 31, stFail := m.stFail && !bitw w 30, supWarn := m.supWarn && !bitw w 29
      refSw := m.refSw && !bitw w 28, refFrz := m.refFrz && !bitw w 27, discDone := m.discDone && !bitw w 26
      discFlt := m.discFlt && !bitw w 25 } } }
  | 0x0C => refWrite w s
  | 0x18 => avgWrite w s
  | 0x20 => discWrite w s
  | 0x24 => { s with hadc := { s.hadc with mon := { m with discRej := m.discRej && !bitw w 30 } } }
  | _ => s

/-- Page 0x04. -/
def thmWrite (off : Nat) (w : Word) (s : State) : State :=
  let t := s.thm
  match off with
  | 0x00 => { s with thm := { t with
      tshut := t.tshut && !bitw w 31, sensFlt := t.sensFlt && !bitw w 30, rorx := t.rorx && !bitw w 29
      throt := t.throt && !bitw w 28, bandChg := t.bandChg && !bitw w 27, winRef := t.winRef && !bitw w 26 } }
  | 0x08 => { s with thm := { t with sthot := w.setWidth 16 } }
  | _ => s

/-- Page 0x05. -/
def nvlWrite (off : Nat) (w : Word) (s : State) : State :=
  let n := s.nvl
  match off with
  | 0x00 => blotWrite w s
  | 0x04 => nvlCfgWrite w s
  | 0x08 => { s with nvl := { n with
      logged := n.logged && !bitw w 31, cresync := n.cresync && !bitw w 30, blotFail := n.blotFail && !bitw w 29
      holdPend := n.holdPend && !bitw w 28, drop := n.drop && !bitw w 27, media := n.media && !bitw w 26
      dropCnt := if bitw w 27 then 0 else n.dropCnt } }
  | 0x24 => rdctrlWrite w s
  | 0x2C => timeWrite w s
  | _ => s

/-- TMR_SEL of an interface. -/
def selWrite (i : Iface) (w : Word) (s : State) : State :=
  let v := BitVec.ofNat 5 (bits w 0 5)
  match i with
  | .smb => { s with hif := { s.hif with selS := v } }
  | .i3c => { s with hif := { s.hif with selI := v } }
  | .tap => { s with hif := { s.hif with selT := v } }

/-- Page 0x06. -/
def tmrWrite (i : Iface) (off : Nat) (w : Word) (s : State) : State :=
  let b := s.tmr
  if 0x80 ≤ off then
    match toFin 32 ((off - 0x80) / 4) with | some t => matchWrite t w s | none => s
  else match off with
  | 0x00 => { s with tmr := { b with
      done := b.done && !bitw w 31, capRdy := b.capRdy && !bitw w 30, terr := b.terr && !bitw w 29
      slowErr := b.slowErr && !bitw w 28, rej := b.rej && !bitw w 27, rejCnt := if bitw w 27 then 0 else b.rejCnt } }
  | 0x04 => tmrCmdWrite w s
  | 0x08 => gstart w s
  | 0x0C => { s with tmr := { b with doneMask := b.doneMask &&& ~~~w } }
  | 0x14 => selWrite i w s
  | 0x20 => tmrCfg i w s
  | 0x34 => onTimer (selTimer i s) (fun k => { k with
      late := k.late && !bitw w 31, rdErr := k.rdErr && !bitw w 30, capOvr := k.capOvr && !bitw w 29
      linkMiss := k.linkMiss && !bitw w 28, pairRdy := k.pairRdy && !bitw w 27, slow := k.slow && !bitw w 25 }) s
  | _ => s

/-- Page 0x07. -/
def hifWrite (off : Nat) (w : Word) (s : State) : State :=
  let h := s.hif
  match off with
  | 0x00 => { s with hif := { h with
      pecErr := h.pecErr && !bitw w 31, cmlErr := h.cmlErr && !bitw w 30, smbTo := h.smbTo && !bitw w 29
      i3cErr := h.i3cErr && !bitw w 28, daaChg := h.daaChg && !bitw w 27
      pecCnt := if bitw w 31 then 0 else h.pecCnt, cmlCnt := if bitw w 30 then 0 else h.cmlCnt } }
  | _ => s

/-- Page 0x08. -/
def nlWrite (off : Nat) (w : Word) (s : State) : State :=
  let n := s.nl
  match off with
  | 0x00 => { s with nl := { n with
      roleChg := n.roleChg && !bitw w 31, mlost := n.mlost && !bitw w 30, peerChg := n.peerChg && !bitw w 29
      nlErr := n.nlErr && !bitw w 28, dupId := n.dupId && !bitw w 27, cmdRej := n.cmdRej && !bitw w 15 } }
  | 0x04 => nlCmdWrite w s
  | 0x10 => { s with nl := { n with peerSel := BitVec.ofNat 6 (bits w 0 6) } }
  | _ => s

/-- RAIL_LLINE: a slope whose offset at ILIM passes 64 mV saturates to the largest legal one (R129). -/
def lineWrite (c : RailCfg) (w : Word) (x : Rail) : Rail :=
  let d := c.eng.divk * c.cur.ilim
  let l := if d = 0 then bits w 0 16 else min (bits w 0 16) (64000 * 8 * 32768 / d)
  { x with eng := { x.eng with lline := BitVec.ofNat 16 l } }

/-- The shadow set, RAIL_SHARE_CTRL, RAIL_TRIM_RD, RAIL_SLEW, RAIL_SIL_PTR: plain fields. -/
def railFields (off : Nat) (w : Word) (x : Rail) : Rail :=
  match off with
  | 0x18 => { x with coef := { x.coef with shadow := modAt x.coef.shadow 0 fun _ => w.setWidth 24 } }
  | 0x1C => { x with coef := { x.coef with shadow := modAt x.coef.shadow 1 fun _ => w.setWidth 24 } }
  | 0x20 => { x with coef := { x.coef with shadow := modAt x.coef.shadow 2 fun _ => w.setWidth 24 } }
  | 0x24 => { x with coef := { x.coef with shadow := modAt x.coef.shadow 3 fun _ => w.setWidth 24 } }
  | 0x28 => { x with coef := { x.coef with shadow := modAt x.coef.shadow 4 fun _ => w.setWidth 24 } }
  | 0x2C => { x with coef := { x.coef with shadow := modAt x.coef.shadow 5 fun _ => w.setWidth 24 } }
  | 0x30 => { x with coef := { x.coef with shadow := modAt x.coef.shadow 6 fun _ => w.setWidth 24 } }
  | 0x44 => { x with sh := { x.sh with tshift := BitVec.ofNat 4 (bits w 24 4), forcen := BitVec.ofNat 6 (min 32 (bits w 0 6)) } }
  | 0x5C => { x with ph := { x.ph with trimRd := BitVec.ofNat 5 (bits w 24 5) } }
  | 0x64 => { x with pos := { x.pos with slew := BitVec.ofNat 9 (bits w 0 9) } }
  | 0xA4 => { x with sil := { x.sil with index := BitVec.ofNat 12 (bits w 0 12) } }
  | _ => x

/-- RAIL_ENG_STATUS: W1C; MARKED also clears MARKCNT (R147). -/
def engW1c (w : Word) (x : Rail) : Rail :=
  { x with eng := { x.eng with
    esat := x.eng.esat && !bitw w 31, sndfb := x.eng.sndfb && !bitw w 30, marked := x.eng.marked && !bitw w 29
    markCnt := if bitw w 29 then 0 else x.eng.markCnt } }

/-- RAIL_SHARE_STATUS: W1C; PHREJ also clears REJCNT (R181). -/
def shareW1c (w : Word) (x : Rail) : Rail :=
  { x with
    sh := { x.sh with trimSat := x.sh.trimSat && !bitw w 31, phRej := x.sh.phRej && !bitw w 30
                      ofsClip := x.sh.ofsClip && !bitw w 29 }
    ph := { x.ph with rejCnt := if bitw w 30 then 0 else x.ph.rejCnt } }

/-- A write to RAIL_TARGET (R195, R216): HREJ, then the target. -/
def targetWrite (r : RailId) (c : RailCfg) (w : Word) (s : State) : State :=
  let s := if bitw w 29 then onRail r (fun x => { x with pos := { x.pos with hrej := false } }) s else s
  hostTarget r c (bits w 0 16) s

/-- A write to RAIL_PROT: a comparator that still stands asserted at the release trips (R108). -/
def protClear (r : RailId) (c : RailCfg) (w : Word) (s : State) : State :=
  let t := protWrite r c w s
  if latched s.rails[r] && !latched t.rails[r] then rawTrips c t else t

/-- A rail page. -/
def railWrite (r : RailId) (c : RailCfg) (off : Nat) (w : Word) (s : State) : State :=
  match off with
  | 0x00 => onRail r (engW1c w) s
  | 0x10 => onRail r (lineWrite c w) s
  | 0x14 => coefWrite r w s
  | 0x48 => onRail r (shareW1c w) s
  | 0x50 => phcmdWrite r c w s
  | 0x60 => targetWrite r c w s
  | 0x74 => tripWrite r c w s
  | 0x78 => seqWrite r c w s
  | 0x7C => protClear r c w s
  | 0x90 => sndWrite r w s
  | 0xA0 => silWrite r w s
  | _ => onRail r (railFields off w) s

/-- A port page. -/
def portWrite (p : PortId) (off : Nat) (w : Word) (s : State) : State :=
  match off with
  | 0x0C => onPort p (fun x => { x with
      rej := x.rej && !bitw w 31, linkErr := x.linkErr && !bitw w 30, hostOvr := x.hostOvr && !bitw w 29
      raiseFrz := x.raiseFrz && !bitw w 28, rejCnt := if bitw w 31 then 0 else x.rejCnt
      errCnt := if bitw w 30 then 0 else x.errCnt }) s
  | 0x14 => budgetWrite p w s
  | _ => s

/-- CH_STATUS: W1C (R117). Log entry 33, DEDUCED. -/
def chanW1c (w : Word) (k : Chan) : Chan :=
  { k with lateOn := k.lateOn && !bitw w 31, lateOff := k.lateOff && !bitw w 30, cmpClip := k.cmpClip && !bitw w 29
           cbc := k.cbc && !bitw w 28 }

/-- A bank page. -/
def bankWrite (b : BankId) (off : Nat) (w : Word) (s : State) : State :=
  if off < 0x80 then
    if off % 16 = 12 then
      match toFin 192 (8 * b.val + off / 16) with | some ch => onChan ch (chanW1c w) s | none => s
    else s
  else match off with
  | 0x80 => onBank b (fun k => { k with
      btsfFlt := k.btsfFlt && !bitw w 31, syncErr := k.syncErr && !bitw w 30, late := k.late && !bitw w 29 }) s
  | 0x84 => onBank b (fun k => { k with brefDist := k.brefDist && !bitw w 31 }) s
  | 0x88 => bistWrite b w s
  | _ => s

/-- The enables of a group take bits 15:0 of a word (R302). -/
def irqSet (base cnt : Nat) (w : Word) (e : IrqEn) : IrqEn :=
  let mask : IrqEn := BitVec.ofNat 448 ((2 ^ cnt - 1) * 2 ^ base)
  (e &&& ~~~mask) ||| (BitVec.ofNat 448 (bits w 0 cnt * 2 ^ base))

/-- An interrupt page (R302, R316). -/
def irqWrite (page off : Nat) (w : Word) (s : State) : State :=
  if page = 0x6B ∧ off = 0x40 then
    { s with glb := { s.glb with fltWire := s.glb.fltWire && !bitw w 31, silFrz := s.glb.silFrz && !bitw w 30 } }
  else match irqGroup page (off / 16) with
    | some g => if off % 16 = 0 then { s with irqEn := irqSet g.1 g.2.1 w s.irqEn } else s
    | none => s

/-- A write to the page of a rail without ACCORD (R417): ACCERR alone; but a START while no image is sealed is answered REJECT_STATE
(R51, R220). Log entry 39, DEDUCED. -/
def bareWrite (page off : Nat) (w : Word) (s : State) : State :=
  match toFin 24 (page - 0x10) with
  | some r => if !isSealed s && off == 0x78 && bits w 24 8 == 0xA5 && bits w 0 4 == 1 then onRail r seqRefuse s else accErr s
  | none => accErr s

/-- A write to a rail's page (R417). -/
def railPageWrite (page off : Nat) (w : Word) (s : State) : State :=
  match pageRail s page with
  | some (r, c) => railWrite r c off w s
  | none => bareWrite page off w s

/-- A write to a page from 0x10 up: rails, ports, banks, interrupts. -/
def blockWrite (page off : Nat) (w : Word) (s : State) : State :=
  if page < 0x28 then railPageWrite page off w s
  else if page < 0x38 then
    match toFin 8 (page - 0x30) with | some p => portWrite p off w s | none => s
  else if page < 0x58 then
    match toFin 24 (page - 0x40) with | some b => bankWrite b off w s | none => s
  else irqWrite page off w s

/-- A write to a page, by its number. -/
def pageWrite (i : Iface) (page off : Nat) (w : Word) (s : State) : State :=
  if 0x10 ≤ page then blockWrite page off w s
  else match page with
    | 0x00 => glbWrite off w s
    | 0x01 => pwrWrite off w s
    | 0x02 => imgWrite off w s
    | 0x03 => hadcWrite off w s
    | 0x04 => thmWrite off w s
    | 0x05 => nvlWrite off w s
    | 0x06 => tmrWrite i off w s
    | 0x07 => hifWrite off w s
    | 0x08 => nlWrite off w s
    | _ => s

/-- A write to an address on interface `i` (R10 to R12): an address that no register occupies sets ACCERR alone. A W1C bit raised
in the same core cycle stays 1 (R314). -/
def regWrite (i : Iface) (a : BitVec 16) (w : Word) (s : State) : State :=
  if (regVal i s a).isNone then accErr s
  else w1cDo (pageOf a) (offOf a) w (pageWrite i (pageOf a) (offOf a)) s

/-- A write to a rail page by a command that names the rail (R417). Log entry 39, DEDUCED. -/
def onRailPage (r : RailId) (f : RailCfg → State → State) (s : State) : State :=
  if hostUp s then
    match railCfg s r with
    | some c => f c s
    | none => accErr s
  else s

/-- A write to a register with W1C bits of a rail page by a command that names the rail (R314, R417). -/
def onRailReg (r : RailId) (off : Nat) (w : Word) (f : RailCfg → Word → State → State) (s : State) : State :=
  onRailPage r (fun c => w1cDo (0x10 + r.val) off w (f c)) s

/-- A write to RAIL_SEQ by a command that names the rail (R51, R220, R417). Log entry 39, DEDUCED. -/
def onRailSeq (r : RailId) (w : Word) (s : State) : State :=
  if hostUp s then
    match railCfg s r with
    | some c => w1cDo (0x10 + r.val) 0x78 w (seqWrite r c) s
    | none => bareWrite (0x10 + r.val) 0x78 w s
  else s

/-- A write that a command makes on another page: nothing reaches a register while no interface serves (R379).
Log entry 11, DESIGN CHOICE. Log entry 39, DEDUCED. -/
def onHost (f : State → State) (s : State) : State := if hostUp s then f s else s

/-! ## Transfers over several registers (R380) -/

/-- A stream register, whose address does not advance. -/
def streamReg (a : BitVec 16) : Bool := a == 0x0220#16 || a == 0x0528#16

/-- The address after a register; none past offset 0xFC of the page. -/
def nextAddr (a : BitVec 16) : Option (BitVec 16) :=
  if streamReg a then some a else if offOf a + 4 ≤ 0xFF then some (a + 4) else none

/-- A factory register is reached (R13): page 0xF0 in factory test mode. Log entry 45, DESIGN CHOICE. -/
def factoryHit (s : State) (a : BitVec 16) : Bool := s.tap.ftm && pageOf a == 0xF0

/-- Write data bytes from an address: whole registers, then ACCERR for an incomplete one or for bytes past the page. The
address that follows; none past the page. -/
def writeBytes (i : Iface) (a : Option (BitVec 16)) : List Byte → State → Option (BitVec 16) × State
  | [], s => (a, s)
  | b0 :: b1 :: b2 :: b3 :: l, s =>
    match a with
    | none => (none, accErr s)
    | some a => writeBytes i (nextAddr a) l (regWrite i a (b3 ++ b2 ++ b1 ++ b0) s)
  | _, s => (a, accErr s)

/-- Read `n` bytes from an address: each register once, at its first byte; 0xFF and ACCERR past the page. -/
def readBytes (i : Iface) (a : Option (BitVec 16)) (fuel n : Nat) (s : State) : List Byte × Option (BitVec 16) × State :=
  match fuel with
  | 0 => ([], a, s)
  | fuel + 1 =>
    if n = 0 then ([], a, s)
    else match a with
      | none => (List.replicate n 0xFF, none, accErr s)
      | some a =>
        let (w, s) := regRead i a s
        let (l, b, s) := readBytes i (nextAddr a) fuel (n - 4) s
        ((leBytes w).take n ++ l, b, s)

/-- The pointer after a transfer: past the page the spec states none, it is open (log entry 5, DESIGN CHOICE). -/
def ptrAfter (a : Option (BitVec 16)) (s : State) : BitVec 16 × State :=
  match a with
  | some a => (a, s)
  | none => ((drawFree s).1.setWidth 16, (drawFree s).2)

end Sys2Proof.Machine
end

