-- ==== Sys2Proof/Machine/ExecMeas.lean ====
section
/-! DEFINITION. Meanings: coefficient sets, position commands, self-tests, soundings, discovery, the HADC, temperature, the
fault pair, Sillage (R144, R167 to R180, R249 to R276, R286, R308 to R312). -/

namespace Sys2Proof.Machine

/-- The discovery of a RESTORE ends. -/
def restoreEnd (r : RailId) (p : Probe) (cal : Int) (s : State) : State :=
  if ctlUp s then onIsland r (fun c => restoreDone r c p cal) s else s

/-- The reference comparison freezes raises (R261); a hold of VSEL selections follows R197. -/
def freezeRaises (s : State) : State :=
  { s with hadc := { s.hadc with mon := { s.hadc.mon with freeze := true, refFrz := true } } }

/-- A Maceration window ends (R256); a Blotter test that waited for the device window may start. -/
def macerClose (win : Option RailId) (s : State) : State :=
  let m := s.hadc.mon
  match win with
  | some r => { s with hadc := { s.hadc with mon := { m with macRail := m.macRail &&& ~~~(1#24 <<< r.val) } } }
  | none => testWaiting { s with hadc := { s.hadc with mon := { m with macDev := false } } }

/-- A conversion completes; GOTO RUN may have waited for the band that its result selects (R327). -/
def hadcResult (v : Int) (s : State) : State := if hadcUp s then runBand (convDone v s) else s

/-- A ball of the pair disagrees for 100 ns (R308); agreement again ends the disagreement. -/
def pairRead (ballN lvl : Bool) (s : State) : State :=
  let driven := if ballN then pairN s else pairP s
  if !islandUp s then s
  else
    let bad := if lvl == driven then none else some lvl
    let s := if ballN then { s with glb := { s.glb with ballN := bad } } else { s with glb := { s.glb with ballP := bad } }
    if lvl == driven then s else { s with glb := { s.glb with fltWire := true, wBall := ballN, wLvl := lvl } }

/-- A read of a register that the command itself names: the word is the answer. Log entry 3, DESIGN CHOICE. -/
def hostRead (i : Iface) (a : BitVec 16) (s : State) : State :=
  if hostUp s then
    let r := regRead i a s
    reply (.word r.1) r.2
  else reply .nack s

/-- The address of a register of a rail's page. -/
def railAddr (r : RailId) (off : Nat) : BitVec 16 := BitVec.ofNat 16 ((0x10 + r.val) * 256 + off)

/-! ## Coefficients and positions -/

/-- COEF_APPLY (R144). A write to RAIL_COEF_SEL. -/
def execCoefApply (r : RailId) (w : Word) (s : State) : Out :=
  act (onRailPage r (fun _ => coefWrite r w)) s

/-- BYPASS (R176). RAIL_PHCMD with its key. -/
def execBypass (r : RailId) (q : Fin 32) (s : State) : Out :=
  act (onRailPage r (fun c => phcmdWrite r c (phcmdWord 1 q.val))) s

/-- RESTORE (R177). RAIL_PHCMD with its key. -/
def execRestore (r : RailId) (q : Fin 32) (s : State) : Out :=
  act (onRailPage r (fun c => phcmdWrite r c (phcmdWord 2 q.val))) s

/-- RESTORE_DISCOVERY_DONE (R177). What discovery measured, and the sum of the 16 calibration codes. -/
def execRestoreDiscoveryDone (r : RailId) (pr : Probe) (cal : Int) (s : State) : Out :=
  act (restoreEnd r pr cal) s

/-- BAL_TRIM (R167). RAIL_PHCMD with its key. -/
def execBalTrim (r : RailId) (s : State) : Out :=
  act (onRailPage r (fun c => phcmdWrite r c (phcmdWord 3 0))) s

/-- BAL_ROTATE (R167). RAIL_PHCMD with its key. -/
def execBalRotate (r : RailId) (s : State) : Out :=
  act (onRailPage r (fun c => phcmdWrite r c (phcmdWord 4 0))) s

/-- BANK_BIST_START (R180). A write to BANK_BIST. -/
def execBankBistStart (b : BankId) (w : Word) (s : State) : Out :=
  act (onHost (bistWrite b w)) s

/-- BIST_COMPLETE (R180). The items' results. -/
def execBistComplete (b : BankId) (failmap : Byte) (failitem : BitVec 4) (s : State) : Out :=
  act (fun s => if ctlUp s then bistEnd b failmap failitem s else s) s

/-! ## Soundings -/

/-- SOUNDING_REQUEST (R263). A write to RAIL_SND. -/
def execSoundingRequest (r : RailId) (w : Word) (s : State) : Out :=
  act (onRailPage r (fun _ => sndWrite r w)) s

/-- SOUNDING_START (R263). The conditions hold at a master carrier start. -/
def execSoundingStart (r : RailId) (s : State) : Out :=
  act (onDue (.soundingStart r) r (sndStart r)) s

/-- SOUNDING_REPETITION (R264). A repetition falls due, with master carrier start `m`. -/
def execSoundingRepetition (r : RailId) (m : Nat) (s : State) : Out :=
  act (onDue (.soundingRepetition r m) r (sndRep r m)) s

/-- SOUNDING_END (R266). The last repetition has ended. -/
def execSoundingEnd (r : RailId) (s : State) : Out :=
  act (onDue (.soundingEnd r) r (sndFinish r)) s

/-! ## Discovery and the HADC -/

/-- DISC_START (R267). DISC_CTRL with its key. -/
def execDiscStart (banks : BitVec 24) (s : State) : Out :=
  act (onHost (discWrite (0xA5#8 ++ banks))) s

/-- DISCOVERY_DONE (R272). What discovery measured, channel by channel. -/
def execDiscoveryDone (probes : List (ChanId × Probe)) (s : State) : Out :=
  act (fun s => if ctlUp s then discEnd probes s else s) s

/-- HADC_SLOT (R249). A slot opens every 1 µs. -/
def execHadcSlot (s : State) : Out :=
  act slotOpen s

/-- HADC_CONVERSION_DONE (R252). The conversion of `v` µV completes. Log entry 7, DESIGN CHOICE. -/
def execHadcConversionDone (v : Int) (s : State) : Out :=
  act (hadcResult v) s

/-- REFSW (R260). The same odd source for over 10 ms. -/
def execRefsw (s : State) : Out :=
  act (onFire .refsw excludeOdd) s

/-- REFFRZ (R261). A two-way disagreement for over 10 ms. -/
def execReffrz (s : State) : Out :=
  act (onFire .reffrz freezeRaises) s

/-- UNFREEZE (R261). A write to HADC_REF. -/
def execUnfreeze (w : Word) (s : State) : Out :=
  act (onHost (refWrite w)) s

/-- READMIT (R262). A write to HADC_REF. -/
def execReadmit (w : Word) (s : State) : Out :=
  act (onHost (refWrite w)) s

/-- HADC_GO (R250). A write to HADC_REQ. -/
def execHadcGo (w : Word) (s : State) : Out :=
  act (onHost (reqWrite w)) s

/-- HADC_AVGSET_APPLY (R255). A write to HADC_AVGSET. -/
def execHadcAvgsetApply (w : Word) (s : State) : Out :=
  act (onHost (avgWrite w)) s

/-- MACERATION_END (R256). The window of a rail, or of the device, expires. -/
def execMacerationEnd (win : Option RailId) (s : State) : Out :=
  act (onFire (.macerationEnd win) (macerClose win)) s

/-- THERMAL_TICK (R286). Every 62.5 ms. -/
def execThermalTick (s : State) : Out :=
  act (onFire .thermalTick (fun s => thermalEval (rearm evalTicks .thermalTick s))) s

/-! ## The fault pair and Sillage -/

/-- FLT_READBACK_MISMATCH (R308). The ball and the level read back. Log entry 39, DEDUCED. -/
def execFltReadbackMismatch (ballN lvl : Bool) (s : State) : Out :=
  act (pairRead ballN lvl) s

/-- RAIL_SIL_FREEZE (R310). A write to RAIL_SIL. -/
def execRailSilFreeze (r : RailId) (w : Word) (s : State) : Out :=
  act (onRailPage r (fun _ => silWrite r w)) s

/-- REARM (R312). A write to RAIL_SIL. -/
def execRearm (r : RailId) (w : Word) (s : State) : Out :=
  act (onRailPage r (fun _ => silWrite r w)) s

/-- RAIL_SIL_DLO_READ (R312). A read of RAIL_SIL_DLO. -/
def execRailSilDloRead (r : RailId) (s : State) : Out :=
  act (hostRead .smb (railAddr r 0xA8)) s

/-- RAIL_SIL_DHI_READ (R312). A read of RAIL_SIL_DHI. -/
def execRailSilDhiRead (r : RailId) (s : State) : Out :=
  act (hostRead .smb (railAddr r 0xAC)) s

end Sys2Proof.Machine
end

