-- ==== Sys2Proof/Machine/Pmbus.lean ====
section
/-! DEFINITION. The SMBus target and the PMBus commands (R382 to R392, R427). Where the spec states no answer on the bus
(invalid data), the response is none. -/

namespace Sys2Proof.Machine

/-! ## Transactions -/

/-- The SMBus target answers its own address: READY, RUN or SAFE, not held, in SMBus mode (R378, R379). -/
def smbUp (s : State) : Bool := hostUp s && s.hif.dynAddr.isNone

/-- A PEC failure, or a missing PEC (R384, R390). Log entry 22, DEDUCED. -/
def pecFail (s : State) : State :=
  { s with hif := { s.hif with pecErr := true, pecCnt := satInc 255 s.hif.pecCnt, cmlPec := true } }

/-- Invalid data (R388): STATUS_CML bit 6, CMLERR. Log entry 22, DEDUCED. -/
def badData (s : State) : State :=
  reply .none { s with hif := { s.hif with cmlData := true, cmlErr := true, cmlCnt := satInc 255 s.hif.cmlCnt } }

/-- An unsupported command code (R389): the NACK, STATUS_CML bit 7, CMLERR. -/
def badCode (s : State) : State :=
  reply .nack { s with hif := { s.hif with cmlBad := true, cmlErr := true, cmlCnt := satInc 255 s.hif.cmlCnt } }

/-- A write transaction: its PEC, then its effect (R384). -/
def smbWrite (pec : Pec) (f : State → State) (s : State) : State :=
  if !smbUp s then reply .nack s
  else match pec with
    | .bad => reply .nack (pecFail s)
    | .absent => if (hostif s).pecreq then reply .none (pecFail s) else f (reply .ack s)
    | .good => f (reply .ack s)

/-- A read transaction. -/
def smbRead (f : State → State) (s : State) : State := if smbUp s then f s else reply .nack s

/-- The address at which the SMBus target, or the responder, answers (R322, R386). -/
def busAddr (s : State) : Nat :=
  match s.pwr.dev with | .off => strapAddr s | .standby => s.hif.kaAddr.toNat | _ => smbAddr s

/-- The PEC that follows the data of a read of command `code`, for a host that clocks one more byte (R322, R382). -/
def readPec (s : State) (code : Nat) (data : List Byte) : Byte :=
  let a := busAddr s
  pecOf ([BitVec.ofNat 8 (2 * a), BitVec.ofNat 8 code, BitVec.ofNat 8 (2 * a + 1)] ++ data)

/-- A transaction of command `code`: a read offers its PEC. -/
def withPec (code : Nat) (f : State → State) (s : State) : State :=
  let t := f s
  match t.resp with
  | .bytes l => { t with respPec := readPec s code l }
  | _ => t

/-! ## PAGE (R388) -/

/-- What PAGE names. -/
inductive Paged where
  | all
  | one (r : RailId) (c : RailCfg)
  | invalid

/-- The rail that PAGE selects: an unconfigured one is invalid data (R388). -/
def paged (s : State) : Paged :=
  if s.hif.page = 0xFF#8 then .all
  else match toFin 24 s.hif.page.toNat with
    | none => .invalid
    | some r => match railCfg s r with
      | some c => .one r c
      | none => .invalid

/-- A paged write: one rail, or every configured one, each by its own checks. -/
def pagedWrite (f : RailId → RailCfg → State → State) (s : State) : State :=
  match paged s with
  | .all => forEach (configured s) (fun rc => f rc.1 rc.2) s
  | .one r c => f r c s
  | .invalid => badData s

/-- A paged read of `n` bytes, least significant first; with PAGE 0xFF every byte is 0xFF. -/
def pagedRead (n : Nat) (f : RailId → RailCfg → Nat) (s : State) : State :=
  match paged s with
  | .all => reply (.bytes (List.replicate n 0xFF)) (badData s)
  | .one r c => reply (.bytes (natLe n (f r c))) s
  | .invalid => badData s

/-- A read that PAGE does not select. -/
def plainRead (n v : Nat) (s : State) : State := reply (.bytes (natLe n v)) s

/-- A block read: the count, then the bytes. -/
def blockRead (l : List Byte) (s : State) : State := reply (.bytes (BitVec.ofNat 8 l.length :: l)) s

/-- PAGE. -/
def pageCmd (d : Option Byte) (pec : Pec) (s : State) : State :=
  match d with
  | none => smbRead (fun s => plainRead 1 s.hif.page.toNat s) s
  | some v => smbWrite pec (fun s =>
      if v.toNat < 24 ∨ v = 0xFF#8 then { s with hif := { s.hif with page := v } } else badData s) s

/-! ## Standard commands (R389, R427) -/

/-- OPERATION. -/
def operationCmd (d : Option Byte) (pec : Pec) (s : State) : State :=
  match d with
  | none => smbRead (fun s => pagedRead 1 (fun r _ => if railState s.rails[r] = 2 then 0x80 else 0) s) s
  | some v => smbWrite pec (fun s =>
      if v = 0x80#8 then pagedWrite (fun r c => seqCmd r c 1) s
      else if v = 0x00#8 ∨ v = 0x40#8 then pagedWrite (fun r c => seqCmd r c 2) s
      else badData s) s

/-- The class C W1C bits of a rail page are cleared, with the counters their field maps name: one word for each register, by the rule
of W1C bits raised in the same core cycle (R314, R427, R432). -/
def clearRail (r : RailId) (_c : RailCfg) (s : State) : State :=
  let w1c := fun (off : Nat) (w : Word) (f : Word → Rail → Rail) (s : State) =>
    w1cDo (0x10 + r.val) off w (fun w => onRail r (f w)) s
  let s := w1c 0x48 0xE0000000#32 shareW1c (w1c 0x00 0xE0000000#32 engW1c s)
  let s := w1c 0x7C 0x21000000#32 protW1c (w1c 0x78 0x00C00000#32 seqW1c (w1c 0x74 0x20000000#32 tripW1c s))
  w1c 0xA0 0x10000000#32 (fun w x => { x with sil := { x.sil with rdErr := x.sil.rdErr && !bitw w 28 } }) <|
    w1c 0x60 0x20000000#32 (fun w x => { x with pos := { x.pos with hrej := x.pos.hrej && !bitw w 29 } }) s

/-- CLEAR_FAULTS: STATUS_CML, the paged rails, GLB_STATUS bits 25:20. Log entry 22, DEDUCED. -/
def clearCmd (pec : Pec) (s : State) : State :=
  smbWrite pec (fun s =>
    match paged s with
    | .invalid => badData s
    | _ =>
      let s := { s with hif := { s.hif with cmlBad := false, cmlData := false, cmlPec := false } }
      pagedWrite clearRail (w1cDo 0x00 0x10 0x03F00000#32 (glbWrite 0x10) s)) s

/-- VOUT_COMMAND. -/
def voutCmd (d : Option (BitVec 16)) (pec : Pec) (s : State) : State :=
  match d with
  | none => smbRead (fun s => pagedRead 2 (fun r _ => toLinear16 s.rails[r].pos.target.toNat) s) s
  | some v => smbWrite pec (pagedWrite fun r c => hostTarget r c (ofLinear16 v.toNat)) s

/-- VOUT_TRANSITION_RATE: rounded to 0.25 mV/µs, then held to the limits of RAIL_SLEW. Log entry 22, DEDUCED. -/
def rateCmd (d : Option (BitVec 16)) (pec : Pec) (s : State) : State :=
  match d with
  | none => smbRead (fun s => pagedRead 2 (fun r _ => toLinear11 (-2) (s.rails[r].pos.slew.toNat : Int)) s) s
  | some v => smbWrite pec (pagedWrite fun r _ => portSlew r (clampI 1 320 (ofLinear11 (-2) v.toNat)).toNat) s

/-- MFR_TARGET_RAW. -/
def rawTargetCmd (d : Option (BitVec 16)) (pec : Pec) (s : State) : State :=
  match d with
  | none => smbRead (fun s => pagedRead 2 (fun r _ => s.rails[r].pos.target.toNat) s) s
  | some v => smbWrite pec (pagedWrite fun r c => hostTarget r c v.toNat) s

/-- A paged read of the value `f` gives for the selected rail. -/
def readPaged (n : Nat) (f : State → RailId → RailCfg → Nat) (s : State) : State :=
  smbRead (fun s => pagedRead n (f s) s) s

/-- The hottest valid stage sensor of the rail's set; 0 when none is valid. -/
def stageHot (s : State) (c : RailCfg) (x : Rail) : Int :=
  let l := (coverSet c x).filterMap fun i =>
    let k := s.thm.sens.getD i {}
    if 8 ≤ i ∧ k.valid then some k.temp else none
  match l with
  | [] => 0
  | t :: ts => ts.foldl max t

/-! ## Status commands (R390) -/

/-- STATUS_CML. -/
def cmlByte (s : State) : Nat := bitf 7 s.hif.cmlBad + bitf 6 s.hif.cmlData + bitf 5 s.hif.cmlPec

/-- NONE_OF_THE_ABOVE: another class C or U status bit of the rail page. Log entry 22, DEDUCED. -/
def railOther (x : Rail) : Bool :=
  x.prot.uvFlt || x.prot.snsOpen || x.prot.bdFlt || x.prot.negLim || x.prot.clrRej || x.trip.clrRej || x.eng.esat
    || x.eng.sndfb || x.eng.marked || x.sh.trimSat || x.sh.phRej || x.sh.ofsClip || x.pos.hrej || x.seq.seqRej
    || x.seq.pgChg || x.sil.rdErr

/-- STATUS_BYTE. -/
def statByte (s : State) (r : RailId) : Nat :=
  let x := s.rails[r]
  bitf 6 (railState x != 2) + bitf 5 x.prot.ovFlt + bitf 4 x.trip.tripLat + bitf 2 s.thm.tshut
    + bitf 1 (cmlByte s != 0) + bitf 0 (railOther x)

/-- STATUS_WORD. -/
def statWord (s : State) (r : RailId) : Nat :=
  statByte s r + bitf 11 (!s.rails[r].seq.pgPin) + bitf 12 (telMacer s r)

/-- STATUS_MFR_SPECIFIC. -/
def statMfr (s : State) (r : RailId) (c : RailCfg) : Nat :=
  let x := s.rails[r]
  let btsf := (accordBanks c).any fun b => match toFin 24 b with | some b => s.banks[b].btsfFlt | none => false
  bitf 0 (telMacer s r) + bitf 1 x.prot.snsOpen + bitf 2 x.prot.bdFlt + bitf 3 btsf

/-! ## The manufacturer-specific block (R392) -/

/-- MFR_KA_READ in READY, RUN and SAFE; code 0xD0 of the responder in the other states (R322). -/
def kaWordRead (s : State) : State :=
  if kaServes s then reply (.bytes (natLe 2 (pwrKa s))) s else smbRead (fun s => plainRead 2 (pwrKa s) s) s

/-- Code 0xD1: the responder, or MFR_STATE_CMD. -/
def stateCmd (d : Byte) (pec : Pec) (s : State) : State :=
  if kaServes s then kaStateWrite d pec s
  else smbWrite pec (fun s => if 8 ≤ d.toNat then badData s else pwrGoto (d.toNat % 8) s) s

/-- MFR_REG_ADDR. -/
def regAddrCmd (d : Option (BitVec 16)) (pec : Pec) (s : State) : State :=
  match d with
  | none => smbRead (fun s => plainRead 2 s.hif.ptrS.toNat s) s
  | some v => smbWrite pec (fun s => { s with hif := { s.hif with ptrS := v } }) s

/-- The pointer advances past the register it names. -/
def ptrStep (s : State) : State :=
  let (p, s) := ptrAfter (nextAddr s.hif.ptrS) s
  { s with hif := { s.hif with ptrS := p } }

/-- MFR_REG_DATA: a block of 4 bytes. -/
def regDataCmd (d : Option (List Byte)) (pec : Pec) (s : State) : State :=
  match d with
  | none => smbRead (fun s =>
      let (w, s) := regRead .smb s.hif.ptrS s
      blockRead (leBytes w) (ptrStep s)) s
  | some l => smbWrite pec (fun s =>
      match l with
      | [b0, b1, b2, b3] => xferEnd (ptrStep (regWrite .smb s.hif.ptrS (b3 ++ b2 ++ b1 ++ b0) s))
      | _ => badData s) s

/-- The command codes of R389 and R392. -/
def knownCodes : List Nat :=
  [0x00, 0x01, 0x02, 0x03, 0x19, 0x20, 0x21, 0x24, 0x27, 0x2B, 0x40, 0x44, 0x46, 0x78, 0x79, 0x7A, 0x7B, 0x7D, 0x7E, 0x80,
    0x8B, 0x8C, 0x8D, 0x8E, 0x98, 0x99, 0x9A, 0x9B, 0xAD, 0xAE, 0xD0, 0xD1, 0xD2, 0xD3, 0xD4]

/-- A command code that is not supported. -/
def unknownCmd (code : Byte) (s : State) : State :=
  if knownCodes.contains code.toNat then s else if smbUp s then badCode s else reply .nack s

/-! ## Time-out and alert (R383, R385) -/

/-- The clock-low time-out. -/
def smbTimeout (s : State) : State := onHost (fun s => { s with hif := { s.hif with smbTo := true } }) s

/-- A read of the Alert Response Address: the 7-bit address while ALERT_N is driven low, no answer otherwise.
Log entry 22, DEDUCED. -/
def alertAnswer (s : State) : State :=
  if hostUp s && alertLow s then reply (.word (BitVec.ofNat 32 (smbAddr s))) s else reply .nack s

end Sys2Proof.Machine
end

