-- ==== Sys2Proof/Machine/ExecHost.lean ====
section
/-! DEFINITION. Meanings: register writes, SMBus and PMBus (R322, R380 to R392, R427). -/

namespace Sys2Proof.Machine

/-- A paged register in Linear16 (R427). -/
def lin16 (v : Nat) : Nat := toLinear16 v

/-- The block access of MFR_REG_DATA reaches a register. -/
def regDataReaches (d : Option (List Byte)) (pec : Pec) (s : State) : Bool :=
  smbUp s && match d with
  | none => true
  | some l => l.length == 4 && (pec == .good || (pec == .absent && !(hostif s).pecreq))

/-- STATUS_VOUT, STATUS_IOUT and STATUS_TEMPERATURE (R390). -/
def statVout (x : Rail) : Nat := bitf 7 x.prot.ovFlt + bitf 4 x.prot.uvFlt

/-- STATUS_IOUT. -/
def statIout (x : Rail) : Nat := bitf 7 x.trip.tripLat + bitf 5 x.eng.clampI

/-- STATUS_TEMPERATURE. -/
def statTemp (s : State) (x : Rail) : Nat := bitf 7 s.thm.tshut + bitf 6 x.lim.throttled

/-- A string as a block. -/
def strBytes (t : String) : List Byte := t.toList.map fun ch => BitVec.ofNat 8 ch.toNat

/-! ## Register access -/

/-- REGISTER_WRITE (R380). A write to the register at `a` from interface `i`; the factory page is a unit the spec does not
describe. Log entry 45, DESIGN CHOICE. -/
def execRegisterWrite (i : Iface) (a : BitVec 16) (w : Word) (s : State) : Out :=
  if hostUp s && factoryHit s a then .refused .factoryPage else act (onHost fun s => xferEnd (regWrite i a w s)) s

/-! ## SMBus -/

/-- SMBUS_TIMEOUT (R383). 25 ms of HSCL low. -/
def execSmbusTimeout (s : State) : Out :=
  act smbTimeout s

/-- ALERT_RESPONSE (R385). A read of the Alert Response Address. -/
def execAlertResponse (s : State) : Out :=
  act alertAnswer s

/-- KA_READ_WORD (R322). Read Word of code 0xD0. -/
def execKaReadWord (s : State) : Out :=
  act (withPec 0xD0 kaWordRead) s

/-- KA_STATE_CMD (R322). Write Byte of code 0xD1. -/
def execKaStateCmd (d : Byte) (pec : Pec) (s : State) : Out :=
  act (withPec 0xD1 (stateCmd d pec)) s

/-! ## Standard commands -/

/-- PAGE (R388). Code 0x00: a write of `d`, or a read. -/
def execPage (d : Option Byte) (pec : Pec) (s : State) : Out :=
  act (withPec 0x00 (pageCmd d pec)) s

/-- OPERATION (R389). Code 0x01: a write of `d`, or a read. -/
def execOperation (d : Option Byte) (pec : Pec) (s : State) : Out :=
  act (withPec 0x01 (operationCmd d pec)) s

/-- ON_OFF_CONFIG (R389). Code 0x02. -/
def execOnOffConfig (s : State) : Out :=
  act (withPec 0x02 (readPaged 1 (fun _ _ _ => 0x18))) s

/-- CLEAR_FAULTS (R389). Code 0x03. -/
def execClearFaults (pec : Pec) (s : State) : Out :=
  act (withPec 0x03 (clearCmd pec)) s

/-- CAPABILITY (R389). Code 0x19. -/
def execCapability (s : State) : Out :=
  act (withPec 0x19 (smbRead (plainRead 1 0xD0))) s

/-- VOUT_MODE (R389). Code 0x20. -/
def execVoutMode (s : State) : Out :=
  act (withPec 0x20 (readPaged 1 (fun _ _ _ => 0x14))) s

/-- VOUT_COMMAND (R427). Code 0x21: a write of `d`, or a read. -/
def execVoutCommand (d : Option (BitVec 16)) (pec : Pec) (s : State) : Out :=
  act (withPec 0x21 (voutCmd d pec)) s

/-- VOUT_MAX (R427). Code 0x24. -/
def execVoutMax (s : State) : Out :=
  act (withPec 0x24 (readPaged 2 (fun _ _ c => lin16 c.eng.vmax))) s

/-- VOUT_MIN (R427). Code 0x2B. -/
def execVoutMin (s : State) : Out :=
  act (withPec 0x2B (readPaged 2 (fun _ _ c => lin16 c.eng.vmin))) s

/-- VOUT_TRANSITION_RATE (R427). Code 0x27: a write of `d`, or a read. -/
def execVoutTransitionRate (d : Option (BitVec 16)) (pec : Pec) (s : State) : Out :=
  act (withPec 0x27 (rateCmd d pec)) s

/-- VOUT_OV_FAULT_LIMIT (R427). Code 0x40. -/
def execVoutOvFaultLimit (s : State) : Out :=
  act (withPec 0x40 (readPaged 2 (fun s r c => lin16 (outLevel c (ovSetting c s s.rails[r]))))) s

/-- VOUT_UV_FAULT_LIMIT (R427). Code 0x44. -/
def execVoutUvFaultLimit (s : State) : Out :=
  act (withPec 0x44 (readPaged 2 (fun s r c => lin16 (outLevel c (uvSetting c s s.rails[r]))))) s

/-- IOUT_OC_FAULT_LIMIT (R427). Code 0x46. -/
def execIoutOcFaultLimit (s : State) : Out :=
  act (withPec 0x46 (readPaged 2 (fun s r c => toLinear11 (-3) (ilimEff c s.rails[r] : Nat)))) s

/-! ## Status -/

/-- STATUS_BYTE (R390). Code 0x78. -/
def execStatusByte (s : State) : Out :=
  act (withPec 0x78 (readPaged 1 (fun s r _ => statByte s r))) s

/-- STATUS_WORD (R390). Code 0x79. -/
def execStatusWord (s : State) : Out :=
  act (withPec 0x79 (readPaged 2 (fun s r _ => statWord s r))) s

/-- STATUS_VOUT (R390). Code 0x7A. -/
def execStatusVout (s : State) : Out :=
  act (withPec 0x7A (readPaged 1 (fun s r _ => statVout s.rails[r]))) s

/-- STATUS_IOUT (R390). Code 0x7B. -/
def execStatusIout (s : State) : Out :=
  act (withPec 0x7B (readPaged 1 (fun s r _ => statIout s.rails[r]))) s

/-- STATUS_TEMPERATURE (R390). Code 0x7D. -/
def execStatusTemperature (s : State) : Out :=
  act (withPec 0x7D (readPaged 1 (fun s r _ => statTemp s s.rails[r]))) s

/-- STATUS_CML (R390). Code 0x7E. -/
def execStatusCml (s : State) : Out :=
  act (withPec 0x7E (smbRead (fun s => plainRead 1 (cmlByte s) s))) s

/-- STATUS_MFR_SPECIFIC (R390). Code 0x80. -/
def execStatusMfrSpecific (s : State) : Out :=
  act (withPec 0x80 (readPaged 1 statMfr)) s

/-! ## Telemetry and identity -/

/-- READ_VOUT (R391). Code 0x8B. -/
def execReadVout (s : State) : Out :=
  act (withPec 0x8B (readPaged 2 (fun s r _ => tvout s.rails[r]))) s

/-- READ_IOUT (R391). Code 0x8C. -/
def execReadIout (s : State) : Out :=
  act (withPec 0x8C (readPaged 2 (fun s r _ => toLinear11 (-3) (tiout s.rails[r])))) s

/-- READ_TEMPERATURE_1 (R389). Code 0x8D. -/
def execReadTemperature1 (s : State) : Out :=
  act (withPec 0x8D (smbRead (fun s => plainRead 2 (toLinear11 (-3) s.thm.tj) s))) s

/-- READ_TEMPERATURE_2 (R427). Code 0x8E. -/
def execReadTemperature2 (s : State) : Out :=
  act (withPec 0x8E (readPaged 2 (fun s r c => toLinear11 (-3) (stageHot s c s.rails[r])))) s

/-- PMBUS_REVISION (R389). Code 0x98. -/
def execPmbusRevision (s : State) : Out :=
  act (withPec 0x98 (smbRead (plainRead 1 0x44))) s

/-- MFR_ID (R389). Code 0x99. -/
def execMfrId (s : State) : Out :=
  act (withPec 0x99 (smbRead (blockRead (strBytes "TWIRUM")))) s

/-- MFR_MODEL (R389). Code 0x9A. -/
def execMfrModel (s : State) : Out :=
  act (withPec 0x9A (smbRead (blockRead (strBytes "XV6192")))) s

/-- MFR_REVISION (R427). Code 0x9B. -/
def execMfrRevision (s : State) : Out :=
  act (withPec 0x9B (smbRead (blockRead (((leBytes Config.rev).drop 2).reverse)))) s

/-- IC_DEVICE_ID (R427). Code 0xAD. -/
def execIcDeviceId (s : State) : Out :=
  act (withPec 0xAD (smbRead (blockRead [0x92#8, 0x61#8, 0x00#8, 0x00#8]))) s

/-- IC_DEVICE_REV (R427). Code 0xAE. -/
def execIcDeviceRev (s : State) : Out :=
  act (withPec 0xAE (smbRead (blockRead ((leBytes Config.rev).take 1)))) s

/-! ## The manufacturer-specific block -/

/-- MFR_KA_READ (R392). Code 0xD0. -/
def execMfrKaRead (s : State) : Out :=
  act (withPec 0xD0 kaWordRead) s

/-- MFR_STATE_CMD (R392). Code 0xD1. -/
def execMfrStateCmd (d : Byte) (pec : Pec) (s : State) : Out :=
  act (withPec 0xD1 (stateCmd d pec)) s

/-- MFR_REG_ADDR (R392). Code 0xD2: a write of `d`, or a read. -/
def execMfrRegAddr (d : Option (BitVec 16)) (pec : Pec) (s : State) : Out :=
  act (withPec 0xD2 (regAddrCmd d pec)) s

/-- MFR_REG_DATA (R392). Code 0xD3: a block write of `d`, or a block read. Log entry 45, DESIGN CHOICE. -/
def execMfrRegData (d : Option (List Byte)) (pec : Pec) (s : State) : Out :=
  if regDataReaches d pec s && factoryHit s s.hif.ptrS then .refused .factoryPage else act (withPec 0xD3 (regDataCmd d pec)) s

/-- MFR_TARGET_RAW (R392). Code 0xD4: a write of `d`, or a read. -/
def execMfrTargetRaw (d : Option (BitVec 16)) (pec : Pec) (s : State) : Out :=
  act (withPec 0xD4 (rawTargetCmd d pec)) s

/-- PMBUS_UNSUPPORTED (R389). Any other code. -/
def execPmbusUnsupported (code : Byte) (s : State) : Out :=
  act (unknownCmd code) s

end Sys2Proof.Machine
end

