-- ==== Sys2Proof/Machine/I3c.lean ====
section
/-! DEFINITION. The I3C target (R393 to R396): private transfers, common command codes, in-band interrupts, Hot-Join. -/

namespace Sys2Proof.Machine

/-- The target hears the bus: it serves (R379), and no HDR traffic runs, which it ignores from ENTHDR to the HDR Exit Pattern
(R393). -/
def i3cOpen (s : State) : Bool := hostUp s && !s.hif.hdr

/-- The target holds a dynamic address and answers (R379). -/
def i3cUp (s : State) : Bool := i3cOpen s && s.hif.dynAddr.isSome

/-- A transfer or a direct code to the dynamic address. -/
def i3cDirect (f : State → State) (s : State) : State := if i3cUp s then f s else reply (if s.hif.hdr then .none else .nack) s

/-! ## Private transfers (R393) -/

/-- A private write longer than MWL is truncated, with ACCERR. Log entry 23, PRESUMED. -/
def mwlCut (data : List Byte) (s : State) : List Byte × State :=
  if s.hif.mwl.toNat < data.length then (data.take s.hif.mwl.toNat, accErr s) else (data, s)

/-- A private write: two bytes set the pointer, further ones are data. Log entry 23, PRESUMED. -/
def i3cWrite (data : List Byte) (s : State) : State :=
  i3cDirect (fun s =>
    let (data, s) := mwlCut data (reply .ack s)
    match data with
    | off :: page :: l =>
      let (a, s) := writeBytes .i3c (some (page ++ off)) l s
      let (p, s) := ptrAfter a s
      xferEnd { s with hif := { s.hif with ptrI := p } }
    | _ => s) s

/-- A private read of `n` bytes from the pointer, at most MRL. Log entry 23, PRESUMED. -/
def i3cRead (n : Nat) (s : State) : State :=
  i3cDirect (fun s =>
    let n := min n s.hif.mrl.toNat
    let (l, a, s) := readBytes .i3c (some s.hif.ptrI) n n s
    let (p, s) := ptrAfter a s
    reply (.bytes l) { s with hif := { s.hif with ptrI := p } }) s

/-- A private write names a factory register. -/
def i3cFactory (s : State) (a : BitVec 16) : Bool := i3cUp s && factoryHit s a

/-! ## Addresses (R394, R396) -/

/-- Take or lose the dynamic address. -/
def setDyn (a : Option (BitVec 7)) (s : State) : State :=
  { s with hif := { s.hif with dynAddr := a, daaChg := s.hif.daaChg || s.hif.dynAddr != a } }

/-- A dynamic address is assigned: Hot-Join ends. -/
def takeAddr (a : BitVec 7) (s : State) : State := disarm (· == .hotJoinRequest) (setDyn (some a) s)

/-- ENTDAA: PID, BCR and DCR, then the address. Log entry 23, PRESUMED. -/
def pidBytes (s : State) : List Byte :=
  let i := strapIndex s
  let v := fld 33 15 0x1C5A + fld 16 16 0x6192 + fld 12 4 i + fld 6 6 i
  (natLe 6 v).reverse

/-- ENTDAA. -/
def entdaaCmd (a : BitVec 7) (s : State) : State :=
  if i3cOpen s && s.hif.dynAddr.isNone then
    reply (.bytes (pidBytes s ++ [0x06#8, 0x00#8])) (takeAddr a s)
  else reply .none s

/-- RSTDAA. -/
def rstdaaCmd (s : State) : State := if i3cOpen s then reply .ack (setDyn none s) else reply .none s

/-- SETDASA: only with a static address in the image, and only while no dynamic address is held (log entry 43, PRESUMED). -/
def setdasaCmd (a : BitVec 7) (s : State) : State :=
  if i3cOpen s && (hostif s).i3csa != 0 && s.hif.dynAddr.isNone then reply .ack (takeAddr a s) else reply .nack s

/-- SETNEWDA. -/
def setnewdaCmd (a : BitVec 7) (s : State) : State := i3cDirect (fun s => reply .ack (takeAddr a s)) s

/-! ## Events and limits (R394, R395) -/

/-- ENEC: bit 0 INT, bit 3 HJ. Log entry 23, PRESUMED. -/
def enecCmd (ev : Byte) (s : State) : State :=
  if i3cOpen s then
    let s := reply .ack { s with hif := { s.hif with intEn := s.hif.intEn || ev.getLsbD 0, hjEn := s.hif.hjEn || ev.getLsbD 3 } }
    if ev.getLsbD 0 then ibiAgain s else s
  else reply .none s

/-- DISEC. Log entry 23, PRESUMED. -/
def disecCmd (ev : Byte) (s : State) : State :=
  if i3cOpen s then
    let s := reply .ack { s with hif := { s.hif with
      intEn := s.hif.intEn && !ev.getLsbD 0, hjEn := s.hif.hjEn && !ev.getLsbD 3 } }
    if ev.getLsbD 3 then disarm (· == .hotJoinRequest) s else s
  else reply .none s

/-- A length from 4 to 1,024. -/
def lenOk (n : BitVec 16) : Bool := decide (4 ≤ n.toNat) && decide (n.toNat ≤ 1024)

/-- SETMWL. -/
def setmwlCmd (n : BitVec 16) (s : State) : State :=
  if i3cOpen s then reply .ack (if lenOk n then { s with hif := { s.hif with mwl := n } } else s) else reply .none s

/-- SETMRL. -/
def setmrlCmd (n : BitVec 16) (s : State) : State :=
  if i3cOpen s then reply .ack (if lenOk n then { s with hif := { s.hif with mrl := n } } else s) else reply .none s

/-- A number, most significant byte first. Log entry 23, PRESUMED. -/
def msbBytes (n v : Nat) : List Byte := (natLe n v).reverse

/-- A direct read of bytes. -/
def cccRead (f : State → List Byte) (s : State) : State := i3cDirect (fun s => reply (.bytes (f s)) s) s

/-- GETSTATUS: outstanding groups in bits 3:0, a protocol error in bit 5, which it clears. Log entry 23, PRESUMED. -/
def getstatusCmd (s : State) : State :=
  i3cDirect (fun s =>
    let v := min 15 s.hif.ibi.length + bitf 5 s.hif.protErr
    reply (.bytes (msbBytes 2 v)) { s with hif := { s.hif with protErr := false } }) s

/-- A protocol error: I3CERR. -/
def i3cFault (s : State) : State := { s with hif := { s.hif with i3cErr := true, protErr := true } }

/-- HDR traffic begins or ends (R393). -/
def hdrSet (v : Bool) (s : State) : State := { s with hif := { s.hif with hdr := v } }

/-- An undefined, broken or ignored code; ENTHDR and the HDR Exit Pattern. -/
def cccOther (k : CccKind) (s : State) : State :=
  if !hostUp s then reply .none s
  else if k = .hdrExit then reply .none (hdrSet false s)
  else if s.hif.hdr then reply .none s
  else match k with
    | .entHdr => reply .none (hdrSet true s)
    | .hdrExit => s
    | .undefinedBroadcast => reply .none (i3cFault s)
    | .undefinedDirect => reply .nack (i3cFault s)
    | .parity => reply .none (i3cFault s)
    | .listedIgnored => reply .none s

/-! ## In-band interrupts and Hot-Join (R395, R396) -/

/-- The oldest outstanding request is delivered; after a NACK or a lost arbitration the target asks again no sooner than
100 µs later. -/
def ibiDeliver (ack : Bool) (s : State) : State :=
  if i3cUp s && s.hif.intEn && decide (s.hif.ibiFrom ≤ s.now) then
    match s.hif.ibi with
    | [] => s
    | (page, g) :: l =>
      if ack then
        reply (.ibi (BitVec.ofNat 8 (page - 0x60)) (BitVec.ofNat 8 g))
          { s with hif := { s.hif with ibi := l, ibiCnt := (s.hif.ibiCnt + 1) % 65536 } }
      else { s with hif := { s.hif with ibiFrom := s.now + 100 * usTicks } }
  else s

/-- A Hot-Join request to address 0x02; the next follows 1.0 ms later, also when HDR traffic holds the bus (R393, R396). -/
def hotJoin (s : State) : State :=
  if hostUp s && s.hif.dynAddr.isNone && s.hif.hjEn && (hostif s).hotjoin then
    let t := rearm (1000 * usTicks) .hotJoinRequest s
    if s.hif.hdr then t else reply (.bytes [0x02#8]) t
  else s

end Sys2Proof.Machine
end

