-- ==== Sys2Proof/Machine/ExecI3c.lean ====
section
/-! DEFINITION. Meanings: the I3C target (R393 to R396). -/

namespace Sys2Proof.Machine

/-- The register at which a private write's data begins, when it has at least one whole register of them. -/
def writeAt (data : List Byte) (s : State) : Option (BitVec 16) :=
  match (mwlCut data s).1 with
  | off :: page :: _ :: _ :: _ :: _ :: _ => some (page ++ off)
  | _ => none

/-- A private write reaches a factory register. -/
def writeFactory (data : List Byte) (s : State) : Bool :=
  match writeAt data s with
  | some a => i3cFactory s a
  | none => false

/-! ## Private transfers -/

/-- I3C_PRIVATE_WRITE (R393). The bytes after the address. Log entry 45, DESIGN CHOICE. -/
def execI3cPrivateWrite (data : List Byte) (s : State) : Out :=
  if writeFactory data s then .refused .factoryPage else act (i3cWrite data) s

/-- I3C_PRIVATE_READ (R393). `n` bytes. Log entry 45, DESIGN CHOICE. -/
def execI3cPrivateRead (n : Nat) (s : State) : Out :=
  if decide (0 < n) && i3cFactory s s.hif.ptrI then .refused .factoryPage else act (i3cRead n) s

/-! ## Common command codes -/

/-- ENTDAA (R394). The address that the controller assigns. -/
def execEntdaa (a : BitVec 7) (s : State) : Out :=
  act (entdaaCmd a) s

/-- RSTDAA (R394). The dynamic address is cleared. -/
def execRstdaa (s : State) : Out :=
  act rstdaaCmd s

/-- ENEC (R394). The event byte. -/
def execEnec (ev : Byte) (s : State) : Out :=
  act (enecCmd ev) s

/-- DISEC (R394). The event byte. -/
def execDisec (ev : Byte) (s : State) : Out :=
  act (disecCmd ev) s

/-- SETMWL (R394). The length. -/
def execSetmwl (n : BitVec 16) (s : State) : Out :=
  act (setmwlCmd n) s

/-- SETMRL (R394). The length. -/
def execSetmrl (n : BitVec 16) (s : State) : Out :=
  act (setmrlCmd n) s

/-- SETDASA (R394). The address that the controller assigns. -/
def execSetdasa (a : BitVec 7) (s : State) : Out :=
  act (setdasaCmd a) s

/-- SETNEWDA (R394). The address that the controller assigns. -/
def execSetnewda (a : BitVec 7) (s : State) : Out :=
  act (setnewdaCmd a) s

/-- GETMWL (R394). Two bytes. -/
def execGetmwl (s : State) : Out :=
  act (cccRead (fun s => msbBytes 2 s.hif.mwl.toNat)) s

/-- GETMRL (R394). Two bytes and the payload size of an in-band interrupt. -/
def execGetmrl (s : State) : Out :=
  act (cccRead (fun s => msbBytes 2 s.hif.mrl.toNat ++ [0x01#8])) s

/-- GETPID (R394). Six bytes. -/
def execGetpid (s : State) : Out :=
  act (cccRead pidBytes) s

/-- GETBCR (R394). BCR. -/
def execGetbcr (s : State) : Out :=
  act (cccRead (fun _ => [0x06#8])) s

/-- GETDCR (R394). DCR. -/
def execGetdcr (s : State) : Out :=
  act (cccRead (fun _ => [0x00#8])) s

/-- GETSTATUS (R394). Outstanding groups and the protocol error. -/
def execGetstatus (s : State) : Out :=
  act getstatusCmd s

/-- GETMXDS (R394). Two bytes of zero. -/
def execGetmxds (s : State) : Out :=
  act (cccRead (fun _ => [0x00#8, 0x00#8])) s

/-- I3C_UNDEFINED_CCC (R394). A code that is not answered. -/
def execI3cUndefinedCcc (k : CccKind) (s : State) : Out :=
  act (cccOther k) s

/-! ## Requests of the target -/

/-- IBI_DELIVERY (R395). The controller takes the request, or does not. -/
def execIbiDelivery (ack : Bool) (s : State) : Out :=
  act (ibiDeliver ack) s

/-- HOT_JOIN_REQUEST (R396). A request to address 0x02. -/
def execHotJoinRequest (s : State) : Out :=
  act (onFire .hotJoinRequest hotJoin) s

end Sys2Proof.Machine
end

