-- ==== Sys2Proof/Machine/ExecImage.lean ====
section
/-! DEFINITION. Meanings: the image loader and the NV log (R77 to R88, R339 to R356, R456). -/

namespace Sys2Proof.Machine

/-- The loader works in READY, RUN and SAFE from the release of the control domain (R85). Log entry 11, DESIGN CHOICE. -/
def onLoader (f : State → State) (s : State) : State := if ctlUp s then f s else s

/-- A command of IMG_CTRL with its key (R86, R87). -/
def imgCmd (cmd slot rail : Nat) (s : State) : State := onHost (imgCtrl (imgWordOf cmd slot rail)) s

/-- A Blotter test falls due: by its period, which starts anew, or because one waits (R347). -/
def blotterDue (s : State) : State :=
  if isArmed .blotterTest s then
    testStart (rearm (bperiodTicks s.nvl.bperiod) .blotterTest (disarm (· == .blotterTest) s))
  else testWaiting s

/-! ## Full loads -/

/-- BOOT_LOAD (R80). It starts by itself. -/
def execBootLoad (s : State) : Out :=
  act (onFire .bootLoad bootStart) s

/-- LOAD_DONE (R78). Checks, commit and seal; `flashId` is what the flash answers. -/
def execLoadDone (flashId : Byte) (s : State) : Out :=
  act (onLoader (fullDone flashId)) s

/-- LOAD_AUTO (R86). IMG_CTRL. -/
def execLoadAuto (s : State) : Out :=
  act (imgCmd 1 0 0) s

/-- LOAD_A (R86). IMG_CTRL. -/
def execLoadA (s : State) : Out :=
  act (imgCmd 2 0 0) s

/-- LOAD_B (R86). IMG_CTRL. -/
def execLoadB (s : State) : Out :=
  act (imgCmd 3 0 0) s

/-- LOAD_HOST (R81). IMG_CTRL. -/
def execLoadHost (s : State) : Out :=
  act (imgCmd 4 0 0) s

/-- IMG_DATA_WRITE (R456). A write to IMG_DATA. -/
def execImgDataWrite (w : Word) (s : State) : Out :=
  act (onHost (dataWrite w)) s

/-! ## Slots -/

/-- SLOT_CHECK (R82). IMG_CTRL. -/
def execSlotCheck (slot : BitVec 2) (s : State) : Out :=
  act (imgCmd 5 slot.toNat 0) s

/-- SLOT_CHECK_DONE (R82). `flashId` is what the flash answers. -/
def execSlotCheckDone (flashId : Byte) (s : State) : Out :=
  act (onLoader (slotCheckEnd flashId)) s

/-- SLOT_ERASE (R82). IMG_CTRL. -/
def execSlotErase (slot : BitVec 2) (s : State) : Out :=
  act (imgCmd 9 slot.toNat 0) s

/-- SLOT_ERASE_DONE (R82). The last sector is erased; `ok` unless the flash does not confirm it. -/
def execSlotEraseDone (ok : Bool) (s : State) : Out :=
  act (onLoader (eraseDone ok)) s

/-- SLOT_WRITE (R82). IMG_CTRL. -/
def execSlotWrite (slot : BitVec 2) (s : State) : Out :=
  act (imgCmd 10 slot.toNat 0) s

/-- SLOT_COMMIT (R82). IMG_CTRL. -/
def execSlotCommit (slot : BitVec 2) (s : State) : Out :=
  act (imgCmd 11 slot.toNat 0) s

/-- SLOT_COMMIT_DONE (R82). The trailer is programmed; `ok` unless the flash does not confirm it. -/
def execSlotCommitDone (ok : Bool) (s : State) : Out :=
  act (onLoader (slotCommitEnd ok)) s

/-- FLASH_WRITE_STOPPED (R82). The window has closed. -/
def execFlashWriteStopped (s : State) : Out :=
  act (onLoader writeStopped) s

/-! ## Patches, keys -/

/-- PATCH_BEGIN (R84). IMG_CTRL. -/
def execPatchBegin (n : BitVec 5) (s : State) : Out :=
  act (imgCmd 6 0 n.toNat) s

/-- PATCH_APPLY (R84). IMG_CTRL. -/
def execPatchApply (n : BitVec 5) (s : State) : Out :=
  act (imgCmd 7 0 n.toNat) s

/-- PATCH_COMMIT (R84). The commit cycle. -/
def execPatchCommit (s : State) : Out :=
  act (onLoader patchDone) s

/-- ABORT (R86). IMG_CTRL. -/
def execAbort (s : State) : Out :=
  act (imgCmd 8 0 0) s

/-- REVOKE (R77). IMG_CTRL. -/
def execRevoke (slot : BitVec 2) (s : State) : Out :=
  act (imgCmd 12 slot.toNat 0) s

/-- EPOCH_ADVANCE (R77). IMG_CTRL. -/
def execEpochAdvance (s : State) : Out :=
  act (imgCmd 13 0 0) s

/-! ## The NV log -/

/-- LOG_SCAN (R341). The control domain has started. -/
def execLogScan (s : State) : Out :=
  act (onFire .logScan scanStart) s

/-- LOG_SCAN_DONE (R341). Every slot has been read. -/
def execLogScanDone (s : State) : Out :=
  act scanDone s

/-- BLOTTER_TEST (R347). The period has passed, or a test waits. -/
def execBlotterTest (s : State) : Out :=
  act blotterDue s

/-- BLOT (R347). NVL_CTRL with its key. -/
def execBlot (s : State) : Out :=
  act (onHost (blotWrite 0xA5800000#32)) s

/-- BLOTTER_RESULT (R348). The start code, the change in codes and Δt in core cycles. -/
def execBlotterResult (vh dv : Int) (dt : Nat) (s : State) : Out :=
  act (testEnd vh dv dt) s

/-- LOG_COMMIT_START (R350). The gate looks at the head record. -/
def execLogCommitStart (s : State) : Out :=
  act (onFire .logCommitStart gateTurn) s

/-- LOGGED (R351). COMMITTED is programmed. -/
def execLogged (s : State) : Out :=
  act commitDone s

/-- LOG_PROGRAM_TIMEOUT (R351). A program was not confirmed. -/
def execLogProgramTimeout (s : State) : Out :=
  act programTimeout s

/-- LOG_BLOCK_ERASE (R339). The next ring block is due. -/
def execLogBlockErase (s : State) : Out :=
  act (onFire .logBlockErase blockErase) s

/-- NVL_RDCTRL_WRITE (R354). A write to NVL_RDCTRL. -/
def execNvlRdctrlWrite (w : Word) (s : State) : Out :=
  act (onHost (rdctrlWrite w)) s

/-- NVL_FETCH_DONE (R354). The record is in the buffer. -/
def execNvlFetchDone (s : State) : Out :=
  act fetchDone s

/-- NVL_RDDATA_READ (R354). A read of NVL_RDDATA. -/
def execNvlRddataRead (s : State) : Out :=
  act (hostRead .smb 0x0528#16) s

/-- NVL_TIME_TICK (R356). A second has passed. -/
def execNvlTimeTick (s : State) : Out :=
  act (onFire .nvlTimeTick timeTick) s

end Sys2Proof.Machine
end

