-- ==== Sys2Proof/Machine/ExecNelink.lean ====
section
/-! DEFINITION. Meanings: Nelink (R403 to R410). -/

namespace Sys2Proof.Machine

/-- A frame with a right CRC that this controller hears: its ACK bit is driven dominant (R403); `lost` when its own frame lost
the arbitration to it (R405). -/
def heard (lost : Bool) (f : State → State) (s : State) : State :=
  if nlHears s then nlRetry lost (f (nlArb lost (reply .ack s))) else s

/-! ## Frames -/

/-- CLAIM (R406). The sender and the payload. -/
def execClaim (id : BitVec 6) (pl : Word) (lost : Bool) (s : State) : Out :=
  act (heard lost (nlClaim id pl)) s

/-- YIELD (R407). The sender and the payload. -/
def execYield (id : BitVec 6) (pl : Word) (lost : Bool) (s : State) : Out :=
  act (heard lost (nlYield id pl)) s

/-- TIMEBASE (R408). The sender and the payload. -/
def execTimebase (id : BitVec 6) (pl : Word) (lost : Bool) (s : State) : Out :=
  act (heard lost (nlTimebase id pl)) s

/-- HELLO (R410). The sender and the payload. -/
def execHello (id : BitVec 6) (pl : Word) (lost : Bool) (s : State) : Out :=
  act (heard lost (nlHelloIn id pl)) s

/-- LEAVE (R410). The sender and the payload. -/
def execLeave (id : BitVec 6) (pl : Word) (lost : Bool) (s : State) : Out :=
  act (heard lost (nlLeave id pl)) s

/-- NL_BAD_FRAME (R404, R405). A frame in error, without ACK, or of an undefined TYPE. -/
def execNlBadFrame (k : NlFault) (s : State) : Out :=
  act (fun s => if nlHears s then nlBad k s else s) s

/-! ## Timers and commands -/

/-- NL_LISTEN_END (R406). The listen period ends; `acked` when the claim gets its ACK. -/
def execNlListenEnd (acked : Bool) (s : State) : Out :=
  act (onFire (.nlListenEnd true) (nlListenDone acked)) s

/-- NL_HELLO_TIMER (R410). 16.0 ms have passed; `acked` when the frame gets its ACK. -/
def execNlHelloTimer (acked : Bool) (s : State) : Out :=
  act (onFire (.nlHelloTimer true) (nlHelloDue acked)) s

/-- NL_PEER_TIMEOUT (R410). 50 ms without a HELLO. -/
def execNlPeerTimeout (id : BitVec 6) (s : State) : Out :=
  act (onFire (.nlPeerTimeout id) (nlDropPeer id)) s

/-- MLOST (R407). 16 µs without a pulse, or 1.0 ms without a TIMEBASE. -/
def execMlost (s : State) : Out :=
  act (fun s => let t := disarm (· == .mlost) s; if islandUp t then nlLost t else t) s

/-- RENEGOTIATE (R407). NL_CMD with its key. -/
def execRenegotiate (s : State) : Out :=
  act (onHost nlRenegotiate) s

/-- SYNC_IN_PULSE (R408). A pulse at SYNC_IN. -/
def execSyncInPulse (s : State) : Out :=
  act (fun s => if islandUp s then nlSyncIn s else s) s

end Sys2Proof.Machine
end

