-- ==== Sys2Proof/Machine/ExecPort.lean ====
section
/-! DEFINITION. Meanings: the load ports (R193 to R210). -/

namespace Sys2Proof.Machine

/-- A frame that no unit takes: LINKERR on a port that speaks the protocol (R203, R207). A 1 inside the time of the frame before
starts no frame; the other two end one. -/
def badFrame (pr : Proto) (p : PortId) (cause : LinkCause) (s : State) : State :=
  if portSpeaks s p pr then
    linkFail p cause (onPort p (fun x => { x with frames := if cause = .rate then x.frames else x.frames + 1 }) s)
  else s

/-! ## VSEL and VCMD-2 -/

/-- VSEL_ACCEPT (R196). An index stable for 1.00 µs, or one that has waited for the 2.00 µs. -/
def execVselAccept (p : PortId) (j : Fin 8) (s : State) : Out :=
  actBy p (vselStep p j) s

/-- VCMD2_SET_TARGET (R199). The frame at its apply point; `ovr` a host write of the same core cycle. -/
def execVcmd2SetTarget (p : PortId) (f : BitVec 32) (ovr : Bool) (s : State) : Out :=
  actBy p (v2frame p f ovr) s

/-- VCMD2_SET_SLEW (R199). The frame at its apply point. -/
def execVcmd2SetSlew (p : PortId) (f : BitVec 32) (s : State) : Out :=
  actBy p (v2frame p f false) s

/-- VCMD2_START (R193). The frame at its apply point. -/
def execVcmd2Start (p : PortId) (f : BitVec 32) (s : State) : Out :=
  actBy p (v2frame p f false) s

/-- VCMD2_STOP (R193). The frame at its apply point. -/
def execVcmd2Stop (p : PortId) (f : BitVec 32) (s : State) : Out :=
  actBy p (v2frame p f false) s

/-- VCMD2_READ (R202). The frame at its apply point. -/
def execVcmd2Read (p : PortId) (f : BitVec 32) (s : State) : Out :=
  actBy p (v2frame p f false) s

/-- VCMD2_NOP (R199). The frame at its apply point. -/
def execVcmd2Nop (p : PortId) (f : BitVec 32) (s : State) : Out :=
  actBy p (v2frame p f false) s

/-- VCMD2_LINK_ERROR (R203). No response. -/
def execVcmd2LinkError (p : PortId) (cause : LinkCause) (s : State) : Out :=
  actBy p (badFrame .vcmd2 p cause) s

/-! ## VCMD-1 -/

/-- SET_VID (R206). The frame at its apply point; `ovr` a host write of the same core cycle. -/
def execSetVid (p : PortId) (f : BitVec 16) (ovr : Bool) (s : State) : Out :=
  actBy p (v1frame p f ovr) s

/-- VCMD1_SET_SLEW (R206). The frame at its apply point. -/
def execVcmd1SetSlew (p : PortId) (f : BitVec 16) (s : State) : Out :=
  actBy p (v1frame p f false) s

/-- READ_VID (R206). The frame at its apply point. -/
def execReadVid (p : PortId) (f : BitVec 16) (s : State) : Out :=
  actBy p (v1frame p f false) s

/-- VCMD1_ON (R206). The frame at its apply point. -/
def execVcmd1On (p : PortId) (f : BitVec 16) (s : State) : Out :=
  actBy p (v1frame p f false) s

/-- VCMD1_OFF (R206). The frame at its apply point. -/
def execVcmd1Off (p : PortId) (f : BitVec 16) (s : State) : Out :=
  actBy p (v1frame p f false) s

/-- VCMD1_LINK_ERROR (R207). No response. -/
def execVcmd1LinkError (p : PortId) (cause : LinkCause) (s : State) : Out :=
  actBy p (badFrame .vcmd1 p cause) s

/-! ## AVSBus -/

/-- AVS_VOLTAGE_WRITE (R208). Write and commit. -/
def execAvsVoltageWrite (p : PortId) (sel : BitVec 4) (d : BitVec 16) (ovr : Bool) (s : State) : Out :=
  actBy p (avsWrite p 0x0#4 sel d ovr) s

/-- AVS_WRITE_HOLD (R208). Write and hold. -/
def execAvsWriteHold (p : PortId) (ty sel : BitVec 4) (d : BitVec 16) (s : State) : Out :=
  actBy p (avsHold p ty sel d) s

/-- AVS_VOLTAGE_READ (R208). TARGET in mV. -/
def execAvsVoltageRead (p : PortId) (sel : BitVec 4) (s : State) : Out :=
  actBy p (avsRead p sel (fun x => avsMv x.pos.target.toNat)) s

/-- AVS_TRANS_RATE_WRITE (R208). Write and commit. -/
def execAvsTransRateWrite (p : PortId) (sel : BitVec 4) (d : BitVec 16) (s : State) : Out :=
  actBy p (avsWrite p 0x1#4 sel d false) s

/-- AVS_TRANS_RATE_READ (R208). RAIL_SLEW in mV/µs. -/
def execAvsTransRateRead (p : PortId) (sel : BitVec 4) (s : State) : Out :=
  actBy p (avsRead p sel avsRate) s

/-- RESET_VOLTAGE (R208). Write and commit. -/
def execResetVoltage (p : PortId) (sel : BitVec 4) (ovr : Bool) (s : State) : Out :=
  actBy p (avsWrite p 0x4#4 sel 0 ovr) s

/-- AVS_STATUS_READ (R210). StatusResp. -/
def execAvsStatusRead (p : PortId) (sel : BitVec 4) (s : State) : Out :=
  actBy p (avsStatRead p sel) s

/-- AVS_STATUS_WRITE (R208). Write and commit. -/
def execAvsStatusWrite (p : PortId) (sel : BitVec 4) (d : BitVec 16) (s : State) : Out :=
  actBy p (avsWrite p 0xE#4 sel d false) s

/-- AVS_VERSION_READ (R208). Revision 1.3. -/
def execAvsVersionRead (p : PortId) (sel : BitVec 4) (s : State) : Out :=
  actBy p (avsVersRead p sel) s

/-- AVS_NO_ACTION (R209). No action. -/
def execAvsNoAction (p : PortId) (sel : BitVec 4) (why : AvsBad) (s : State) : Out :=
  actBy p (avsNothing p sel why) s

end Sys2Proof.Machine
end

