-- ==== Sys2Proof/Machine/ExecPower.lean ====
section
/-! DEFINITION. Meanings: power, resets, clock and supply monitors, the fatal hold, state commands and the wake (R28 to R32,
R296 to R298, R318 to R335). -/

namespace Sys2Proof.Machine

/-! ## Resets and supervision -/

/-- POWER_ON_RESET (R331). Every domain resets; the device ends in OFF. -/
def execPowerOnReset (s : State) : Out :=
  act powerOn s

/-- RESET_N (R332). A low pulse on RESET_N, as long as `ns`. -/
def execResetN (ns : Nat) (s : State) : Out :=
  act (resetPulse ns) s

/-- HOST_SOFT_RESET (R334). The write of PWR_RST that resets the control domain. -/
def execHostSoftReset (s : State) : Out :=
  act softReset s

/-- WATCHDOG_RESET (R335). The count has expired. -/
def execWatchdogReset (s : State) : Out :=
  act wdogExpire s

/-- KICK (R335). The write of PWR_WDOG that restarts the count. -/
def execKick (s : State) : Out :=
  act (fun s => if hostUp s then wdogKick s else s) s

/-- CONTROL_DOMAIN_RELEASE (R32). 64 core cycles after the reset. -/
def execControlDomainRelease (s : State) : Out :=
  act (onFire .controlDomainRelease ctlRelease) s

/-- VDD_BROWNOUT (R331). The detector's output rises or falls. -/
def execVddBrownout (up : Bool) (s : State) : Out :=
  act (vddStep up) s

/-- VDDA_BROWNOUT (R331). The detector's output rises or falls. -/
def execVddaBrownout (up : Bool) (s : State) : Out :=
  act (vddaStep up) s

/-- REFERENCE_LOST (R28). The PLL moves to the internal RC. -/
def execReferenceLost (s : State) : Out :=
  act refLost s

/-- PLL_LOSS_OF_LOCK (R28). PLLLOCK. -/
def execPllLossOfLock (s : State) : Out :=
  act pllDrop s

/-- DLL_LOSS_OF_LOCK (R28). DLLLOCK. -/
def execDllLossOfLock (s : State) : Out :=
  act dllDrop s

/-- DPWM_CLOCK_LOST (R116). The monitor of the DPWM clock reports edges absent, or present again. -/
def execDpwmClockLost (up : Bool) (s : State) : Out :=
  act (dpwmStep up) s

/-- SLOW_CLOCK_LOST (R28). SLOWCLK; timers in slow-clock mode end. -/
def execSlowClockLost (s : State) : Out :=
  act slowClkLost s

/-- GLB_FATAL_CLR (R298). A write to GLB_FATAL. -/
def execGlbFatalClr (w : Word) (s : State) : Out :=
  act (fun s => if hostUp s then fatalWrite w s else s) s

/-- CONFIG_SCRUB (R296). A pass over both copies and the errors it meets. -/
def execConfigScrub (errs : List ScrubErr) (s : State) : Out :=
  act (scrubPass errs) s

/-! ## State commands -/

/-- GOTO_OFF (R330). Through the path that the device state leaves open. -/
def execGotoOff (s : State) : Out :=
  act (gotoAny 0) s

/-- GOTO_STANDBY (R329). Through the path that the device state leaves open. -/
def execGotoStandby (s : State) : Out :=
  act (gotoAny 1) s

/-- STANDBY_ENTERED (R329). The save and the shutdown complete. -/
def execStandbyEntered (s : State) : Out :=
  act enterStandby s

/-- GOTO_READY (R324). Through the path that the device state leaves open. -/
def execGotoReady (s : State) : Out :=
  act (gotoAny 2) s

/-- GOTO_RUN (R327). Through the path that the device state leaves open. -/
def execGotoRun (s : State) : Out :=
  act (gotoAny 3) s

/-- RUN_TIMEOUT (R327). 10 ms without a valid Tj. -/
def execRunTimeout (s : State) : Out :=
  act (onFire .runTimeout runExpire) s

/-- WAKE (R323). A high pulse on WAKE, as long as `ns`. -/
def execWake (ns : Nat) (s : State) : Out :=
  act (wakePulse ns) s

/-! ## The wake -/

/-- SUPPLIES_READY (R324). Both detectors report. -/
def execSuppliesReady (s : State) : Out :=
  act wakeSupplies s

/-- SUPPLY_TIMEOUT (R325). 2.0 ms after the switches closed. -/
def execSupplyTimeout (s : State) : Out :=
  act (onFire .supplyTimeout wakeSupFail) s

/-- REFERENCE_QUALIFIED (R324). 1,024 edges match. -/
def execReferenceQualified (s : State) : Out :=
  act (wakeRef false) s

/-- REFERENCE_QUAL_TIMEOUT (R325). The reference gives way to the RC. -/
def execReferenceQualTimeout (s : State) : Out :=
  act (onFire .referenceQualTimeout (wakeRef true)) s

/-- PLL_LOCKED (R324). In a wake, or regained in the fatal hold. -/
def execPllLocked (s : State) : Out :=
  act pllGain s

/-- PLL_ATTEMPT_TIMEOUT (R325). 200 µs without lock. -/
def execPllAttemptTimeout (s : State) : Out :=
  act (onFire .pllAttemptTimeout wakePllFail) s

/-- DLL_LOCKED (R324). In a wake, or regained in the fatal hold. -/
def execDllLocked (s : State) : Out :=
  act dllGain s

/-- DLL_ATTEMPT_TIMEOUT (R325). 100 µs without lock. -/
def execDllAttemptTimeout (s : State) : Out :=
  act (onFire .dllAttemptTimeout wakeDllFail) s

/-- RETENTION_RESTORED (R324). The retention array has been read; `ok` without an uncorrectable error. -/
def execRetentionRestored (ok : Bool) (s : State) : Out :=
  act (wakeRestore ok) s

end Sys2Proof.Machine
end

