-- ==== Sys2Proof/Machine/Pads.lean ====
section
/-! DEFINITION. What stands at the output balls: the output logic of the PWM channels, the pad latches after a reset, the probe of a
discovery, the other outputs, the boundary register (R90, R268, R318, R333, R397, R436). -/

namespace Sys2Proof.Machine

/-- The moments of the probe of a channel (R268): the two intervals of the PWM test, the CS test. -/
inductive Moment where
  | pullUp | pullDown | cs
  deriving DecidableEq, Repr

/-- The moment of its probe at which a channel stands: the two intervals of 20 µs from its start, then the CS test to its V1
(R268). Log entry 57, DESIGN CHOICE. -/
def probeNow (s : State) (ch : ChanId) : Option Moment :=
  let k := s.chans[ch]
  match k.probeAt with
  | none => none
  | some t =>
    if !probing s ch || (k.pv1.isSome && csTested s ch) then none
    else if s.now < t + pullTicks then some .pullUp
    else if s.now < t + 2 * pullTicks then some .pullDown
    else some .cs

/-- 50 µA are sourced into CSppp: from V0 to V1 (R268). -/
def csSource (s : State) (ch : ChanId) : Bool := probeNow s ch == some .cs && s.chans[ch].pv0.isSome

/-- A pad by its function at tap `t`: after a reset the pad latches hold the safe levels, then the no-image level; that level
also stands in OFF and STANDBY; a probed pin is at high impedance without the weak bias (R90, R268, R318, R333). -/
def pwmFunction (s : State) (ch : ChanId) (t : Nat) : PadLvl :=
  if s.now < s.pwr.padsUntil then s.chans[ch].pad
  else if !islandUp s then .weak
  else match probeNow s ch with
    | some .pullUp => .pullUp
    | some .pullDown => .pullDown
    | some .cs => .highZ
    | none => pwmLevel s ch t

/-- The VDDIO group of a PWM ball (R436). -/
def pwmGroup (ch : ChanId) : Nat := if ch.val < 96 then 0 else 1

/-- PWMppp at tap `t`: its function, or the boundary register while EXTEST, CLAMP or HIGHZ stands (R397); at high impedance
without its supply (R436). Log entry 19, DEDUCED. Log entry 26, DESIGN CHOICE. -/
def pwmPad (s : State) (ch : ChanId) (t : Nat) : PadLvl :=
  if !groupUp s (pwmGroup ch) then .highZ
  else match s.tap.ir with
  | .highz => .highZ
  | .extest | .clamp => driven (Config.boundary ch.val)
  | _ => pwmFunction s ch t

/-- The other balls that the device can drive (R436): the pair, SYNC_OUT, ALERT_N, PGOODn, the load-port pins, the QSPI pins, and the
open-drain lines HSCL, HSDA and NLD. -/
inductive Ball where
  | fltP | fltN | syncOut | alertN | hscl | hsda | nld | pgood (r : RailId)
  | lpClk (p : PortId) | lpDat (p : PortId) | lpSel (p : PortId) (b : Fin 3)
  | qcsN | qclk | qd (i : Fin 4)
  deriving DecidableEq, Repr

/-- The place of a ball in the boundary register, behind those of PWM000 to PWM191. Log entry 26, DESIGN CHOICE. -/
def Ball.place : Ball → Nat
  | .fltP => 192
  | .fltN => 193
  | .syncOut => 194
  | .alertN => 195
  | .hscl => 196
  | .hsda => 197
  | .nld => 198
  | .pgood r => 200 + r.val
  | .lpClk p => 224 + p.val
  | .lpDat p => 232 + p.val
  | .lpSel p b => 240 + 4 * p.val + b.val
  | .qcsN => 272
  | .qclk => 273
  | .qd i => 274 + i.val

/-- The VDDIO group that supplies a ball; PGOODn hangs on VKA (R436). -/
def Ball.group : Ball → Option Nat
  | .pgood _ => none
  | .lpClk _ | .lpDat _ | .lpSel _ _ => some 2
  | _ => some 3

/-- The number of a ball as PINCLAIM writes it (R67). -/
def Ball.pin : Ball → Option Nat
  | .pgood r => some (0x0100 + r.val)
  | .lpClk p => some (0x0200 + p.val)
  | .lpDat p => some (0x0300 + p.val)
  | .lpSel p b => some (0x0400 + 4 * p.val + b.val)
  | .syncOut => some 0x0700
  | .nld => some 0x0800
  | .fltP => some 0x0900
  | .fltN => some 0x0A00
  | _ => none

/-- An open-drain ball: driven low or released. -/
def Ball.openDrain : Ball → Bool
  | .alertN | .pgood _ | .hscl | .hsda | .nld => true
  | _ => false

/-- A ball at a level, by its driver. -/
def Ball.at (b : Ball) (lvl : Bool) : PadLvl := if lvl && b.openDrain then .highZ else driven lvl

/-- The level at which the match output of a timer drives a pin: the exclusive claimant drives it (R69, R359). -/
def matchLevel (s : State) (pin : Nat) : Option Bool :=
  ((pinClaims s).find? fun p => p.rclass == 2 && p.rindex == pin && p.claimant == 4 && !p.observe).bind fun p =>
    (toFin 32 p.cinst).map fun t => s.tmr.tmr[t].out

/-- A load-port pin: the match output that claims it, else an input between the responses of its protocol (R436). -/
def lpFunction (s : State) (b : Ball) : PadLvl :=
  match b.pin.bind (matchLevel s) with
  | some lvl => driven lvl
  | none => .highZ

/-- A ball by its function (R230, R304, R306, R318, R359, R364, R401); between transfers the lines are released, and the flash is
deselected. Log entry 26, DESIGN CHOICE. -/
def ballFunction (s : State) (b : Ball) : PadLvl :=
  match b with
  | .fltP => if pairOn s then driven (!pairFault s) else .highZ
  | .fltN => if pairOn s then driven (pairFault s) else .highZ
  | .syncOut => driven (syncOut s)
  | .alertN => b.at !(islandUp s && alertLow s)
  | .pgood r => b.at s.rails[r].seq.pgPin
  | .lpClk _ | .lpDat _ | .lpSel _ _ => lpFunction s b
  | .qcsN => if islandUp s then .high else .highZ
  | .qclk => if islandUp s then .low else .highZ
  | .qd _ | .hscl | .hsda | .nld => .highZ

/-- What stands at a ball: its function, or the boundary register while EXTEST, CLAMP or HIGHZ stands (R397); high impedance
without its supply (R436). Log entry 19, DEDUCED. Log entry 26, DESIGN CHOICE. -/
def ballPad (s : State) (b : Ball) : PadLvl :=
  if b.group.any fun g => !groupUp s g then .highZ
  else match s.tap.ir with
    | .highz => .highZ
    | .extest | .clamp => b.at (Config.boundary b.place)
    | _ => ballFunction s b

/-! ## The level at a ball that observers see (R69) -/

/-- The ball that PINCLAIM numbers `pin`; none for WAKE and SYNC_IN, which the device never drives. -/
def ballOf (pin : Nat) : Option Ball :=
  let n := pin % 256
  match pin / 256 with
  | 1 => (toFin 24 n).map .pgood
  | 2 => (toFin 8 n).map .lpClk
  | 3 => (toFin 8 n).map .lpDat
  | 4 => (toFin 8 (n / 4)).bind fun p => (toFin 3 (n % 4)).map (.lpSel p)
  | 7 => some .syncOut
  | 8 => some .nld
  | 9 => some .fltP
  | 10 => some .fltN
  | _ => none

/-- The level at which the device drives a pin, if it does. Log entry 12, DESIGN CHOICE. -/
def drivenAt (s : State) (pin : Nat) : Option Bool :=
  match (ballOf pin).map (ballPad s) with
  | some .high => some true
  | some .low => some false
  | _ => none

/-- The level at a pin: what the device drives there, else what stands there from outside, `lvl` (R69).
Log entry 12, DESIGN CHOICE. -/
def levelAt (s : State) (pin : Nat) (lvl : Bool) : Bool := (drivenAt s pin).getD lvl

/-- The pins of PGOODn, which are released to the board's pull-up (R67, R230). -/
def pulledUp (pin : Nat) : Bool := pin / 256 == 1

/-- The level that the device itself gives a pin: the level it drives, and at a released PGOODn that of the board's pull-up unless the
board holds it low (R69, R230). Log entry 12, DESIGN CHOICE. -/
def ownLevel (s : State) (pin : Nat) : Option Bool :=
  (drivenAt s pin).orElse fun _ => if pulledUp pin then some (!s.pins.low.contains pin) else none

/-- An operand tells a new level at a pin that the device does not drive: a released PGOODn keeps it (R69, R230).
Log entry 12, DESIGN CHOICE. -/
def toldPin (pin : Nat) (lvl : Bool) (s : State) : State :=
  if !pulledUp pin || (drivenAt s pin).isSome then s
  else
    let l := s.pins.low.filter (· != pin)
    { s with pins := { s.pins with low := if lvl then l else pin :: l } }

/-- The capture input of a timer takes a level. -/
def capPut (t : TimerId) (lvl : Bool) (s : State) : State :=
  let was := s.tmr.tmr[t].capIn
  let s := onTimer t (fun k => { k with capIn := lvl }) s
  if lvl != was then captureEdge t lvl s else s

/-- The gate input of a timer takes a level. -/
def gatePut (t : TimerId) (lvl : Bool) (s : State) : State := onTimer t (fun k => { k with gateIn := lvl }) s

/-- The sequencing input of a rail takes a level (R225). -/
def seqPut (r : RailId) (lvl : Bool) (s : State) : State := onRail r (fun x => { x with seq := { x.seq with seqIn := lvl } }) s

/-- Every observer of a pin sees the level at the ball (R69): captures, gates, sequencing inputs. -/
def pinPut (pin : Nat) (lvl : Bool) (s : State) : State :=
  let sees := fun c i => pinOf s c i == some pin
  let s' := forEach ((allFin 32).filter fun t => sees 2 t.val) (fun t => capPut t lvl) s
  let s' := forEach ((allFin 32).filter fun t => sees 3 t.val) (fun t => gatePut t lvl) s'
  forEach ((allFin 24).filter fun r => sees 1 r.val) (fun r => seqPut r lvl) s'

/-- An operand tells level `lvl` at a pin, whose observer saw `was` there (R69). Log entry 12, DESIGN CHOICE. -/
def pinTold (pin : Nat) (was lvl : Bool) (s : State) : State :=
  pinPut pin (levelAt s pin lvl) (if lvl = was then s else toldPin pin lvl s)

/-- The synchronised inputs of a timer change, and with them every observer of their pins; without a pin an input stands low, and a
pin of both roles has the level of the capture (R69, R359, R369). Log entry 12, DESIGN CHOICE. -/
def timerInputs (t : TimerId) (cap gate : Bool) (s : State) : State :=
  let c := pinOf s 2 t.val
  let g := pinOf s 3 t.val
  let k := s.tmr.tmr[t]
  let s := match c with
    | some p => pinTold p k.capIn cap s
    | none => capPut t false s
  match g with
  | some p => if g = c then s else pinTold p k.gateIn gate s
  | none => gatePut t false s

/-- The sequencing input of a rail has a level, and with it every observer of its pin (R69, R225); the level that it has already tells
nothing new. Log entry 12, DESIGN CHOICE. -/
def seqInput (r : RailId) (lvl : Bool) (s : State) : State :=
  match pinOf s 1 r.val with
  | some p => if lvl = s.rails[r].seq.seqIn then pinPut p lvl s else pinTold p s.rails[r].seq.seqIn lvl s
  | none => seqPut r lvl s

/-! ## The levels that the device itself changes (R27, R69) -/

/-- The pins that capture, gate or sequencing inputs observe (R67). -/
def observedPins (s : State) : List Nat :=
  (((pinClaims s).filter fun p => p.rclass == 2 && [1, 2, 3].contains p.claimant).map (·.rindex)).eraseDups

/-- An observer of a pin does not see level `lvl` there. -/
def unseen (s : State) (pin : Nat) (lvl : Bool) : Bool :=
  ((allFin 32).any fun t =>
    (pinOf s 2 t.val == some pin && s.tmr.tmr[t].capIn != lvl) || (pinOf s 3 t.val == some pin && s.tmr.tmr[t].gateIn != lvl)) ||
  (allFin 24).any fun r => pinOf s 1 r.val == some pin && s.rails[r].seq.seqIn != lvl

/-- The pins whose level by the device an observer does not see yet, with that level. -/
def lagging (s : State) : List (Nat × Bool) :=
  (observedPins s).filterMap fun p => (ownLevel s p).bind fun l => if unseen s p l then some (p, l) else none

/-- The core cycle in which the first stage captured the level that now stands at a pin. -/
def syncSince (s : State) (pin : Nat) : Nat := ((s.pins.sync.find? (·.1 == pin)).map (·.2)).getD (cycle s)

/-- A core clock edge at the synchronisers: a level that the device has changed is captured, and its observers see it two edges later
(R27, R69). Log entry 12, DESIGN CHOICE. -/
def syncPins (s : State) : State :=
  let l := lagging s
  let due := l.filter fun p => decide (syncSince s p.1 + 2 ≤ cycle s)
  let wait := l.filter fun p => decide (cycle s < syncSince s p.1 + 2)
  forEach due (fun p => pinPut p.1 p.2) { s with pins := { s.pins with sync := wait.map fun p => (p.1, syncSince s p.1) } }

end Sys2Proof.Machine
end

