-- ==== Sys2Proof/Machine/ExecProt.lean ====
section
/-! DEFINITION. Meanings: protection trips, power-good, the sequencer, targets and limits of a rail (R60, R115, R190 to R195,
R220 to R241, R289). -/

namespace Sys2Proof.Machine

/-- The OV comparator changes (R229). Log entry 12, DESIGN CHOICE. -/
def ovChange (r : RailId) (up : Bool) (s : State) : State :=
  let was := s.rails[r].prot.ovRaw
  let t := onRail r (fun x => { x with prot := { x.prot with ovRaw := up } }) s
  if up && !was then onIsland r (ovLatch r) t else t

/-- The UV comparator changes (R229). Log entry 12, DESIGN CHOICE. -/
def uvChange (r : RailId) (up : Bool) (s : State) : State :=
  let was := s.rails[r].prot.uvRaw
  let t := onRail r (fun x => { x with prot := { x.prot with uvRaw := up } }) s
  if up && !was then onIsland r (uvLatch r) t else t

/-- An open-line comparator trips in a rail state that latches (R236). -/
def snsTrip (r : RailId) (neg : Bool) (c : RailCfg) (s : State) : State :=
  let x := s.rails[r]
  if latchOpen s x && (!isStopped x || haltedNow s x) then snsLatch r c neg s else s

/-- An open-line comparator changes (R235, R236). Log entry 12, DESIGN CHOICE. -/
def snsChange (r : RailId) (neg up : Bool) (s : State) : State :=
  let x := s.rails[r]
  let was := if neg then x.prot.snsN else x.prot.snsP
  let put := fun x : Rail =>
    if neg then { x with prot := { x.prot with snsN := up } } else { x with prot := { x.prot with snsP := up } }
  let t := onRail r put s
  if up && !was then onIsland r (snsTrip r neg) t else t

/-- The power-good comparator of an armed rail changes (R230): a rise starts PGDELAY while PGOODn is low and drops the
fall filter; a fall drops PGDELAY and starts the 500 ns filter while PGOODn is released.
Log entry 61, DESIGN CHOICE. -/
def pgEdge (r : RailId) (up : Bool) (c : RailCfg) (s : State) : State :=
  let x := s.rails[r]
  if !x.seq.pgArm || latched x then s
  else if up then
    let t := disarm (· == .pgoodFall r) s
    if x.seq.pgPin then t else pgStart r c t
  else
    let t := disarm (· == .pgoodRelease r) s
    if x.seq.pgPin then rearm (500 * usTicks / 1000) (.pgoodFall r) t else t

/-- The power-good comparator changes (R230). -/
def pgChange (r : RailId) (up : Bool) (s : State) : State :=
  let was := s.rails[r].seq.pgComp
  let t := onRail r (fun x => { x with seq := { x.seq with pgComp := up } }) s
  if up != was then onIsland r (pgEdge r up) t else t

/-- PGOODn is released (R230). -/
def pgRise (r : RailId) (s : State) : State :=
  let x := s.rails[r]
  if x.seq.pgArm && x.seq.pgComp && !latched x then onRail r (pgSet true) s else s

/-- PGOODn falls (R230). -/
def pgFall (r : RailId) (s : State) : State := if s.rails[r].seq.pgComp then s else onRail r (pgSet false) s

/-- A transition slot is true (R60, R225): the sequencing input has the level of the command. -/
def seqStep (r : RailId) (i : Bool) (c : RailCfg) (s : State) : State :=
  let t := seqInput r i s
  match nextState t r c with
  | some n => enterState r c n t
  | none => t

/-- DURATION has elapsed (R223). -/
def durDone (r : RailId) (s : State) : State := onRail r (fun x => { x with seq := { x.seq with durOk := true } }) s

/-- The mean of 8 samples, truncated to 1.25 mV; below 0 V it reads 0 (R226, log entry 44, DEDUCED). -/
def prebMean (c : RailCfg) (sum : Int) : Nat := (sum / (40 * (max c.eng.divk 1 : Nat))).toNat

/-- The pre-bias measurement completes; its state's DURATION starts (R223, R226). Log entry 44, DEDUCED. -/
def prebDone (r : RailId) (c : RailCfg) (s : State) : State :=
  let x := s.rails[r]
  if x.seq.measuring then
    let t := onRail r (fun x => { x with seq := { x.seq with measuring := false, preb := some (prebMean c x.seq.prebSum) } }) s
    startDuration r (curState c x).duration t
  else s

/-- The position stands at the goal of its move (R190); a RAMP_DOWN at 0 V ends switching (R224). -/
def moveDone (r : RailId) (c : RailCfg) (s : State) : State :=
  let x := s.rails[r]
  let t := onRail r (holdPos s) s
  match x.seq.ramp with
  | some (_, false) => if posNow s x = 0 then swOff r c t else t
  | _ => t

/-! ## Latches -/

/-- RAIL_TRIP_CLR (R115). A write to RAIL_TRIP. -/
def execRailTripClr (r : RailId) (w : Word) (s : State) : Out :=
  act (onRailReg r 0x74 w (tripWrite r)) s

/-- OV_TRIP (R229). The OV comparator asserts or deasserts. -/
def execOvTrip (r : RailId) (up : Bool) (s : State) : Out :=
  act (ovChange r up) s

/-- UV_TRIP (R229). The UV comparator asserts or deasserts. -/
def execUvTrip (r : RailId) (up : Bool) (s : State) : Out :=
  act (uvChange r up) s

/-- SENSE_OPEN (R236). The comparator of VSNSnP, or of VSNSnN when `neg`, trips or returns. -/
def execSenseOpen (r : RailId) (neg up : Bool) (s : State) : Out :=
  act (snsChange r neg up) s

/-- BACKDRIVE_PERSIST (R234). BDTIME has passed with back-drive present. -/
def execBackdrivePersist (r : RailId) (s : State) : Out :=
  act (onDue (.backdrivePersist r) r (bdLatch r)) s

/-- RAIL_PROT_CLR (R241). A write to RAIL_PROT. -/
def execRailProtClr (r : RailId) (w : Word) (s : State) : Out :=
  act (onRailReg r 0x7C w (protClear r)) s

/-! ## Power-good -/

/-- PG_COMPARATOR_CHANGE (R230). The comparator rises or falls. -/
def execPgComparatorChange (r : RailId) (up : Bool) (s : State) : Out :=
  act (pgChange r up) s

/-- PGOOD_RELEASE (R230). PGDELAY has passed. -/
def execPgoodRelease (r : RailId) (s : State) : Out :=
  act (onDue (.pgoodRelease r) r (fun _ => pgRise r)) s

/-- PGOOD_FALL (R230). The comparator has stood low for 500 ns. -/
def execPgoodFall (r : RailId) (s : State) : Out :=
  act (onDue (.pgoodFall r) r (fun _ => pgFall r)) s

/-! ## The sequencer -/

/-- RAIL_SEQ_START (R222). A write to RAIL_SEQ with CMD START. -/
def execRailSeqStart (r : RailId) (w : Word) (s : State) : Out :=
  act (onRailSeq r w) s

/-- RAIL_SEQ_STOP (R222). A write to RAIL_SEQ with CMD STOP. -/
def execRailSeqStop (r : RailId) (w : Word) (s : State) : Out :=
  act (onRailSeq r w) s

/-- OFFSET_CAL_DONE (R154). The sums of the 16 codes, by position. -/
def execOffsetCalDone (r : RailId) (sums : List Int) (s : State) : Out :=
  act (onIsland r (fun c => calDone r c sums)) s

/-- SEQ_TRANSITION (R60). A core cycle in which the slots of the present state are evaluated. -/
def execSeqTransition (r : RailId) (seqIn : Bool) (s : State) : Out :=
  act (onIsland r (seqStep r seqIn)) s

/-- DURATION_ELAPSED (R223). Condition 0x01 becomes true. -/
def execDurationElapsed (r : RailId) (s : State) : Out :=
  act (onDue (.durationElapsed r) r (fun _ => durDone r)) s

/-- RAMP_DELAY_END (R224). Switching and the move begin. -/
def execRampDelayEnd (r : RailId) (s : State) : Out :=
  act (onDue (.rampDelayEnd r) r (rampBegin r)) s

/-- PREBIAS_MEASURED (R226). Eight samples have been taken. -/
def execPrebiasMeasured (r : RailId) (s : State) : Out :=
  act (onDue (.prebiasMeasured r) r (prebDone r)) s

/-- TARGET_REACHED (R190). The position stops at its goal. -/
def execTargetReached (r : RailId) (s : State) : Out :=
  act (onDue (.targetReached r) r (moveDone r)) s

/-! ## Targets and limits -/

/-- RAIL_TARGET_WRITE (R195). A write to RAIL_TARGET. -/
def execRailTargetWrite (r : RailId) (w : Word) (s : State) : Out :=
  act (onRailReg r 0x60 w (targetWrite r)) s

/-- PORT_BUDGET_WRITE (R239). A write to PORT_BUDGET. -/
def execPortBudgetWrite (p : PortId) (w : Word) (s : State) : Out :=
  act (onHost (budgetWrite p w)) s

/-- BUDGET_STEP (R239). A TPERIOD of the budget term has passed. -/
def execBudgetStep (r : RailId) (s : State) : Out :=
  act (onGrid (.budgetStep r) r (budgetStepped r)) s

/-- THROTTLE_STEP (R289). A TPERIOD of the throttle term has passed. -/
def execThrottleStep (r : RailId) (s : State) : Out :=
  act (onGrid (.throttleStep r) r (throttleStepped r)) s

end Sys2Proof.Machine
end

