-- ==== Sys2Proof/Machine/Tap.lean ====
section
/-! DEFINITION. The IEEE 1149.1 port (R397 to R400): instructions, REGACC, debug halt, KEYPROG, FTMKEY. -/

namespace Sys2Proof.Machine

/-- The TAP moves: the core is on and VDDIO group 3 is powered; TDO is else at high impedance (R379, R436). -/
def tapOn (s : State) : Bool := islandUp s && groupUp s 3

/-- An instruction is loaded, and Capture-IR gives 0b0000_0001: the TAP is held in Test-Logic-Reset while the core is off, and
in BYPASS in the 40 µs after a control-domain reset (R379). -/
def tapLoad (i : TapIr) (s : State) : State :=
  if !tapOn s then s
  else { s with tap := { s.tap with irOut := some 0x01, ir := if answers s then i else .bypass } }

/-- The TAP serves instructions. -/
def tapUp (s : State) : Bool := hostUp s

/-- EXTEST, CLAMP and HIGHZ may drive the pins: READY with no image sealed, or every rail stopped. -/
def pinsFree (s : State) : Bool := (s.pwr.dev == .ready && !isSealed s) || s.rails.toList.all isStopped

/-- Load one of them, or BYPASS. Log entry 26, DESIGN CHOICE. -/
def tapPins (i : TapIr) (s : State) : State := tapLoad (if pinsFree s then i else .bypass) s

/-- HALT. -/
def tapHalt (s : State) : State :=
  if tapUp s then { tapLoad .halt s with tap := { (tapLoad .halt s).tap with halted := true } } else tapLoad .halt s

/-- RELEASE: the timers return to core ticks (R372). -/
def tapRelease (s : State) : State :=
  if tapUp s then
    let s := slowLeave (tapLoad .release s)
    { s with tap := { s.tap with halted := false } }
  else tapLoad .release s

/-- TRST_N, or Test-Logic-Reset: IDCODE, and a debug halt ends. -/
def tapReset (s : State) : State :=
  let s := if s.tap.halted then slowLeave s else s
  { s with tap := { s.tap with ir := .idcode, halted := false } }

/-! ## REGACC (R398) -/

/-- 48 result bits that the spec does not state: a refused access, a write, the address bits of a read (log entry 5, DESIGN
CHOICE). -/
def drOpen (s : State) : BitVec 48 × State :=
  let a := drawFree s
  let b := drawFree a.2
  ((a.1 ++ b.1).setWidth 48, b.2)

/-- The result of an access: a refused one reads 1 in bit 48. Log entry 24, DEDUCED. Log entry 46, DESIGN CHOICE. -/
def regaccAct (dr : BitVec 49) (s : State) : State :=
  let a : BitVec 16 := dr.extractLsb' 32 16
  let s := if tapUp s then { s with hif := { s.hif with ptrT := a } } else s
  let o := drOpen s
  let put := fun (w : BitVec 49) (s : State) => { s with tap := { s.tap with result := w } }
  if !tapUp s then put (1#1 ++ o.1) o.2
  else if dr.getLsbD 48 then xferEnd (put (0#1 ++ o.1) (regWrite .tap a (dr.setWidth 32) o.2))
  else
    let r := regRead .tap a o.2
    put (0#1 ++ (o.1.extractLsb' 32 16) ++ r.1) r.2

/-- DPWM ticks to the next core clock edge. Log entry 24, DEDUCED. -/
def toEdge (s : State) : Nat := 2 - s.now % 2

/-- REGACC: Capture-DR gives the result of the access before; the access of this Update-DR is applied at the next core clock edge,
behind every access from the host port in the present core cycle (R381, R398). Log entry 24, DEDUCED. -/
def regaccCmd (dr : BitVec 49) (s : State) : State :=
  match fire (.regacc dr) s with
  | some t => regaccAct dr t
  | none => if tapOn s then arm (toEdge s) (.regacc dr) (reply (.dr s.tap.result) (tapLoad .regacc s)) else s

/-! ## Keys (R399, R400) -/

/-- KEYPROG: only without a seal, only an unprogrammed slot. -/
def keyprogCmd (dr : BitVec 130) (s : State) : State :=
  let s := tapLoad .keyprog s
  let i := (dr.extractLsb' 128 2).toNat
  if tapUp s && !isSealed s && (s.otp.keys.getD i none).isNone then
    { s with otp := { s.otp with keys := modAt s.otp.keys i fun _ => some (dr.setWidth 128) } }
  else s

/-- FTMKEY: the right key with TESTEN high enters factory test mode, every phase at its safe level; a wrong one blocks
FTMKEY until power-on reset. Log entry 27, DEDUCED. -/
def ftmkeyCmd (testen : Bool) (key : BitVec 128) (s : State) : State :=
  let s := tapLoad .ftmkey s
  if !tapUp s || s.tap.ftmBlocked then s
  else if key ≠ Config.deviceKey then { s with tap := { s.tap with ftmBlocked := true } }
  else if testen then
    forEach (configured s) (fun rc s => safeChans (accordChans rc.2) s) { s with tap := { s.tap with ftm := true } }
  else s

end Sys2Proof.Machine
end

