-- ==== Sys2Proof/Machine/ExecTap.lean ====
section
/-! DEFINITION. Meanings: the IEEE 1149.1 port (R397 to R400). -/

namespace Sys2Proof.Machine

/-- IDCODE in force: its data register; nothing where TDO is at high impedance (R379). -/
def idOut (s : State) : State :=
  let t := tapLoad .idcode s
  if tapOn s && t.tap.ir == .idcode then reply (.dr 0x06192A5B#49) t else t

/-! ## Instructions -/

/-- BYPASS_INSTR (R397). The bypass register. -/
def execBypassInstr (s : State) : Out :=
  act (tapLoad .bypass) s

/-- IDCODE (R397). 0x0619_2A5B. -/
def execIdcode (s : State) : Out :=
  act idOut s

/-- SAMPLE_PRELOAD (R397). No pin is affected. Log entry 26, DESIGN CHOICE. -/
def execSamplePreload (s : State) : Out :=
  act (tapLoad .sample) s

/-- EXTEST (R397). When the pins are free, else BYPASS. -/
def execExtest (s : State) : Out :=
  act (tapPins .extest) s

/-- CLAMP (R397). When the pins are free, else BYPASS. -/
def execClamp (s : State) : Out :=
  act (tapPins .clamp) s

/-- HIGHZ (R397). When the pins are free, else BYPASS. -/
def execHighz (s : State) : Out :=
  act (tapPins .highz) s

/-- REGACC (R398). The 49 bits at Update-DR; the factory page is a unit the spec does not describe.
Log entry 45, DESIGN CHOICE. -/
def execRegacc (dr : BitVec 49) (s : State) : Out :=
  if tapUp s && factoryHit s (dr.extractLsb' 32 16) then .refused .factoryPage else act (regaccCmd dr) s

/-- HALT (R397). Debug halt of the control domain. -/
def execHalt (s : State) : Out :=
  act tapHalt s

/-- RELEASE (R397). The end of the debug halt. -/
def execRelease (s : State) : Out :=
  act tapRelease s

/-- KEYPROG (R399). The slot and its key at Update-DR. -/
def execKeyprog (dr : BitVec 130) (s : State) : Out :=
  act (keyprogCmd dr) s

/-- FTMKEY (R400). The level of TESTEN and the key at Update-DR. -/
def execFtmkey (testen : Bool) (key : BitVec 128) (s : State) : Out :=
  act (ftmkeyCmd testen key) s

/-- TEST_LOGIC_RESET (R397). TRST_N or Test-Logic-Reset. -/
def execTestLogicReset (s : State) : Out :=
  act tapReset s

end Sys2Proof.Machine
end

