-- ==== Sys2Proof/Machine/ExecTimer.lean ====
section
/-! DEFINITION. Meanings: the timer bank and the trace FIFOs (R358 to R373, R421). -/

namespace Sys2Proof.Machine

/-- The match of timer `t` at the present edge, with those that linked actions join to it (R364, R366). -/
def matchNow (t : TimerId) (s : State) : State := if s.tmr.tmr[t].matched then matchGroup t s else s

/-! ## Timers -/

/-- ARM (R361). TMR_CMD. -/
def execArm (t : TimerId) (s : State) : Out :=
  act (onHost (tmrCmd t 1)) s

/-- TIMER_START (R361). TMR_CMD. -/
def execTimerStart (t : TimerId) (s : State) : Out :=
  act (onHost (tmrCmd t 2)) s

/-- TIMER_STOP (R361). TMR_CMD. -/
def execTimerStop (t : TimerId) (s : State) : Out :=
  act (onHost (tmrCmd t 3)) s

/-- DISARM (R361). TMR_CMD. -/
def execDisarm (t : TimerId) (s : State) : Out :=
  act (onHost (tmrCmd t 4)) s

/-- TMR_GSTART (R363). TMR_GSTART. -/
def execTmrGstart (mask : Word) (s : State) : Out :=
  act (onHost (gstart mask)) s

/-- TMR_CFG_WRITE (R362). The timer that the interface selects. -/
def execTmrCfgWrite (i : Iface) (w : Word) (s : State) : Out :=
  act (onHost (tmrCfg i w)) s

/-- TMR_MATCH_WRITE (R365). TMR_MATCHt. -/
def execTmrMatchWrite (t : TimerId) (w : Word) (s : State) : Out :=
  act (onHost (matchWrite t w)) s

/-- TMR_COUNT_READ (R367). The timer that the interface selects. -/
def execTmrCountRead (i : Iface) (s : State) : Out :=
  act (hostRead i 0x0624#16) s

/-- TIMER_MATCH (R364). The counter has reached MATCH. -/
def execTimerMatch (t : TimerId) (s : State) : Out :=
  act (matchNow t) s

/-- TIMER_CAPTURE_EDGE (R369). The levels of the synchronised capture and gate inputs. -/
def execTimerCaptureEdge (t : TimerId) (cap gate : Bool) (s : State) : Out :=
  act (timerInputs t cap gate) s

/-- TIMER_SLOW_TICK (R372). An edge of the slow clock. -/
def execTimerSlowTick (s : State) : Out :=
  act slowTick s

/-- TFIFO_HI_READ (R421). TFIFOf_HI. -/
def execTfifoHiRead (f : FifoId) (s : State) : Out :=
  act (hostRead .smb (BitVec.ofNat 16 (0x44 + 8 * f.val))) s

end Sys2Proof.Machine
end

