-- ==== Sys2Proof/Machine/Dispatch.lean ====
section
/-! DEFINITION. One arm per command: its meaning, or its rejection by name. -/

namespace Sys2Proof.Machine

/-- The effect of a command on everything but the queue. -/
def exec (i : Instr) (s : State) : Host.Outcome State Fault Refusal :=
  match i with
  | .powerOnReset => Sys2Proof.Machine.execPowerOnReset s
  | .resetN ns => Sys2Proof.Machine.execResetN ns s
  | .hostSoftReset => Sys2Proof.Machine.execHostSoftReset s
  | .watchdogReset => Sys2Proof.Machine.execWatchdogReset s
  | .kick => Sys2Proof.Machine.execKick s
  | .controlDomainRelease => Sys2Proof.Machine.execControlDomainRelease s
  | .vddBrownout up => Sys2Proof.Machine.execVddBrownout up s
  | .vddaBrownout up => Sys2Proof.Machine.execVddaBrownout up s
  | .referenceLost => Sys2Proof.Machine.execReferenceLost s
  | .pllLossOfLock => Sys2Proof.Machine.execPllLossOfLock s
  | .dllLossOfLock => Sys2Proof.Machine.execDllLossOfLock s
  | .dpwmClockLost up => Sys2Proof.Machine.execDpwmClockLost up s
  | .slowClockLost => Sys2Proof.Machine.execSlowClockLost s
  | .glbFatalClr w => Sys2Proof.Machine.execGlbFatalClr w s
  | .configScrub errs => Sys2Proof.Machine.execConfigScrub errs s
  | .masterCarrierStart r => Sys2Proof.Machine.execMasterCarrierStart r s
  | .tripCountReached r ch => Sys2Proof.Machine.execTripCountReached r ch s
  | .rotationStep r => Sys2Proof.Machine.execRotationStep r s
  | .telemetryPush r => Sys2Proof.Machine.execTelemetryPush r s
  | .carrierStart ch => Sys2Proof.Machine.execCarrierStart ch s
  | .compareMatch ch on => Sys2Proof.Machine.execCompareMatch ch on s
  | .syncPulse b => Sys2Proof.Machine.execSyncPulse b s
  | .eadcSample r vpin => Sys2Proof.Machine.execEadcSample r vpin s
  | .isliceSample ch v => Sys2Proof.Machine.execIsliceSample ch v s
  | .isliceResult ch => Sys2Proof.Machine.execIsliceResult ch s
  | .trimsat r q => Sys2Proof.Machine.execTrimsat r q s
  | .phaseCurrentLimitTrip ch up => Sys2Proof.Machine.execPhaseCurrentLimitTrip ch up s
  | .btsfTrip b up => Sys2Proof.Machine.execBtsfTrip b up s
  | .brefWindowTrip b up => Sys2Proof.Machine.execBrefWindowTrip b up s
  | .brefDisturbanceEnd b => Sys2Proof.Machine.execBrefDisturbanceEnd b s
  | .railTripClr r w => Sys2Proof.Machine.execRailTripClr r w s
  | .ovTrip r up => Sys2Proof.Machine.execOvTrip r up s
  | .uvTrip r up => Sys2Proof.Machine.execUvTrip r up s
  | .senseOpen r neg up => Sys2Proof.Machine.execSenseOpen r neg up s
  | .backdrivePersist r => Sys2Proof.Machine.execBackdrivePersist r s
  | .railProtClr r w => Sys2Proof.Machine.execRailProtClr r w s
  | .pgComparatorChange r up => Sys2Proof.Machine.execPgComparatorChange r up s
  | .pgoodRelease r => Sys2Proof.Machine.execPgoodRelease r s
  | .pgoodFall r => Sys2Proof.Machine.execPgoodFall r s
  | .railSeqStart r w => Sys2Proof.Machine.execRailSeqStart r w s
  | .railSeqStop r w => Sys2Proof.Machine.execRailSeqStop r w s
  | .offsetCalDone r sums => Sys2Proof.Machine.execOffsetCalDone r sums s
  | .seqTransition r seqIn => Sys2Proof.Machine.execSeqTransition r seqIn s
  | .durationElapsed r => Sys2Proof.Machine.execDurationElapsed r s
  | .rampDelayEnd r => Sys2Proof.Machine.execRampDelayEnd r s
  | .prebiasMeasured r => Sys2Proof.Machine.execPrebiasMeasured r s
  | .targetReached r => Sys2Proof.Machine.execTargetReached r s
  | .railTargetWrite r w => Sys2Proof.Machine.execRailTargetWrite r w s
  | .portBudgetWrite p w => Sys2Proof.Machine.execPortBudgetWrite p w s
  | .budgetStep r => Sys2Proof.Machine.execBudgetStep r s
  | .throttleStep r => Sys2Proof.Machine.execThrottleStep r s
  | .coefApply r w => Sys2Proof.Machine.execCoefApply r w s
  | .bypass r q => Sys2Proof.Machine.execBypass r q s
  | .restore r q => Sys2Proof.Machine.execRestore r q s
  | .restoreDiscoveryDone r pr cal => Sys2Proof.Machine.execRestoreDiscoveryDone r pr cal s
  | .balTrim r => Sys2Proof.Machine.execBalTrim r s
  | .balRotate r => Sys2Proof.Machine.execBalRotate r s
  | .bankBistStart b w => Sys2Proof.Machine.execBankBistStart b w s
  | .bistComplete b failmap failitem => Sys2Proof.Machine.execBistComplete b failmap failitem s
  | .soundingRequest r w => Sys2Proof.Machine.execSoundingRequest r w s
  | .soundingStart r => Sys2Proof.Machine.execSoundingStart r s
  | .soundingRepetition r m => Sys2Proof.Machine.execSoundingRepetition r m s
  | .soundingEnd r => Sys2Proof.Machine.execSoundingEnd r s
  | .discStart banks => Sys2Proof.Machine.execDiscStart banks s
  | .discoveryDone probes => Sys2Proof.Machine.execDiscoveryDone probes s
  | .hadcSlot => Sys2Proof.Machine.execHadcSlot s
  | .hadcConversionDone v => Sys2Proof.Machine.execHadcConversionDone v s
  | .refsw => Sys2Proof.Machine.execRefsw s
  | .reffrz => Sys2Proof.Machine.execReffrz s
  | .unfreeze w => Sys2Proof.Machine.execUnfreeze w s
  | .readmit w => Sys2Proof.Machine.execReadmit w s
  | .hadcGo w => Sys2Proof.Machine.execHadcGo w s
  | .hadcAvgsetApply w => Sys2Proof.Machine.execHadcAvgsetApply w s
  | .macerationEnd win => Sys2Proof.Machine.execMacerationEnd win s
  | .thermalTick => Sys2Proof.Machine.execThermalTick s
  | .fltReadbackMismatch ballN lvl => Sys2Proof.Machine.execFltReadbackMismatch ballN lvl s
  | .railSilFreeze r w => Sys2Proof.Machine.execRailSilFreeze r w s
  | .rearm r w => Sys2Proof.Machine.execRearm r w s
  | .railSilDloRead r => Sys2Proof.Machine.execRailSilDloRead r s
  | .railSilDhiRead r => Sys2Proof.Machine.execRailSilDhiRead r s
  | .ibiDelivery ack => Sys2Proof.Machine.execIbiDelivery ack s
  | .gotoOff => Sys2Proof.Machine.execGotoOff s
  | .gotoStandby => Sys2Proof.Machine.execGotoStandby s
  | .standbyEntered => Sys2Proof.Machine.execStandbyEntered s
  | .gotoReady => Sys2Proof.Machine.execGotoReady s
  | .gotoRun => Sys2Proof.Machine.execGotoRun s
  | .runTimeout => Sys2Proof.Machine.execRunTimeout s
  | .wake ns => Sys2Proof.Machine.execWake ns s
  | .kaReadWord => Sys2Proof.Machine.execKaReadWord s
  | .kaStateCmd d pec => Sys2Proof.Machine.execKaStateCmd d pec s
  | .suppliesReady => Sys2Proof.Machine.execSuppliesReady s
  | .supplyTimeout => Sys2Proof.Machine.execSupplyTimeout s
  | .referenceQualified => Sys2Proof.Machine.execReferenceQualified s
  | .referenceQualTimeout => Sys2Proof.Machine.execReferenceQualTimeout s
  | .pllLocked => Sys2Proof.Machine.execPllLocked s
  | .pllAttemptTimeout => Sys2Proof.Machine.execPllAttemptTimeout s
  | .dllLocked => Sys2Proof.Machine.execDllLocked s
  | .dllAttemptTimeout => Sys2Proof.Machine.execDllAttemptTimeout s
  | .retentionRestored ok => Sys2Proof.Machine.execRetentionRestored ok s
  | .bootLoad => Sys2Proof.Machine.execBootLoad s
  | .loadDone flashId => Sys2Proof.Machine.execLoadDone flashId s
  | .loadAuto => Sys2Proof.Machine.execLoadAuto s
  | .loadA => Sys2Proof.Machine.execLoadA s
  | .loadB => Sys2Proof.Machine.execLoadB s
  | .loadHost => Sys2Proof.Machine.execLoadHost s
  | .imgDataWrite w => Sys2Proof.Machine.execImgDataWrite w s
  | .slotCheck slot => Sys2Proof.Machine.execSlotCheck slot s
  | .slotCheckDone flashId => Sys2Proof.Machine.execSlotCheckDone flashId s
  | .slotErase slot => Sys2Proof.Machine.execSlotErase slot s
  | .slotEraseDone ok => Sys2Proof.Machine.execSlotEraseDone ok s
  | .slotWrite slot => Sys2Proof.Machine.execSlotWrite slot s
  | .slotCommit slot => Sys2Proof.Machine.execSlotCommit slot s
  | .flashWriteStopped => Sys2Proof.Machine.execFlashWriteStopped s
  | .patchBegin n => Sys2Proof.Machine.execPatchBegin n s
  | .patchApply n => Sys2Proof.Machine.execPatchApply n s
  | .patchCommit => Sys2Proof.Machine.execPatchCommit s
  | .abort => Sys2Proof.Machine.execAbort s
  | .revoke slot => Sys2Proof.Machine.execRevoke slot s
  | .epochAdvance => Sys2Proof.Machine.execEpochAdvance s
  | .logScan => Sys2Proof.Machine.execLogScan s
  | .logScanDone => Sys2Proof.Machine.execLogScanDone s
  | .blotterTest => Sys2Proof.Machine.execBlotterTest s
  | .blot => Sys2Proof.Machine.execBlot s
  | .blotterResult vh dv dt => Sys2Proof.Machine.execBlotterResult vh dv dt s
  | .logCommitStart => Sys2Proof.Machine.execLogCommitStart s
  | .logged => Sys2Proof.Machine.execLogged s
  | .logProgramTimeout => Sys2Proof.Machine.execLogProgramTimeout s
  | .logBlockErase => Sys2Proof.Machine.execLogBlockErase s
  | .nvlRdctrlWrite w => Sys2Proof.Machine.execNvlRdctrlWrite w s
  | .nvlFetchDone => Sys2Proof.Machine.execNvlFetchDone s
  | .nvlRddataRead => Sys2Proof.Machine.execNvlRddataRead s
  | .nvlTimeTick => Sys2Proof.Machine.execNvlTimeTick s
  | .arm t => Sys2Proof.Machine.execArm t s
  | .timerStart t => Sys2Proof.Machine.execTimerStart t s
  | .timerStop t => Sys2Proof.Machine.execTimerStop t s
  | .disarm t => Sys2Proof.Machine.execDisarm t s
  | .tmrGstart mask => Sys2Proof.Machine.execTmrGstart mask s
  | .tmrCfgWrite n w => Sys2Proof.Machine.execTmrCfgWrite n w s
  | .tmrMatchWrite t w => Sys2Proof.Machine.execTmrMatchWrite t w s
  | .tmrCountRead n => Sys2Proof.Machine.execTmrCountRead n s
  | .timerMatch t => Sys2Proof.Machine.execTimerMatch t s
  | .timerCaptureEdge t cap gate => Sys2Proof.Machine.execTimerCaptureEdge t cap gate s
  | .timerSlowTick => Sys2Proof.Machine.execTimerSlowTick s
  | .tfifoHiRead f => Sys2Proof.Machine.execTfifoHiRead f s
  | .vselAccept p j => Sys2Proof.Machine.execVselAccept p j s
  | .vcmd2SetTarget p f ovr => Sys2Proof.Machine.execVcmd2SetTarget p f ovr s
  | .vcmd2SetSlew p f => Sys2Proof.Machine.execVcmd2SetSlew p f s
  | .vcmd2Start p f => Sys2Proof.Machine.execVcmd2Start p f s
  | .vcmd2Stop p f => Sys2Proof.Machine.execVcmd2Stop p f s
  | .vcmd2Read p f => Sys2Proof.Machine.execVcmd2Read p f s
  | .vcmd2Nop p f => Sys2Proof.Machine.execVcmd2Nop p f s
  | .vcmd2LinkError p cause => Sys2Proof.Machine.execVcmd2LinkError p cause s
  | .setVid p f ovr => Sys2Proof.Machine.execSetVid p f ovr s
  | .vcmd1SetSlew p f => Sys2Proof.Machine.execVcmd1SetSlew p f s
  | .readVid p f => Sys2Proof.Machine.execReadVid p f s
  | .vcmd1On p f => Sys2Proof.Machine.execVcmd1On p f s
  | .vcmd1Off p f => Sys2Proof.Machine.execVcmd1Off p f s
  | .vcmd1LinkError p cause => Sys2Proof.Machine.execVcmd1LinkError p cause s
  | .avsVoltageWrite p sel d ovr => Sys2Proof.Machine.execAvsVoltageWrite p sel d ovr s
  | .avsWriteHold p ty sel d => Sys2Proof.Machine.execAvsWriteHold p ty sel d s
  | .avsVoltageRead p sel => Sys2Proof.Machine.execAvsVoltageRead p sel s
  | .avsTransRateWrite p sel d => Sys2Proof.Machine.execAvsTransRateWrite p sel d s
  | .avsTransRateRead p sel => Sys2Proof.Machine.execAvsTransRateRead p sel s
  | .resetVoltage p sel ovr => Sys2Proof.Machine.execResetVoltage p sel ovr s
  | .avsStatusRead p sel => Sys2Proof.Machine.execAvsStatusRead p sel s
  | .avsStatusWrite p sel d => Sys2Proof.Machine.execAvsStatusWrite p sel d s
  | .avsVersionRead p sel => Sys2Proof.Machine.execAvsVersionRead p sel s
  | .avsNoAction p sel why => Sys2Proof.Machine.execAvsNoAction p sel why s
  | .registerWrite n a w => Sys2Proof.Machine.execRegisterWrite n a w s
  | .smbusTimeout => Sys2Proof.Machine.execSmbusTimeout s
  | .alertResponse => Sys2Proof.Machine.execAlertResponse s
  | .page d pec => Sys2Proof.Machine.execPage d pec s
  | .operation d pec => Sys2Proof.Machine.execOperation d pec s
  | .onOffConfig => Sys2Proof.Machine.execOnOffConfig s
  | .clearFaults pec => Sys2Proof.Machine.execClearFaults pec s
  | .capability => Sys2Proof.Machine.execCapability s
  | .voutMode => Sys2Proof.Machine.execVoutMode s
  | .voutCommand d pec => Sys2Proof.Machine.execVoutCommand d pec s
  | .voutMax => Sys2Proof.Machine.execVoutMax s
  | .voutMin => Sys2Proof.Machine.execVoutMin s
  | .voutTransitionRate d pec => Sys2Proof.Machine.execVoutTransitionRate d pec s
  | .voutOvFaultLimit => Sys2Proof.Machine.execVoutOvFaultLimit s
  | .voutUvFaultLimit => Sys2Proof.Machine.execVoutUvFaultLimit s
  | .ioutOcFaultLimit => Sys2Proof.Machine.execIoutOcFaultLimit s
  | .statusByte => Sys2Proof.Machine.execStatusByte s
  | .statusWord => Sys2Proof.Machine.execStatusWord s
  | .statusVout => Sys2Proof.Machine.execStatusVout s
  | .statusIout => Sys2Proof.Machine.execStatusIout s
  | .statusTemperature => Sys2Proof.Machine.execStatusTemperature s
  | .statusCml => Sys2Proof.Machine.execStatusCml s
  | .statusMfrSpecific => Sys2Proof.Machine.execStatusMfrSpecific s
  | .readVout => Sys2Proof.Machine.execReadVout s
  | .readIout => Sys2Proof.Machine.execReadIout s
  | .readTemperature1 => Sys2Proof.Machine.execReadTemperature1 s
  | .readTemperature2 => Sys2Proof.Machine.execReadTemperature2 s
  | .pmbusRevision => Sys2Proof.Machine.execPmbusRevision s
  | .mfrId => Sys2Proof.Machine.execMfrId s
  | .mfrModel => Sys2Proof.Machine.execMfrModel s
  | .mfrRevision => Sys2Proof.Machine.execMfrRevision s
  | .icDeviceId => Sys2Proof.Machine.execIcDeviceId s
  | .icDeviceRev => Sys2Proof.Machine.execIcDeviceRev s
  | .mfrKaRead => Sys2Proof.Machine.execMfrKaRead s
  | .mfrStateCmd d pec => Sys2Proof.Machine.execMfrStateCmd d pec s
  | .mfrRegAddr d pec => Sys2Proof.Machine.execMfrRegAddr d pec s
  | .mfrRegData d pec => Sys2Proof.Machine.execMfrRegData d pec s
  | .mfrTargetRaw d pec => Sys2Proof.Machine.execMfrTargetRaw d pec s
  | .pmbusUnsupported code => Sys2Proof.Machine.execPmbusUnsupported code s
  | .i3cPrivateWrite data => Sys2Proof.Machine.execI3cPrivateWrite data s
  | .i3cPrivateRead n => Sys2Proof.Machine.execI3cPrivateRead n s
  | .entdaa a => Sys2Proof.Machine.execEntdaa a s
  | .rstdaa => Sys2Proof.Machine.execRstdaa s
  | .enec ev => Sys2Proof.Machine.execEnec ev s
  | .disec ev => Sys2Proof.Machine.execDisec ev s
  | .setmwl n => Sys2Proof.Machine.execSetmwl n s
  | .setmrl n => Sys2Proof.Machine.execSetmrl n s
  | .setdasa a => Sys2Proof.Machine.execSetdasa a s
  | .setnewda a => Sys2Proof.Machine.execSetnewda a s
  | .getmwl => Sys2Proof.Machine.execGetmwl s
  | .getmrl => Sys2Proof.Machine.execGetmrl s
  | .getpid => Sys2Proof.Machine.execGetpid s
  | .getbcr => Sys2Proof.Machine.execGetbcr s
  | .getdcr => Sys2Proof.Machine.execGetdcr s
  | .getstatus => Sys2Proof.Machine.execGetstatus s
  | .getmxds => Sys2Proof.Machine.execGetmxds s
  | .i3cUndefinedCcc k => Sys2Proof.Machine.execI3cUndefinedCcc k s
  | .hotJoinRequest => Sys2Proof.Machine.execHotJoinRequest s
  | .bypassInstr => Sys2Proof.Machine.execBypassInstr s
  | .idcode => Sys2Proof.Machine.execIdcode s
  | .samplePreload => Sys2Proof.Machine.execSamplePreload s
  | .extest => Sys2Proof.Machine.execExtest s
  | .clamp => Sys2Proof.Machine.execClamp s
  | .highz => Sys2Proof.Machine.execHighz s
  | .regacc dr => Sys2Proof.Machine.execRegacc dr s
  | .halt => Sys2Proof.Machine.execHalt s
  | .release => Sys2Proof.Machine.execRelease s
  | .keyprog dr => Sys2Proof.Machine.execKeyprog dr s
  | .ftmkey testen key => Sys2Proof.Machine.execFtmkey testen key s
  | .testLogicReset => Sys2Proof.Machine.execTestLogicReset s
  | .claim id pl lost => Sys2Proof.Machine.execClaim id pl lost s
  | .yield id pl lost => Sys2Proof.Machine.execYield id pl lost s
  | .timebase id pl lost => Sys2Proof.Machine.execTimebase id pl lost s
  | .hello id pl lost => Sys2Proof.Machine.execHello id pl lost s
  | .leave id pl lost => Sys2Proof.Machine.execLeave id pl lost s
  | .nlBadFrame k => Sys2Proof.Machine.execNlBadFrame k s
  | .nlListenEnd acked => Sys2Proof.Machine.execNlListenEnd acked s
  | .nlHelloTimer acked => Sys2Proof.Machine.execNlHelloTimer acked s
  | .nlPeerTimeout id => Sys2Proof.Machine.execNlPeerTimeout id s
  | .mlost => Sys2Proof.Machine.execMlost s
  | .renegotiate => Sys2Proof.Machine.execRenegotiate s
  | .syncInPulse => Sys2Proof.Machine.execSyncInPulse s
  | .slotCommitDone ok => Sys2Proof.Machine.execSlotCommitDone ok s

end Sys2Proof.Machine
end

