-- ==== Sys2Proof/Machine/Tick.lean ====
section
/-! DEFINITION. What step does when no command waits (log entry 1, DESIGN CHOICE): the commands that have fallen due at the
present DPWM tick enter the queue; when there is none, time advances by one tick. A tick advances the bank epochs (R99) and a
Blotter test (R347), and at each core clock edge, every second tick (R27), the running timers (R364) and the watchdog (R335).
-/

namespace Sys2Proof.Machine

/-! ## What falls due -/

/-- The clocks of the island run: READY, RUN and SAFE. Log entry 1, DESIGN CHOICE. -/
def clocksRun (s : State) : Bool := islandUp s

/-- An armed event whose time has come and that has not yet entered the queue. Log entry 1, DESIGN CHOICE. -/
def ripe (now : Nat) (d : Due) : Bool := !d.up && decide (d.at_ ≤ now)

/-- The armed events that fall due, in the order in which they were armed. -/
def dueNow (s : State) : List Instr := (s.agenda.filter (ripe s.now)).map (·.ev)

/-- The master carrier starts that are due (R34, R409). -/
def masters (s : State) : List Instr :=
  (configured s).filterMap fun rc => if mcsDue s rc.1 rc.2 then some (.masterCarrierStart rc.1) else none

/-- The matches of the timers (R365). -/
def timerMatches (s : State) : List Instr :=
  (allFin 32).filterMap fun t => if s.tmr.tmr[t].matched then some (.timerMatch t) else none

/-- The command that a channel's carrier brings at this tick, if any: its carrier start, its on edge, its off edge (R93,
R97). -/
def carrierEvent (s : State) (c : RailCfg) (m : ModMode) (ch : ChanId) : Option Instr :=
  let k := s.chans[ch]
  if startDue s k then some (.carrierStart ch)
  else if onEdgeDue s c m k then some (.compareMatch ch true)
  else if offEdgeDue s c m k then some (.compareMatch ch false)
  else none

/-- The carrier starts and compare matches that are due. -/
def carriers (s : State) : List Instr :=
  (configured s).flatMap fun rc => (accordChans rc.2).filterMap fun i =>
    (toFin 192 i).bind (carrierEvent s rc.2 s.rails[rc.1].eng.mode)

/-- Everything that has fallen due at the present tick. Log entry 1, DESIGN CHOICE. -/
def fallen (s : State) : List Instr :=
  dueNow s ++ if clocksRun s then masters s ++ timerMatches s ++ carriers s else []

/-- What has fallen due enters the queue. Log entry 1, DESIGN CHOICE. -/
def raise (s : State) : State :=
  { s with pending := s.pending ++ fallen s
           agenda := s.agenda.map fun d => if ripe s.now d then { d with up := true } else d }

/-! ## One DPWM tick -/

/-- A bank's epoch advances by a tick (R99). -/
def epochStep (k : Bank) : Bank := { k with epoch := k.epoch + 1 }

/-- The sync pulses of the tick (R99). -/
def pulses (s : State) : List Instr := (allFin 24).filterMap fun b => if pulseNow s.banks[b] then some (.syncPulse b) else none

/-- The rails whose present state has a true slot (R60). -/
def slotsTrue (s : State) : List Instr :=
  (configured s).filterMap fun rc =>
    if (nextState s rc.1 rc.2).isSome then some (.seqTransition rc.1 s.rails[rc.1].seq.seqIn) else none

/-- The counters of a core clock edge. Log entry 1, DESIGN CHOICE. -/
def coreEdge (s : State) : State :=
  let counts := !coreStopped s && !s.tmr.slowMode
  { s with
    tmr := { s.tmr with tmr := if counts then mapTab (fun _ => countEdge (cycle s)) s.tmr.tmr else s.tmr.tmr }
    pwr := { s.pwr with wdog := if wdogCounts s then s.pwr.wdog - 1 else s.pwr.wdog } }

/-- The commands of a core clock edge: the expiry of the watchdog, the true slots of the sequencers. -/
def coreEvents (old s : State) : List Instr :=
  (if wdogCounts old && old.pwr.wdog == 1 then [.watchdogReset] else []) ++ slotsTrue s

/-- The DPWM clock runs: from the lock of the DLL on, also while a wake restores the island (R99, R324). -/
def dpwmRuns (s : State) : Bool := clocksRun s || s.pwr.wake == .restore

/-- Compare words of a sample are due at this core clock edge. -/
def wordsWait (s : State) : Bool :=
  s.rails.toList.any fun x => x.eng.wordsDue.any (· ≤ s.now) || x.eng.coriDue.any (·.1 ≤ s.now)

/-- The compare words that are due take effect (R35, R94). -/
def wordsEdge (s : State) : State :=
  if wordsWait s then
    let f := fun s => forEach (configured s) wordsTake s
    settle (occurs f s) s (f s)
  else s

/-- The core clock edge at the pins that the device drives and observes (R27, R69). -/
def pinsEdge (s : State) : State :=
  if coreStopped s || ((lagging s).isEmpty && s.pins.sync.isEmpty) then s else settle (occurs syncPins s) s (syncPins s)

/-- One DPWM tick later: the VDDIO groups are powered as the board powers them then (R321, R436).
Log entry 1, DESIGN CHOICE. Log entry 19, DEDUCED. -/
def later (s : State) : State :=
  { s with now := s.now + 1, pwr := { s.pwr with ioUp := (List.range 4).map fun g => !Config.vddioAbsent (s.now + 1) g } }

/-- One DPWM tick. Log entry 1, DESIGN CHOICE. Log entry 9, DESIGN CHOICE. -/
def tick (s : State) : State :=
  let t := later s
  let t := if dpwmRuns t then { t with banks := mapTab (fun _ => epochStep) t.banks } else t
  if !clocksRun t then t
  else if onCoreEdge t && t.pwr.tgt == some .off then offEnter t
  else
    let t := blotSample t
    let edge := onCoreEdge t
    let u := if edge then pinsEdge (coreEdge (wordsEdge t)) else t
    { u with pending := u.pending ++ pulses u ++ if edge then coreEvents t u else [] }

/-- The block without a waiting command: what has fallen due enters the queue, else a tick passes.
Log entry 1, DESIGN CHOICE. -/
def idle (s : State) : State := if (fallen s).isEmpty then tick s else raise s

end Sys2Proof.Machine
end

