-- ==== Sys2Proof/Safety.lean ====
section
/-! DEFINITION. The terms that claims use: a command that completes and what its next state holds, two states that agree
but for what follows by itself, a safe run. -/

namespace Sys2Proof

/-- A step that completes. -/
def Completes (s : Machine.State) : Prop := ∃ t, Machine.step s = .next t

namespace Machine

/-- `t` is `s` but for what follows by itself from a change of state: the Sillage buffers and FLT_STATUS.SILFRZ (R310), the
log queue (R342 to R345), the in-band interrupt requests (R304), StatusAlert of the ports (R210), and the agenda of timed
events, which is the model's own. -/
structure SameCore (s t : State) : Prop where
  pending : t.pending = s.pending
  now : t.now = s.now
  free : t.free = s.free
  resp : t.resp = s.resp
  respPec : t.respPec = s.respPec
  chans : t.chans = s.chans
  banks : t.banks = s.banks
  rails : ∀ r : RailId, { t.rails[r] with sil := {} } = { s.rails[r] with sil := {} }
  ports : ∀ p : PortId, { t.ports[p] with alert := false } = { s.ports[p] with alert := false }
  hadc : t.hadc = s.hadc
  thm : t.thm = s.thm
  nvl : { t.nvl with queue := [], drop := false, dropCnt := 0, headNew := false, qAt := 0, qNew := 0 }
    = { s.nvl with queue := [], drop := false, dropCnt := 0, headNew := false, qAt := 0, qNew := 0 }
  nrd : t.nrd = s.nrd
  tmr : t.tmr = s.tmr
  fifo : t.fifo = s.fifo
  pwr : t.pwr = s.pwr
  ka : t.ka = s.ka
  glb : { t.glb with silFrz := false } = { s.glb with silFrz := false }
  img : t.img = s.img
  sealed : t.sealed = s.sealed
  otp : t.otp = s.otp
  hif : { t.hif with ibi := [] } = { s.hif with ibi := [] }
  tap : t.tap = s.tap
  pins : t.pins = s.pins
  nl : t.nl = s.nl
  irqEn : t.irqEn = s.irqEn
  flash : t.flash = s.flash

/-- A reset of the control domain with an image sealed leaves the regulation island of `s` as it is in `t` (R29, R30): the
channels, the phase accords, the banks and the island state of the rails; the bits that R14 gives the control domain fall, a
sounding ends ABORT (R266), and a channel of a latched rail that a self-test held at off level stands at safe level again (R90). -/
abbrev IslandKept (s t : State) : Prop :=
  (∀ ch : ChanId, t.chans[ch] = if s.chans[ch].st = .safe then { s.chans[ch] with out := .safe } else s.chans[ch]) ∧
  t.thm.band = s.thm.band ∧ t.thm.bandSel = s.thm.bandSel ∧ t.thm.throt = s.thm.throt ∧
  (∀ b : BankId, { t.banks[b] with bistRun := false, bistDone := false, bistPass := false, bistRej := false, bistRejCnt := 0,
                                   failMap := 0, failItem := 0, lastValid := false, lastUnattr := false, lastClass := 0 }
    = { s.banks[b] with bistRun := false, bistDone := false, bistPass := false, bistRej := false, bistRejCnt := 0,
                        failMap := 0, failItem := 0, lastValid := false, lastUnattr := false, lastClass := 0 }) ∧
  (∀ r : RailId, t.rails[r].tel = s.rails[r].tel ∧ t.rails[r].trip = { s.rails[r].trip with clrRej := false } ∧
    t.rails[r].prot = { s.rails[r].prot with clrRej := false } ∧
    t.rails[r].seq = { s.rails[r].seq with seqRej := false, rejCnt := 0 } ∧
    t.rails[r].sh = { s.rails[r].sh with phRej := false } ∧ t.rails[r].pos = { s.rails[r].pos with hrej := false } ∧
    t.rails[r].lim = { s.rails[r].lim with held := s.rails[r].lim.throttled } ∧
    t.rails[r].eng = { s.rails[r].eng with sndfb := s.rails[r].eng.sndfb || s.rails[r].snd.run } ∧
    t.rails[r].coef = { s.rails[r].coef with fallbk := s.rails[r].coef.fallbk || s.rails[r].snd.run })

/-- The conversion `c` in progress is one of schedule entry `i`, its mark is `m`, and `x` is the entry's averaged result so far
(R252, R255). -/
abbrev Delivers (s : State) (c : Conv) (i : Nat) (e : HadcEntry) (x : SchRes) (m : HMark) : Prop :=
  hadcUp s = true ∧ s.hadc.conv = some c ∧ c.user = .entry i ∧ convMark s c = m ∧ (hadcEntries s)[i]? = some e ∧
    s.hadc.res[i]? = some x

/-- The unmarked codes in the filter of an entry once `code` has entered it, newest first (R255). -/
abbrev filtered (x : SchRes) (code : Int) : List Int := (code :: x.win).take (2 ^ x.avg)

/-- The averaged result of the entry carries no mark once `code` has entered it: the filter is full, and its AVG was not changed in
this core cycle (R255, R273). -/
abbrev Averaged (s : State) (x : SchRes) (code : Int) : Prop :=
  (x.full = true ∨ (filtered x code).length = 2 ^ x.avg) ∧ x.chgAt ≠ some (cycle s)

/-- Command `c` completes in `s`, and its next state satisfies `P`. -/
def Gives (c : Instr) (s : State) (P : State → Prop) : Prop := ∃ t, exec c s = .next t ∧ P t

/-- Command `c` completes in `s`, and its next state is `u` but for what follows by itself: `u` is the result and the
frame in one. -/
def Becomes (c : Instr) (s u : State) : Prop := Gives c s (SameCore u)

/-- The state in which an SMBus read of command `code` leaves its data, with the PEC byte that follows it (R382). -/
def answered (code : Nat) (l : List Byte) (s : State) : State := { s with resp := .bytes l, respPec := readPec s code l }

/-- The commands that may write the flash: the slots, the log, and the commands that write registers. -/
def mayWriteFlash : Instr → Bool
  | .imgDataWrite _ | .slotErase _ | .slotEraseDone _ | .slotCommitDone _ | .logScanDone | .logCommitStart | .logged
  | .logProgramTimeout | .logBlockErase | .registerWrite _ _ _ | .mfrRegData _ _ | .i3cPrivateWrite _ | .regacc _ => true
  | _ => false

/-- The port whose load sends a command (R184). -/
def portCmd : Instr → Option PortId
  | .vselAccept p _ | .vcmd2SetTarget p _ _ | .vcmd2SetSlew p _ | .vcmd2Start p _ | .vcmd2Stop p _ | .vcmd2Read p _
  | .vcmd2Nop p _ | .vcmd2LinkError p _ | .setVid p _ _ | .vcmd1SetSlew p _ | .readVid p _ | .vcmd1On p _ | .vcmd1Off p _
  | .vcmd1LinkError p _ | .avsVoltageWrite p _ _ _ | .avsWriteHold p _ _ _ | .avsVoltageRead p _ | .avsTransRateWrite p _ _
  | .avsTransRateRead p _ | .resetVoltage p _ _ | .avsStatusRead p _ | .avsStatusWrite p _ _ | .avsVersionRead p _
  | .avsNoAction p _ _ => some p
  | _ => none

end Machine

end Sys2Proof
end

