-- ==== Sys2Proof/Certificates/Slice0/Obligations.lean ====
section
/-! DEFINITION. The statements for the provers. `Gives c s P`: command `c` completes in `s` and its next state satisfies
`P`; `Becomes c s u`: its next state is `u` but for what follows by itself (Safety.lean), so the result is stated with
its frame. -/

section

open Sys2Proof Sys2Proof.Machine


/-- POWER_ON_RESET, RESET_N, HOST_SOFT_RESET, WATCHDOG_RESET, CONTROL_DOMAIN_RELEASE (R29 to R32, R331, R332, R334
to R336): what each reset leaves: a reset of the control domain leaves the regulation island of a sealed image
alone, and without a seal resets it too (R29, R30); none of them touches the flash or the one-time-programmable
controls. Model choices: log entries 2, 12, 17, 19, 39. -/
def Obligations.ResetsLeave : Prop :=
  (∀ s, Gives .powerOnReset s fun t => t.pwr.dev = .off ∧ t.pwr.tgt = none ∧ t.pwr.wake = .none ∧
     t.hif.strapValid = true ∧ t.ka = {} ∧ t.sealed = {} ∧ t.img = {} ∧ t.tap = {} ∧ t.nl = {} ∧ t.irqEn = 0 ∧
     t.nrd = {} ∧ t.flash = s.flash ∧ t.otp = s.otp ∧ ∀ ch : ChanId, t.chans[ch].st = .noAccord ∧
     t.chans[ch].out = .weak) ∧
  (∀ s ns, 200 ≤ ns → s.pwr.wake = .none → s.pwr.recov = false →
     s.pwr.dev = .ready ∨ s.pwr.dev = .run ∨ s.pwr.dev = .safe → Gives (.resetN ns) s fun t => t.ka.rstCause = 2 ∧
     t.pwr.tgt = some .ready ∧ t.sealed = {} ∧ t.irqEn = 0 ∧ t.nl = {} ∧ t.flash = s.flash ∧ t.otp = s.otp ∧
     t.fifo = s.fifo ∧ ∀ ch : ChanId, t.chans[ch].st = .noAccord ∧ t.chans[ch].out = .weak) ∧
  (∀ s ns, ns < 50 → Becomes (.resetN ns) s s) ∧
  (∀ s, hostUp s = true → Gives .hostSoftReset s fun t => t.pwr.ctlHeld = true ∧ t.pwr.rstKind = 3 ∧
     t.pwr.ifFrom = s.now + 40 * usTicks ∧ hostUp t = false ∧ t.hif.dynAddr = none ∧ t.hif.mwl = 0x0400#16 ∧
     t.pwr.rejCnt = 0 ∧ t.nvl.vstop = 0x12C#10 ∧ t.nrd = {} ∧ t.glb.accErr = false ∧ t.sealed.img = s.sealed.img ∧
     (isSealed s = true → t.irqEn = s.irqEn) ∧ t.ka = s.ka ∧ t.fifo = s.fifo ∧ t.flash = s.flash ∧ t.otp = s.otp) ∧
  (∀ s, hostUp s = true → isSealed s = true → Gives .hostSoftReset s fun t => IslandKept s t ∧ t.pwr.dev = s.pwr.dev) ∧
  (∀ s, hostUp s = true → isSealed s = false → Gives .hostSoftReset s fun t => t.pwr.dev = .ready ∧ t.sealed = {} ∧
     t.irqEn = 0 ∧ t.flash = s.flash ∧ t.otp = s.otp ∧ ∀ ch : ChanId, t.chans[ch].st = .noAccord ∧
     t.chans[ch].out = .weak) ∧
  (∀ s, s.pwr.wdRun = true → s.pwr.wdog = 0 → s.pwr.ctlHeld = false → Gives .watchdogReset s fun t =>
     t.glb.wdRst = true ∧ t.pwr.ctlHeld = true ∧ t.pwr.rstKind = 4 ∧ t.hif.dynAddr = none ∧
     t.sealed.img = s.sealed.img ∧ t.ka = s.ka ∧ t.flash = s.flash ∧ t.otp = s.otp) ∧
  (∀ s, s.pwr.wdRun = true → s.pwr.wdog = 0 → s.pwr.ctlHeld = false → isSealed s = true →
     Gives .watchdogReset s fun t => IslandKept s t ∧ t.pwr.dev = s.pwr.dev) ∧
  (∀ s, s.pwr.wdRun = true → s.pwr.wdog = 0 → s.pwr.ctlHeld = false → isSealed s = false →
     Gives .watchdogReset s fun t => t.pwr.dev = .ready ∧ t.sealed = {} ∧ t.irqEn = 0 ∧ t.flash = s.flash ∧
     t.otp = s.otp ∧ ∀ ch : ChanId, t.chans[ch].st = .noAccord ∧ t.chans[ch].out = .weak) ∧
  (∀ s, isDue .controlDomainRelease s = true → s.pwr.ctlHeld = true → Gives .controlDomainRelease s fun t =>
     t.pwr.ctlHeld = false ∧ t.ka = { s.ka with rstCause := s.pwr.rstKind } ∧ t.sealed = s.sealed ∧
     t.irqEn = s.irqEn ∧ t.fifo = s.fifo ∧ t.flash = s.flash ∧ t.otp = s.otp ∧
     ∀ ch : ChanId, { t.chans[ch] with probeAt := none, pv0 := none, pv1 := none } = { s.chans[ch] with probeAt := none, pv0 := none, pv1 := none })

/-- VDD_BROWNOUT, VDDA_BROWNOUT, DPWM_CLOCK_LOST, PLL_LOSS_OF_LOCK, DLL_LOSS_OF_LOCK (R28, R116, R297, R331, R373,
R375): each, while class F is armed, no hold stands and none has been released in this core cycle, sets its status
bit and enters the fatal hold with its cause; REFERENCE_LOST moves the PLL to the RC without loss of lock;
SLOW_CLOCK_LOST sets SLOWCLK, and in slow-clock mode it ends every RUNNING timer without a match (R373), one that
matched at this very slow edge too (R375). Model choices: log entries 8, 12, 36. -/
def Obligations.MonitorsRaiseTheirSources : Prop :=
  (∀ s, islandUp s = true → fatalArmed s = true → s.glb.latched = false → s.glb.clrAt ≠ some (cycle s) →
     s.pwr.vddBo = false → Gives (.vddBrownout true) s fun t => t.glb.vddBo = true ∧ t.glb.latched = true ∧
     t.glb.cause = 4 ∧ t.pwr.dev = .safe ∧ t.sealed = s.sealed ∧ t.irqEn = s.irqEn ∧ t.hif.dynAddr = s.hif.dynAddr) ∧
  (∀ s, islandUp s = true → Becomes (.vddBrownout false) s { s with pwr := { s.pwr with vddBo := false } }) ∧
  (∀ s, islandUp s = true → fatalArmed s = true → s.glb.latched = false → s.glb.clrAt ≠ some (cycle s) →
     s.pwr.vddaBo = false → Gives (.vddaBrownout true) s fun t => t.glb.vddaBo = true ∧ t.glb.latched = true ∧
     t.glb.cause = 5 ∧ t.pwr.dev = .safe ∧ t.sealed = s.sealed ∧ t.irqEn = s.irqEn ∧ t.hif.dynAddr = s.hif.dynAddr) ∧
  (∀ s, islandUp s = true → fatalArmed s = true → s.glb.latched = false → s.glb.clrAt ≠ some (cycle s) →
     s.pwr.dpwmBad = false → Gives (.dpwmClockLost true) s fun t => t.glb.dpwmClk = true ∧ t.glb.latched = true ∧
     t.glb.cause = 3 ∧ t.pwr.dev = .safe ∧ t.sealed = s.sealed ∧ t.irqEn = s.irqEn ∧ t.hif.dynAddr = s.hif.dynAddr) ∧
  (∀ s, islandUp s = true → fatalArmed s = true → s.glb.latched = false → s.glb.clrAt ≠ some (cycle s) →
     Gives .pllLossOfLock s fun t => t.glb.pllLock = true ∧ t.pwr.pllLk = false ∧ t.glb.latched = true ∧
     t.glb.cause = 1 ∧ t.pwr.dev = .safe ∧ t.sealed = s.sealed ∧ t.irqEn = s.irqEn) ∧
  (∀ s, islandUp s = true → fatalArmed s = true → s.glb.latched = false → s.glb.clrAt ≠ some (cycle s) →
     Gives .dllLossOfLock s fun t => t.glb.dllLock = true ∧ t.pwr.dllLk = false ∧ t.glb.latched = true ∧
     t.glb.cause = 2 ∧ t.pwr.dev = .safe ∧ t.sealed = s.sealed ∧ t.irqEn = s.irqEn) ∧
  (∀ s, islandUp s = true → s.pwr.refRc = false → Becomes .referenceLost s
     { s with pwr := { s.pwr with refRc := true, refReg := true }, glb := { s.glb with refFb := true } }) ∧
  (∀ s, islandUp s = true → s.tmr.slowMode = false → Becomes .slowClockLost s
     { s with glb := { s.glb with slowClk := true } }) ∧
  (∀ s, s.tmr.slowMode = true → Gives .slowClockLost s fun t => t.tmr.slowErr = true ∧ t.tmr.slowMode = true ∧
     t.tmr.doneMask = (slowUndo s).tmr.doneMask ∧ t.tmr.done = (slowUndo s).tmr.done ∧ t.pwr = s.pwr ∧
     t.sealed = s.sealed ∧
     ∀ k : TimerId, t.tmr.tmr[k] = if (slowUndo s).tmr.tmr[k].st = .running then { (slowUndo s).tmr.tmr[k] with st := .done, slow := true, stopped := false, half := none, matched := false } else (slowUndo s).tmr.tmr[k]) ∧
  (∀ s, islandUp s = false → s.tmr.slowMode = false → Becomes .slowClockLost s s)

/-- GLB_FATAL_CLR, CONFIG_SCRUB, KICK (R296, R298, R335). The release of the fatal hold asks for the key, CLR and
every condition; the device then stands in READY. One double error in force enters the hold with cause 6; a single
error only counts. KICK restarts the count from the full timeout. Model choices: log entries 8, 42. -/
def Obligations.FatalClearScrubKick : Prop :=
  (∀ s w, hostUp s = true → bits w 24 8 = 0xA5 → bitw w 22 = true → s.glb.latched = true → fatalClearable s = true →
     s.glb.fatalOcc ≠ some (cycle s) → Gives (.glbFatalClr w) s fun t => t.glb.latched = false ∧ t.glb.cause = 0 ∧
     t.pwr.dev = .ready ∧ t.sealed = s.sealed ∧ t.irqEn = s.irqEn ∧ t.thm = s.thm ∧ t.flash = s.flash) ∧
  (∀ s w, hostUp s = true → bits w 24 8 = 0xA5 → bitw w 22 = true → s.glb.latched = true → fatalClearable s = false →
     Becomes (.glbFatalClr w) s { s with glb := { s.glb with clrRej := true } }) ∧
  (∀ s e, islandUp s = true → e.double = false → Becomes (.configScrub [e]) s
     { s with glb := { s.glb with cfgCor := true, corCnt := min 65535 (s.glb.corCnt + 1) } }) ∧
  (∀ s e, islandUp s = true → fatalArmed s = true → s.glb.latched = false → s.glb.clrAt ≠ some (cycle s) →
     e.double = true → e.inForce = true → Gives (.configScrub [e]) s fun t => t.glb.cfgUnc = true ∧
     t.glb.part = e.part ∧ t.glb.latched = true ∧ t.glb.cause = 6 ∧ t.pwr.dev = .safe ∧ t.sealed = s.sealed) ∧
  (∀ s, hostUp s = true → s.pwr.wdRun = true → isSealed s = true → 0 < (hostif s).wdog → Becomes .kick s
     { s with pwr := { s.pwr with wdog := (hostif s).wdog * msCycles } })

/-- GOTO_OFF, GOTO_STANDBY, STANDBY_ENTERED, GOTO_READY, GOTO_RUN, RUN_TIMEOUT, WAKE (R318, R320, R323, R324, R327,
R329, R330): the transition that each legal command begins or completes, the refusal that PWR_CMD counts, and the
class F trip of the core cycle of a GOTO OFF, which comes first; a WAKE in the core cycle of a state command of the
responder is ignored (R337). Model choices: log entries 8, 12, 19, 38, 39, 58. -/
def Obligations.StateCommands : Prop :=
  (∀ s, hostUp s = true → s.pwr.dev = .safe → s.pwr.tgt = none → s.glb.fatalOcc ≠ some (cycle s) →
     Gives .gotoOff s fun t => t.pwr = { s.pwr with tgt := some .off, goAt := some (cycle s) } ∧ t.sealed = s.sealed ∧
     t.chans = s.chans ∧ t.banks = s.banks ∧ t.irqEn = s.irqEn ∧ t.flash = s.flash ∧ t.otp = s.otp) ∧
  (∀ s, hostUp s = true → s.pwr.dev = .ready → s.pwr.tgt = none → s.img.phase = .idle → s.nvl.busy = false →
     Gives .gotoOff s fun t => t.pwr = { s.pwr with tgt := some .off, goAt := some (cycle s) } ∧ t.sealed = s.sealed ∧
     t.chans = s.chans ∧ t.banks = s.banks ∧ t.irqEn = s.irqEn ∧ t.flash = s.flash ∧ t.otp = s.otp) ∧
  (∀ s, s.pwr.dev = .standby → s.pwr.tgt = none → Gives .gotoOff s fun t => t.pwr.dev = .off ∧ t.pwr.tgt = none ∧
     t.resp = .ack ∧ t.sealed = {} ∧ t.irqEn = 0 ∧ t.hif.strapValid = true ∧ t.flash = s.flash ∧ t.otp = s.otp ∧
     t.fifo = s.fifo ∧ ∀ ch : ChanId, t.chans[ch].out = .weak) ∧
  (∀ s, islandUp s = true → s.pwr.tgt = some .off → s.pwr.goAt = some (cycle s) → s.glb.latched = false →
     s.glb.clrAt ≠ some (cycle s) → s.pwr.dpwmBad = false → Gives (.dpwmClockLost true) s fun t => t.pwr.dev = .safe ∧
     t.pwr.tgt = none ∧ t.pwr.cmdRej = true ∧ t.glb.cause = 3) ∧
  (∀ s, hostUp s = true → s.pwr.dev = .safe → s.glb.fatalOcc = some (cycle s) → Becomes .gotoOff s
     { s with pwr := { s.pwr with cmdRej := true, rejCnt := min 255 (s.pwr.rejCnt + 1) } }) ∧
  (∀ s, s.pwr.dev = .ready → s.pwr.tgt = none → hostUp s = true → s.img.phase = .idle → s.nvl.busy = false →
     Gives .gotoStandby s fun t => t.pwr = { s.pwr with tgt := some .standby, goAt := some (cycle s) } ∧
     t.sealed = s.sealed ∧ t.chans = s.chans ∧ t.banks = s.banks ∧ t.flash = s.flash) ∧
  (∀ s, s.pwr.dev = .off → s.pwr.tgt = none → Gives .gotoStandby s fun t => t.pwr.dev = .standby ∧
     t.pwr.retained = false ∧ t.hif.strapValid = true ∧ t.resp = .ack ∧ t.ka = s.ka) ∧
  (∀ s, s.pwr.tgt = some .standby → Gives .standbyEntered s fun t => t.pwr.dev = .standby ∧ t.pwr.tgt = none ∧
     t.pwr.retained = true ∧ t.sealed.img = s.sealed.img ∧ t.irqEn = s.irqEn ∧
     (∀ ch : ChanId, t.chans[ch].out = .weak) ∧ t.flash = s.flash ∧ t.otp = s.otp) ∧
  (∀ s, s.pwr.dev = .standby → s.pwr.tgt = none → Gives .gotoReady s fun t => t.pwr.tgt = some .ready ∧
     t.pwr.wake = .supplies ∧ t.ka.wakeSrc = 2 ∧ t.resp = .ack ∧ t.pwr.dev = .standby ∧ t.sealed = s.sealed) ∧
  (∀ s, s.pwr.dev = .run → s.pwr.tgt = none → hostUp s = true →
     (∀ r : RailId, railState s.rails[r] = 0 ∨ railState s.rails[r] = 4) → Becomes .gotoReady s
     { s with pwr := { s.pwr with dev := .ready } }) ∧
  (∀ s, s.pwr.dev = .ready → s.pwr.tgt = none → hostUp s = true → isSealed s = true → s.thm.bandSel = false →
     Becomes .gotoRun s { s with pwr := { s.pwr with tgt := some .run, runWait := true } }) ∧
  (∀ s, s.pwr.dev = .ready → s.pwr.tgt = none → hostUp s = true → isSealed s = false → Becomes .gotoRun s
     { s with pwr := { s.pwr with cmdRej := true, rejCnt := min 255 (s.pwr.rejCnt + 1) } }) ∧
  (∀ s, isDue .runTimeout s = true → s.pwr.runWait = true → Becomes .runTimeout s
     { s with pwr := { s.pwr with tgt := none, runWait := false, runTo := true } }) ∧
  (∀ s ns, 1000 ≤ ns → s.pwr.goAt = some (cycle s) → Becomes (.wake ns) s s) ∧
  (∀ s ns, 1000 ≤ ns → s.pwr.dev = .off → s.pwr.tgt = none → s.pwr.goAt ≠ some (cycle s) → Gives (.wake ns) s fun t =>
     t.pwr.tgt = some .ready ∧ t.pwr.wake = .supplies ∧ t.ka.wakeSrc = 1) ∧
  (∀ s ns, ns < 200 → Becomes (.wake ns) s s)

/-- SUPPLIES_READY, SUPPLY_TIMEOUT, REFERENCE_QUALIFIED, REFERENCE_QUAL_TIMEOUT, PLL_LOCKED, PLL_ATTEMPT_TIMEOUT,
DLL_LOCKED, DLL_ATTEMPT_TIMEOUT, RETENTION_RESTORED (R324, R325): the steps of a wake, its retries, four attempts of
the PLL on the reference and four on the RC, and its failures, which also hold in the recovery from RESET_N. Model
choices: log entries 17, 19. -/
def Obligations.WakeSteps : Prop :=
  (∀ s, s.pwr.wake = .supplies → Becomes .suppliesReady s
     { s with pwr := { s.pwr with wake := .refQual, io := (List.range 4).map fun g => some (groupUp s g && Config.vddio33 g) } }) ∧
  (∀ s, isDue .supplyTimeout s = true → s.pwr.wake = .supplies → Gives .supplyTimeout s fun t =>
     t.ka = { s.ka with supTo := true } ∧ t.pwr.dev = .standby ∧ t.pwr.tgt = none ∧ t.pwr.wake = .none ∧
     t.pwr.retained = s.pwr.retained ∧ t.sealed = s.sealed ∧ t.chans = s.chans) ∧
  (∀ s, s.pwr.wake = .refQual → Becomes .referenceQualified s
     { s with pwr := { s.pwr with wake := .pll, pllTry := s.pwr.pllTry + 1, refRc := false } }) ∧
  (∀ s, isDue .referenceQualTimeout s = true → s.pwr.wake = .refQual → Becomes .referenceQualTimeout s
     { s with pwr := { s.pwr with wake := .pll, pllTry := s.pwr.pllTry + 1, refRc := true } }) ∧
  (∀ s, islandUp s = false → s.pwr.wake = .pll → Becomes .pllLocked s
     { s with pwr := { s.pwr with wake := .dll, pllLk := true, dllTry := s.pwr.dllTry + 1 } }) ∧
  (∀ s, isDue .pllAttemptTimeout s = true → s.pwr.wake = .pll → s.pwr.refRc = false → s.pwr.pllTry < 4 →
     Becomes .pllAttemptTimeout s { s with pwr := { s.pwr with pllTry := s.pwr.pllTry + 1 } }) ∧
  (∀ s, isDue .pllAttemptTimeout s = true → s.pwr.wake = .pll → s.pwr.refRc = false → 4 ≤ s.pwr.pllTry →
     Becomes .pllAttemptTimeout s { s with pwr := { s.pwr with pllTry := s.pwr.pllTry + 1, refRc := true } }) ∧
  (∀ s, isDue .pllAttemptTimeout s = true → s.pwr.wake = .pll → s.pwr.refRc = true → s.pwr.pllTry ≠ 4 →
     s.pwr.pllTry < 8 → Becomes .pllAttemptTimeout s { s with pwr := { s.pwr with pllTry := s.pwr.pllTry + 1 } }) ∧
  (∀ s, isDue .pllAttemptTimeout s = true → s.pwr.wake = .pll → s.pwr.refRc = true →
     s.pwr.pllTry = 4 ∨ 8 ≤ s.pwr.pllTry → Gives .pllAttemptTimeout s fun t => t.ka = { s.ka with pllTo := true } ∧
     t.pwr.dev = .standby ∧ t.pwr.tgt = none ∧ t.pwr.wake = .none ∧ t.sealed = s.sealed) ∧
  (∀ s, islandUp s = false → s.pwr.wake = .dll → s.pwr.retained = true → Gives .dllLocked s fun t =>
     t.pwr = { s.pwr with dllLk := true, wake := .restore } ∧ (∀ b : BankId, t.banks[b].epoch = 0) ∧
     t.sealed = s.sealed ∧ t.chans = s.chans) ∧
  (∀ s, islandUp s = false → s.pwr.wake = .dll → s.pwr.retained = false → s.pwr.vddBo = false → s.pwr.vddaBo = false →
     Gives .dllLocked s fun t => t.pwr.dev = .ready ∧ t.pwr.tgt = none ∧ t.pwr.wake = .none ∧ t.sealed = s.sealed ∧
     ∀ b : BankId, t.banks[b].epoch = 0) ∧
  (∀ s, isDue .dllAttemptTimeout s = true → s.pwr.wake = .dll → s.pwr.dllTry < 4 → Becomes .dllAttemptTimeout s
     { s with pwr := { s.pwr with dllTry := s.pwr.dllTry + 1 } }) ∧
  (∀ s, isDue .dllAttemptTimeout s = true → s.pwr.wake = .dll → 4 ≤ s.pwr.dllTry → Gives .dllAttemptTimeout s fun t =>
     t.ka = { s.ka with dllTo := true } ∧ t.pwr.dev = .standby ∧ t.pwr.tgt = none ∧ t.pwr.wake = .none ∧
     t.sealed = s.sealed) ∧
  (∀ s, s.pwr.wake = .restore → s.pwr.vddBo = false → s.pwr.vddaBo = false →
     Gives (.retentionRestored true) s fun t => t.pwr.dev = .ready ∧ t.pwr.tgt = none ∧ t.pwr.wake = .none ∧
     t.pwr.retained = false ∧ t.sealed = s.sealed) ∧
  (∀ s, s.pwr.wake = .restore → s.pwr.vddBo = false → s.pwr.vddaBo = false →
     Gives (.retentionRestored false) s fun t => t.pwr.dev = .ready ∧ t.pwr.retLost = true ∧ t.sealed = {} ∧
     t.irqEn = 0 ∧ ∀ ch : ChanId, t.chans[ch].st = .noAccord)

/-- MASTER_CARRIER_START, CARRIER_START, COMPARE_MATCH, SYNC_PULSE, ROTATION_STEP, TELEMETRY_PUSH (R41, R95, R97,
R99, R103, R110, R165, R420): what a carrier start loads, that an asserted comparator suppresses the on edge and
counts a trip period, what an edge does to its channel and that it leaves every other channel and every rail as it
was, the next slot of a rotation, the FIFO entry of a telemetry push. Model choices: log entries 1, 11, 28. -/
def Obligations.CarriersAndEdges : Prop :=
  (∀ s (r : RailId) c, islandUp s = true → railCfg s r = some c → mcsDue s r c = true →
     Gives (.masterCarrierStart r) s fun t => t.rails[r].seq.mcs = s.now ∧ t.rails[r].seq.started = true ∧
     (s.rails[r].seq.started = true → t.rails[r].seq.mcsNo = s.rails[r].seq.mcsNo + 1) ∧
     t.rails[r].eng.llineW = s.rails[r].eng.lline.toNat ∧
     t.rails[r].pos.slewW = clampN 1 320 s.rails[r].pos.slew.toNat ∧ t.sealed = s.sealed ∧ t.pwr = s.pwr ∧
     t.thm = s.thm ∧ t.fifo = s.fifo ∧ t.flash = s.flash ∧ t.hadc = s.hadc ∧ t.tmr = s.tmr ∧ (∀ j : RailId, j ≠ r →
     { t.rails[j] with sil := {} } = { s.rails[j] with sil := {} })) ∧
  (∀ s (ch : ChanId) (r : RailId) c q odd, islandUp s = true → owner s ch = some (r, c, q, odd) →
     startDue s s.chans[ch] = true → s.chans[ch].bandDue = false → s.rails[r].eng.mode ≠ .cori →
     s.chans[ch].rawTrip = false → s.rails[r].snd.run = false → s.chans[ch].shOnAt ≠ some s.now →
     Gives (.carrierStart ch) s fun t => SameCore { s with chans := t.chans } t ∧ (∀ j : ChanId, j ≠ ch →
     t.chans[j] = s.chans[j]) ∧ t.chans[ch].cs = s.now ∧ t.chans[ch].cmpOn = s.chans[ch].shOn.getD s.chans[ch].cmpOn ∧
     t.chans[ch].cmpOff = s.chans[ch].shOff.getD s.chans[ch].cmpOff ∧ t.chans[ch].shOn = none ∧
     t.chans[ch].shOff = none ∧ t.chans[ch].onDone = false ∧ t.chans[ch].newOfs = none ∧
     t.chans[ch].nextCs = some (s.now + c.md.period)) ∧
  (∀ s (ch : ChanId) (r : RailId) c q, islandUp s = true → owner s ch = some (r, c, q, false) →
     startDue s s.chans[ch] = true → s.chans[ch].bandDue = false → s.rails[r].eng.mode ≠ .cori →
     s.chans[ch].rawTrip = true → s.chans[ch].st = .switching → 8 < c.acc.nph → latched s.rails[r] = false →
     s.rails[r].trip.inPeriod = false → Gives (.carrierStart ch) s fun t => t.chans[ch].st = .cycleTerm ∧
     (∀ j : ChanId, j ≠ ch → t.chans[j] = s.chans[j]) ∧ t.rails[r].trip.inPeriod = true ∧
     t.rails[r].trip.count = min 255 (s.rails[r].trip.count + 1) ∧ (isArmed (.tripCountReached r ch) s = false →
     (isArmed (.tripCountReached r ch) t = true ↔ c.cur.tripn ≤ t.rails[r].trip.count)) ∧ (∀ j : RailId, j ≠ r →
     t.rails[j] = s.rails[j]) ∧ t.sealed = s.sealed ∧ t.pwr = s.pwr ∧ t.banks = s.banks ∧ t.hadc = s.hadc ∧
     t.flash = s.flash) ∧
  (∀ s (ch : ChanId) (r : RailId) c q odd, islandUp s = true → owner s ch = some (r, c, q, odd) →
     onEdgeDue s c s.rails[r].eng.mode s.chans[ch] = true → Becomes (.compareMatch ch true) s
     (onChan ch (fun k => { k with out := .on, pre := k.out, onDone := true, negHold := false, onBand := k.band, onAt := s.now * 64 + matchOn s.rails[r].eng.mode k % 64 }) s)) ∧
  (∀ s (ch : ChanId) (r : RailId) c q odd, islandUp s = true → owner s ch = some (r, c, q, odd) →
     offEdgeDue s c s.rails[r].eng.mode s.chans[ch] = true → s.chans[ch].leaving = false →
     s.chans[ch].negHold = false → Becomes (.compareMatch ch false) s
     (onChan ch (fun k => { k with out := .low, pre := .on, offAt := s.now * 64 + ((matchOff s c s.rails[r].eng.mode k).emod 64).toNat }) s)) ∧
  (∀ s (b : BankId), islandUp s = true → pulseNow s.banks[b] = true → Gives (.syncPulse b) s fun t =>
     t.rails.map (fun x => x.seq) = s.rails.map (fun x => x.seq) ∧ t.thm = s.thm ∧ t.sealed = s.sealed ∧
     (∀ ch : ChanId, ch.val / 8 = b.val → s.chans[ch].st ≠ .switching → s.chans[ch].st ≠ .cycleTerm →
     s.chans[ch].bandDue = true → t.chans[ch].band = some s.thm.band) ∧
     (∀ ch : ChanId, t.chans[ch].st = s.chans[ch].st ∧ t.chans[ch].out = s.chans[ch].out) ∧
     (∀ ch : ChanId, ch.val / 8 ≠ b.val → t.chans[ch] = s.chans[ch]) ∧ (∀ j : BankId, j.val ≠ b.val + 1 →
     t.banks[j] = s.banks[j]) ∧ t.hadc = s.hadc ∧ t.pwr = s.pwr ∧ t.flash = s.flash) ∧
  (∀ s (r : RailId) c, isDue (.rotationStep r) s = true → islandUp s = true → railCfg s r = some c →
     s.rails[r].sh.rotate = true → s.rails[r].eng.mode ≠ .cori → Gives (.rotationStep r) s fun t =>
     SameCore { onRail r (fun x => { x with sh := { x.sh with rot := (x.sh.rot + 1) % max x.sh.nact 1, rotCnt := 0 } }) s with chans := t.chans } t ∧
     ∀ ch : ChanId, ch.val ∉ accordChans c → t.chans[ch] = s.chans[ch]) ∧
  (∀ s (r : RailId) c f, isDue (.telemetryPush r) s = true → islandUp s = true → railCfg s r = some c →
     fifoOf s 7 r.val = some f → telRuns s.rails[r] = true → s.fifo[f].entries.length < 64 →
     Becomes (.telemetryPush r) s
     (onFifo f (fun x => { x with entries := x.entries ++ [telEntry s r x.seq], seq := (x.seq + 1) % 65536, fresh := some (cycle s, freshNow s x + 1) }) s))

/-- EADC_SAMPLE, ISLICE_SAMPLE, ISLICE_RESULT, TRIMSAT, PHASE_CURRENT_LIMIT_TRIP, TRIP_COUNT_REACHED, BTSF_TRIP,
BREF_WINDOW_TRIP, BREF_DISTURBANCE_END (R109 to R113, R121, R148, R151, R152, R157, R162): codes and currents by the
rules' formulas, the trip latch with its cause and place, the cycle-by-cycle termination and the trip period of a
rail of nine phases or more, the disturbance period of a bank, which spoils an open balance round of its rails.
Model choices: log entries 5, 7, 8, 12, 28, 32, 52. -/
def Obligations.SamplesAndTrips : Prop :=
  (∀ s (r : RailId) c vpin, islandUp s = true → railCfg s r = some c → sampleDue s r c = true →
     Gives (.eadcSample r vpin) s fun t =>
     t.rails[r].eng.code = clampI (-512) 511 (roundDiv ((c.eng.divk * s.rails[r].eng.centre * 1250 : Nat) - vpin * 32768) (250 * 32768)) ∧
     t.rails[r].eng.sat = (t.rails[r].eng.code == 511 || t.rails[r].eng.code == -512) ∧ t.sealed = s.sealed ∧
     t.hadc = s.hadc ∧ t.thm = s.thm ∧ t.pwr = s.pwr ∧ t.flash = s.flash ∧ ∀ j : RailId, j ≠ r →
     { t.rails[j] with sil := {} } = { s.rails[j] with sil := {} }) ∧
  (∀ s (ch : ChanId) v, islandUp s = true → isliceDue s ch = true → Becomes (.isliceSample ch v) s
     (onChan ch (fun k => { k with smp := some ⟨clampI (-512) 511 (roundDiv v 500), sampleIMark s ch, gainOf s ch.val k.band, sampleNo s ch, k.csNo⟩, smpAt := some s.now }) s)) ∧
  (∀ s (ch : ChanId) m (r : RailId) c q, islandUp s = true → s.chans[ch].smp = some m →
     owner s ch = some (r, c, q, false) → Gives (.isliceResult ch) s fun t => t.chans[ch].smp = none ∧
     t.chans[ch].code = m.code ∧ t.chans[ch].mark = m.mark ∧
     t.chans[ch].amps = narrow16 (roundDiv ((m.code - s.chans[ch].iofs) * (32768 + m.gain) * c.acc.irated) (400 * 32768)) ∧
     (m.mark = .none → t.rails[r].sh.contrib = modAt s.rails[r].sh.contrib q fun _ => t.chans[ch].amps) ∧
     (m.mark ≠ .none → t.rails[r].sh.contrib = s.rails[r].sh.contrib) ∧ (∀ j : ChanId, j ≠ ch →
     t.chans[j] = s.chans[j]) ∧ t.sealed = s.sealed ∧ t.banks = s.banks ∧ t.hadc = s.hadc) ∧
  (∀ s (r : RailId) c (q : Fin 32), isDue (.trimsat r q) s = true → islandUp s = true → railCfg s r = some c →
     Becomes (.trimsat r q) s (onRail r (fun x => { x with sh := { x.sh with trimSat := true, satPos := q.val } }) s)) ∧
  (∀ s (ch : ChanId) (r : RailId) c q, islandUp s = true → s.chans[ch].rawTrip = false →
     owner s ch = some (r, c, q, false) → s.rails[r].sh.bypass.getLsbD q = false → latched s.rails[r] = false →
     c.acc.nph ≤ 8 → Gives (.phaseCurrentLimitTrip ch true) s fun t => t.rails[r].trip.latched = true ∧
     t.rails[r].trip.cause = 1 ∧ t.rails[r].trip.wher = q ∧ t.rails[r].trip.tripLat = true ∧
     t.rails[r].seq.st = .stopped ∧ t.rails[r].seq.pgPin = false ∧ t.chans[ch].rawTrip = true ∧ t.sealed = s.sealed ∧
     ∀ j : RailId, j ≠ r → { t.rails[j] with sil := {} } = { s.rails[j] with sil := {} }) ∧
  (∀ s (ch : ChanId) (r : RailId) c q, islandUp s = true → s.chans[ch].rawTrip = false →
     owner s ch = some (r, c, q, false) → s.rails[r].sh.bypass.getLsbD q = false → latched s.rails[r] = false →
     s.rails[r].trip.inPeriod = false → 8 < c.acc.nph → s.chans[ch].st = .switching →
     Gives (.phaseCurrentLimitTrip ch true) s fun t => t.chans[ch].st = .cycleTerm ∧ t.chans[ch].cbc = true ∧
     t.chans[ch].rawTrip = true ∧ t.chans[ch].out ≠ .on ∧ (s.chans[ch].out ≠ .on →
     t.chans[ch].out = s.chans[ch].out) ∧ t.rails[r].trip.inPeriod = true ∧
     t.rails[r].trip.count = min 255 (s.rails[r].trip.count + 1) ∧ t.rails[r].trip.latched = false ∧
     t.rails[r].seq.st = s.rails[r].seq.st ∧ (c.cur.tripn ≤ t.rails[r].trip.count →
     isArmed (.tripCountReached r ch) t = true) ∧ (∀ j : ChanId, j ≠ ch → t.chans[j] = s.chans[j]) ∧
     t.banks = s.banks ∧ t.sealed = s.sealed ∧ ∀ j : RailId, j ≠ r →
     { t.rails[j] with sil := {} } = { s.rails[j] with sil := {} }) ∧
  (∀ s (ch : ChanId), Becomes (.phaseCurrentLimitTrip ch false) s (onChan ch (fun k => { k with rawTrip := false }) s)) ∧
  (∀ s (r : RailId) (ch : ChanId) c q, isDue (.tripCountReached r ch) s = true → islandUp s = true →
     railCfg s r = some c → chanPos c ch.val = some q → latched s.rails[r] = false →
     Gives (.tripCountReached r ch) s fun t => t.rails[r].trip.latched = true ∧ t.rails[r].trip.cause = 2 ∧
     t.rails[r].trip.wher = q ∧ t.rails[r].trip.tripLat = true ∧ t.rails[r].seq.st = .stopped ∧
     t.rails[r].seq.pgPin = false ∧ t.sealed = s.sealed ∧ ∀ j : RailId, j ≠ r →
     { t.rails[j] with sil := {} } = { s.rails[j] with sil := {} }) ∧
  (∀ s (b : BankId), islandUp s = true → isSealed s = true → s.banks[b].btsfRaw = false →
     Gives (.btsfTrip b true) s fun t => t.banks[b].btsfFlt = true ∧ t.banks[b].brefMark = true ∧
     t.sealed = s.sealed ∧ ∀ rc ∈ configured s, b.val ∈ accordBanks rc.2 → latched s.rails[rc.1] = false →
     t.rails[rc.1].trip.latched = true ∧ t.rails[rc.1].trip.cause = 3 ∧ t.rails[rc.1].trip.wher = b.val) ∧
  (∀ s (b : BankId), Becomes (.btsfTrip b false) s (onBank b (fun k => { k with btsfRaw := false }) s)) ∧
  (∀ s (b : BankId), islandUp s = true → bankUsed s b = true → s.banks[b].brefWin = false →
     s.banks[b].brefMark = false →
     Becomes (.brefWindowTrip b true) s (onCfgRails (fun _ c x => if (active c x).any (fun q => c.acc.phase.getD q 0 / 8 == b.val) then { x with sh := { x.sh with roundBad := true } } else x)
     (onBank b (fun k => { k with brefWin := true, brefMark := true, brefDist := true, distCnt := min 65535 (k.distCnt + 1) }) s))) ∧
  (∀ s (b : BankId), isDue (.brefDisturbanceEnd b) s = true → Becomes (.brefDisturbanceEnd b) s
     (onBank b (fun k => { k with brefMark := false }) s))

/-- What stands at PWMppp (R90, R91, R318, R333, R397, R436): HIGHZ floats the ball, as does the want of its VDDIO
group's supply; without the island, once the pad latches have let go, it stands at the no-image level, the weak
bias; a STAGE phase at safe level drives the SAFE code of its position, a PAIR phase bit 0 of it on its high-side
ball; at on level, from the edge's tap on, a STAGE phase drives high; a self-test holds a channel in no accord at
off level. Model choices: log entries 19, 26, 35. -/
def Obligations.PwmPadLevels : Prop :=
  (∀ s (ch : ChanId) (t : Nat), s.tap.ir = .highz → pwmPad s ch t = .highZ) ∧
  (∀ s (ch : ChanId) (t : Nat), groupUp s (pwmGroup ch) = false → pwmPad s ch t = .highZ) ∧
  (∀ s (ch : ChanId) (t : Nat), groupUp s (pwmGroup ch) = true → s.tap.ir = .idcode → islandUp s = false →
     s.pwr.padsUntil ≤ s.now → pwmPad s ch t = .weak) ∧
  (∀ s (ch : ChanId) (r : RailId) c (q : Nat) (t : Nat), groupUp s (pwmGroup ch) = true → s.tap.ir = .idcode →
     islandUp s = true → s.pwr.padsUntil ≤ s.now → probing s ch = false → owner s ch = some (r, c, q, false) →
     c.acc.phase.getD q 0 = ch.val → c.acc.pair = false → s.chans[ch].out = .safe →
     pwmPad s ch t = (if c.acc.safe.getD q 0 = 0 then .low else if c.acc.safe.getD q 0 = 1 then .mid else .high)) ∧
  (∀ s (ch : ChanId) (r : RailId) c (q : Nat) (t : Nat), groupUp s (pwmGroup ch) = true → s.tap.ir = .idcode →
     islandUp s = true → s.pwr.padsUntil ≤ s.now → probing s ch = false → owner s ch = some (r, c, q, false) →
     c.acc.phase.getD q 0 = ch.val → c.acc.pair = true → s.chans[ch].out = .safe →
     pwmPad s ch t = (if (c.acc.safe.getD q 0).testBit 0 then .high else .low)) ∧
  (∀ s (ch : ChanId) (r : RailId) c (q : Nat) (t : Nat), groupUp s (pwmGroup ch) = true → s.tap.ir = .idcode →
     islandUp s = true → s.pwr.padsUntil ≤ s.now → probing s ch = false → owner s ch = some (r, c, q, false) →
     c.acc.phase.getD q 0 = ch.val → c.acc.pair = false → s.chans[ch].out = .on → s.chans[ch].onAt ≤ t →
     bistHolds s ch s.chans[ch] = false → pwmPad s ch t = .high) ∧
  (∀ s (ch : ChanId) (b : BankId) (t : Nat), groupUp s (pwmGroup ch) = true → s.tap.ir = .idcode → islandUp s = true →
     s.pwr.padsUntil ≤ s.now → probing s ch = false → owner s ch = none → ch.val / 8 = b.val →
     s.banks[b].bistRun = true → s.chans[ch].out = .weak → pwmPad s ch t = .mid)

/-- OV_TRIP, UV_TRIP, SENSE_OPEN, BACKDRIVE_PERSIST, RAIL_TRIP_CLR, RAIL_PROT_CLR (R115, R229, R234, R236, R240,
R241): an armed trip sets its status bit and the protection latch with its cause, the rail stops with PGOODn low and
no other rail changes; a clear is refused while a comparator stands asserted, and else releases the latch. Model
choices: log entry 12. -/
def Obligations.ProtectionTripsAndClears : Prop :=
  (∀ s (r : RailId) c, islandUp s = true → railCfg s r = some c → s.rails[r].prot.ovRaw = false →
     s.rails[r].prot.ovArm = true → latched s.rails[r] = false → Gives (.ovTrip r true) s fun t =>
     t.rails[r].prot.ovFlt = true ∧ t.rails[r].prot.latched = true ∧ t.rails[r].prot.cause = 1 ∧
     t.rails[r].seq.st = .stopped ∧ t.rails[r].seq.pgPin = false ∧ t.sealed = s.sealed ∧
     t.glb.latched = s.glb.latched ∧ ∀ j : RailId, j ≠ r →
     { t.rails[j] with sil := {} } = { s.rails[j] with sil := {} }) ∧
  (∀ s (r : RailId), Becomes (.ovTrip r false) s
     (onRail r (fun x => { x with prot := { x.prot with ovRaw := false } }) s)) ∧
  (∀ s (r : RailId) c, islandUp s = true → railCfg s r = some c → s.rails[r].prot.uvRaw = false →
     s.rails[r].prot.uvArm = true → latched s.rails[r] = false → Gives (.uvTrip r true) s fun t =>
     t.rails[r].prot.uvFlt = true ∧ t.rails[r].prot.latched = true ∧ t.rails[r].prot.cause = 2 ∧
     t.rails[r].seq.st = .stopped ∧ t.rails[r].seq.pgPin = false ∧ t.sealed = s.sealed ∧
     t.glb.latched = s.glb.latched ∧ ∀ j : RailId, j ≠ r →
     { t.rails[j] with sil := {} } = { s.rails[j] with sil := {} }) ∧
  (∀ s (r : RailId), s.rails[r].prot.uvArm = false → Becomes (.uvTrip r true) s
     (onRail r (fun x => { x with prot := { x.prot with uvRaw := true } }) s)) ∧
  (∀ s (r : RailId) c neg, islandUp s = true → railCfg s r = some c → s.rails[r].prot.snsP = false →
     s.rails[r].prot.snsN = false → railState s.rails[r] = 1 ∨ railState s.rails[r] = 2 ∨ railState s.rails[r] = 3 →
     Gives (.senseOpen r neg true) s fun t => t.rails[r].prot.snsOpen = true ∧ t.rails[r].prot.latched = true ∧
     t.rails[r].prot.cause = (if neg then 4 else 3) ∧ t.rails[r].seq.st = .stopped ∧ t.sealed = s.sealed ∧
     ∀ j : RailId, j ≠ r → { t.rails[j] with sil := {} } = { s.rails[j] with sil := {} }) ∧
  (∀ s (r : RailId) c, isDue (.backdrivePersist r) s = true → islandUp s = true → railCfg s r = some c →
     s.rails[r].prot.bdAct = true → latched s.rails[r] = false → Gives (.backdrivePersist r) s fun t =>
     t.rails[r].prot.bdFlt = true ∧ t.rails[r].prot.latched = true ∧ t.rails[r].prot.cause = 5 ∧
     t.rails[r].seq.st = .stopped ∧ t.sealed = s.sealed ∧ ∀ j : RailId, j ≠ r →
     { t.rails[j] with sil := {} } = { s.rails[j] with sil := {} }) ∧
  (∀ s (r : RailId) c w, hostUp s = true → railCfg s r = some c → bitw w 30 = true → s.rails[r].trip.latched = true →
     s.rails[r].prot.latched = false → tripClear s c s.rails[r] = true → Gives (.railTripClr r w) s fun t =>
     t.rails[r].trip.latched = false ∧ t.rails[r].trip.count = 0 ∧ t.rails[r].trip.cause = 0 ∧
     railState t.rails[r] = 0 ∧ t.sealed = s.sealed ∧ t.pwr = s.pwr ∧ ∀ j : RailId, j ≠ r →
     { t.rails[j] with sil := {} } = { s.rails[j] with sil := {} }) ∧
  (∀ s (r : RailId) c, hostUp s = true → railCfg s r = some c → tripClear s c s.rails[r] = false →
     Becomes (.railTripClr r 0x40000000#32) s
     (onRail r (fun x => { x with trip := { x.trip with clrRej := true } }) s)) ∧
  (∀ s (r : RailId) c, hostUp s = true → railCfg s r = some c → s.rails[r].prot.latched = true →
     s.rails[r].trip.latched = false → s.rails[r].prot.ovRaw = false → s.rails[r].prot.snsP = false →
     s.rails[r].prot.snsN = false → (∀ ch : ChanId, ch.val ∈ c.acc.phase → s.chans[ch].rawTrip = false) →
     Gives (.railProtClr r 0x50000000#32) s fun t => t.rails[r].prot.latched = false ∧ t.rails[r].prot.cause = 0 ∧
     t.rails[r].prot.ovFlt = false ∧ t.rails[r].prot.uvFlt = s.rails[r].prot.uvFlt ∧ railState t.rails[r] = 0 ∧
     t.sealed = s.sealed ∧ t.pwr = s.pwr ∧ ∀ j : RailId, j ≠ r →
     { t.rails[j] with sil := {} } = { s.rails[j] with sil := {} }) ∧
  (∀ s (r : RailId) c, hostUp s = true → railCfg s r = some c → s.rails[r].prot.ovRaw = true →
     Becomes (.railProtClr r 0x40000000#32) s
     (onRail r (fun x => { x with prot := { x.prot with clrRej := true } }) s))

/-- PG_COMPARATOR_CHANGE, PGOOD_RELEASE, PGOOD_FALL, DURATION_ELAPSED, TARGET_REACHED, PREBIAS_MEASURED,
RAMP_DELAY_END, OFFSET_CAL_DONE, SEQ_TRANSITION (R60, R154, R190, R222 to R226, R230): power-good follows its
filters, a transition enters the state that the first true slot names and begins its action, each of the ten. Model
choices: log entries 12, 44. -/
def Obligations.PowerGoodAndTransitions : Prop :=
  (∀ s (r : RailId) c, islandUp s = true → railCfg s r = some c → s.rails[r].seq.pgComp = true →
     s.rails[r].seq.pgArm = true → s.rails[r].seq.pgPin = true → latched s.rails[r] = false →
     Gives (.pgComparatorChange r false) s fun t => SameCore
     (onRail r (fun x => { x with seq := { x.seq with pgComp := false } }) s) t ∧ isArmed (.pgoodFall r) t = true) ∧
  (∀ s (r : RailId) c, isDue (.pgoodRelease r) s = true → islandUp s = true → railCfg s r = some c →
     s.rails[r].seq.pgArm = true → s.rails[r].seq.pgComp = true → latched s.rails[r] = false →
     Becomes (.pgoodRelease r) s
     (onRail r (fun x => { x with seq := { x.seq with pgPin := true, pgChg := x.seq.pgChg || !x.seq.pgPin } }) s)) ∧
  (∀ s (r : RailId) c, isDue (.pgoodFall r) s = true → islandUp s = true → railCfg s r = some c →
     s.rails[r].seq.pgComp = false → Becomes (.pgoodFall r) s
     (onRail r (fun x => { x with seq := { x.seq with pgPin := false, pgChg := x.seq.pgChg || x.seq.pgPin } }) s)) ∧
  (∀ s (r : RailId) c, isDue (.durationElapsed r) s = true → islandUp s = true → railCfg s r = some c →
     Becomes (.durationElapsed r) s (onRail r (fun x => { x with seq := { x.seq with durOk := true } }) s)) ∧
  (∀ s (r : RailId) c, isDue (.targetReached r) s = true → islandUp s = true → railCfg s r = some c →
     s.rails[r].seq.ramp = none → Gives (.targetReached r) s fun t => posNow t t.rails[r] = posNow s s.rails[r] ∧
     t.chans = s.chans ∧ t.sealed = s.sealed ∧ t.rails[r].seq = s.rails[r].seq ∧ ∀ j : RailId, j ≠ r →
     { t.rails[j] with sil := {} } = { s.rails[j] with sil := {} }) ∧
  (∀ s (r : RailId) c, isDue (.prebiasMeasured r) s = true → islandUp s = true → railCfg s r = some c →
     s.rails[r].seq.measuring = true → (curState c s.rails[r]).duration ≠ 0 → Gives (.prebiasMeasured r) s fun t =>
     SameCore
     (onRail r (fun x => { x with seq := { x.seq with measuring := false, preb := some (x.seq.prebSum / (40 * (max c.eng.divk 1 : Nat))).toNat } }) s) t ∧
     isArmed (.durationElapsed r) t = true) ∧
  (∀ s (r : RailId) c i, isDue (.rampDelayEnd r) s = true → islandUp s = true → railCfg s r = some c →
     s.rails[r].seq.ramp = some (i, true) → s.rails[r].prot.bdAct = false →
     (c.seq.ramps.getD i ⟨0, 1, false⟩).fromPrebias = false → Gives (.rampDelayEnd r) s fun t =>
     t.rails[r].seq.delay = false ∧ t.rails[r].seq.sw = true ∧ t.rails[r].eng.on = true ∧
     t.rails[r].eng.first = true ∧ t.rails[r].eng.preload = 0 ∧ posNow t t.rails[r] = 0 ∧ t.sealed = s.sealed ∧
     (∀ j : RailId, j ≠ r → { t.rails[j] with sil := {} } = { s.rails[j] with sil := {} }) ∧
     ∀ ch : ChanId, ch.val ∉ accordChans c → t.chans[ch] = s.chans[ch]) ∧
  (∀ s (r : RailId) c sums q (ch : ChanId), islandUp s = true → railCfg s r = some c → s.rails[r].seq.cal = true →
     railState s.rails[r] = 1 → calReady r s = true → sums ≠ [] → c.acc.phase.Pairwise (· ≠ ·) →
     q ∈ avail c s.rails[r] → c.acc.phase[q]? = some ch.val → Gives (.offsetCalDone r sums) s fun t =>
     t.rails[r].seq.cal = false ∧ t.sealed = s.sealed ∧ t.pwr = s.pwr ∧ (∀ j : RailId, j ≠ r →
     { t.rails[j] with sil := {} } = { s.rails[j] with sil := {} }) ∧
     t.chans[ch].iofs = clampI (-32) 32 (roundDiv (sums.getD q 0) 16)) ∧
  (∀ s (r : RailId) c i n, islandUp s = true → railCfg s r = some c → nextState (seqInput r i s) r c = some n →
     (curTable c s.rails[r])[n]?.map (·.action) = some .regulate → Gives (.seqTransition r i) s fun t =>
     t.rails[r].seq.smIdx = n ∧ t.rails[r].seq.acting = true ∧
     t.rails[r].seq.seqIn = (seqInput r i s).rails[r].seq.seqIn ∧ t.rails[r].seq.sw = true ∧
     t.rails[r].seq.ramp = none ∧ t.sealed = s.sealed ∧ ∀ j : RailId, j ≠ r →
     { t.rails[j] with sil := {} } = { (seqInput r i s).rails[j] with sil := {} }) ∧
  (∀ s (r : RailId) c i n, islandUp s = true → railCfg s r = some c → nextState (seqInput r i s) r c = some n →
     (curTable c s.rails[r])[n]?.map (·.action) = some .holdOff → Gives (.seqTransition r i) s fun t =>
     t.rails[r].seq.smIdx = n ∧ t.rails[r].seq.seqIn = (seqInput r i s).rails[r].seq.seqIn ∧
     t.rails[r].seq.sw = false ∧ t.rails[r].eng.on = false ∧ t.rails[r].seq.ramp = none ∧ t.sealed = s.sealed ∧
     ∀ j : RailId, j ≠ r → { t.rails[j] with sil := {} } = { (seqInput r i s).rails[j] with sil := {} }) ∧
  (∀ s (r : RailId) c i n, islandUp s = true → railCfg s r = some c → nextState (seqInput r i s) r c = some n →
     (curTable c s.rails[r])[n]?.map (·.action) = some .measurePrebias → Gives (.seqTransition r i) s fun t =>
     t.rails[r].seq.smIdx = n ∧ t.rails[r].seq.seqIn = (seqInput r i s).rails[r].seq.seqIn ∧
     t.rails[r].seq.sw = false ∧ t.rails[r].eng.on = false ∧ t.rails[r].seq.measuring = true ∧
     t.rails[r].seq.prebN = 0 ∧ t.rails[r].seq.prebSum = 0 ∧ t.rails[r].eng.centre = 0 ∧ t.sealed = s.sealed ∧
     ∀ j : RailId, j ≠ r → { t.rails[j] with sil := {} } = { (seqInput r i s).rails[j] with sil := {} }) ∧
  (∀ s (r : RailId) c i n, islandUp s = true → railCfg s r = some c → nextState (seqInput r i s) r c = some n →
     (curTable c s.rails[r])[n]?.map (·.action) = some .rampUp →
     (c.seq.ramps.getD (((curTable c s.rails[r])[n]?.map (·.ramp)).getD 0) ⟨0, 1, false⟩).delay ≠ 0 →
     Gives (.seqTransition r i) s fun t => t.rails[r].seq.smIdx = n ∧
     t.rails[r].seq.seqIn = (seqInput r i s).rails[r].seq.seqIn ∧ t.rails[r].seq.sw = false ∧
     t.rails[r].seq.ramp = some (((curTable c s.rails[r])[n]?.map (·.ramp)).getD 0, true) ∧
     t.rails[r].seq.delay = true ∧ isArmed (.rampDelayEnd r) t = true ∧ t.sealed = s.sealed ∧ ∀ j : RailId, j ≠ r →
     { t.rails[j] with sil := {} } = { (seqInput r i s).rails[j] with sil := {} }) ∧
  (∀ s (r : RailId) c i n, islandUp s = true → railCfg s r = some c → nextState (seqInput r i s) r c = some n →
     (curTable c s.rails[r])[n]?.map (·.action) = some .rampDown →
     (c.seq.ramps.getD (((curTable c s.rails[r])[n]?.map (·.ramp)).getD 0) ⟨0, 1, false⟩).delay ≠ 0 →
     posNow s s.rails[r] ≠ 0 → Gives (.seqTransition r i) s fun t => t.rails[r].seq.smIdx = n ∧
     t.rails[r].seq.seqIn = (seqInput r i s).rails[r].seq.seqIn ∧ t.rails[r].seq.sw = true ∧
     posNow t t.rails[r] = posNow s s.rails[r] ∧
     t.rails[r].seq.ramp = some (((curTable c s.rails[r])[n]?.map (·.ramp)).getD 0, false) ∧
     t.rails[r].seq.delay = true ∧ isArmed (.rampDelayEnd r) t = true ∧ t.sealed = s.sealed ∧ ∀ j : RailId, j ≠ r →
     { t.rails[j] with sil := {} } = { (seqInput r i s).rails[j] with sil := {} }) ∧
  (∀ s (r : RailId) c i n, islandUp s = true → railCfg s r = some c → nextState (seqInput r i s) r c = some n →
     (curTable c s.rails[r])[n]?.map (·.action) = some .discharge → Gives (.seqTransition r i) s fun t =>
     t.rails[r].seq.smIdx = n ∧ t.rails[r].seq.seqIn = (seqInput r i s).rails[r].seq.seqIn ∧
     t.rails[r].seq.disch = true ∧ t.rails[r].eng.on = false ∧ posNow t t.rails[r] = 0 ∧ t.rails[r].seq.ramp = none ∧
     t.sealed = s.sealed ∧ ∀ j : RailId, j ≠ r →
     { t.rails[j] with sil := {} } = { (seqInput r i s).rails[j] with sil := {} }) ∧
  (∀ s (r : RailId) c i n, islandUp s = true → railCfg s r = some c → s.rails[r].prot.uvRaw = false →
     nextState (seqInput r i s) r c = some n → (curTable c s.rails[r])[n]?.map (·.action) = some .assertPg → n ≠ 0 →
     Gives (.seqTransition r i) s fun t => t.rails[r].seq.smIdx = n ∧
     t.rails[r].seq.seqIn = (seqInput r i s).rails[r].seq.seqIn ∧ t.rails[r].seq.pgArm = true ∧
     t.rails[r].seq.sw = s.rails[r].seq.sw ∧ t.rails[r].eng.on = s.rails[r].eng.on ∧
     t.rails[r].seq.ramp = s.rails[r].seq.ramp ∧ t.sealed = s.sealed ∧ ∀ j : RailId, j ≠ r →
     { t.rails[j] with sil := {} } = { (seqInput r i s).rails[j] with sil := {} }) ∧
  (∀ s (r : RailId) c i n, islandUp s = true → railCfg s r = some c → nextState (seqInput r i s) r c = some n →
     (curTable c s.rails[r])[n]?.map (·.action) = some .deassertPg → Gives (.seqTransition r i) s fun t =>
     t.rails[r].seq.smIdx = n ∧ t.rails[r].seq.seqIn = (seqInput r i s).rails[r].seq.seqIn ∧
     t.rails[r].seq.pgArm = false ∧ t.rails[r].seq.pgPin = false ∧ t.rails[r].seq.sw = s.rails[r].seq.sw ∧
     t.rails[r].eng.on = s.rails[r].eng.on ∧ t.rails[r].seq.ramp = s.rails[r].seq.ramp ∧ t.sealed = s.sealed ∧
     ∀ j : RailId, j ≠ r → { t.rails[j] with sil := {} } = { (seqInput r i s).rails[j] with sil := {} }) ∧
  (∀ s (r : RailId) c i n, islandUp s = true → railCfg s r = some c → nextState (seqInput r i s) r c = some n →
     (curTable c s.rails[r])[n]?.map (·.action) = some .terminalOn → vselTarget s r = none → raiseFrozen s = false →
     Gives (.seqTransition r i) s fun t => t.rails[r].seq.smIdx = n ∧
     t.rails[r].seq.seqIn = (seqInput r i s).rails[r].seq.seqIn ∧ t.rails[r].seq.st = .on ∧ t.rails[r].seq.sw = true ∧
     t.rails[r].seq.ramp = none ∧ t.rails[r].pos.target = BitVec.ofNat 16 c.eng.vboot ∧ t.rails[r].pos.src = 0 ∧
     t.sealed = s.sealed ∧ ∀ j : RailId, j ≠ r →
     { t.rails[j] with sil := {} } = { (seqInput r i s).rails[j] with sil := {} }) ∧
  (∀ s (r : RailId) c i n, islandUp s = true → railCfg s r = some c → nextState (seqInput r i s) r c = some n →
     (curTable c s.rails[r])[n]?.map (·.action) = some .terminalOff → Gives (.seqTransition r i) s fun t =>
     t.rails[r].seq.smIdx = n ∧ t.rails[r].seq.st = .stopped ∧ t.rails[r].seq.sw = false ∧
     t.rails[r].seq.pgPin = false ∧ t.rails[r].prot.ovArm = false ∧ t.sealed = s.sealed ∧ ∀ j : RailId, j ≠ r →
     { t.rails[j] with sil := {} } = { (seqInput r i s).rails[j] with sil := {} })

/-- RAIL_SEQ_START, RAIL_SEQ_STOP, RAIL_TARGET_WRITE, PORT_BUDGET_WRITE, BUDGET_STEP, THROTTLE_STEP (R193 to R195,
R217, R220, R222, R239, R289): a keyed START begins the start table with the calibration (an accepted STOP stands in
`StopCommands`); a refused one sets SEQREJ and counts; a target is held to VMIN to VMAX; a write of PORT_BUDGET
gives each owned rail its new budget value, taken at once when it does not lower the limit and in steps when it
does; the stepped terms move by one step, the throttle term up as well as down. Model choices: log entries 1, 8 (the
queue and the core cycle). -/
def Obligations.StartStopTargetLimits : Prop :=
  (∀ s (r : RailId) c w, hostUp s = true → railCfg s r = some c → bits w 24 8 = 0xA5 → bits w 0 4 = 1 →
     railState s.rails[r] = 0 → s.pwr.dev = .run → s.rails[r].seq.discHold = false → s.rails[r].prot.snsP = false →
     s.rails[r].prot.snsN = false → Gives (.railSeqStart r w) s fun t => t.rails[r].seq.st = .start ∧
     t.rails[r].seq.smIdx = 0 ∧ t.rails[r].seq.cal = true ∧ t.rails[r].seq.sw = false ∧
     t.rails[r].sh.nact = navl c s.rails[r] ∧ posNow t t.rails[r] = 0 ∧
     (∀ ch : ChanId, { t.chans[ch] with nextCs := none } = { s.chans[ch] with nextCs := none }) ∧
     (∀ ch : ChanId, ch.val ∉ accordChans c → t.chans[ch] = s.chans[ch]) ∧ t.sealed = s.sealed ∧ ∀ j : RailId, j ≠ r →
     { t.rails[j] with sil := {} } = { s.rails[j] with sil := {} }) ∧
  (∀ s (r : RailId) c, hostUp s = true → railCfg s r = some c → s.pwr.dev ≠ .run →
     Becomes (.railSeqStart r 0xA5000001#32) s
     (onRail r (fun x => { x with seq := { x.seq with seqRej := true, rejCnt := if x.seq.rejCnt < 15 then x.seq.rejCnt + 1 else 15 } }) s)) ∧
  (∀ s (r : RailId) c, hostUp s = true → railCfg s r = some c → railState s.rails[r] = 0 →
     Becomes (.railSeqStop r 0xA5000002#32) s
     (onRail r (fun x => { x with seq := { x.seq with seqRej := true, rejCnt := if x.seq.rejCnt < 15 then x.seq.rejCnt + 1 else 15 } }) s)) ∧
  (∀ s (r : RailId) c w, hostUp s = true → railCfg s r = some c → railState s.rails[r] = 2 → bitw w 29 = false →
     raiseFrozen s = false → Gives (.railTargetWrite r w) s fun t =>
     t.rails[r].pos.target = BitVec.ofNat 16 (clampN c.eng.vmin c.eng.vmax (bits w 0 16)) ∧ t.rails[r].pos.src = 1 ∧
     t.rails[r].pos.tgtDue = true ∧ t.rails[r].pos.moves = s.rails[r].pos.moves ∧ t.rails[r].seq = s.rails[r].seq ∧
     t.chans = s.chans ∧ t.sealed = s.sealed ∧ ∀ j : RailId, j ≠ r →
     { t.rails[j] with sil := {} } = { s.rails[j] with sil := {} }) ∧
  (∀ s (r : RailId) c w, hostUp s = true → railCfg s r = some c → railState s.rails[r] ≠ 2 →
     Becomes (.railTargetWrite r w) s (onRail r (fun x => { x with pos := { x.pos with hrej := true } }) s)) ∧
  (∀ s (p : PortId) w, hostUp s = true → Gives (.portBudgetWrite p w) s fun t => t.ports[p].budget = w.setWidth 16 ∧
     t.chans = s.chans ∧ t.sealed = s.sealed ∧ (∀ j : PortId, j ≠ p →
     { t.ports[j] with alert := false } = { s.ports[j] with alert := false }) ∧ ∀ r : RailId, r ∉ ownedRails s p →
     t.rails[r].lim = s.rails[r].lim) ∧
  (∀ s (p : PortId) w (r : RailId) c i sh, hostUp s = true → (ownedRails s p).count r = 1 → railCfg s r = some c →
     portOf s r = some (p, i, sh) → sh ≠ 0 → s.rails[r].lim.stepping = false →
     ilimEff c s.rails[r] ≤ shareOf (bits w 0 16) sh → Gives (.portBudgetWrite p w) s fun t =>
     t.rails[r].lim = { s.rails[r].lim with goal := shareOf (bits w 0 16) sh, bud := shareOf (bits w 0 16) sh, stepping := false } ∧
     t.rails[r].seq = s.rails[r].seq ∧ t.chans = s.chans ∧ t.sealed = s.sealed) ∧
  (∀ s (p : PortId) w (r : RailId) c i sh, hostUp s = true → (ownedRails s p).count r = 1 → railCfg s r = some c →
     portOf s r = some (p, i, sh) → sh ≠ 0 → s.rails[r].lim.stepping = false →
     shareOf (bits w 0 16) sh < ilimEff c s.rails[r] → Gives (.portBudgetWrite p w) s fun t =>
     t.rails[r].lim = { s.rails[r].lim with goal := shareOf (bits w 0 16) sh, bud := ilimEff c s.rails[r], stepping := true } ∧
     t.rails[r].seq = s.rails[r].seq ∧ t.chans = s.chans ∧ t.sealed = s.sealed ∧ isArmed (.budgetStep r) t = true) ∧
  (∀ s (p : PortId) w (r : RailId) c i sh, hostUp s = true → (ownedRails s p).count r = 1 → railCfg s r = some c →
     portOf s r = some (p, i, sh) → sh ≠ 0 → s.rails[r].lim.stepping = true →
     shareOf (bits w 0 16) sh < s.rails[r].lim.bud → Gives (.portBudgetWrite p w) s fun t =>
     t.rails[r].lim = { s.rails[r].lim with goal := shareOf (bits w 0 16) sh, bud := s.rails[r].lim.bud, stepping := true } ∧
     t.rails[r].seq = s.rails[r].seq ∧ t.chans = s.chans ∧ t.sealed = s.sealed) ∧
  (∀ s (p : PortId) w (r : RailId) c i sh, hostUp s = true → (ownedRails s p).count r = 1 → railCfg s r = some c →
     portOf s r = some (p, i, sh) → sh ≠ 0 → s.rails[r].lim.stepping = true →
     s.rails[r].lim.bud ≤ shareOf (bits w 0 16) sh → Gives (.portBudgetWrite p w) s fun t =>
     t.rails[r].lim = { s.rails[r].lim with goal := shareOf (bits w 0 16) sh, bud := shareOf (bits w 0 16) sh, stepping := false } ∧
     t.rails[r].seq = s.rails[r].seq ∧ t.chans = s.chans ∧ t.sealed = s.sealed ∧ isArmed (.budgetStep r) t = false) ∧
  (∀ s (r : RailId) c, isDue (.budgetStep r) s = true → islandUp s = true → railCfg s r = some c → answers s = true →
     Becomes (.budgetStep r) s
     (onRail r (fun x => { x with lim := { x.lim with bud := max x.lim.goal (x.lim.bud - limStep c), stepping := decide (x.lim.goal < max x.lim.goal (x.lim.bud - limStep c)) } }) s)) ∧
  (∀ s (r : RailId) c, isDue (.throttleStep r) s = true → islandUp s = true → railCfg s r = some c →
     answers s = true → s.rails[r].lim.throttled = true → Becomes (.throttleStep r) s
     (onRail r (fun x => { x with lim := { x.lim with thr := max (throtFloor c) (x.lim.thr - limStep c) } }) s)) ∧
  (∀ s (r : RailId) c, isDue (.throttleStep r) s = true → islandUp s = true → railCfg s r = some c →
     answers s = true → s.rails[r].lim.throttled = false → Becomes (.throttleStep r) s
     (onRail r (fun x => { x with lim := { x.lim with thr := min c.cur.ilim (x.lim.thr + limStep c), rising := decide (min c.cur.ilim (x.lim.thr + limStep c) < c.cur.ilim) } }) s))

/-- RAIL_SEQ_STOP, VCMD2_STOP, VCMD1_OFF (R193, R199, R206, R220, R224, R229): a STOP of a rail in START or ON
enters the stop table at state 0, whose action begins at once, on the register page, from VCMD-2 and from VCMD-1;
where the action of state 0 is TERMINAL_OFF the rail is stopped at once, its carriers stop and every channel that is
not at its safe level is off. A stop table never holds TERMINAL_ON, and an ASSERT_PG with the under-voltage
comparator asserted trips the rail (R229), so the first form leaves both out. The refusals of these commands stand
in `StartStopTargetLimits`, `PortsVcmd` and `PortsVcmd1AndAvsbus`; the STOP of OPERATION stands in `PmbusWrites`.
Model choices: log entries 3, 8, 21. -/
def Obligations.StopCommands : Prop :=
  (∀ s (r : RailId) c w (a : SmAction), hostUp s = true → railCfg s r = some c → bits w 24 8 = 0xA5 → bits w 0 4 = 2 →
     railState s.rails[r] = 1 ∨ railState s.rails[r] = 2 → c.seq.stop[0]?.map (·.action) = some a → a ≠ .terminalOff →
     a ≠ .terminalOn → (a = .assertPg → s.rails[r].prot.uvRaw = false) → Gives (.railSeqStop r w) s fun t =>
     t.rails[r].seq.st = .stop ∧ t.rails[r].seq.table = true ∧ t.rails[r].seq.smIdx = 0 ∧
     t.rails[r].seq.acting = true ∧ t.rails[r].prot.uvArm = (a == .assertPg) ∧ t.sealed = s.sealed ∧ t.pwr = s.pwr ∧
     (∀ ch : ChanId, ch.val ∉ accordChans c → t.chans[ch] = s.chans[ch]) ∧ ∀ j : RailId, j ≠ r →
     { t.rails[j] with sil := {} } = { s.rails[j] with sil := {} }) ∧
  (∀ s (r : RailId) c w, hostUp s = true → railCfg s r = some c → bits w 24 8 = 0xA5 → bits w 0 4 = 2 →
     railState s.rails[r] = 1 ∨ railState s.rails[r] = 2 → c.seq.stop[0]?.map (·.action) = some .terminalOff →
     Gives (.railSeqStop r w) s fun t => t.rails[r].seq.st = .stopped ∧ t.rails[r].seq.sw = false ∧
     t.rails[r].seq.pgPin = false ∧ t.rails[r].seq.pgArm = false ∧ t.rails[r].prot.ovArm = false ∧
     t.rails[r].prot.uvArm = false ∧ t.sealed = s.sealed ∧ t.pwr = s.pwr ∧ (∀ ch : ChanId, ch.val ∈ accordChans c →
     t.chans[ch].nextCs = none ∧ (s.chans[ch].st ≠ .safe → t.chans[ch].out = .off)) ∧
     (∀ ch : ChanId, ch.val ∉ accordChans c → t.chans[ch] = s.chans[ch]) ∧ ∀ j : RailId, j ≠ r →
     { t.rails[j] with sil := {} } = { s.rails[j] with sil := {} }) ∧
  (∀ s (p : PortId) f (r : RailId) c (a : SmAction), portSpeaks s p .vcmd2 = true → f.getLsbD 31 = true →
     f.getLsbD 30 = false → v2crcOk f = true → v2op f = 3 → v2data f = 0 → ownedRail s p (v2rail f) = some (r, c) →
     railState s.rails[r] = 1 ∨ railState s.rails[r] = 2 → c.seq.stop[0]?.map (·.action) = some a → a ≠ .terminalOff →
     a ≠ .terminalOn → (a = .assertPg → s.rails[r].prot.uvRaw = false) → Gives (.vcmd2Stop p f) s fun t =>
     t.resp = .vcmd2 (v2resp .ok (v2seq f) 0) ∧ t.rails[r].seq.st = .stop ∧ t.rails[r].seq.table = true ∧
     t.rails[r].seq.smIdx = 0 ∧ t.rails[r].seq.acting = true ∧ t.rails[r].prot.uvArm = (a == .assertPg) ∧
     t.sealed = s.sealed ∧ t.pwr = s.pwr ∧ (∀ ch : ChanId, ch.val ∉ accordChans c → t.chans[ch] = s.chans[ch]) ∧
     ∀ i : RailId, i ≠ r → { t.rails[i] with sil := {} } = { s.rails[i] with sil := {} }) ∧
  (∀ s (p : PortId) f (r : RailId) c, portSpeaks s p .vcmd2 = true → f.getLsbD 31 = true → f.getLsbD 30 = false →
     v2crcOk f = true → v2op f = 3 → v2data f = 0 → ownedRail s p (v2rail f) = some (r, c) →
     railState s.rails[r] = 1 ∨ railState s.rails[r] = 2 → c.seq.stop[0]?.map (·.action) = some .terminalOff →
     Gives (.vcmd2Stop p f) s fun t => t.resp = .vcmd2 (v2resp .ok (v2seq f) 0) ∧ t.rails[r].seq.st = .stopped ∧
     t.rails[r].seq.sw = false ∧ t.rails[r].seq.pgPin = false ∧ t.rails[r].seq.pgArm = false ∧
     t.rails[r].prot.ovArm = false ∧ t.rails[r].prot.uvArm = false ∧ t.sealed = s.sealed ∧ t.pwr = s.pwr ∧
     (∀ ch : ChanId, ch.val ∈ accordChans c → t.chans[ch].nextCs = none ∧ (s.chans[ch].st ≠ .safe →
     t.chans[ch].out = .off)) ∧ (∀ ch : ChanId, ch.val ∉ accordChans c → t.chans[ch] = s.chans[ch]) ∧
     ∀ i : RailId, i ≠ r → { t.rails[i] with sil := {} } = { s.rails[i] with sil := {} }) ∧
  (∀ s (p : PortId) f (r : RailId) c (a : SmAction), portSpeaks s p .vcmd1 = true → f.getLsbD 15 = true →
     f.getLsbD 14 = false → v1parOk f = true → v1op f = 3 → v1data f = 0 → ownedRail s p (v1rail f) = some (r, c) →
     railState s.rails[r] = 1 ∨ railState s.rails[r] = 2 → c.seq.stop[0]?.map (·.action) = some a → a ≠ .terminalOff →
     a ≠ .terminalOn → (a = .assertPg → s.rails[r].prot.uvRaw = false) → Gives (.vcmd1Off p f) s fun t =>
     t.resp = .vcmd1 (v1resp .ok 0) ∧ t.rails[r].seq.st = .stop ∧ t.rails[r].seq.table = true ∧
     t.rails[r].seq.smIdx = 0 ∧ t.rails[r].seq.acting = true ∧ t.rails[r].prot.uvArm = (a == .assertPg) ∧
     t.sealed = s.sealed ∧ t.pwr = s.pwr ∧ (∀ ch : ChanId, ch.val ∉ accordChans c → t.chans[ch] = s.chans[ch]) ∧
     ∀ i : RailId, i ≠ r → { t.rails[i] with sil := {} } = { s.rails[i] with sil := {} }) ∧
  (∀ s (p : PortId) f (r : RailId) c, portSpeaks s p .vcmd1 = true → f.getLsbD 15 = true → f.getLsbD 14 = false →
     v1parOk f = true → v1op f = 3 → v1data f = 0 → ownedRail s p (v1rail f) = some (r, c) →
     railState s.rails[r] = 1 ∨ railState s.rails[r] = 2 → c.seq.stop[0]?.map (·.action) = some .terminalOff →
     Gives (.vcmd1Off p f) s fun t => t.resp = .vcmd1 (v1resp .ok 0) ∧ t.rails[r].seq.st = .stopped ∧
     t.rails[r].seq.sw = false ∧ t.rails[r].seq.pgPin = false ∧ t.rails[r].seq.pgArm = false ∧
     t.rails[r].prot.ovArm = false ∧ t.rails[r].prot.uvArm = false ∧ t.sealed = s.sealed ∧ t.pwr = s.pwr ∧
     (∀ ch : ChanId, ch.val ∈ accordChans c → t.chans[ch].nextCs = none ∧ (s.chans[ch].st ≠ .safe →
     t.chans[ch].out = .off)) ∧ (∀ ch : ChanId, ch.val ∉ accordChans c → t.chans[ch] = s.chans[ch]) ∧
     ∀ i : RailId, i ≠ r → { t.rails[i] with sil := {} } = { s.rails[i] with sil := {} })

/-- COEF_APPLY, BYPASS, RESTORE, RESTORE_DISCOVERY_DONE, BAL_TRIM, BAL_ROTATE, BANK_BIST_START, BIST_COMPLETE (R144,
R167, R175 to R180): a bypass leaves the available set at once on a stopped rail and waits for the master carrier
start on a running one; a busy unit refuses; a self-test puts its bank at off level and records its result. Model
choices: log entries 25, 34, 35, 57. -/
def Obligations.CoefficientsPositionsSelfTests : Prop :=
  (∀ s (r : RailId) c w, hostUp s = true → railCfg s r = some c → Becomes (.coefApply r w) s
     (onRail r (fun x => { x with coef := { x.coef with cmode := BitVec.ofNat 2 (bits w 24 2), shift := BitVec.ofNat 5 (bits w 19 5), hil := BitVec.ofNat 3 (bits w 11 3), hic := BitVec.ofNat 3 (bits w 8 3), applyDue := x.coef.applyDue || bitw w 31 } }) s)) ∧
  (∀ s (r : RailId) c (q : Fin 32), hostUp s = true → railCfg s r = some c → c.acc.bypass = true →
     s.rails[r].ph.busy = false → q.val < c.acc.nph → s.rails[r].ph.bypDue = [] → s.rails[r].ph.resDue = none →
     s.rails[r].sh.bypass.getLsbD q.val = false → c.acc.nmin + 1 ≤ navl c s.rails[r] → railState s.rails[r] = 0 →
     Gives (.bypass r q) s fun t => t.rails[r].sh.bypass = s.rails[r].sh.bypass ||| (1#32 <<< q.val) ∧
     t.rails[r].ph.result = 0 ∧ t.rails[r].ph.pos = q.val ∧ t.rails[r].sh.phRej = s.rails[r].sh.phRej ∧
     t.sealed = s.sealed ∧ ∀ ch : ChanId, ch.val ∉ accordChans c → t.chans[ch] = s.chans[ch]) ∧
  (∀ s (r : RailId) c (q : Fin 32), hostUp s = true → railCfg s r = some c → c.acc.bypass = true →
     s.rails[r].ph.busy = false → q.val < c.acc.nph → s.rails[r].ph.bypDue = [] → s.rails[r].ph.resDue = none →
     s.rails[r].sh.bypass.getLsbD q.val = false → c.acc.nmin + 1 ≤ navl c s.rails[r] → railState s.rails[r] = 2 →
     Becomes (.bypass r q) s
     (onRail r (fun x => { x with ph := { x.ph with pos := q.val, result := 0, bypDue := [q.val] } }) s)) ∧
  (∀ s (r : RailId) c (q : Fin 32), hostUp s = true → railCfg s r = some c → s.rails[r].ph.busy = true →
     Becomes (.bypass r q) s
     (onRail r (fun x => { x with ph := { x.ph with pos := q.val, result := 0x80, rejCnt := min 255 (x.ph.rejCnt + 1) }, sh := { x.sh with phRej := true } }) s)) ∧
  (∀ s (r : RailId) c (q : Fin 32), hostUp s = true → railCfg s r = some c → s.rails[r].ph.busy = false →
     q.val < c.acc.nph → s.rails[r].sh.bypass.getLsbD q.val = true →
     railState s.rails[r] = 0 ∨ railState s.rails[r] = 2 → bistFailed s c q.val = false →
     Becomes (.restore r q) s (probeBegin (if c.acc.pair then [c.acc.phase.getD q.val 0, c.acc.phase.getD q.val 0 + 1] else [c.acc.phase.getD q.val 0])
     (onRail r (fun x => { x with ph := { x.ph with busy := true, pos := q.val, resPos := some q.val } }) s))) ∧
  (∀ s (r : RailId) c (q : Fin 32) p cal, hostUp s = true → railCfg s r = some c → s.rails[r].ph.resPos = some q.val →
     s.rails[r].ph.resDue = none → c.acc.pair = false → (∀ ch : ChanId, c.acc.phase.getD q.val 0 = ch.val →
     csReady s ch = true) →
     restorePasses s c (c.acc.phase.getD q.val 0) (classOf false (measuredProbe s (c.acc.phase.getD q.val 0) p)) = false →
     Gives (.restoreDiscoveryDone r p cal) s fun t => t.rails[r].ph.busy = false ∧ t.rails[r].ph.result = 0x92 ∧
     t.hadc.mon.discDone = true ∧ t.rails[r].sh = s.rails[r].sh ∧ t.chans = s.chans ∧ t.sealed = s.sealed ∧
     ∀ j : RailId, j ≠ r → { t.rails[j] with sil := {} } = { s.rails[j] with sil := {} }) ∧
  (∀ s (r : RailId) c (q : Fin 32) p cal, hostUp s = true → railCfg s r = some c → s.rails[r].ph.resPos = some q.val →
     s.rails[r].ph.resDue = none → c.acc.pair = false → s.rails[r].ph.bypDue = [] → railState s.rails[r] = 0 →
     (∀ ch : ChanId, c.acc.phase.getD q.val 0 = ch.val → csReady s ch = true) →
     restorePasses s c (c.acc.phase.getD q.val 0) (classOf false (measuredProbe s (c.acc.phase.getD q.val 0) p)) = true →
     Gives (.restoreDiscoveryDone r p cal) s fun t => t.rails[r].ph.busy = false ∧ t.rails[r].ph.result = 0 ∧
     t.rails[r].sh.bypass = s.rails[r].sh.bypass &&& ~~~(1#32 <<< q.val) ∧ t.hadc.mon.discDone = true ∧
     t.sealed = s.sealed ∧ ∀ ch : ChanId, c.acc.phase.getD q.val 0 = ch.val →
     t.chans[ch].iofs = clampI (-32) 32 (roundDiv cal 16)) ∧
  (∀ s (r : RailId) c, hostUp s = true → railCfg s r = some c → s.rails[r].ph.busy = false →
     railState s.rails[r] = 0 → Becomes (.balTrim r) s
     (onRail r (fun x => { x with ph := { x.ph with pos := 0, result := 0 }, sh := { x.sh with rotate := false, rot := 0, rotCnt := 0, acc := List.replicate 32 0, trim := List.replicate 32 0, trimNew := none } }) s)) ∧
  (∀ s (r : RailId) c, hostUp s = true → railCfg s r = some c → s.rails[r].ph.busy = false →
     railState s.rails[r] = 0 → Becomes (.balRotate r) s
     (onRail r (fun x => { x with ph := { x.ph with pos := 0, result := 0 }, sh := { x.sh with rotate := true, rot := 0, rotCnt := 0, acc := List.replicate 32 0, trim := List.replicate 32 0, trimNew := none } }) s)) ∧
  (∀ s (b : BankId) w, hostUp s = true → bits w 24 8 = 0xA5 → bitw w 0 = true → bitw w 20 = false →
     bistLegal s b = true → Gives (.bankBistStart b w) s fun t =>
     SameCore { onBank b (fun k => { k with bistRun := true, bistDone := false, bistPass := false, failMap := 0, failItem := 0 }) s with chans := t.chans } t ∧
     ∀ ch : ChanId, t.chans[ch] = if ch.val / 8 = b.val then (if s.chans[ch].out = .safe then { s.chans[ch] with out := .off } else s.chans[ch]) else s.chans[ch]) ∧
  (∀ s (b : BankId) map item, hostUp s = true → s.banks[b].bistRun = true →
     Gives (.bistComplete b map item) s fun t =>
     t.banks[b] = { s.banks[b] with bistRun := false, bistDone := true, bistPass := map == 0 && item == 0, failMap := map, failItem := item } ∧
     t.rails.map (fun x => x.seq) = s.rails.map (fun x => x.seq) ∧ t.sealed = s.sealed ∧
     ∀ ch : ChanId, ch.val / 8 ≠ b.val → t.chans[ch] = s.chans[ch])

/-- SOUNDING_REQUEST, SOUNDING_START, SOUNDING_REPETITION, SOUNDING_END, DISC_START, DISCOVERY_DONE (R263, R264,
R266, R267, R269, R272, R327): a sounding is requested, starts, measures and ends with its cause; a discovery starts
on its banks and, once every channel it probes has been measured, ends with the class that R269 gives each (an odd
PAIR channel with that of the even one), its completed banks first where others still run (R270, R273), while a
channel it did not probe keeps its earlier class or, at READY to RUN, reads not probed, and completes the entry to
RUN that asked for it. Model choices: log entries 1, 15, 35, 57. -/
def Obligations.SoundingsAndDiscovery : Prop :=
  (∀ s (r : RailId) c w, hostUp s = true → railCfg s r = some c → bits w 24 8 = 0xA5 → bitw w 23 = true →
     railState s.rails[r] = 2 → s.rails[r].snd.pend = false → s.rails[r].snd.run = false →
     Becomes (.soundingRequest r w) s
     (onRail r (fun x => { x with snd := { x.snd with dt := w.setWidth 16, pend := true, auto := false } }) s)) ∧
  (∀ s (r : RailId) c, isDue (.soundingStart r) s = true → islandUp s = true → railCfg s r = some c →
     sndReady s r s.rails[r] = true → (∀ q : RailId, q.val < r.val → isArmed (.soundingStart q) s = false) →
     Gives (.soundingStart r) s fun t => t.rails[r].snd.run = true ∧ t.rails[r].snd.pend = false ∧
     t.rails[r].snd.n = s.rails[r].sh.nact ∧ t.rails[r].snd.rep = 0 ∧
     t.rails[r].snd.dtw = clampN 256 (min 8192 (c.md.period * 8)) s.rails[r].snd.dt.toNat ∧
     t.rails[r].coef = s.rails[r].coef ∧ t.chans = s.chans ∧ t.sealed = s.sealed ∧ ∀ j : RailId, j ≠ r →
     { t.rails[j] with sil := {} } = { s.rails[j] with sil := {} }) ∧
  (∀ s (r : RailId) c (m : Nat), isDue (.soundingRepetition r m) s = true → islandUp s = true → railCfg s r = some c →
     s.rails[r].snd.run = true → s.rails[r].snd.capStage = false → s.rails[r].snd.rep < 2 * s.rails[r].snd.n →
     Becomes (.soundingRepetition r m) s
     (onRail r (fun x => { x with snd := { x.snd with m0 := m, pos := (active c x)[x.snd.rep % max (active c x).length 1]?, i0 := none, rep := x.snd.rep + 1, plan := [(m + 1, x.snd.dtw), (m + 3, -(x.snd.dtw : Int))], nextNo := m + 16 } }) s)) ∧
  (∀ s (r : RailId) c (m : Nat), isDue (.soundingRepetition r m) s = true → islandUp s = true → railCfg s r = some c →
     s.rails[r].snd.run = true → s.rails[r].snd.capStage = true → s.rails[r].snd.rep < 16 →
     Becomes (.soundingRepetition r m) s
     (onRail r (fun x => { x with snd := { x.snd with m0 := m, pos := none, hold := true, plan := [(m, x.snd.dtw), (m + 1, -(x.snd.dtw : Int))], nextNo := m + 64 } }) s)) ∧
  (∀ s (r : RailId) c, isDue (.soundingEnd r) s = true → islandUp s = true → railCfg s r = some c →
     s.rails[r].snd.run = true → s.rails[r].snd.capStage = true → 16 ≤ s.rails[r].snd.rep →
     Gives (.soundingEnd r) s fun t => t.rails[r].snd.run = false ∧
     t.rails[r].snd.cause = sndCause c (posNow s s.rails[r]) s.rails[r] ∧ (t.rails[r].snd.cause = 0 →
     t.rails[r].snd.valid = true ∧ t.rails[r].coef.fallbk = false) ∧ (t.rails[r].snd.cause ≠ 0 →
     t.rails[r].eng.sndfb = true ∧ t.rails[r].coef.fallbk = true ∧ t.rails[r].snd.l = s.rails[r].snd.l) ∧
     t.chans = s.chans ∧ t.sealed = s.sealed ∧ ∀ j : RailId, j ≠ r →
     { t.rails[j] with sil := {} } = { s.rails[j] with sil := {} }) ∧
  (∀ s banks, hostUp s = true → banks ≠ 0#24 → s.hadc.mon.discRun = false → (∀ b : Fin 24, banks.getLsbD b = true →
     restoreIn s b = false) → Becomes (.discStart banks) s (discBegin
     { s with hadc := { s.hadc with mon := { s.hadc.mon with discRun := true, discForRun := false, discMask := banks, doneMask := 0 } } })) ∧
  (∀ s banks, hostUp s = true → banks ≠ 0#24 → s.hadc.mon.discRun = true → Becomes (.discStart banks) s
     { s with hadc := { s.hadc with mon := { s.hadc.mon with discRej := true } } }) ∧
  (∀ s probes, hostUp s = true → s.hadc.mon.discRun = true → s.hadc.mon.discForRun = false → discReady s = true →
     Gives (.discoveryDone probes) s fun t => t.hadc.mon.discRun = false ∧ t.hadc.mon.discDone = true ∧
     t.hadc.mon.doneMask = s.hadc.mon.discMask ∧ t.pwr = s.pwr ∧ t.sealed = s.sealed ∧
     ∀ b : BankId, if s.hadc.mon.discMask.getLsbD b.val && !s.hadc.mon.doneMask.getLsbD b.val then t.banks[b].lastValid = true ∧
     t.banks[b].discClass = s.banks[b].discClass else t.banks[b] = s.banks[b]) ∧
  (∀ s probes, hostUp s = true → s.hadc.mon.discRun = true → discReady s = false →
     Gives (.discoveryDone probes) s fun t =>
     t.hadc = { s.hadc with mon := { s.hadc.mon with doneMask := s.hadc.mon.doneMask ||| banksDone probes s } } ∧
     t.pwr = s.pwr ∧ t.sealed = s.sealed ∧ t.chans = s.chans ∧
     ∀ b : BankId, if (banksDone probes s).getLsbD b.val then t.banks[b].lastValid = true ∧
     t.banks[b].discClass = (if s.hadc.mon.discForRun then t.banks[b].lastClass else s.banks[b].discClass) else t.banks[b] = s.banks[b]) ∧
  (∀ s probes, hostUp s = true → s.hadc.mon.discRun = true → s.hadc.mon.discForRun = true → s.pwr.tgt = some .run →
     discReady s = true → Gives (.discoveryDone probes) s fun t => t.pwr = { s.pwr with dev := .run, tgt := none } ∧
     t.hadc.mon.discDone = true ∧ t.sealed = s.sealed ∧ ∀ b : BankId, s.hadc.mon.discMask.getLsbD b.val = true →
     s.hadc.mon.doneMask.getLsbD b.val = false → t.banks[b].discValid = true) ∧
  (∀ s probes (b : BankId) (j : Fin 8) p, hostUp s = true → s.hadc.mon.discRun = true →
     s.hadc.mon.discForRun = false → discReady s = true → s.hadc.mon.discMask.getLsbD b.val = true →
     s.hadc.mon.doneMask.getLsbD b.val = false → bankOf (pairOf s (8 * b.val + j.val)).2 = b.val →
     mayProbe s (pairOf s (8 * b.val + j.val)).2 = true → probeOf probes (pairOf s (8 * b.val + j.val)).2 = some p →
     Gives (.discoveryDone probes) s fun t => lastClassOf t.banks[b] j.val = classOf (pairOf s (8 * b.val + j.val)).1 (measuredProbe s (pairOf s (8 * b.val + j.val)).2 p)) ∧
  (∀ s probes (b : BankId) (j : Fin 8), hostUp s = true → s.hadc.mon.discRun = true → s.hadc.mon.discForRun = false →
     discReady s = true → s.hadc.mon.discMask.getLsbD b.val = true → s.hadc.mon.doneMask.getLsbD b.val = false →
     probeOf probes (pairOf s (8 * b.val + j.val)).2 = none →
     Gives (.discoveryDone probes) s fun t => lastClassOf t.banks[b] j.val = lastClassOf s.banks[b] j.val) ∧
  (∀ s probes (b : BankId) (j : Fin 8), hostUp s = true → s.hadc.mon.discRun = true → s.hadc.mon.discForRun = true →
     s.pwr.tgt = some .run → discReady s = true → s.hadc.mon.discMask.getLsbD b.val = true →
     s.hadc.mon.doneMask.getLsbD b.val = false → bankOf (pairOf s (8 * b.val + j.val)).2 = b.val →
     Gives (.discoveryDone probes) s fun t => recordedClass t (8 * b.val + j.val) = lastClassOf t.banks[b] j.val ∧
     lastClassOf t.banks[b] j.val = match probeOf probes (pairOf s (8 * b.val + j.val)).2 with | some p => classOf (pairOf s (8 * b.val + j.val)).1 (measuredProbe s (pairOf s (8 * b.val + j.val)).2 p) | none => 7)

/-- HADC_SLOT, HADC_CONVERSION_DONE, HADC_GO, HADC_AVGSET_APPLY, REFSW, REFFRZ, UNFREEZE, READMIT, MACERATION_END,
THERMAL_TICK (R247, R249, R250, R252, R255, R256, R260 to R262, R286): slots count and keep a conversion in
progress, a host result is coded by its range, the reference comparison excludes, freezes and readmits. Model
choices: log entries 7, 35. -/
def Obligations.HadcAndReferences : Prop :=
  (∀ s, hadcUp s = true → Gives .hadcSlot s fun t => SameCore { s with hadc := t.hadc } t ∧
     t.hadc.slot = s.hadc.slot + 1 ∧ t.hadc.running = true ∧ (s.hadc.conv.isSome = true → t.hadc.conv = s.hadc.conv) ∧
     (s.hadc.conv = none → ∀ u ∈ s.hadc.urgent.head?, t.hadc.conv.map (·.user) = some u.user)) ∧
  (∀ s c v, hadcUp s = true → s.hadc.conv = some c → c.user = .host false → s.hadc.urgent = [] →
     s.pwr.runWait = false → Becomes (.hadcConversionDone v) s
     { s with hadc := { s.hadc with conv := none, req := { s.hadc.req with resMark := convMark s c, resSrc := false, resChan := c.input, resCode := BitVec.ofNat 12 (twos 12 (hadcCode c.range v)) } } }) ∧
  (∀ s w, hostUp s = true → bitw w 31 = true → bits w 0 7 < 56 → inputRange (bits w 0 7) = some (bits w 22 2) →
     (∀ e ∈ hadcEntries s, e.chan ≠ bits w 0 7) → s.hadc.req.pendHost = false → Becomes (.hadcGo w) s
     { s with hadc := { s.hadc with req := { s.hadc.req with pendHost := true, ovr := s.hadc.req.ovr && !bitw w 30, reqRej := s.hadc.req.reqRej && !bitw w 29, lowz := bitw w 24, range := BitVec.ofNat 2 (bits w 22 2), tsel := BitVec.ofNat 5 (bits w 8 5), trigTmr := bitw w 7, chan := BitVec.ofNat 7 (bits w 0 7) } } }) ∧
  (∀ s w, hostUp s = true → bitw w 31 = true → bits w 8 7 < (hadcEntries s).length → Becomes (.hadcAvgsetApply w) s
     { s with hadc := { s.hadc with avgEntry := BitVec.ofNat 7 (bits w 8 7), avgCode := BitVec.ofNat 3 (bits w 0 3), res := modAt s.hadc.res (bits w 8 7) fun x => if x.avg = min (bits w 0 3) 6 then x else resAgain (cycle s) (min (bits w 0 3) 6) x } }) ∧
  (∀ s, isDue .refsw s = true → Gives .refsw s fun t => t.hadc.mon.excl = s.hadc.mon.odd ∧ t.hadc.mon.refSw = true ∧
     t.hadc.mon.odd = 0 ∧
     t.hadc.mon.active = (if s.hadc.mon.odd = s.hadc.mon.active then ~~~s.hadc.mon.active else s.hadc.mon.active) ∧
     t.hadc.req = s.hadc.req ∧ t.chans = s.chans ∧ t.sealed = s.sealed) ∧
  (∀ s, isDue .reffrz s = true → Becomes .reffrz s
     { s with hadc := { s.hadc with mon := { s.hadc.mon with freeze := true, refFrz := true } } }) ∧
  (∀ s w, hostUp s = true → bitw w 31 = true → bitw w 30 = false → s.hadc.mon.freeze = true →
     s.hadc.mon.lastOk = true → Gives (.unfreeze w) s fun t =>
     t.hadc = { s.hadc with mon := { s.hadc.mon with freeze := false } } ∧ t.chans = s.chans ∧ t.sealed = s.sealed ∧
     t.pwr = s.pwr) ∧
  (∀ s w, hostUp s = true → bitw w 31 = true → bitw w 30 = false → s.hadc.mon.freeze = true →
     s.hadc.mon.lastOk = false → Becomes (.unfreeze w) s s) ∧
  (∀ s w, hostUp s = true → bitw w 30 = true → bitw w 31 = false → s.hadc.mon.excl = 1 →
     s.hadc.mon.lastRound.getD 0 false = false → s.hadc.mon.lastRound.getD 1 false = false →
     Gives (.readmit w) s fun t =>
     t.hadc = { s.hadc with mon := { s.hadc.mon with excl := 0, since := none, odd := 0, nopair := false, twoWay := false } } ∧
     t.chans = s.chans ∧ t.sealed = s.sealed ∧ t.pwr = s.pwr) ∧
  (∀ s (r : RailId), isDue (.macerationEnd (some r)) s = true → Becomes (.macerationEnd (some r)) s
     { s with hadc := { s.hadc with mon := { s.hadc.mon with macRail := s.hadc.mon.macRail &&& ~~~(1#24 <<< r.val) } } }) ∧
  (∀ s, isDue (.macerationEnd none) s = true → s.nvl.testDue = false → Becomes (.macerationEnd none) s
     { s with hadc := { s.hadc with mon := { s.hadc.mon with macDev := false } } }) ∧
  (∀ s tb, isDue .thermalTick s = true → tbandCfg s = some tb → s.hadc.mon.macDev = false →
     Gives .thermalTick s fun t => t.thm.sens = s.thm.sens.mapIdx (fun i k => sensorTick (tb.ror.getD i 0) k) ∧
     isArmed .thermalTick t = true ∧ t.thm.tj = s.thm.tj ∧ t.thm.band = s.thm.band ∧ t.chans = s.chans ∧
     t.sealed = s.sealed)

/-- HADC_CONVERSION_DONE for a schedule entry (R252, R253, R254, R255, R258, R259, R260, R261, R273, R278, R279,
R280, R283, R291): an unmarked result enters the entry's filter, whose result carries FILLING until it is full; a
result inside a Maceration window marks it MACER, one marked SETTLING or RANGESET changes nothing; two results in a
row outside a supply's window report it, two inside clear it; a round of the reference comparison names its odd
source, or none; a temperature gives its sensor's reading, Tj and the band; the second result of an on-die sensor at
150 °C takes the fatal fault. Model choices: log entries 7, 11, 35. -/
def Obligations.HadcScheduledResults : Prop :=
  (∀ s c v i e x w, Delivers s c i e x .none → w = filtered x (hadcCode c.range v) →
     Gives (.hadcConversionDone v) s fun t =>
     t.hadc.res = s.hadc.res.set i { x with win := w, full := x.full || decide (w.length = 2 ^ x.avg), mean := roundDiv (16 * w.sum) w.length, mark := if x.chgAt = some (cycle s) then .filling else if x.full = true ∨ w.length = 2 ^ x.avg then .none else .filling, last := some (cycle s, hadcCode c.range v) } ∧
     t.sealed = s.sealed ∧ t.flash = s.flash) ∧
  (∀ s c v i e x, Delivers s c i e x .macer → s.hadc.urgent = [] → s.pwr.runWait = false →
     Gives (.hadcConversionDone v) s fun t =>
     t.hadc.res = s.hadc.res.set i { x with mark := if x.full then .macer else .filling } ∧ t.hadc.conv = none ∧
     (88 ≤ e.chan ∧ e.chan ≤ 90 → t.hadc.mon.since = none ∧ t.hadc.mon.odd = 0 ∧ t.hadc.mon.nopair = false) ∧
     { t.hadc.mon with since := none, odd := 0, nopair := false } = { s.hadc.mon with since := none, odd := 0, nopair := false } ∧
     t.thm = s.thm ∧ t.sealed = s.sealed ∧ t.chans = s.chans ∧ t.flash = s.flash) ∧
  (∀ s c v i, hadcUp s = true → s.hadc.conv = some c → c.user = .entry i →
     convMark s c = .settling ∨ convMark s c = .rangeset → s.hadc.urgent = [] → s.pwr.runWait = false →
     Becomes (.hadcConversionDone v) s { s with hadc := { s.hadc with conv := none } }) ∧
  (∀ s c v i e x (k : Nat) (sc lo hi u : Int), Delivers s c i e x .none → e.chan = 80 + k →
     u = hadcCode c.range v * 1200000 * sc →
     (k, sc, lo, hi) ∈ [(0, 1, 760000, 840000), (1, 2, 1710000, 1890000), (6, 4, 1700000, 3700000)] ∨ (2 ≤ k ∧ k < 6 ∧
     sc = 4 ∧
     (lo, hi) = if (s.hadc.mon.ioHigh.getD (k - 2) none).getD (decide (2500000 * 4096 ≤ u)) then (2970000, 3630000) else (1620000, 1980000)) →
     u < lo * 4096 ∨ hi * 4096 < u → s.hadc.mon.supOut.getD k 0 = 1 → Gives (.hadcConversionDone v) s fun t =>
     t.hadc.mon.supLive = s.hadc.mon.supLive ||| (1#8 <<< k) ∧
     t.hadc.mon.supWarn = (s.hadc.mon.supWarn || !s.hadc.mon.supLive.getLsbD k) ∧ t.sealed = s.sealed ∧
     t.chans = s.chans ∧ t.flash = s.flash) ∧
  (∀ s c v i e x (k : Nat) (sc lo hi u : Int), Delivers s c i e x .none → e.chan = 80 + k →
     u = hadcCode c.range v * 1200000 * sc →
     (k, sc, lo, hi) ∈ [(0, 1, 760000, 840000), (1, 2, 1710000, 1890000), (6, 4, 1700000, 3700000)] ∨ (2 ≤ k ∧ k < 6 ∧
     sc = 4 ∧
     (lo, hi) = if (s.hadc.mon.ioHigh.getD (k - 2) none).getD (decide (2500000 * 4096 ≤ u)) then (2970000, 3630000) else (1620000, 1980000)) →
     u < lo * 4096 ∨ hi * 4096 < u → s.hadc.mon.supOut.getD k 0 = 0 → s.hadc.mon.supOut.length = 8 →
     Gives (.hadcConversionDone v) s fun t => t.hadc.mon.supOut = s.hadc.mon.supOut.set k 1 ∧
     t.hadc.mon.supLive = s.hadc.mon.supLive ∧ t.hadc.mon.supWarn = s.hadc.mon.supWarn ∧ t.sealed = s.sealed ∧
     t.chans = s.chans ∧ t.flash = s.flash) ∧
  (∀ s c v i e x (k : Nat) (sc lo hi u : Int), Delivers s c i e x .none → e.chan = 80 + k →
     u = hadcCode c.range v * 1200000 * sc →
     (k, sc, lo, hi) ∈ [(0, 1, 760000, 840000), (1, 2, 1710000, 1890000), (6, 4, 1700000, 3700000)] ∨ (2 ≤ k ∧ k < 6 ∧
     sc = 4 ∧
     (lo, hi) = if (s.hadc.mon.ioHigh.getD (k - 2) none).getD (decide (2500000 * 4096 ≤ u)) then (2970000, 3630000) else (1620000, 1980000)) →
     lo * 4096 ≤ u → u ≤ hi * 4096 → s.hadc.mon.supIn.getD k 0 = 1 → Gives (.hadcConversionDone v) s fun t =>
     t.hadc.mon.supLive = s.hadc.mon.supLive &&& ~~~(1#8 <<< k) ∧ t.hadc.mon.supWarn = s.hadc.mon.supWarn ∧
     t.sealed = s.sealed ∧ t.chans = s.chans ∧ t.flash = s.flash) ∧
  (∀ s c v i e x (k : Nat) (sc lo hi u : Int), Delivers s c i e x .none → e.chan = 80 + k →
     u = hadcCode c.range v * 1200000 * sc →
     (k, sc, lo, hi) ∈ [(0, 1, 760000, 840000), (1, 2, 1710000, 1890000), (6, 4, 1700000, 3700000)] ∨ (2 ≤ k ∧ k < 6 ∧
     sc = 4 ∧
     (lo, hi) = if (s.hadc.mon.ioHigh.getD (k - 2) none).getD (decide (2500000 * 4096 ≤ u)) then (2970000, 3630000) else (1620000, 1980000)) →
     lo * 4096 ≤ u → u ≤ hi * 4096 → s.hadc.mon.supIn.getD k 0 = 0 → s.hadc.mon.supIn.length = 8 →
     Gives (.hadcConversionDone v) s fun t => t.hadc.mon.supIn = s.hadc.mon.supIn.set k 1 ∧
     t.hadc.mon.supOut = s.hadc.mon.supOut.set k 0 ∧ t.hadc.mon.supLive = s.hadc.mon.supLive ∧
     t.hadc.mon.supWarn = s.hadc.mon.supWarn ∧ t.sealed = s.sealed ∧ t.chans = s.chans ∧ t.flash = s.flash) ∧
  (∀ s c v i e x (k : Nat) (ab ax bx : Bool), Delivers s c i e x .none → e.chan = 88 + k → k < 3 → xpres s = true →
     s.hadc.mon.excl = 0 → s.hadc.mon.twoWay = false →
     modAt s.hadc.mon.round k (fun _ => some (decide (3600 * 4096 < hadcCode c.range v * 300000) || decide (3600 * 4096 < -hadcCode c.range v * 300000))) = [some ab, some ax, some bx] →
     (ab, ax, bx) ∈ [(false, false, false), (true, false, false), (false, true, false), (false, false, true)] →
     Gives (.hadcConversionDone v) s fun t => t.hadc.mon.lastRound = [ab, ax, bx] ∧ t.hadc.mon.lastOk = true ∧
     t.hadc.mon.since = none ∧ t.hadc.mon.odd = 0 ∧ t.hadc.mon.nopair = false ∧
     t.hadc.mon.round = [none, none, none] ∧ t.hadc.mon.excl = 0 ∧ t.sealed = s.sealed ∧ t.chans = s.chans ∧
     t.flash = s.flash) ∧
  (∀ s c v i e x (k : Nat) (ab ax bx : Bool) (o : BitVec 2) (a : Nat), Delivers s c i e x .none → e.chan = 88 + k →
     k < 3 → xpres s = true → s.hadc.mon.excl = 0 → s.hadc.mon.twoWay = false →
     modAt s.hadc.mon.round k (fun _ => some (decide (3600 * 4096 < hadcCode c.range v * 300000) || decide (3600 * 4096 < -hadcCode c.range v * 300000))) = [some ab, some ax, some bx] →
     (o, ab, ax, bx) ∈ [(1, true, true, false), (2, true, false, true), (3, false, true, true)] →
     a = (if s.hadc.mon.odd = o then s.hadc.mon.since.getD s.now else s.now) →
     Gives (.hadcConversionDone v) s fun t => t.hadc.mon.lastRound = [ab, ax, bx] ∧ t.hadc.mon.lastOk = false ∧
     t.hadc.mon.odd = o ∧ t.hadc.mon.since = some a ∧ t.hadc.mon.round = [none, none, none] ∧
     (10000 * usTicks < s.now - a → isArmed .refsw t = true) ∧ (s.now - a ≤ 10000 * usTicks →
     isArmed .refsw t = isArmed .refsw s) ∧ t.hadc.mon.excl = 0 ∧ t.sealed = s.sealed ∧ t.chans = s.chans ∧
     t.flash = s.flash) ∧
  (∀ s c v i e x (k : Nat) (ab ax bx : Bool) (a : Nat), Delivers s c i e x .none → e.chan = 88 + k → k < 3 →
     xpres s = true → s.hadc.mon.excl = 0 → s.hadc.mon.twoWay = false →
     modAt s.hadc.mon.round k (fun _ => some (decide (3600 * 4096 < hadcCode c.range v * 300000) || decide (3600 * 4096 < -hadcCode c.range v * 300000))) = [some ab, some ax, some bx] →
     (ab && ax && bx) = true → a = (if s.hadc.mon.nopair then s.hadc.mon.since.getD s.now else s.now) →
     Gives (.hadcConversionDone v) s fun t => t.hadc.mon.lastOk = false ∧ t.hadc.mon.odd = 0 ∧
     t.hadc.mon.twoWay = decide (10000 * usTicks < s.now - a) ∧
     t.hadc.mon.nopair = decide (s.now - a ≤ 10000 * usTicks) ∧
     t.hadc.mon.since = some (if 10000 * usTicks < s.now - a then s.now else a) ∧
     isArmed .refsw t = isArmed .refsw s ∧ t.hadc.mon.excl = 0 ∧ t.sealed = s.sealed ∧ t.chans = s.chans ∧
     t.flash = s.flash) ∧
  (∀ s c v i e x (k : Nat) (bad : Bool), Delivers s c i e x .none → e.chan = 88 + k → isTwoWay s = true →
     (s.hadc.mon.excl, k) ∈ [(0, 0), (1, 2), (2, 1), (3, 0)] → s.hadc.mon.round.length = 3 → (∀ j : Fin 3, j.val ≠ k →
     (∃ q ∈ hadcEntries s, q.chan = 88 + j.val) → (s.hadc.mon.round.getD j.val none).isSome = true) →
     bad = (decide (3600 * 4096 < hadcCode c.range v * 300000) || decide (3600 * 4096 < -hadcCode c.range v * 300000)) →
     Gives (.hadcConversionDone v) s fun t => t.hadc.mon.lastOk = !bad ∧
     t.hadc.mon.since = (if bad then some (s.hadc.mon.since.getD s.now) else none) ∧ t.hadc.mon.odd = 0 ∧
     t.hadc.mon.round = [none, none, none] ∧ (bad = true → 10000 * usTicks < s.now - s.hadc.mon.since.getD s.now →
     s.hadc.mon.freeze = false → isArmed .reffrz t = true) ∧ (bad = false → isArmed .reffrz t = isArmed .reffrz s) ∧
     t.hadc.mon.excl = s.hadc.mon.excl ∧ t.sealed = s.sealed ∧ t.chans = s.chans ∧ t.flash = s.flash) ∧
  (∀ s c v i e x n m tb, Delivers s c i e x .none → e.chan = 24 + n → Averaged s x (hadcCode c.range v) →
     m = roundDiv (16 * (filtered x (hadcCode c.range v)).sum) (filtered x (hadcCode c.range v)).length →
     tbandCfg s = some tb → s.thm.sens.length = 32 → n < 8 → -440 * 3072 ≤ 3 * (75 * m - 2400 * 1024) →
     3 * (75 * m - 2400 * 1024) ≤ 1400 * 3072 → Gives (.hadcConversionDone v) s fun t =>
     (t.thm.sens.getD n {}).valid = true ∧ (t.thm.sens.getD n {}).temp = 3 * (75 * m - 2400 * 1024) / 3072 ∧
     t.thm.tjValid = true ∧ (t.thm.jsrc < 8 ∧ (t.thm.sens.getD t.thm.jsrc {}).valid = true ∧
     t.thm.tj = (t.thm.sens.getD t.thm.jsrc {}).temp) ∧ (∀ j : Fin 8, (t.thm.sens.getD j.val {}).valid = true →
     (t.thm.sens.getD j.val {}).temp ≤ t.thm.tj) ∧
     t.thm.band = (if s.thm.band < (tb.edges.filter fun g => g ≤ t.thm.tj).length then (tb.edges.filter fun g => g ≤ t.thm.tj).length else if (tb.edges.filter fun g => g - tb.hyst ≤ t.thm.tj).length < s.thm.band then (tb.edges.filter fun g => g - tb.hyst ≤ t.thm.tj).length else s.thm.band) ∧
     t.thm.bandSel = true ∧ t.thm.bandChg = (s.thm.bandChg || decide (t.thm.band ≠ s.thm.band)) ∧
     (∀ j : Fin 32, j.val ≠ n → t.thm.sens[j.val]? = s.thm.sens[j.val]?) ∧ t.sealed = s.sealed ∧ t.flash = s.flash) ∧
  (∀ s c v i e x n m tb, Delivers s c i e x .none → e.chan = 24 + n → Averaged s x (hadcCode c.range v) →
     m = roundDiv (16 * (filtered x (hadcCode c.range v)).sum) (filtered x (hadcCode c.range v)).length →
     tbandCfg s = some tb → s.thm.sens.length = 32 → n < 8 →
     3 * (75 * m - 2400 * 1024) < -440 * 3072 ∨ 1400 * 3072 < 3 * (75 * m - 2400 * 1024) →
     Gives (.hadcConversionDone v) s fun t => (t.thm.sens.getD n {}).valid = false ∧
     (t.thm.sens.getD n {}).shutCnt = 0 ∧ t.thm.sensFlt = true ∧ ((∀ j : Fin 8, j.val ≠ n →
     (s.thm.sens.getD j.val {}).valid = false) → t.thm.tjValid = false ∧ t.thm.tj = s.thm.tj ∧
     t.thm.band = s.thm.band) ∧ t.thm.tshut = s.thm.tshut ∧ t.glb.latched = s.glb.latched ∧ t.sealed = s.sealed ∧
     t.flash = s.flash) ∧
  (∀ s c v i e x n m tb, Delivers s c i e x .none → e.chan = n → Averaged s x (hadcCode c.range v) →
     m = roundDiv (16 * (filtered x (hadcCode c.range v)).sum) (filtered x (hadcCode c.range v)).length →
     tbandCfg s = some tb → s.thm.sens.length = 32 → n < 24 → Gives (.hadcConversionDone v) s fun t =>
     (t.thm.sens.getD (8 + n) {}).valid = decide (131072 ≤ 48 * m ∧ 48 * m < 1015808) ∧ (131072 ≤ 48 * m →
     48 * m < 1015808 → (t.thm.sens.getD (8 + n) {}).temp = 4 * (75 * m - 512000) / 3072 ∧
     t.thm.sensFlt = s.thm.sensFlt) ∧ (48 * m < 131072 ∨ 1015808 ≤ 48 * m → t.thm.sensFlt = true) ∧
     t.thm.tj = s.thm.tj ∧ t.thm.band = s.thm.band ∧ t.thm.tshut = s.thm.tshut ∧ t.glb.latched = s.glb.latched ∧
     t.sealed = s.sealed ∧ t.flash = s.flash) ∧
  (∀ s c v i e x n m tb, Delivers s c i e x .none → e.chan = 24 + n → Averaged s x (hadcCode c.range v) →
     m = roundDiv (16 * (filtered x (hadcCode c.range v)).sum) (filtered x (hadcCode c.range v)).length →
     tbandCfg s = some tb → s.thm.sens.length = 32 → n < 8 → 1200 * 3072 ≤ 3 * (75 * m - 2400 * 1024) →
     3 * (75 * m - 2400 * 1024) ≤ 1400 * 3072 → (s.thm.sens.getD n {}).shutCnt = 1 → fatalArmed s = true →
     s.glb.latched = false → s.glb.clrAt ≠ some (cycle s) → Gives (.hadcConversionDone v) s fun t =>
     t.thm.tshut = true ∧ t.glb.latched = true ∧ t.glb.cause = 7 ∧ t.pwr.dev = .safe ∧ t.sealed = s.sealed ∧
     t.flash = s.flash)

/-- FLT_READBACK_MISMATCH, RAIL_SIL_FREEZE, REARM, RAIL_SIL_DLO_READ, RAIL_SIL_DHI_READ (R308, R310, R312): a ball
that reads back the other level sets FLTWIRE with the ball and the level; a host freeze stops the buffer with EVENT
0x1FF, REARM where no freeze cause came in the same core cycle empties it, and where one came, before it or behind
it, the freeze wins with the new EVENT and the previous contents (R314), a readout gives the two halves of the entry
at INDEX and advances. Model choices: log entries 3, 8, 39. -/
def Obligations.FaultPairAndSillage : Prop :=
  (∀ s ballN lvl, islandUp s = true → lvl ≠ (if ballN then pairN s else pairP s) →
     Becomes (.fltReadbackMismatch ballN lvl) s
     { s with glb := { s.glb with fltWire := true, wBall := ballN, wLvl := lvl, ballP := if ballN then s.glb.ballP else some lvl, ballN := if ballN then some lvl else s.glb.ballN } }) ∧
  (∀ s (r : RailId) c w, hostUp s = true → railCfg s r = some c → bitw w 30 = true → bitw w 29 = false →
     bitw w 28 = false → s.rails[r].sil.frozen = false → s.rails[r].sil.causeAt ≠ some (cycle s) →
     s.rails[r].sil.rearmed.all (fun p => p.1 != cycle s) = true → Gives (.railSilFreeze r w) s fun t =>
     SameCore s t ∧ t.glb.silFrz = true ∧
     t.rails[r].sil = { s.rails[r].sil with frozen := true, event := 0x1FF#9, causeAt := some (cycle s), causeEv := 0x1FF#9 }) ∧
  (∀ s (r : RailId) c w l i, hostUp s = true → railCfg s r = some c → bitw w 30 = true → bitw w 29 = false →
     bitw w 28 = false → s.rails[r].sil.frozen = false → s.rails[r].sil.causeAt ≠ some (cycle s) →
     s.rails[r].sil.rearmed = some (cycle s, l, i) → Gives (.railSilFreeze r w) s fun t => SameCore s t ∧
     t.glb.silFrz = true ∧ t.rails[r].sil.frozen = true ∧ t.rails[r].sil.event = 0x1FF#9 ∧
     t.rails[r].sil.entries = l ∧ t.rails[r].sil.index = i) ∧
  (∀ s (r : RailId) c w, hostUp s = true → railCfg s r = some c → bitw w 30 = false → bitw w 29 = true →
     bitw w 28 = false → s.rails[r].sil.causeAt = some (cycle s) → Gives (.rearm r w) s fun t => SameCore s t ∧
     t.glb.silFrz = true ∧ t.rails[r].sil = { s.rails[r].sil with frozen := true, event := s.rails[r].sil.causeEv }) ∧
  (∀ s (r : RailId) c w, hostUp s = true → railCfg s r = some c → bitw w 30 = false → bitw w 29 = true →
     s.rails[r].sil.causeAt ≠ some (cycle s) → Gives (.rearm r w) s fun t => SameCore s t ∧
     t.rails[r].sil.frozen = false ∧ t.rails[r].sil.entries = [] ∧ t.rails[r].sil.index = 0) ∧
  (∀ s (r : RailId) c, hostUp s = true → railCfg s r = some c → s.rails[r].sil.frozen = true →
     s.rails[r].sil.index.toNat < s.rails[r].sil.entries.length → Becomes (.railSilDloRead r) s
     { s with resp := .word ((s.rails[r].sil.entries.getD s.rails[r].sil.index.toNat 0).setWidth 32) }) ∧
  (∀ s (r : RailId) c, hostUp s = true → railCfg s r = some c → s.rails[r].sil.frozen = true →
     s.rails[r].sil.index.toNat < s.rails[r].sil.entries.length → s.rails[r].sil.entries.length ≤ 4096 →
     Gives (.railSilDhiRead r) s fun t => SameCore
     { s with resp := .word ((s.rails[r].sil.entries.getD s.rails[r].sil.index.toNat 0 >>> 32).setWidth 32) } t ∧
     t.rails[r].sil.entries = s.rails[r].sil.entries ∧
     t.rails[r].sil.index.toNat = (s.rails[r].sil.index.toNat + 1) % s.rails[r].sil.entries.length)

/-- BOOT_LOAD, LOAD_AUTO, LOAD_A, LOAD_B, LOAD_HOST, IMG_DATA_WRITE, LOAD_DONE, ABORT (R51, R56, R78 to R81, R86,
R89, R456): a full load begins when it is legal, takes its stream, and seals the image whose checks pass; a slot or
boot load seals a committed slot, the one of the greater GEN first, falls back to the other and says so, and ends
with the last failure when no slot passes (R51); a flash that does not answer fails with 0x88; ABORT ends an
operation with 0x89. Model choices: log entries 11, 30, 31. -/
def Obligations.FullLoads : Prop :=
  (∀ s, isDue .bootLoad s = true → s.img.bootDue = true → s.img.phase = .idle → hostUp s = true → Becomes .bootLoad s
     { s with img := { s.img with bootDue := false, op := .boot, phase := .reading, winStop := false }, sealed := { s.sealed with loadPend := true } }) ∧
  (∀ s, hostUp s = true → s.img.phase = .idle → fullLegal s = true → Becomes .loadAuto s
     { s with img := { s.img with op := .auto, phase := .reading, winStop := false }, sealed := { s.sealed with loadPend := true } }) ∧
  (∀ s, hostUp s = true → s.img.phase = .idle → fullLegal s = true → Becomes .loadA s
     { s with img := { s.img with op := .slotA, phase := .reading, winStop := false }, sealed := { s.sealed with loadPend := true } }) ∧
  (∀ s, hostUp s = true → s.img.phase = .idle → fullLegal s = true → Becomes .loadB s
     { s with img := { s.img with op := .slotB, phase := .reading, winStop := false }, sealed := { s.sealed with loadPend := true } }) ∧
  (∀ s, hostUp s = true → s.img.phase = .idle → fullLegal s = true → Becomes .loadHost s
     { s with img := { s.img with op := .host, phase := .reading, winStop := false, isOpen := true, need := none, buf := [], count := 0 } }) ∧
  (∀ s, hostUp s = true → s.img.phase = .idle → fullLegal s = false → Becomes .loadHost s
     { s with img := { s.img with cmdErr := true, rejCnt := min 255 (s.img.rejCnt + 1), errCode := 0x80, errType := 0, errInst := 0, claimA := 0, claimB := 0, errRes := 0 } }) ∧
  (∀ s w, hostUp s = true → s.img.isOpen = true → s.img.op = .host → s.img.need = none → s.img.count + 4 ≠ 64 →
     Becomes (.imgDataWrite w) s
     { s with img := { s.img with buf := s.img.buf ++ leBytes w, count := s.img.count + 4 } }) ∧
  (∀ s w n, hostUp s = true → s.img.isOpen = true → s.img.op = .host → s.img.need = some n → s.img.count + 4 ≠ 64 →
     n ≤ s.img.count + 4 → Becomes (.imgDataWrite w) s
     { s with img := { s.img with buf := s.img.buf ++ leBytes w, count := s.img.count + 4, isOpen := false, phase := .checking } }) ∧
  (∀ s w, hostUp s = true → s.img.isOpen = false → Becomes (.imgDataWrite w) s
     { s with img := { s.img with cmdErr := true } }) ∧
  (∀ s f im, hostUp s = true → s.img.op = .host → s.img.phase = .checking → fullLegal s = true →
     checkImage s.otp none s.img.buf = .ok im → Gives (.loadDone f) s fun t =>
     t.sealed = { img := some im, auth := im.auth, source := 3, loadPend := false, patched := 0 } ∧
     t.img.phase = .idle ∧ t.img.op = .none ∧ t.img.errCode = 0 ∧ t.flash = s.flash ∧ t.otp = s.otp ∧
     t.pwr.dev = s.pwr.dev) ∧
  (∀ s f b im, hostUp s = true → s.img.op = (if b then .slotB else .slotA) → slotCommitted s b = true → f ≠ 0x00#8 →
     f ≠ 0xFF#8 → fullLegal s = true → slotImage s b = .ok im → Gives (.loadDone f) s fun t =>
     t.sealed = { img := some im, auth := im.auth, source := if b then 2 else 1, loadPend := false, patched := 0 } ∧
     t.img.phase = .idle ∧ t.img.op = .none ∧ t.img.errCode = 0 ∧ t.img.fallback = s.img.fallback ∧
     t.img.loadErr = s.img.loadErr ∧ t.flash = s.flash ∧ t.otp = s.otp ∧ t.pwr.dev = s.pwr.dev) ∧
  (∀ s f b l im, hostUp s = true → s.img.op = .boot ∨ s.img.op = .auto → slotOrder s = b :: l → f ≠ 0x00#8 →
     f ≠ 0xFF#8 → fullLegal s = true → slotImage s b = .ok im → Gives (.loadDone f) s fun t =>
     t.sealed = { img := some im, auth := im.auth, source := if b then 2 else 1, loadPend := false, patched := 0 } ∧
     t.img.phase = .idle ∧ t.img.op = .none ∧ t.img.errCode = 0 ∧ t.img.fallback = s.img.fallback ∧
     t.img.loadErr = s.img.loadErr ∧ t.flash = s.flash ∧ t.otp = s.otp ∧ t.pwr.dev = s.pwr.dev) ∧
  (∀ s f b b2 e im, hostUp s = true → s.img.op = .boot ∨ s.img.op = .auto → slotOrder s = [b, b2] → f ≠ 0x00#8 →
     f ≠ 0xFF#8 → fullLegal s = true → slotImage s b = .error e → slotImage s b2 = .ok im →
     Gives (.loadDone f) s fun t =>
     t.sealed = { img := some im, auth := im.auth, source := if b2 then 2 else 1, loadPend := false, patched := 0 } ∧
     t.img.phase = .idle ∧ t.img.op = .none ∧ t.img.errCode = 0 ∧ t.img.fallback = true ∧
     t.img.loadErr = s.img.loadErr ∧ t.flash = s.flash ∧ t.otp = s.otp ∧ t.pwr.dev = s.pwr.dev) ∧
  (∀ s f b l e, hostUp s = true → s.img.op = .boot ∨ s.img.op = .auto → slotOrder s = l ++ [b] → f ≠ 0x00#8 →
     f ≠ 0xFF#8 → fullLegal s = true → (∀ x ∈ l, ∃ e', slotImage s x = .error e') → slotImage s b = .error e →
     Gives (.loadDone f) s fun t => t.sealed = { s.sealed with loadPend := false } ∧ t.img.phase = .idle ∧
     t.img.loadErr = true ∧ t.img.errCode = BitVec.ofNat 8 e.code ∧ t.img.fallback = s.img.fallback ∧
     t.flash = s.flash ∧ t.otp = s.otp ∧ t.irqEn = s.irqEn) ∧
  (∀ s f, hostUp s = true → s.img.op = .boot ∨ s.img.op = .auto → slotOrder s = [] → f ≠ 0x00#8 → f ≠ 0xFF#8 →
     fullLegal s = true → Gives (.loadDone f) s fun t => t.sealed = { s.sealed with loadPend := false } ∧
     t.img.phase = .idle ∧ t.img.loadErr = s.img.loadErr ∧ t.img.errCode = s.img.errCode ∧ t.flash = s.flash ∧
     t.otp = s.otp) ∧
  (∀ s f b, hostUp s = true → s.img.op = (if b then .slotB else .slotA) → slotCommitted s b = false → f ≠ 0x00#8 →
     f ≠ 0xFF#8 → Gives (.loadDone f) s fun t => t.sealed = { s.sealed with loadPend := false } ∧
     t.img.phase = .idle ∧ t.img.loadErr = true ∧ t.img.errCode = 0x0F ∧ t.flash = s.flash ∧ t.otp = s.otp) ∧
  (∀ s, hostUp s = true → s.img.op = .boot → Gives (.loadDone 0xFF#8) s fun t =>
     t.sealed = { s.sealed with loadPend := false } ∧ t.img.phase = .idle ∧ t.img.loadErr = true ∧
     t.img.errCode = 0x88 ∧ t.flash = s.flash ∧ t.otp = s.otp) ∧
  (∀ s, hostUp s = true → s.img.phase ≠ .idle → Gives .abort s fun t => t.img.phase = .idle ∧ t.img.op = .none ∧
     (if patchOp s.img.op then t.img.ready = none else t.img.ready = s.img.ready ∧ t.img.stag = s.img.stag) ∧
     t.img.loadErr = true ∧ t.img.errCode = 0x89 ∧ t.sealed = { s.sealed with loadPend := false } ∧
     t.flash = s.flash ∧ t.otp = s.otp ∧ t.chans = s.chans) ∧
  (∀ s, hostUp s = true → s.img.phase = .idle → Becomes .abort s s)

/-- SLOT_CHECK, SLOT_CHECK_DONE, SLOT_ERASE, SLOT_ERASE_DONE, SLOT_WRITE, SLOT_COMMIT, SLOT_COMMIT_DONE,
FLASH_WRITE_STOPPED, with IMG_DATA_WRITE into a slot (R50, R82, R85, R89, R281): a slot is erased, written, checked
and committed in that order; the slot of the sealed image and a closed window refuse; `b` is false for slot A and
true for slot B. Model choices: log entries 4, 13, 30; the refusals 0x85, 0x86 and 0x87 set LOADERR and IMG_ERR
alone, and an erase begins with the sector of the trailer, which is deduced from R85 (log entry 50). -/
def Obligations.FlaconSlots : Prop :=
  (∀ s (b : Bool), hostUp s = true → s.img.phase = .idle → Becomes (.slotCheck (if b then 1 else 0)) s
     { s with img := { s.img with op := .check b, phase := .checkingSlot, winStop := false } }) ∧
  (∀ s (k : BitVec 2), hostUp s = true → 2 ≤ k.toNat → Becomes (.slotCheck k) s
     { s with img := { s.img with cmdErr := true } }) ∧
  (∀ s f b im, hostUp s = true → s.img.op = .check b → f ≠ 0x00#8 → f ≠ 0xFF#8 → slotImage s b = .ok im →
     Gives (.slotCheckDone f) s fun t => t.img.checkedA = (s.img.checkedA || !b) ∧
     t.img.checkedB = (s.img.checkedB || b) ∧ t.img.phase = .idle ∧ t.img.errCode = 0 ∧
     t.sealed = { s.sealed with loadPend := false } ∧ t.flash = s.flash ∧ t.otp = s.otp ∧ t.chans = s.chans ∧
     t.pwr = s.pwr) ∧
  (∀ s (b : Bool), hostUp s = true → s.img.phase = .idle → sourceSlot s b = false → winOpen s = true →
     Becomes (.slotErase (if b then 1 else 0)) s
     { s with img := { s.img with op := .erase b, phase := .erasing, winStop := false, erasedA := s.img.erasedA && b, erasedB := s.img.erasedB && !b }, flash := flashErase s.flash (flaconBase b + 0x7F000) 4096 }) ∧
  (∀ s (b : Bool), hostUp s = true → s.img.phase = .idle → sourceSlot s b = true →
     Gives (.slotErase (if b then 1 else 0)) s fun t => t.img.loadErr = true ∧ t.img.errCode = 0x86 ∧
     t.img.phase = .idle ∧ t.sealed = s.sealed ∧ t.flash = s.flash) ∧
  (∀ s (b : Bool), hostUp s = true → s.img.phase = .idle → sourceSlot s b = false → winOpen s = false →
     Gives (.slotErase (if b then 1 else 0)) s fun t => t.img.loadErr = true ∧ t.img.errCode = 0x85 ∧
     t.thm.winRef = true ∧ t.img.phase = .idle ∧ t.sealed = s.sealed ∧ t.flash = s.flash) ∧
  (∀ s b, hostUp s = true → s.img.op = .erase b → winShut s = false → Gives (.slotEraseDone true) s fun t =>
     t.flash = flashErase s.flash (flaconBase b) 0x80000 ∧ t.img.phase = .idle ∧
     t.img.erasedA = (s.img.erasedA || !b) ∧ t.img.erasedB = (s.img.erasedB || b) ∧ t.img.loadErr = s.img.loadErr ∧
     t.otp = s.otp ∧ t.chans = s.chans) ∧
  (∀ s b ok, hostUp s = true → s.img.op = .erase b → winShut s = true → Gives (.slotEraseDone ok) s fun t =>
     t.flash = s.flash ∧ t.img.phase = .idle ∧ t.img.loadErr = true ∧ t.img.errCode = 0x85 ∧
     t.thm = { s.thm with winRef := true } ∧ t.otp = s.otp ∧ t.chans = s.chans) ∧
  (∀ s b, hostUp s = true → s.img.op = .erase b → winShut s = false → Gives (.slotEraseDone false) s fun t =>
     t.flash = s.flash ∧ t.img.phase = .idle ∧ t.img.loadErr = true ∧ t.img.errCode = 0x88) ∧
  (∀ s (b : Bool), hostUp s = true → s.img.phase = .idle → slotErased s b = true → sourceSlot s b = false →
     winOpen s = true → Becomes (.slotWrite (if b then 1 else 0)) s
     { s with img := { s.img with op := .write b, phase := .writing, winStop := false, isOpen := true, need := none, buf := [], count := 0, checkedA := s.img.checkedA && b, checkedB := s.img.checkedB && !b } }) ∧
  (∀ s w b, hostUp s = true → s.img.isOpen = true → s.img.op = .write b → s.img.count ≠ 60 → s.img.need = none →
     winShut s = false → s.img.buf.length = 252 → Gives (.imgDataWrite w) s fun t =>
     t.flash = flashProgList s.flash (flaconBase b) (s.img.buf ++ leBytes w) ∧ t.img.isOpen = true ∧
     t.img.count = s.img.count + 4 ∧ t.sealed = s.sealed) ∧
  (∀ s (b : Bool), hostUp s = true → s.img.phase = .idle → slotChecked s b = true → sourceSlot s b = false →
     winOpen s = true → Becomes (.slotCommit (if b then 1 else 0)) s
     { s with img := { s.img with op := .commit b, phase := .writing, winStop := false } }) ∧
  (∀ s (b : Bool), hostUp s = true → s.img.phase = .idle → slotChecked s b = false → sourceSlot s b = false →
     winOpen s = true → Gives (.slotCommit (if b then 1 else 0)) s fun t => t.img.loadErr = true ∧
     t.img.errCode = 0x87 ∧ t.img.phase = .idle ∧ t.flash = s.flash ∧ t.sealed = s.sealed) ∧
  (∀ s b, hostUp s = true → s.img.op = .commit b → Gives (.slotCommitDone true) s fun t =>
     t.flash = flashProgList s.flash (trailerAt b) (trailerBytes (slotHeader s b)) ∧ t.img.phase = .idle ∧
     t.img.erasedA = (s.img.erasedA && b) ∧ t.img.erasedB = (s.img.erasedB && !b) ∧ t.img.checkedA = s.img.checkedA ∧
     t.img.checkedB = s.img.checkedB ∧ t.img.loadErr = s.img.loadErr ∧ t.otp = s.otp ∧ t.chans = s.chans) ∧
  (∀ s b, hostUp s = true → s.img.op = .write b → s.img.isOpen = false → Becomes .flashWriteStopped s s) ∧
  (∀ s b, hostUp s = true → s.img.op = .write b → Gives (.slotCommitDone false) s fun t => t.img.loadErr = true ∧
     t.img.errCode = 0x88 ∧ t.img.phase = .idle ∧ t.img.isOpen = false ∧ t.flash = s.flash ∧ t.otp = s.otp ∧
     t.chans = s.chans) ∧
  (∀ s b, hostUp s = true → s.img.op = .write b → s.img.isOpen = false → Gives (.slotCommitDone true) s fun t =>
     t.img.phase = .idle ∧ t.img.loadErr = s.img.loadErr ∧ t.flash = s.flash ∧ t.otp = s.otp ∧ t.chans = s.chans) ∧
  (∀ s b, hostUp s = true → winShut s = true → s.img.op = .erase b → Gives .flashWriteStopped s fun t =>
     t.img.loadErr = true ∧ t.img.errCode = 0x85 ∧ t.img.phase = .idle ∧ t.thm = { s.thm with winRef := true } ∧
     t.flash = s.flash ∧ t.otp = s.otp) ∧
  (∀ s b, hostUp s = true → winShut s = true → s.img.op = .write b → s.img.isOpen = true →
     Gives .flashWriteStopped s fun t => t.img.loadErr = true ∧ t.img.errCode = 0x85 ∧ t.img.isOpen = false ∧
     t.thm = { s.thm with winRef := true } ∧ t.flash = s.flash ∧ t.otp = s.otp)

/-- SLOT_CHECK, SLOT_CHECK_DONE, SLOT_ERASE, SLOT_ERASE_DONE, SLOT_WRITE, SLOT_COMMIT, SLOT_COMMIT_DONE,
FLASH_WRITE_STOPPED (R82, R85, R89, R281): each completes with its own effect in every state and for every slot that
meets its conditions. Slot 0 is A and slot 1 is B. Model choices: log entries 13, 30. -/
def Obligations.SlotCommandsComplete : Prop :=
  (∀ s (k : BitVec 2), hostUp s = true → s.img.phase = .idle → k.toNat < 2 → ∃ t, exec (.slotCheck k) s = .next t ∧
     SameCore { s with img := { s.img with op := .check (k.toNat == 1), phase := .checkingSlot, winStop := false } } t) ∧
  (∀ s f b, hostUp s = true → s.img.op = .check b → f ≠ 0x00#8 → f ≠ 0xFF#8 →
     ∃ t, exec (.slotCheckDone f) s = .next t ∧ t.img.phase = .idle ∧ t.img.op = .none ∧ t.flash = s.flash ∧
     t.otp = s.otp ∧ t.chans = s.chans ∧ t.pwr = s.pwr ∧
     t.img.errCode = (match slotImage s b with | .ok _ => 0 | .error e => BitVec.ofNat 8 e.code) ∧
     t.img.loadErr = (s.img.loadErr || !(slotImage s b).isOk) ∧
     t.img.checkedA = (s.img.checkedA || (!b && (slotImage s b).isOk)) ∧
     t.img.checkedB = (s.img.checkedB || (b && (slotImage s b).isOk))) ∧
  (∀ s (k : BitVec 2), hostUp s = true → s.img.phase = .idle → k.toNat < 2 → sourceSlot s (k.toNat == 1) = false →
     winOpen s = true → ∃ t, exec (.slotErase k) s = .next t ∧ t.img.op = .erase (k.toNat == 1) ∧
     t.img.phase = .erasing ∧ slotErased t (k.toNat == 1) = false ∧
     slotChecked t (k.toNat == 1) = slotChecked s (k.toNat == 1) ∧
     slotErased t (k.toNat != 1) = slotErased s (k.toNat != 1) ∧
     t.flash = flashErase s.flash (flaconBase (k.toNat == 1) + 0x7F000) 4096 ∧ t.sealed = s.sealed ∧ t.otp = s.otp ∧
     t.chans = s.chans ∧ t.pwr = s.pwr) ∧
  (∀ s b, hostUp s = true → s.img.op = .erase b → winShut s = false → ∃ t, exec (.slotEraseDone true) s = .next t ∧
     t.flash = flashErase s.flash (flaconBase b) 0x80000 ∧ t.img.phase = .idle ∧ slotErased t b = true ∧
     slotErased t (!b) = slotErased s (!b) ∧ t.img.errCode = 0 ∧ t.img.loadErr = s.img.loadErr ∧ t.otp = s.otp ∧
     t.chans = s.chans ∧ t.pwr = s.pwr) ∧
  (∀ s (k : BitVec 2), hostUp s = true → s.img.phase = .idle → k.toNat < 2 → sourceSlot s (k.toNat == 1) = false →
     winOpen s = true → slotErased s (k.toNat == 1) = true → ∃ t, exec (.slotWrite k) s = .next t ∧
     t.img.op = .write (k.toNat == 1) ∧ t.img.phase = .writing ∧ t.img.isOpen = true ∧ t.img.count = 0 ∧
     slotChecked t (k.toNat == 1) = false ∧ slotChecked t (k.toNat != 1) = slotChecked s (k.toNat != 1) ∧
     t.img.cmdErr = s.img.cmdErr ∧ t.flash = s.flash ∧ t.sealed = s.sealed ∧ t.otp = s.otp ∧ t.chans = s.chans ∧
     t.pwr = s.pwr) ∧
  (∀ s (k : BitVec 2), hostUp s = true → s.img.phase = .idle → k.toNat < 2 → sourceSlot s (k.toNat == 1) = false →
     winOpen s = true → slotChecked s (k.toNat == 1) = true → ∃ t, exec (.slotCommit k) s = .next t ∧ SameCore
     { s with img := { s.img with op := .commit (k.toNat == 1), phase := .writing, winStop := false } } t) ∧
  (∀ s b, hostUp s = true → s.img.op = .commit b → ∃ t, exec (.slotCommitDone true) s = .next t ∧
     t.flash = flashProgList s.flash (trailerAt b) (trailerBytes (slotHeader s b)) ∧ t.img.phase = .idle ∧
     slotErased t b = false ∧ slotErased t (!b) = slotErased s (!b) ∧ slotChecked t b = slotChecked s b ∧
     t.img.errCode = 0 ∧ t.img.loadErr = s.img.loadErr ∧ t.otp = s.otp ∧ t.chans = s.chans ∧ t.pwr = s.pwr) ∧
  (∀ s b, hostUp s = true → s.img.op = .commit b → ∃ t, exec (.slotCommitDone false) s = .next t ∧ t.flash = s.flash ∧
     t.img.phase = .idle ∧ t.img.errCode = 0x88 ∧ t.img.loadErr = true ∧ t.otp = s.otp ∧ t.chans = s.chans ∧
     t.pwr = s.pwr) ∧
  (∀ s b, hostUp s = true → winShut s = true → (s.img.op = .write b ∧ s.img.isOpen = true) ∨ s.img.op = .erase b →
     ∃ t, exec .flashWriteStopped s = .next t ∧ t.img.phase = .idle ∧ t.img.isOpen = false ∧ t.img.errCode = 0x85 ∧
     t.img.loadErr = true ∧ t.thm = { s.thm with winRef := true } ∧ t.flash = s.flash ∧ t.otp = s.otp ∧
     t.chans = s.chans ∧ t.pwr = s.pwr)

/-- PATCH_BEGIN, PATCH_APPLY, PATCH_COMMIT, REVOKE, EPOCH_ADVANCE (R77, R83, R84, R86): a patch is staged, checked
against the sealed image and committed on its stopped rail alone; a rail that runs again at the commit gives 0x81; a
key slot is revoked unless the sealed image names it; the epoch advances by one fuse. Model choices: log entries 30,
31. -/
def Obligations.PatchesAndKeys : Prop :=
  (∀ s (r : RailId), hostUp s = true → s.img.phase = .idle → isSealed s = true →
     Becomes (.patchBegin (BitVec.ofNat 5 r.val)) s
     { s with img := { s.img with op := .stage r.val, phase := .staging, winStop := false, isOpen := true, need := none, buf := [], count := 0, ready := none, stag := [] } }) ∧
  (∀ s (r : RailId) im c, hostUp s = true → s.img.phase = .idle → s.img.ready = some r.val → s.sealed.img = some im →
     checkPatch s.otp s.sealed.auth (isStopped s.rails[r]) im r.val s.img.stag = .ok c →
     Becomes (.patchApply (BitVec.ofNat 5 r.val)) s
     { s with img := { s.img with op := .apply r.val, phase := .committing, winStop := false, ready := none, stag := [], passed := some (r.val, c) } }) ∧
  (∀ s (n : BitVec 5), hostUp s = true → s.img.phase = .idle → n.toNat < 24 → s.img.ready = none →
     Becomes (.patchApply n) s
     { s with img := { s.img with cmdErr := true, rejCnt := min 255 (s.img.rejCnt + 1), errCode := 0x80, errType := 0, errInst := 0, claimA := 0, claimB := 0, errRes := 0 } }) ∧
  (∀ s (r : RailId) c im, hostUp s = true → s.img.passed = some (r.val, c) → isStopped s.rails[r] = true →
     s.sealed.img = some im → im.rails.length = 24 → Gives .patchCommit s fun t => railCfg t r = some c ∧
     (∀ j : RailId, j ≠ r → railCfg t j = railCfg s j) ∧ t.sealed.patched = s.sealed.patched ||| (1#24 <<< r.val) ∧
     t.img.passed = none ∧ t.img.phase = .idle ∧ t.img.errCode = 0 ∧ t.flash = s.flash ∧ t.otp = s.otp ∧
     t.irqEn = s.irqEn) ∧
  (∀ s (r : RailId) c, hostUp s = true → s.img.passed = some (r.val, c) → isStopped s.rails[r] = false →
     Gives .patchCommit s fun t => t.img.loadErr = true ∧ t.img.errCode = 0x81 ∧ t.img.phase = .idle ∧
     t.img.passed = none ∧ t.sealed = { s.sealed with loadPend := false } ∧ t.flash = s.flash ∧ t.otp = s.otp) ∧
  (∀ s (k : BitVec 2), hostUp s = true → s.img.phase = .idle → (∀ im ∈ s.sealed.img, im.keyidx ≠ k.toNat) →
     Becomes (.revoke k) s { s with otp := { s.otp with revoked := s.otp.revoked ||| (1#4 <<< k.toNat) } }) ∧
  (∀ s (k : BitVec 2) im, hostUp s = true → s.img.phase = .idle → s.sealed.img = some im → im.keyidx = k.toNat →
     Becomes (.revoke k) s
     { s with img := { s.img with cmdErr := true, rejCnt := min 255 (s.img.rejCnt + 1), errCode := 0x80, errType := 0, errInst := 0, claimA := 0, claimB := 0, errRes := 0 } }) ∧
  (∀ s im, hostUp s = true → s.img.phase = .idle → s.sealed.img = some im → s.otp.fuses < 64 →
     s.otp.fuses + 1 ≤ im.epoch → Becomes .epochAdvance s { s with otp := { s.otp with fuses := s.otp.fuses + 1 } })

/-- LOG_SCAN, LOG_SCAN_DONE, BLOTTER_TEST, BLOT, BLOTTER_RESULT, LOG_COMMIT_START, LOGGED, LOG_PROGRAM_TIMEOUT,
LOG_BLOCK_ERASE (R339 to R341, R347 to R353): the scan of the ring, the test and its classes, the gate, the two
phases of a commit, its retry and its failure, and the erase of the next block. Model choices: log entries 4, 37. -/
def Obligations.LogAndBlotter : Prop :=
  (∀ s, isDue .logScan s = true → Becomes .logScan s { s with nvl := { s.nvl with scan := true } }) ∧
  (∀ s, s.nvl.scan = true → Gives .logScanDone s fun t => t.nvl.scan = false ∧
     t.nvl.seq = (match newestOf s.flash (committedSlots s.flash) with | some i => slotSeq s.flash i | none => 0) ∧
     t.nvl.wslot = firstFree s.flash (match newestOf s.flash (committedSlots s.flash) with | some i => i + 1 | none => 0) ∧
     ((List.range 256).any (corruptSlot s.flash) = true → t.nvl.media = true) ∧ t.sealed = s.sealed ∧ t.otp = s.otp ∧
     t.chans = s.chans) ∧
  (∀ s, isDue .blotterTest s = true → hadcUp s = true → s.nvl.testRun = false → s.nvl.busy = false →
     s.hadc.mon.macDev = false → Gives .blotterTest s fun t =>
     t.nvl = { s.nvl with testRun := true, testDue := false, onAt := some s.now, sampA := none, sampB := none } ∧
     t.flash = s.flash ∧ t.sealed = s.sealed ∧ t.hadc.res = s.hadc.res) ∧
  (∀ s, hostUp s = true → s.nvl.testRun = false → s.nvl.busy = false → s.hadc.mon.macDev = false →
     Gives .blot s fun t =>
     t.nvl = { s.nvl with testRun := true, testDue := false, onAt := some s.now, sampA := none, sampB := none } ∧
     t.flash = s.flash ∧ t.sealed = s.sealed) ∧
  (∀ s, hostUp s = true → s.nvl.busy = true → s.nvl.testRun = false → Becomes .blot s
     { s with nvl := { s.nvl with testDue := true } }) ∧
  (∀ s vh dv dt c e, s.nvl.testRun = true → s.nvl.testDue = false → measured s.nvl vh dv dt = true →
     testOut s.nvl vh dv dt = .pass c e → Gives (.blotterResult vh dv dt) s fun t => t.nvl.result = .pass ∧
     t.nvl.testOk = true ∧ t.nvl.seen = true ∧ t.nvl.cap = c ∧ t.nvl.capUf = c.num / (1000 * c.den) ∧
     t.nvl.eavl = min 65535 (e.num / (e.den * tenMicroJ)) ∧ t.nvl.q = qLoad c (vhOf vh) (vstopU s.nvl.vstop) ∧
     t.nvl.testRun = false ∧ t.nvl.blotFail = s.nvl.blotFail ∧ t.flash = s.flash ∧ t.sealed = s.sealed) ∧
  (∀ s vh dv dt, measured s.nvl vh dv dt = false → Becomes (.blotterResult vh dv dt) s s) ∧
  (∀ s vh dv dt, s.nvl.testRun = true → s.nvl.testDue = false → measured s.nvl vh dv dt = true → dv ≤ 0 →
     Gives (.blotterResult vh dv dt) s fun t => t.nvl.result = .invalid ∧ t.nvl.testOk = false ∧
     t.nvl.blotFail = true ∧ t.nvl.q = {} ∧ t.nvl.cap = s.nvl.cap ∧ t.nvl.testRun = false ∧ t.flash = s.flash ∧
     t.sealed = s.sealed) ∧
  (∀ s q qs v, isDue .logCommitStart s = true → s.nvl.queue = q :: qs → s.nvl.busy = false → s.nvl.testDue = false →
     loadReads s = false → hadcUp s = true → winOpen s = true → s.nvl.scan = false → s.hadc.mon.macDev = false →
     s.nvl.v87 = some v → tooLow (eVoltage s.nvl v) = false → s.nvl.seen = true → tooLow (eCounter s.nvl) = false →
     s.nvl.testOk = true → testYoung s = true → s.nvl.voidDue = false → s.nvl.eraseDue = [] →
     slotState s.flash s.nvl.wslot = stFree → Gives .logCommitStart s fun t => t.nvl.busy = true ∧
     t.nvl.retry = false ∧ t.nvl.wslot = s.nvl.wslot ∧
     t.flash = flashProgList (flashProgList s.flash (slotAddr s.nvl.wslot) (natLe 4 stOpen)) (slotAddr s.nvl.wslot + 4) (recordBody s q ++ natLe 4 (crc32 (recordBody s q))) ∧
     t.sealed = s.sealed ∧ t.otp = s.otp ∧ t.chans = s.chans) ∧
  (∀ s, isDue .logCommitStart s = true → s.nvl.queue ≠ [] → s.nvl.busy = false → s.nvl.testDue = false →
     loadReads s = false → hadcUp s = true → winOpen s = false → Becomes .logCommitStart s
     { s with nvl := { s.nvl with holdPend := true } }) ∧
  (∀ s, s.nvl.busy = true → s.nvl.testDue = false → Gives .logged s fun t => t.nvl.busy = false ∧
     t.nvl.logged = true ∧ t.nvl.seq = s.nvl.seq + 1 ∧ t.nvl.wslot = (s.nvl.wslot + 1) % 256 ∧
     t.nvl.q = qDebit s.nvl.q (vstopU s.nvl.vstop) ∧
     t.flash = flashProgList s.flash (slotAddr s.nvl.wslot) (natLe 4 stCommitted) ∧ t.sealed = s.sealed ∧
     t.otp = s.otp ∧ t.chans = s.chans) ∧
  (∀ s, s.nvl.busy = true → s.nvl.retry = false → slotState s.flash ((s.nvl.wslot + 1) % 256) = stFree →
     Gives .logProgramTimeout s fun t => t.nvl.busy = true ∧ t.nvl.retry = true ∧ t.nvl.media = true ∧
     t.nvl.wslot = (s.nvl.wslot + 1) % 256 ∧ t.sealed = s.sealed ∧ t.chans = s.chans) ∧
  (∀ s, s.nvl.busy = true → s.nvl.retry = true → s.nvl.testDue = false → Gives .logProgramTimeout s fun t =>
     t.nvl.busy = false ∧ t.nvl.drop = true ∧ t.nvl.media = true ∧
     t.flash = flashProgList s.flash (slotAddr s.nvl.wslot) (natLe 4 0) ∧ t.sealed = s.sealed ∧ t.chans = s.chans) ∧
  (∀ s k, isDue .logBlockErase s = true → s.nvl.eraseDue = [k] → logMayErase s = true → Becomes .logBlockErase s
     { s with flash := flashErase s.flash (0x100000 + 4096 * (k % 64)) 4096, nvl := { s.nvl with eraseDue := [] } })

/-- NVL_RDCTRL_WRITE, NVL_FETCH_DONE, NVL_RDDATA_READ, NVL_TIME_TICK (R354, R356): a record is named by its age,
fetched into the buffer with its CRC checked, and read word by word with the pointer advancing by 4 bytes; the time
advances by one second. Model choices: log entries 4, 37. -/
def Obligations.LogReadOutAndTime : Prop :=
  (∀ s w i, hostUp s = true → s.nvl.scan = false →
     slotOfAge s.flash (committedSlots s.flash) (bits w 0 8) 256 = some i → Becomes (.nvlRdctrlWrite w) s
     { s with nrd := { s.nrd with rdErr := s.nrd.rdErr && !bitw w 30, age := BitVec.ofNat 8 (bits w 0 8), ready := false, fetch := some i } }) ∧
  (∀ s w, hostUp s = true → s.nvl.scan = true → Becomes (.nvlRdctrlWrite w) s
     { s with nrd := { s.nrd with rdErr := true, age := BitVec.ofNat 8 (bits w 0 8), ready := false, fetch := none } }) ∧
  (∀ s i, s.nrd.fetch = some i → Becomes .nvlFetchDone s
     { s with nrd := { s.nrd with buf := flashReadList s.flash (slotAddr i) 1024, ptr := 0, ready := true, fetch := none, crcOk := leNat ((flashReadList s.flash (slotAddr i) 1024).drop 0x3FC) == crc32 (((flashReadList s.flash (slotAddr i) 1024).drop 4).take 0x3F8) } }) ∧
  (∀ s, hostUp s = true → s.nrd.ready = true → Becomes .nvlRddataRead s
     { s with resp := .word (BitVec.ofNat 32 (leNat ((s.nrd.buf.drop s.nrd.ptr).take 4))), nrd := { s.nrd with ptr := (s.nrd.ptr + 4) % 1024 } }) ∧
  (∀ s, isDue .nvlTimeTick s = true → Becomes .nvlTimeTick s
     { s with nvl := { s.nvl with secs := s.nvl.secs + 1, secAt := s.now } })

/-- ARM, TIMER_START, TIMER_STOP, DISARM, TMR_GSTART, TMR_CFG_WRITE, TMR_MATCH_WRITE, TMR_COUNT_READ (R358, R361 to
R363, R365, R367): each command on an owned timer in its state; a command that is not legal sets TERR and counts; a
timer that a START of the present core edge has started still stands ARMED to another START and to a DISARM (R375;
the model's `standing`, log entry 8); a MATCH at or below the count of a running timer is late and matches at once;
a group start starts all of its timers or none. Model choices: log entries 8, 36. -/
def Obligations.TimerCommands : Prop :=
  (∀ s (t : TimerId), hostUp s = true → timerOwned s t = true → s.tmr.tmr[t].st = .idle ∨ s.tmr.tmr[t].st = .done →
     (∀ j : TimerId, s.tmr.tmr[j].matched = false) → Becomes (.arm t) s
     (onTimer t (fun k => { k with st := .armed, count := 0, capr := 0, capf := 0, width := 0, pairRdy := false, stopped := false, half := none, out := if s.tmr.slowMode then k.out else k.outinit }) s)) ∧
  (∀ s (t : TimerId), hostUp s = true → timerOwned s t = true → s.tmr.tmr[t].st = .running →
     (∀ j : TimerId, s.tmr.tmr[j].matched = false) → Becomes (.arm t) s
     { s with tmr := { s.tmr with rej := true, terr := true, terrAt := terrHit s, rejCnt := min 255 (s.tmr.rejCnt + 1) } }) ∧
  (∀ s (t : TimerId), hostUp s = true → timerOwned s t = true → standing (cycle s) s.tmr.tmr[t] = .armed →
     (∀ j : TimerId, s.tmr.tmr[j].matched = false) → Becomes (.timerStart t) s
     (onTimer t (fun k => { k with st := .running, startAt := some (cycle s) }) s)) ∧
  (∀ s (t : TimerId), hostUp s = true → timerOwned s t = true → runsSince (cycle s) s.tmr.tmr[t] = true →
     (∀ j : TimerId, s.tmr.tmr[j].matched = false) → Becomes (.timerStop t) s
     (onTimer t (fun k => { k with st := .done, stopped := true, half := none, endAt := some (cycle s), endHalf := k.half, endCount := k.count }) s)) ∧
  (∀ s (t : TimerId), hostUp s = true → timerOwned s t = true →
     standing (cycle s) s.tmr.tmr[t] = .armed ∨ s.tmr.tmr[t].st = .done →
     (∀ j : TimerId, s.tmr.tmr[j].matched = false) → Becomes (.disarm t) s
     (onTimer t (fun k => { k with st := .idle, count := 0, half := none }) s)) ∧
  (∀ s (t : TimerId), hostUp s = true → timerOwned s t = true → runsSince (cycle s) s.tmr.tmr[t] = true →
     (∀ j : TimerId, s.tmr.tmr[j].matched = false) → Becomes (.disarm t) s
     (onTimer t (fun k => { k with st := .idle, count := 0, half := none, stopped := false, endAt := some (cycle s), endHalf := k.half, endCount := k.count }) s)) ∧
  (∀ s (t : TimerId), hostUp s = true → timerOwned s t = true → standing (cycle s) s.tmr.tmr[t] ≠ .armed →
     (∀ j : TimerId, s.tmr.tmr[j].matched = false) → Becomes (.timerStart t) s
     { s with tmr := { s.tmr with rej := true, terr := true, terrAt := terrHit s, rejCnt := min 255 (s.tmr.rejCnt + 1) } }) ∧
  (∀ s (t : TimerId), hostUp s = true → timerOwned s t = true → runsSince (cycle s) s.tmr.tmr[t] = false →
     (∀ j : TimerId, s.tmr.tmr[j].matched = false) → Becomes (.timerStop t) s
     { s with tmr := { s.tmr with rej := true, terr := true, terrAt := terrHit s, rejCnt := min 255 (s.tmr.rejCnt + 1) } }) ∧
  (∀ s (t : TimerId), hostUp s = true → timerOwned s t = false → Becomes (.disarm t) s
     { s with tmr := { s.tmr with rej := true, terr := true, terrAt := terrHit s, rejCnt := min 255 (s.tmr.rejCnt + 1) } }) ∧
  (∀ s (m : Word), hostUp s = true → (∀ t : TimerId, m.getLsbD t.val = true → timerOwned s t = true ∧
     s.tmr.tmr[t].st = .armed) → Gives (.tmrGstart m) s fun u =>
     (∀ t : TimerId, u.tmr.tmr[t] = if m.getLsbD t.val then { s.tmr.tmr[t] with st := .running, grpAt := some (cycle s) } else s.tmr.tmr[t]) ∧
     u.tmr.rejCnt = s.tmr.rejCnt ∧ u.sealed = s.sealed ∧ u.fifo = s.fifo ∧ u.flash = s.flash) ∧
  (∀ s (m : Word), hostUp s = true → (∀ t : TimerId, m.getLsbD t.val = true → timerOwned s t = true ∧
     s.tmr.tmr[t].st = .running ∧ (s.tmr.tmr[t].linkAt = some (cycle s) ∨ s.tmr.tmr[t].startAt = some (cycle s))) →
     Gives (.tmrGstart m) s fun u =>
     (∀ t : TimerId, u.tmr.tmr[t] = if m.getLsbD t.val then { s.tmr.tmr[t] with grpAt := some (cycle s) } else s.tmr.tmr[t]) ∧
     u.tmr.rejCnt = s.tmr.rejCnt ∧ u.sealed = s.sealed ∧ u.fifo = s.fifo ∧ u.flash = s.flash) ∧
  (∀ s (m : Word) (t : TimerId), hostUp s = true → m.getLsbD t.val = true → standing (cycle s) s.tmr.tmr[t] ≠ .armed →
     Becomes (.tmrGstart m) s
     { s with tmr := { s.tmr with rej := true, terr := true, terrAt := terrHit s, rejCnt := min 255 (s.tmr.rejCnt + 1) } }) ∧
  (∀ s i w, hostUp s = true → timerOwned s (selTimer i s) = true →
     runsSince (cycle s) s.tmr.tmr[selTimer i s] = false → Becomes (.tmrCfgWrite i w) s
     (onTimer (selTimer i s) (fun k => { k with gated := bitw w 31, glvl := bitw w 30, capen := bitw w 29, cappol := bitw w 28, outinit := bitw w 26, sact := BitVec.ofNat 2 (bits w 14 2), lact := BitVec.ofNat 2 (bits w 12 2), link := BitVec.ofNat 5 (bits w 0 5) }) s)) ∧
  (∀ s (t : TimerId) w, hostUp s = true → runsSince (cycle s) s.tmr.tmr[t] = false → Becomes (.tmrMatchWrite t w) s
     (onTimer t (fun k => { k with mtch := w }) s)) ∧
  (∀ s (t : TimerId) w, hostUp s = true → runsSince (cycle s) s.tmr.tmr[t] = true →
     s.tmr.tmr[t].stepAt ≠ some (cycle s) → s.tmr.tmr[t].matched = false → s.tmr.tmr[t].count < w.toNat →
     Becomes (.tmrMatchWrite t w) s (onTimer t (fun k => { k with mtch := w }) s)) ∧
  (∀ s (t : TimerId) w, hostUp s = true → runsSince (cycle s) s.tmr.tmr[t] = true →
     s.tmr.tmr[t].stepAt ≠ some (cycle s) → w.toNat ≤ s.tmr.tmr[t].count → s.tmr.tmr[t].sact = 0 →
     s.tmr.tmr[t].lact = 0 → s.tmr.slowMode = false → s.hadc.req.trigTmr = false → (∀ j : TimerId, j ≠ t →
     s.tmr.tmr[j].matched = false) → Gives (.tmrMatchWrite t w) s fun u => u.tmr.tmr[t].late = true ∧
     u.tmr.tmr[t].mtch = w ∧ u.tmr.tmr[t].st = .done ∧ u.tmr.tmr[t].out = !s.tmr.tmr[t].out ∧ u.tmr.done = true ∧
     u.tmr.doneMask.getLsbD t.val = true ∧ u.sealed = s.sealed ∧ u.fifo = s.fifo ∧ ∀ j : TimerId, j ≠ t →
     u.tmr.tmr[j] = s.tmr.tmr[j]) ∧
  (∀ s i, hostUp s = true → runsSince (cycle s) s.tmr.tmr[selTimer i s] = false → Becomes (.tmrCountRead i) s
     { s with resp := .word (BitVec.ofNat 32 s.tmr.tmr[selTimer i s].count) }) ∧
  (∀ s i, hostUp s = true → runsSince (cycle s) s.tmr.tmr[selTimer i s] = true →
     Becomes (.tmrCountRead i) s { onTimer (selTimer i s) (fun k => { k with rdErr := true })
     { s with tmr := { s.tmr with terr := true, terrAt := terrHit s } } with resp := .word 0 })

/-- TIMER_MATCH, TIMER_CAPTURE_EDGE, TIMER_SLOW_TICK, TFIFO_HI_READ (R364, R366, R369, R372, R421): a timer without
actions that matches is DONE with its output toggled; a capture stores its first edge; the slow clock counts 12,207
core ticks; a FIFO read returns the oldest entry's high word and removes it, and an entry that the full FIFO
discarded in this very core cycle then finds room, its pair with it; an entry pushed into an empty FIFO in this core
cycle is not yet seen (R432; log entry 8); every observer of a pin sees the level at its ball (R69). Model choices:
log entries 8, 12, 36. -/
def Obligations.TimersMatchAndCapture : Prop :=
  (∀ s (t : TimerId), s.tmr.slowMode = false → s.tmr.tmr[t].matched = true → s.tmr.tmr[t].sact = 0 →
     s.tmr.tmr[t].lact = 0 → s.hadc.req.trigTmr = false → (∀ j : TimerId, j ≠ t → s.tmr.tmr[j].matched = false) →
     Becomes (.timerMatch t) s
     (onTimer t (fun k => { k with st := .done, count := if k.count = matchAt k then k.count else k.mtch.toNat, matched := false, stopped := false, half := none, endAt := some (cycle s), endHalf := k.half, endCount := if k.count = matchAt k then k.count else k.mtch.toNat, out := !k.out })
     { s with tmr := { s.tmr with done := true, doneMask := s.tmr.doneMask ||| (1#32 <<< t.val) } })) ∧
  (∀ s (t j : TimerId), s.tmr.slowMode = false → s.tmr.tmr[t].matched = true → s.tmr.tmr[t].sact = 2 →
     s.tmr.tmr[t].lact = 2 → s.tmr.tmr[t].link.toNat = j.val → j ≠ t → s.hadc.req.trigTmr = false →
     (∀ k : TimerId, k ≠ t → s.tmr.tmr[k].matched = false) → s.tmr.tmr[j].st = .armed → Becomes (.timerMatch t) s
     (onTimer j (fun k => { k with st := .running, count := 0, linkAt := some (cycle s) })
     (onTimer t (fun k => { k with st := .running, count := 0, matched := false, stopped := false, half := none, endAt := some (cycle s), endHalf := k.half, endCount := if k.count = matchAt k then k.count else k.mtch.toNat, out := !k.out })
     { s with tmr := { s.tmr with done := true, doneMask := s.tmr.doneMask ||| (1#32 <<< t.val) } }))) ∧
  (∀ s (t : TimerId), s.tmr.tmr[t].matched = false → Becomes (.timerMatch t) s s) ∧
  (∀ s (t : TimerId) g (p : Nat), pinOf s 2 t.val = some p → levelAt s p true = true → pinOf s 3 t.val = none →
     (∀ j : TimerId, (pinOf s 2 j.val = some p → j = t) ∧ pinOf s 3 j.val ≠ some p) →
     (∀ r : RailId, pinOf s 1 r.val ≠ some p) → s.tmr.slowMode = false → s.tmr.tmr[t].st = .running →
     s.tmr.tmr[t].capen = true → s.tmr.tmr[t].cappol = false → s.tmr.tmr[t].capIn = false → s.tmr.tmr[t].half = none →
     s.tmr.tmr[t].endHalf = none → s.tmr.tmr[t].pairRdy = false → Becomes (.timerCaptureEdge t true g) s
     (onTimer t (fun k => { k with capIn := true, gateIn := false, half := some k.count, capr := k.count }) s)) ∧
  (∀ s (t : TimerId) g n (p : Nat), pinOf s 2 t.val = some p → levelAt s p false = false → pinOf s 3 t.val = none →
     (∀ j : TimerId, (pinOf s 2 j.val = some p → j = t) ∧ pinOf s 3 j.val ≠ some p) →
     (∀ r : RailId, pinOf s 1 r.val ≠ some p) → s.tmr.slowMode = false → s.tmr.tmr[t].st = .running →
     s.tmr.tmr[t].capen = true → s.tmr.tmr[t].cappol = false → s.tmr.tmr[t].capIn = true →
     s.tmr.tmr[t].half = some n → s.tmr.tmr[t].endHalf = none → s.tmr.tmr[t].pairRdy = false →
     fifoOf s 6 t.val = none → Gives (.timerCaptureEdge t false g) s fun u => u.tmr.capRdy = true ∧
     u.tmr.tmr[t] = { s.tmr.tmr[t] with capIn := false, gateIn := false, half := none, pairRdy := true, capf := s.tmr.tmr[t].count, width := twos 32 ((s.tmr.tmr[t].count : Int) - n) } ∧
     u.fifo = s.fifo ∧ u.sealed = s.sealed) ∧
  (∀ s (t : TimerId) cap g (p : Nat), pinOf s 2 t.val = some p → Gives (.timerCaptureEdge t cap g) s fun u =>
     (∀ j : TimerId, pinOf s 2 j.val = some p → u.tmr.tmr[j].capIn = levelAt s p cap) ∧
     (∀ r : RailId, pinOf s 1 r.val = some p → u.rails[r].seq.seqIn = levelAt s p cap) ∧ u.sealed = s.sealed ∧
     u.pwr = s.pwr ∧ u.flash = s.flash) ∧
  (∀ s, coreStopped s = true → (∀ j : TimerId, s.tmr.tmr[j].matched = false ∧
     (s.tmr.tmr[j].st ≠ .running ∨ s.tmr.tmr[j].count + 12208 < matchAt s.tmr.tmr[j])) →
     Gives .timerSlowTick s fun u => u.tmr.slowMode = true ∧ u.tmr.slowCnt = (s.tmr.slowCnt + 1) % 32 ∧
     u.sealed = s.sealed ∧ u.fifo = s.fifo ∧ ∀ j : TimerId, u.tmr.tmr[j] = if s.tmr.tmr[j].st = .running ∧
     s.tmr.tmr[j].gated = false then { s.tmr.tmr[j] with count := s.tmr.tmr[j].count + if s.tmr.slowCnt % 32 = 31 then 12208 else 12207 } else s.tmr.tmr[j]) ∧
  (∀ s, coreStopped s = false → Becomes .timerSlowTick s s) ∧
  (∀ s (t : TimerId), coreStopped s = true → s.tmr.tmr[t].st = .running → s.tmr.tmr[t].gated = false →
     s.tmr.tmr[t].matched = false → matchAt s.tmr.tmr[t] ≤ s.tmr.tmr[t].count + 12207 → s.tmr.tmr[t].sact = 0 →
     s.tmr.tmr[t].lact = 0 → (∀ j : TimerId, j ≠ t → s.tmr.tmr[j].matched = false ∧ s.tmr.tmr[j].st ≠ .running) →
     Gives .timerSlowTick s fun u => u.tmr.tmr[t].st = .done ∧ u.tmr.tmr[t].count = matchAt s.tmr.tmr[t] ∧
     u.tmr.tmr[t].out = s.tmr.tmr[t].out ∧ u.tmr.done = true ∧ u.tmr.doneMask = s.tmr.doneMask ||| (1#32 <<< t.val) ∧
     u.tmr.slowMode = true ∧ u.sealed = s.sealed ∧ u.fifo = s.fifo ∧ ∀ j : TimerId, j ≠ t →
     u.tmr.tmr[j] = s.tmr.tmr[j]) ∧
  (∀ s (f : FifoId), hostUp s = true → fifoVoid s s.fifo[f] = false →
     s.fifo[f].lost.all (fun x => x.at_ != cycle s) = true →
     Becomes (.tfifoHiRead f) s { onFifo f (fun x => { x with entries := x.entries.drop 1 }) s with resp := .word ((s.fifo[f].entries.headD 0 >>> 32).setWidth 32) }) ∧
  (∀ s (f : FifoId), hostUp s = true → fifoVoid s s.fifo[f] = true → Becomes (.tfifoHiRead f) s
     { s with resp := .word 0 }) ∧
  (∀ s (f : FifoId) (d : Lost), hostUp s = true → fifoVoid s s.fifo[f] = false → s.fifo[f].lost = some d →
     d.at_ = cycle s →
     Gives (.tfifoHiRead f) s fun u => u.resp = .word ((s.fifo[f].entries.headD 0 >>> 32).setWidth 32) ∧
     u.fifo[f].entries = s.fifo[f].entries.drop 1 ++ [d.entry] ∧ u.fifo[f].ovf = d.ovf ∧ u.fifo[f].lost = none ∧
     u.sealed = s.sealed ∧ (∀ (t : TimerId) o, d.pair = some (t, o) → u.tmr.tmr[t].capOvr = o ∧
     ∀ n w, s.tmr.terrAt = some (cycle s, n, w) → u.tmr.terr = if n ≤ 1 then w else s.tmr.terr) ∧ (d.pair = none →
     u.tmr = s.tmr) ∧ ∀ g : FifoId, g ≠ f → u.fifo[g] = s.fifo[g])

/-- VSEL_ACCEPT, VCMD2_SET_TARGET, VCMD2_SET_SLEW, VCMD2_START, VCMD2_STOP, VCMD2_READ, VCMD2_NOP, VCMD2_LINK_ERROR
(R188, R189, R193, R196, R199 to R203, R215, R217): an accepted selection or a good frame for an owned rail (the
accepted STOP stands in `StopCommands`) takes effect and is acknowledged with its data; a frame refused for its
rail, its OP, its data, the rail's state, a raise freeze, a host override or its CRC changes nothing but the port's
status; a link error gets no response. Model choices: log entry 3; the end of the response slot (`Config.slotTicks`,
log entry 21); a host write of the same core cycle (`hostNow`, log entry 8). The raise-freeze clause compares with
both the register and its working copy. -/
def Obligations.PortsVcmd : Prop :=
  (∀ s (p : PortId) (j : Fin 8) (r : RailId) v, portSpeaks s p .vsel = true → vselEarly s p = false →
     ownedRails s p = [r] → railState s.rails[r] = 2 → raiseFrozen s = false → hostNow s s.rails[r] = false →
     vselTarget (onPort p (fun x => { x with vselIdx := BitVec.ofNat 3 j.val }) s) r = some (p, v) →
     Gives (.vselAccept p j) s fun t => t.ports[p].vselIdx = BitVec.ofNat 3 j.val ∧
     t.ports[p].accepted = (s.ports[p].accepted + 1) % 65536 ∧ t.rails[r].pos.target = BitVec.ofNat 16 v ∧
     t.rails[r].pos.src = 3 ∧ t.rails[r].seq = s.rails[r].seq ∧ t.chans = s.chans ∧ t.sealed = s.sealed ∧
     ∀ i : RailId, i ≠ r → { t.rails[i] with sil := {} } = { s.rails[i] with sil := {} }) ∧
  (∀ s (p : PortId) f (r : RailId) c v, portSpeaks s p .vcmd2 = true → f.getLsbD 31 = true → f.getLsbD 30 = false →
     v2crcOk f = true → v2op f = 0 → ownedRail s p (v2rail f) = some (r, c) →
     legalTarget c (portStep s p) (v2data f) = some v → railState s.rails[r] = 2 → raiseFrozen s = false →
     hostNow s s.rails[r] = false → Gives (.vcmd2SetTarget p f false) s fun t =>
     t.resp = .vcmd2 (v2resp .ok (v2seq f) 0) ∧ t.rails[r].pos.target = BitVec.ofNat 16 v ∧ t.rails[r].pos.src = 2 ∧
     t.rails[r].pos.tgtDue = true ∧ t.ports[p].lastAck = 0 ∧ t.ports[p].accepted = (s.ports[p].accepted + 1) % 65536 ∧
     t.rails[r].seq = s.rails[r].seq ∧ t.chans = s.chans ∧ t.sealed = s.sealed ∧ ∀ i : RailId, i ≠ r →
     { t.rails[i] with sil := {} } = { s.rails[i] with sil := {} }) ∧
  (∀ s (p : PortId) f o (r : RailId) c v, portSpeaks s p .vcmd2 = true → f.getLsbD 31 = true → f.getLsbD 30 = false →
     v2crcOk f = true → v2op f = 0 → ownedRail s p (v2rail f) = some (r, c) →
     legalTarget c (portStep s p) (v2data f) = some v → railState s.rails[r] ≠ 2 →
     Becomes (.vcmd2SetTarget p f o) s { onPort p (fun x => { x with busyTo := s.now + Config.slotTicks true, frames := x.frames + 1, lastAck := 2, rej := true, rejCnt := min 255 (x.rejCnt + 1) }) s with resp := .vcmd2 (v2resp .rejectState (v2seq f) 0) }) ∧
  (∀ s (p : PortId) f o, portSpeaks s p .vcmd2 = true → f.getLsbD 31 = true → f.getLsbD 30 = false →
     v2crcOk f = false →
     Becomes (.vcmd2SetTarget p f o) s { onPort p (fun x => { x with busyTo := s.now + Config.slotTicks true, frames := x.frames + 1, lastAck := 3, linkErr := true, linkCause := 1, errCnt := min 255 (x.errCnt + 1) }) s with resp := .vcmd2 (v2resp .badCrc (v2seq f) 0) }) ∧
  (∀ s (p : PortId) f o, portSpeaks s p .vcmd2 = true → f.getLsbD 31 = true → f.getLsbD 30 = false →
     v2crcOk f = true → v2op f ≤ 5 → v2op f ≠ 4 → ownedRail s p (v2rail f) = none →
     Becomes (.vcmd2SetTarget p f o) s { onPort p (fun x => { x with busyTo := s.now + Config.slotTicks true, frames := x.frames + 1, lastAck := 4 }) s with resp := .vcmd2 (v2resp .badRail (v2seq f) 0) }) ∧
  (∀ s (p : PortId) f, portSpeaks s p .vcmd2 = true → f.getLsbD 31 = true → f.getLsbD 30 = false → v2crcOk f = true →
     6 ≤ v2op f →
     Becomes (.vcmd2Nop p f) s { onPort p (fun x => { x with busyTo := s.now + Config.slotTicks true, frames := x.frames + 1, lastAck := 6 }) s with resp := .vcmd2 (v2resp .badOp (v2seq f) 0) }) ∧
  (∀ s (p : PortId) f o (r : RailId) c, portSpeaks s p .vcmd2 = true → f.getLsbD 31 = true → f.getLsbD 30 = false →
     v2crcOk f = true → v2op f = 0 → ownedRail s p (v2rail f) = some (r, c) →
     legalTarget c (portStep s p) (v2data f) = none →
     Becomes (.vcmd2SetTarget p f o) s { onPort p (fun x => { x with busyTo := s.now + Config.slotTicks true, frames := x.frames + 1, lastAck := 5 }) s with resp := .vcmd2 (v2resp .badData (v2seq f) 0) }) ∧
  (∀ s (p : PortId) f o (r : RailId) c v, portSpeaks s p .vcmd2 = true → f.getLsbD 31 = true → f.getLsbD 30 = false →
     v2crcOk f = true → v2op f = 0 → ownedRail s p (v2rail f) = some (r, c) →
     legalTarget c (portStep s p) (v2data f) = some v → railState s.rails[r] = 2 → raiseFrozen s = true →
     s.rails[r].pos.target.toNat < v → s.rails[r].pos.tgtW < v →
     Becomes (.vcmd2SetTarget p f o) s { onPort p (fun x => { x with busyTo := s.now + Config.slotTicks true, frames := x.frames + 1, lastAck := 7, raiseFrz := true }) s with resp := .vcmd2 (v2resp .raiseFrozen (v2seq f) 0) }) ∧
  (∀ s (p : PortId) f o (r : RailId) c v, portSpeaks s p .vcmd2 = true → f.getLsbD 31 = true → f.getLsbD 30 = false →
     v2crcOk f = true → v2op f = 0 → ownedRail s p (v2rail f) = some (r, c) →
     legalTarget c (portStep s p) (v2data f) = some v → railState s.rails[r] = 2 → raiseFrozen s = false →
     o = true ∨ hostNow s s.rails[r] = true →
     Becomes (.vcmd2SetTarget p f o) s { onPort p (fun x => { x with busyTo := s.now + Config.slotTicks true, frames := x.frames + 1, lastAck := 1, hostOvr := true }) s with resp := .vcmd2 (v2resp .hostOvr (v2seq f) 0) }) ∧
  (∀ s (p : PortId) f (r : RailId) c, portSpeaks s p .vcmd2 = true → f.getLsbD 31 = true → f.getLsbD 30 = false →
     v2crcOk f = true → v2op f = 1 → ownedRail s p (v2rail f) = some (r, c) → 1 ≤ v2data f → v2data f ≤ 320 →
     Becomes (.vcmd2SetSlew p f) s { onRail r (fun x => { x with pos := { x.pos with slew := BitVec.ofNat 9 (v2data f) } })
     (onPort p (fun x => { x with busyTo := s.now + Config.slotTicks true, frames := x.frames + 1, lastAck := 0, accepted := (x.accepted + 1) % 65536 }) s) with resp := .vcmd2 (v2resp .ok (v2seq f) 0) }) ∧
  (∀ s (p : PortId) f (r : RailId) c, portSpeaks s p .vcmd2 = true → f.getLsbD 31 = true → f.getLsbD 30 = false →
     v2crcOk f = true → v2op f = 2 → v2data f = 0 → ownedRail s p (v2rail f) = some (r, c) →
     railState s.rails[r] = 0 → s.pwr.dev = .run → s.rails[r].seq.discHold = false → s.rails[r].prot.snsP = false →
     s.rails[r].prot.snsN = false → Gives (.vcmd2Start p f) s fun t => t.resp = .vcmd2 (v2resp .ok (v2seq f) 0) ∧
     t.rails[r].seq.st = .start ∧ t.rails[r].seq.smIdx = 0 ∧ t.rails[r].seq.cal = true ∧
     t.rails[r].sh.nact = navl c s.rails[r] ∧ posNow t t.rails[r] = 0 ∧
     (∀ ch : ChanId, { t.chans[ch] with nextCs := none } = { s.chans[ch] with nextCs := none }) ∧
     (∀ ch : ChanId, ch.val ∉ accordChans c → t.chans[ch] = s.chans[ch]) ∧ t.sealed = s.sealed ∧ ∀ i : RailId, i ≠ r →
     { t.rails[i] with sil := {} } = { s.rails[i] with sil := {} }) ∧
  (∀ s (p : PortId) f (r : RailId) c, portSpeaks s p .vcmd2 = true → f.getLsbD 31 = true → f.getLsbD 30 = false →
     v2crcOk f = true → v2op f = 4 → v2data f = 0 → ownedRail s p (v2rail f) = some (r, c) →
     Becomes (.vcmd2Read p f) s { onPort p (fun x => { x with busyTo := s.now + Config.slotTicks true, frames := x.frames + 1, lastAck := 0, accepted := (x.accepted + 1) % 65536 }) s with resp := .vcmd2 (v2resp .ok (v2seq f) (targetCode (portStep s p) s.rails[r].pos.target.toNat)) }) ∧
  (∀ s (p : PortId) f, portSpeaks s p .vcmd2 = true → f.getLsbD 31 = true → f.getLsbD 30 = false → v2crcOk f = true →
     v2op f = 4 → v2data f = 4 →
     Becomes (.vcmd2Read p f) s { onPort p (fun x => { x with busyTo := s.now + Config.slotTicks true, frames := x.frames + 1, lastAck := 0, accepted := (x.accepted + 1) % 65536 }) s with resp := .vcmd2 (v2resp .ok (v2seq f) (ownedMask s p)) }) ∧
  (∀ s (p : PortId) f r c, portSpeaks s p .vcmd2 = true → f.getLsbD 31 = true → f.getLsbD 30 = false →
     v2crcOk f = true → v2op f = 5 → v2data f = 0 → ownedRail s p (v2rail f) = some (r, c) →
     Becomes (.vcmd2Nop p f) s { onPort p (fun x => { x with busyTo := s.now + Config.slotTicks true, frames := x.frames + 1, lastAck := 0, accepted := (x.accepted + 1) % 65536 }) s with resp := .vcmd2 (v2resp .ok (v2seq f) 0) }) ∧
  (∀ s (p : PortId) k, portSpeaks s p .vcmd2 = true →
     Becomes (.vcmd2LinkError p k) s { onPort p (fun x => { x with frames := (if k = .rate then x.frames else x.frames + 1), linkErr := true, linkCause := causeCode k, errCnt := min 255 (x.errCnt + 1) }) s with resp := .none })

/-- SET_VID, VCMD1_SET_SLEW, READ_VID, VCMD1_ON, VCMD1_OFF, VCMD1_LINK_ERROR, AVS_VOLTAGE_WRITE, AVS_WRITE_HOLD,
AVS_VOLTAGE_READ, AVS_TRANS_RATE_WRITE, AVS_TRANS_RATE_READ, RESET_VOLTAGE, AVS_STATUS_READ, AVS_STATUS_WRITE,
AVS_VERSION_READ, AVS_NO_ACTION (R205 to R210): the effect of each good frame on its owned rail and its
acknowledgement (the accepted OFF stands in `StopCommands`), and the refusals of a VCMD-1 target and of a transition
rate with unequal or illegal bytes; an AVSBus frame returns the response of the frame before. `Config.avsVersion`
and the CmdData of a write are open values. Model choices: log entries 3, 5, 20, 49; the end of the response slot
(log entry 21); a host write of the same core cycle (`hostNow`, log entry 8). -/
def Obligations.PortsVcmd1AndAvsbus : Prop :=
  (∀ s (p : PortId) f (r : RailId) c v, portSpeaks s p .vcmd1 = true → f.getLsbD 15 = true → f.getLsbD 14 = false →
     v1parOk f = true → v1op f = 0 → ownedRail s p (v1rail f) = some (r, c) →
     legalTarget c (portStep s p) (v1data f) = some v → railState s.rails[r] = 2 → raiseFrozen s = false →
     hostNow s s.rails[r] = false → Gives (.setVid p f false) s fun t => t.resp = .vcmd1 (v1resp .ok 0) ∧
     t.rails[r].pos.target = BitVec.ofNat 16 v ∧ t.rails[r].pos.src = 2 ∧ t.ports[p].lastAck = 4 ∧
     t.ports[p].accepted = (s.ports[p].accepted + 1) % 65536 ∧ t.rails[r].seq = s.rails[r].seq ∧ t.chans = s.chans ∧
     t.sealed = s.sealed ∧ ∀ i : RailId, i ≠ r → { t.rails[i] with sil := {} } = { s.rails[i] with sil := {} }) ∧
  (∀ s (p : PortId) f (r : RailId) c, portSpeaks s p .vcmd1 = true → f.getLsbD 15 = true → f.getLsbD 14 = false →
     v1parOk f = true → v1op f = 1 → ownedRail s p (v1rail f) = some (r, c) → 1 ≤ v1data f → v1data f ≤ 160 →
     Becomes (.vcmd1SetSlew p f) s { onRail r (fun x => { x with pos := { x.pos with slew := BitVec.ofNat 9 (2 * v1data f) } })
     (onPort p (fun x => { x with busyTo := s.now + Config.slotTicks false, frames := x.frames + 1, lastAck := 4, accepted := (x.accepted + 1) % 65536 }) s) with resp := .vcmd1 (v1resp .ok 0) }) ∧
  (∀ s (p : PortId) f (r : RailId) c, portSpeaks s p .vcmd1 = true → f.getLsbD 15 = true → f.getLsbD 14 = false →
     v1parOk f = true → v1op f = 2 → v1data f = 0 → ownedRail s p (v1rail f) = some (r, c) →
     Becomes (.readVid p f) s { onPort p (fun x => { x with busyTo := s.now + Config.slotTicks false, frames := x.frames + 1, lastAck := 4, accepted := (x.accepted + 1) % 65536 }) s with resp := .vcmd1 (v1resp .ok (targetCode (portStep s p) s.rails[r].pos.target.toNat)) }) ∧
  (∀ s (p : PortId) f (r : RailId) c, portSpeaks s p .vcmd1 = true → f.getLsbD 15 = true → f.getLsbD 14 = false →
     v1parOk f = true → v1op f = 3 → v1data f = 1 → ownedRail s p (v1rail f) = some (r, c) →
     railState s.rails[r] = 0 → s.pwr.dev = .run → s.rails[r].seq.discHold = false → s.rails[r].prot.snsP = false →
     s.rails[r].prot.snsN = false → Gives (.vcmd1On p f) s fun t => t.resp = .vcmd1 (v1resp .ok 0) ∧
     t.rails[r].seq.st = .start ∧ t.rails[r].seq.smIdx = 0 ∧ t.rails[r].seq.cal = true ∧
     (∀ ch : ChanId, { t.chans[ch] with nextCs := none } = { s.chans[ch] with nextCs := none }) ∧
     (∀ ch : ChanId, ch.val ∉ accordChans c → t.chans[ch] = s.chans[ch]) ∧ t.sealed = s.sealed ∧ ∀ i : RailId, i ≠ r →
     { t.rails[i] with sil := {} } = { s.rails[i] with sil := {} }) ∧
  (∀ s (p : PortId) k, portSpeaks s p .vcmd1 = true →
     Becomes (.vcmd1LinkError p k) s { onPort p (fun x => { x with frames := (if k = .rate then x.frames else x.frames + 1), linkErr := true, linkCause := causeCode k, errCnt := min 255 (x.errCnt + 1) }) s with resp := .none }) ∧
  (∀ s (p : PortId) f o, portSpeaks s p .vcmd1 = true → f.getLsbD 15 = true → f.getLsbD 14 = false →
     v1parOk f = false →
     Becomes (.setVid p f o) s { onPort p (fun x => { x with busyTo := s.now + Config.slotTicks false, frames := x.frames + 1, lastAck := 7, linkErr := true, linkCause := 1, errCnt := min 255 (x.errCnt + 1) }) s with resp := .vcmd1 (v1resp .badCrc 0) }) ∧
  (∀ s (p : PortId) f o, portSpeaks s p .vcmd1 = true → f.getLsbD 15 = true → f.getLsbD 14 = false →
     v1parOk f = true → ownedRail s p (v1rail f) = none →
     Becomes (.setVid p f o) s { onPort p (fun x => { x with busyTo := s.now + Config.slotTicks false, frames := x.frames + 1, lastAck := 6 }) s with resp := .vcmd1 (v1resp .badRail 0) }) ∧
  (∀ s (p : PortId) f o (r : RailId) c, portSpeaks s p .vcmd1 = true → f.getLsbD 15 = true → f.getLsbD 14 = false →
     v1parOk f = true → v1op f = 0 → ownedRail s p (v1rail f) = some (r, c) →
     legalTarget c (portStep s p) (v1data f) = none →
     Becomes (.setVid p f o) s { onPort p (fun x => { x with busyTo := s.now + Config.slotTicks false, frames := x.frames + 1, lastAck := 6 }) s with resp := .vcmd1 (v1resp .badData 0) }) ∧
  (∀ s (p : PortId) f o (r : RailId) c v, portSpeaks s p .vcmd1 = true → f.getLsbD 15 = true → f.getLsbD 14 = false →
     v1parOk f = true → v1op f = 0 → ownedRail s p (v1rail f) = some (r, c) →
     legalTarget c (portStep s p) (v1data f) = some v → railState s.rails[r] ≠ 2 →
     Becomes (.setVid p f o) s { onPort p (fun x => { x with busyTo := s.now + Config.slotTicks false, frames := x.frames + 1, lastAck := 5, rej := true, rejCnt := min 255 (x.rejCnt + 1) }) s with resp := .vcmd1 (v1resp .rejectState 0) }) ∧
  (∀ s (p : PortId) sel d (r : RailId) c, portSpeaks s p .avs = true → avsRails s p sel = [(r, c)] →
     s.ports[p].hold = [] → (legalTarget c 0 (avsTarget d.toNat)).isSome = true → railState s.rails[r] = 2 →
     raiseFrozen s = false → hostNow s s.rails[r] = false → Gives (.avsVoltageWrite p sel d false) s fun t =>
     t.rails[r].pos.target = BitVec.ofNat 16 (avsTarget d.toNat) ∧ t.rails[r].pos.src = 2 ∧ t.ports[p].lastAck = 0 ∧
     t.ports[p].accepted = (s.ports[p].accepted + 1) % 65536 ∧ t.ports[p].avsResp.map (·.1) = some 0 ∧
     t.ports[p].avsOut = 0 ∧
     t.resp = (match s.ports[p].avsResp with | some (k, w, st) => .avs k w st | none => .none) ∧
     t.rails[r].seq = s.rails[r].seq ∧ t.chans = s.chans ∧ t.sealed = s.sealed ∧ ∀ i : RailId, i ≠ r →
     { t.rails[i] with sil := {} } = { s.rails[i] with sil := {} }) ∧
  (∀ s (p : PortId) sel d o (r : RailId) c, portSpeaks s p .avs = true → avsRails s p sel = [(r, c)] →
     (legalTarget c 0 (avsTarget d.toNat)).isSome = true → railState s.rails[r] ≠ 2 →
     Gives (.avsVoltageWrite p sel d o) s fun t =>
     (∀ i : RailId, { t.rails[i] with sil := {} } = { s.rails[i] with sil := {} }) ∧ t.ports[p].lastAck = 2 ∧
     t.ports[p].rej = true ∧ t.ports[p].avsOut = 1 ∧ t.ports[p].avsResp.map (·.1) = some 2 ∧ t.sealed = s.sealed) ∧
  (∀ s (p : PortId) sel d rc, portSpeaks s p .avs = true → avsRails s p sel = [rc] →
     (legalTarget rc.2 0 (avsTarget d.toNat)).isSome = true → Gives (.avsWriteHold p 0 sel d) s fun t =>
     t.ports[p].hold = s.ports[p].hold.filter (fun h => !(h.1 == 0 && h.2.1 == sel)) ++ [(0, sel, d)] ∧
     t.ports[p].lastAck = 0 ∧ t.ports[p].avsResp.map (·.1) = some 0 ∧
     (∀ i : RailId, { t.rails[i] with sil := {} } = { s.rails[i] with sil := {} }) ∧
     t.resp = (match s.ports[p].avsResp with | some (k, w, st) => .avs k w st | none => .none) ∧ t.sealed = s.sealed ∧
     t.chans = s.chans) ∧
  (∀ s (p : PortId) sel (r : RailId) c, portSpeaks s p .avs = true → avsRails s p sel = [(r, c)] →
     Becomes (.avsVoltageRead p sel) s { onPort p (fun x => { x with lastAck := 0, accepted := (x.accepted + 1) % 65536, avsOut := 0, busyTo := s.now + Config.avsTicks, frames := x.frames + 1, avsResp := some (0, BitVec.ofNat 16 (avsMv s.rails[r].pos.target.toNat), avsStatus s p sel .ok) }) s with resp := (match s.ports[p].avsResp with | some (k, w, st) => .avs k w st | none => .none) }) ∧
  (∀ s (p : PortId) sel (b : Byte) (r : RailId) c, portSpeaks s p .avs = true → avsRails s p sel = [(r, c)] →
     s.ports[p].hold = [] → 1 ≤ b.toNat → b.toNat ≤ 80 → Gives (.avsTransRateWrite p sel (b ++ b)) s fun t =>
     t.rails[r].pos.slew = BitVec.ofNat 9 (4 * b.toNat) ∧ t.rails[r].pos.target = s.rails[r].pos.target ∧
     t.ports[p].lastAck = 0 ∧ t.ports[p].avsResp.map (·.1) = some 0 ∧ t.rails[r].seq = s.rails[r].seq ∧
     t.chans = s.chans ∧ t.sealed = s.sealed ∧ ∀ i : RailId, i ≠ r →
     { t.rails[i] with sil := {} } = { s.rails[i] with sil := {} }) ∧
  (∀ s (p : PortId) sel (d : BitVec 16) (r : RailId) c, portSpeaks s p .avs = true → avsRails s p sel = [(r, c)] →
     d.toNat / 256 ≠ d.toNat % 256 ∨ d.toNat % 256 = 0 ∨ 80 < d.toNat % 256 →
     Gives (.avsTransRateWrite p sel d) s fun t =>
     (∀ i : RailId, { t.rails[i] with sil := {} } = { s.rails[i] with sil := {} }) ∧ t.ports[p].lastAck = 2 ∧
     t.ports[p].avsResp.map (·.1) = some 2 ∧ t.ports[p].accepted = s.ports[p].accepted ∧
     t.ports[p].hold = s.ports[p].hold ∧ t.chans = s.chans ∧ t.sealed = s.sealed) ∧
  (∀ s (p : PortId) sel (r : RailId) c, portSpeaks s p .avs = true → avsRails s p sel = [(r, c)] →
     Becomes (.avsTransRateRead p sel) s { onPort p (fun x => { x with lastAck := 0, accepted := (x.accepted + 1) % 65536, avsOut := 0, busyTo := s.now + Config.avsTicks, frames := x.frames + 1, avsResp := some (0, BitVec.ofNat 16 (s.rails[r].pos.slew.toNat / 4 * 257), avsStatus s p sel .ok) }) s with resp := (match s.ports[p].avsResp with | some (k, w, st) => .avs k w st | none => .none) }) ∧
  (∀ s (p : PortId) sel (r : RailId) c, portSpeaks s p .avs = true → avsRails s p sel = [(r, c)] →
     s.ports[p].hold = [] → railState s.rails[r] = 2 → raiseFrozen s = false → hostNow s s.rails[r] = false →
     Gives (.resetVoltage p sel false) s fun t => t.rails[r].pos.target = BitVec.ofNat 16 c.eng.vboot ∧
     t.rails[r].pos.src = 2 ∧ t.ports[p].lastAck = 0 ∧ t.ports[p].avsResp.map (·.1) = some 0 ∧
     t.rails[r].seq = s.rails[r].seq ∧ t.chans = s.chans ∧ t.sealed = s.sealed ∧ ∀ i : RailId, i ≠ r →
     { t.rails[i] with sil := {} } = { s.rails[i] with sil := {} }) ∧
  (∀ s (p : PortId) sel, portSpeaks s p .avs = true → avsRails s p sel ≠ [] →
     Becomes (.avsStatusRead p sel) s { onPort p (fun x => { x with lastAck := 0, accepted := (x.accepted + 1) % 65536, avsOut := 0, busyTo := s.now + Config.avsTicks, frames := x.frames + 1, avsResp := some (0, BitVec.ofNat 16 ((avsStatus s p sel .ok).toNat * 2048), avsStatus s p sel .ok) }) s with resp := (match s.ports[p].avsResp with | some (k, w, st) => .avs k w st | none => .none) }) ∧
  (∀ s (p : PortId) sel d, portSpeaks s p .avs = true → avsRails s p sel ≠ [] → s.ports[p].hold = [] →
     2048 ≤ d.toNat → Gives (.avsStatusWrite p sel d) s fun t => t.ports[p].alert = false ∧ t.ports[p].lastAck = 0 ∧
     t.ports[p].avsResp.map (·.1) = some 0 ∧ t.ports[p].accepted = (s.ports[p].accepted + 1) % 65536 ∧
     (∀ i : RailId, { t.rails[i] with sil := {} } = { s.rails[i] with sil := {} }) ∧ t.sealed = s.sealed ∧
     t.chans = s.chans) ∧
  (∀ s (p : PortId) sel, portSpeaks s p .avs = true → avsRails s p sel ≠ [] →
     Becomes (.avsVersionRead p sel) s { onPort p (fun x => { x with lastAck := 0, accepted := (x.accepted + 1) % 65536, avsOut := 0, busyTo := s.now + Config.avsTicks, frames := x.frames + 1, avsResp := some (0, Config.avsVersion, avsStatus s p sel .ok) }) s with resp := (match s.ports[p].avsResp with | some (k, w, st) => .avs k w st | none => .none) }) ∧
  (∀ s (p : PortId) sel, portSpeaks s p .avs = true → Gives (.avsNoAction p sel .crc) s fun t =>
     t.ports[p].lastAck = 3 ∧ t.ports[p].linkErr = true ∧ t.ports[p].linkCause = 1 ∧
     t.ports[p].errCnt = min 255 (s.ports[p].errCnt + 1) ∧ t.ports[p].avsResp.map (·.1) = some 3 ∧
     t.ports[p].accepted = s.ports[p].accepted ∧
     (∀ i : RailId, { t.rails[i] with sil := {} } = { s.rails[i] with sil := {} }) ∧ t.sealed = s.sealed ∧
     t.chans = s.chans)

/-- REGISTER_WRITE, SMBUS_TIMEOUT, ALERT_RESPONSE, PMBUS_UNSUPPORTED (R11, R12, R302, R383, R385, R389): an
unoccupied address takes a write as ACCERR alone, on every interface; an enable register takes the bits of its group
and leaves every other enable; the time-out sets SMBTO; a write of ones to GLB_STATUS clears its bits, but not one
raised in the same core cycle (R432; log entry 8); the alert response gives the address while ALERT_N is low, in I3C
mode too (log entry 22); an unsupported code is refused and counted. Model choices: log entries 3, 8, 22, 45. -/
def Obligations.HostRegisters : Prop :=
  (∀ s i a w, hostUp s = true → s.pwr.softReq = false → factoryHit s a = false → regVal i s a = none →
     Becomes (.registerWrite i a w) s { s with glb := { s.glb with accErr := true } }) ∧
  (∀ s i w pg b n m k, hostUp s = true → s.pwr.softReq = false →
     (pg, b, n, m) ∈ [(0x60, 0, 12, 16), (0x6C, 192, 12, 8), (0x61, 288, 4, 16), (0x6D, 352, 4, 8), (0x62, 384, 12, 1), (0x63, 396, 2, 8), (0x6A, 412, 3, 1), (0x64, 415, 5, 1), (0x65, 420, 6, 1), (0x66, 426, 6, 1), (0x67, 432, 4, 1), (0x68, 436, 5, 1), (0x69, 441, 5, 1), (0x6B, 446, 2, 1)] →
     k < m → Gives (.registerWrite i (BitVec.ofNat 16 (256 * pg + 16 * k)) w) s fun t =>
     (∀ x : Fin 448, t.irqEn.getLsbD x.val = if b + n * k ≤ x.val ∧
     x.val < b + n * (k + 1) then w.getLsbD (x.val - (b + n * k)) else s.irqEn.getLsbD x.val) ∧
     t.rails.map (fun x => x.seq) = s.rails.map (fun x => x.seq) ∧ t.sealed = s.sealed ∧ t.chans = s.chans ∧
     t.flash = s.flash) ∧
  (∀ s i w, hostUp s = true → s.pwr.softReq = false → s.raised.at_ ≠ cycle s ∨ s.raised.bits = [] →
     Becomes (.registerWrite i 0x0010#16 w) s
     { s with glb := { s.glb with pllLock := s.glb.pllLock && !bitw w 31, dllLock := s.glb.dllLock && !bitw w 30, dpwmClk := s.glb.dpwmClk && !bitw w 29, vddBo := s.glb.vddBo && !bitw w 28, vddaBo := s.glb.vddaBo && !bitw w 27, cfgUnc := s.glb.cfgUnc && !bitw w 26, cfgCor := s.glb.cfgCor && !bitw w 25, refFb := s.glb.refFb && !bitw w 24, slowClk := s.glb.slowClk && !bitw w 23, wdRst := s.glb.wdRst && !bitw w 22, accErr := s.glb.accErr && !bitw w 21, sealWr := s.glb.sealWr && !bitw w 20 } }) ∧
  (∀ s i w, hostUp s = true → s.pwr.softReq = false → s.raised.at_ = cycle s → s.raised.bits = [384] →
     Gives (.registerWrite i 0x0010#16 w) s fun t => t.glb.pllLock = s.glb.pllLock ∧
     t.glb.dllLock = (s.glb.dllLock && !bitw w 30) ∧ t.glb.accErr = (s.glb.accErr && !bitw w 21) ∧
     t.sealed = s.sealed ∧ t.chans = s.chans) ∧
  (∀ s i w, hostUp s = true → s.pwr.softReq = false → Becomes (.registerWrite i 0x0000#16 w) s s) ∧
  (∀ s, hostUp s = true → Becomes .smbusTimeout s { s with hif := { s.hif with smbTo := true } }) ∧
  (∀ s, hostUp s = true → alertLow s = true → Becomes .alertResponse s
     { s with resp := .word (BitVec.ofNat 32 (smbAddr s)) }) ∧
  (∀ s, alertLow s = false → Becomes .alertResponse s { s with resp := .nack }) ∧
  (∀ s (k : Byte), smbUp s = true → knownCodes.contains k.toNat = false → Becomes (.pmbusUnsupported k) s
     { s with resp := .nack, hif := { s.hif with cmlBad := true, cmlErr := true, cmlCnt := min 255 (s.hif.cmlCnt + 1) } })

/-- ON_OFF_CONFIG, CAPABILITY, VOUT_MODE, VOUT_MAX, VOUT_MIN, VOUT_OV_FAULT_LIMIT, VOUT_UV_FAULT_LIMIT,
IOUT_OC_FAULT_LIMIT, READ_VOUT, READ_IOUT, READ_TEMPERATURE_1, READ_TEMPERATURE_2, PMBUS_REVISION, MFR_ID,
MFR_MODEL, MFR_REVISION, IC_DEVICE_ID, IC_DEVICE_REV (R387 to R391, R427): each read returns its bytes, least
significant first, of the rail that PAGE selects, and changes nothing. Model choices: log entries 3, 6, 22. -/
def Obligations.PmbusReads : Prop :=
  (∀ s (r : RailId) c, smbUp s = true → s.hif.page = BitVec.ofNat 8 r.val → railCfg s r = some c →
     Becomes .onOffConfig s (answered 0x02 (natLe 1 (0x18)) s)) ∧
  (∀ s (r : RailId) c, smbUp s = true → s.hif.page = BitVec.ofNat 8 r.val → railCfg s r = some c →
     Becomes .voutMode s (answered 0x20 (natLe 1 (0x14)) s)) ∧
  (∀ s (r : RailId) c, smbUp s = true → s.hif.page = BitVec.ofNat 8 r.val → railCfg s r = some c →
     Becomes .voutMax s (answered 0x24 (natLe 2 (toLinear16 c.eng.vmax)) s)) ∧
  (∀ s (r : RailId) c, smbUp s = true → s.hif.page = BitVec.ofNat 8 r.val → railCfg s r = some c →
     Becomes .voutMin s (answered 0x2B (natLe 2 (toLinear16 c.eng.vmin)) s)) ∧
  (∀ s (r : RailId) c, smbUp s = true → s.hif.page = BitVec.ofNat 8 r.val → railCfg s r = some c →
     Becomes .voutOvFaultLimit s (answered 0x40 (natLe 2 (toLinear16 (outLevel c (ovSetting c s s.rails[r])))) s)) ∧
  (∀ s (r : RailId) c, smbUp s = true → s.hif.page = BitVec.ofNat 8 r.val → railCfg s r = some c →
     Becomes .voutUvFaultLimit s (answered 0x44 (natLe 2 (toLinear16 (outLevel c (uvSetting c s s.rails[r])))) s)) ∧
  (∀ s (r : RailId) c, smbUp s = true → s.hif.page = BitVec.ofNat 8 r.val → railCfg s r = some c →
     Becomes .ioutOcFaultLimit s (answered 0x46 (natLe 2 (toLinear11 (-3) (ilimEff c s.rails[r] : Nat))) s)) ∧
  (∀ s (r : RailId) c, smbUp s = true → s.hif.page = BitVec.ofNat 8 r.val → railCfg s r = some c →
     Becomes .readVout s (answered 0x8B (natLe 2 (tvout s.rails[r])) s)) ∧
  (∀ s (r : RailId) c, smbUp s = true → s.hif.page = BitVec.ofNat 8 r.val → railCfg s r = some c →
     Becomes .readIout s (answered 0x8C (natLe 2 (toLinear11 (-3) (tiout s.rails[r]))) s)) ∧
  (∀ s (r : RailId) c, smbUp s = true → s.hif.page = BitVec.ofNat 8 r.val → railCfg s r = some c →
     Becomes .readTemperature2 s (answered 0x8E (natLe 2 (toLinear11 (-3) (stageHot s c s.rails[r]))) s)) ∧
  (∀ s, smbUp s = true → Becomes .capability s (answered 0x19 (natLe 1 (0xD0)) s)) ∧
  (∀ s, smbUp s = true → Becomes .readTemperature1 s (answered 0x8D (natLe 2 (toLinear11 (-3) s.thm.tj)) s)) ∧
  (∀ s, smbUp s = true → Becomes .pmbusRevision s (answered 0x98 (natLe 1 (0x44)) s)) ∧
  (∀ s, smbUp s = true → Becomes .mfrId s (answered 0x99 [0x06#8, 0x54#8, 0x57#8, 0x49#8, 0x52#8, 0x55#8, 0x4D#8] s)) ∧
  (∀ s, smbUp s = true →
     Becomes .mfrModel s (answered 0x9A [0x06#8, 0x58#8, 0x56#8, 0x36#8, 0x31#8, 0x39#8, 0x32#8] s)) ∧
  (∀ s, smbUp s = true → Becomes .mfrRevision s (answered 0x9B (0x02#8 :: ((leBytes Config.rev).drop 2).reverse) s)) ∧
  (∀ s, smbUp s = true → Becomes .icDeviceId s (answered 0xAD [0x04#8, 0x92#8, 0x61#8, 0x00#8, 0x00#8] s)) ∧
  (∀ s, smbUp s = true → Becomes .icDeviceRev s (answered 0xAE (0x01#8 :: (leBytes Config.rev).take 1) s))

/-- STATUS_BYTE, STATUS_WORD, STATUS_VOUT, STATUS_IOUT, STATUS_TEMPERATURE, STATUS_CML, STATUS_MFR_SPECIFIC,
CLEAR_FAULTS (R388 to R390): each status read returns the bits of R390 for the rail that PAGE selects; with PAGE
0xFF each of these reads returns 0xFF bytes and is invalid data; CLEAR_FAULTS clears every class C W1C bit of that
rail's page and GLB_STATUS bits 25 to 20 and touches no other rail, with PAGE 0xFF it does so on every configured
rail; its second hypothesis excludes a bit raised in the same core cycle, which R432 keeps. Model choices: log
entries 3, 8, 22. -/
def Obligations.PmbusStatus : Prop :=
  (∀ s (r : RailId) c, smbUp s = true → s.hif.page = BitVec.ofNat 8 r.val → railCfg s r = some c →
     Becomes .statusByte s (answered 0x78 (natLe 1 (bitf 6 (railState s.rails[r] != 2) + bitf 5 s.rails[r].prot.ovFlt + bitf 4 s.rails[r].trip.tripLat + bitf 2 s.thm.tshut + bitf 1 (cmlByte s != 0) + bitf 0 (railOther s.rails[r]))) s)) ∧
  (∀ s (r : RailId) c, smbUp s = true → s.hif.page = BitVec.ofNat 8 r.val → railCfg s r = some c →
     Becomes .statusWord s (answered 0x79 (natLe 2 (statByte s r + bitf 11 (!s.rails[r].seq.pgPin) + bitf 12 (telMacer s r))) s)) ∧
  (∀ s (r : RailId) c, smbUp s = true → s.hif.page = BitVec.ofNat 8 r.val → railCfg s r = some c →
     Becomes .statusVout s (answered 0x7A (natLe 1 (bitf 7 s.rails[r].prot.ovFlt + bitf 4 s.rails[r].prot.uvFlt)) s)) ∧
  (∀ s (r : RailId) c, smbUp s = true → s.hif.page = BitVec.ofNat 8 r.val → railCfg s r = some c →
     Becomes .statusIout s (answered 0x7B (natLe 1 (bitf 7 s.rails[r].trip.tripLat + bitf 5 s.rails[r].eng.clampI)) s)) ∧
  (∀ s (r : RailId) c, smbUp s = true → s.hif.page = BitVec.ofNat 8 r.val → railCfg s r = some c →
     Becomes .statusTemperature s (answered 0x7D (natLe 1 (bitf 7 s.thm.tshut + bitf 6 s.rails[r].lim.throttled)) s)) ∧
  (∀ s (r : RailId) c, smbUp s = true → s.hif.page = BitVec.ofNat 8 r.val → railCfg s r = some c →
     Becomes .statusMfrSpecific s (answered 0x80 (natLe 1 (statMfr s r c)) s)) ∧
  (∀ s, smbUp s = true →
     Becomes .statusCml s (answered 0x7E (natLe 1 (bitf 7 s.hif.cmlBad + bitf 6 s.hif.cmlData + bitf 5 s.hif.cmlPec)) s)) ∧
  (∀ s, smbUp s = true → s.hif.page = 0xFF#8 →
     Becomes .statusWord s { answered 0x79 [0xFF#8, 0xFF#8] s with hif := { s.hif with cmlData := true, cmlErr := true, cmlCnt := min 255 (s.hif.cmlCnt + 1) } }) ∧
  (∀ s, smbUp s = true → s.hif.page = 0xFF#8 →
     Becomes .statusByte s { answered 0x78 [0xFF#8] s with hif := { s.hif with cmlData := true, cmlErr := true, cmlCnt := min 255 (s.hif.cmlCnt + 1) } }) ∧
  (∀ s, smbUp s = true → s.hif.page = 0xFF#8 →
     Becomes .statusVout s { answered 0x7A [0xFF#8] s with hif := { s.hif with cmlData := true, cmlErr := true, cmlCnt := min 255 (s.hif.cmlCnt + 1) } }) ∧
  (∀ s, smbUp s = true → s.hif.page = 0xFF#8 →
     Becomes .statusIout s { answered 0x7B [0xFF#8] s with hif := { s.hif with cmlData := true, cmlErr := true, cmlCnt := min 255 (s.hif.cmlCnt + 1) } }) ∧
  (∀ s, smbUp s = true → s.hif.page = 0xFF#8 →
     Becomes .statusTemperature s { answered 0x7D [0xFF#8] s with hif := { s.hif with cmlData := true, cmlErr := true, cmlCnt := min 255 (s.hif.cmlCnt + 1) } }) ∧
  (∀ s, smbUp s = true → s.hif.page = 0xFF#8 →
     Becomes .statusMfrSpecific s { answered 0x80 [0xFF#8] s with hif := { s.hif with cmlData := true, cmlErr := true, cmlCnt := min 255 (s.hif.cmlCnt + 1) } }) ∧
  (∀ s, smbUp s = true → s.hif.page = 0xFF#8 → s.raised.at_ ≠ cycle s ∨ s.raised.bits = [] →
     Gives (.clearFaults .good) s fun t => t.resp = .ack ∧ t.hif.cmlBad = false ∧ t.hif.cmlData = false ∧
     t.hif.cmlPec = false ∧ t.chans = s.chans ∧ t.glb.cfgCor = false ∧ t.glb.refFb = false ∧ t.glb.slowClk = false ∧
     t.glb.wdRst = false ∧ t.glb.accErr = false ∧ t.glb.sealWr = false ∧ t.glb.pllLock = s.glb.pllLock ∧
     t.sealed = s.sealed ∧ (∀ j : RailId, railCfg s j = none →
     { t.rails[j] with sil := {} } = { s.rails[j] with sil := {} }) ∧ ∀ (j : RailId) c, railCfg s j = some c →
     t.rails[j].pos.hrej = false ∧ t.rails[j].seq.seqRej = false ∧ t.rails[j].seq.pgChg = false ∧
     t.rails[j].prot.negLim = false ∧ t.rails[j].prot.clrRej = false ∧ t.rails[j].trip.clrRej = false ∧
     t.rails[j].eng.esat = false ∧ t.rails[j].eng.sndfb = false ∧ t.rails[j].eng.marked = false ∧
     t.rails[j].sh.trimSat = false ∧ t.rails[j].sh.phRej = false ∧ t.rails[j].sh.ofsClip = false ∧
     t.rails[j].sil.rdErr = false ∧ t.rails[j].prot.ovFlt = s.rails[j].prot.ovFlt ∧
     t.rails[j].trip.latched = s.rails[j].trip.latched) ∧
  (∀ s (r : RailId) c, smbUp s = true → s.hif.page = BitVec.ofNat 8 r.val → railCfg s r = some c →
     s.raised.at_ ≠ cycle s ∨ s.raised.bits = [] → Gives (.clearFaults .good) s fun t => t.resp = .ack ∧
     t.hif.cmlBad = false ∧ t.hif.cmlData = false ∧ t.hif.cmlPec = false ∧ t.rails[r].pos.hrej = false ∧
     t.rails[r].seq.seqRej = false ∧ t.rails[r].seq.pgChg = false ∧ t.rails[r].prot.negLim = false ∧
     t.rails[r].prot.clrRej = false ∧ t.rails[r].trip.clrRej = false ∧ t.rails[r].eng.esat = false ∧
     t.rails[r].eng.sndfb = false ∧ t.rails[r].eng.marked = false ∧ t.rails[r].sh.trimSat = false ∧
     t.rails[r].sh.phRej = false ∧ t.rails[r].sh.ofsClip = false ∧ t.rails[r].sil.rdErr = false ∧
     t.rails[r].prot.ovFlt = s.rails[r].prot.ovFlt ∧ t.rails[r].trip.latched = s.rails[r].trip.latched ∧
     t.glb.cfgCor = false ∧ t.glb.refFb = false ∧ t.glb.slowClk = false ∧ t.glb.wdRst = false ∧ t.glb.accErr = false ∧
     t.glb.sealWr = false ∧ t.glb.pllLock = s.glb.pllLock ∧ t.chans = s.chans ∧ t.sealed = s.sealed ∧
     ∀ j : RailId, j ≠ r → { t.rails[j] with sil := {} } = { s.rails[j] with sil := {} })

/-- PAGE, OPERATION, VOUT_COMMAND, VOUT_TRANSITION_RATE, MFR_KA_READ, MFR_STATE_CMD, MFR_REG_ADDR, MFR_REG_DATA,
MFR_TARGET_RAW, KA_READ_WORD, KA_STATE_CMD (R322, R384, R388, R389, R392, R427): each write takes effect on the rail
that PAGE selects, each read returns its value; a bad PEC is refused with PECERR. Model choices: log entries 3, 22,
45. -/
def Obligations.PmbusWrites : Prop :=
  (∀ s (v : Byte), smbUp s = true → v.toNat < 24 ∨ v = 0xFF#8 → Becomes (.page (some v) .good) s
     { s with resp := .ack, hif := { s.hif with page := v } }) ∧
  (∀ s (v : Byte), smbUp s = true → 24 ≤ v.toNat → v ≠ 0xFF#8 → Becomes (.page (some v) .good) s
     { s with resp := .none, hif := { s.hif with cmlData := true, cmlErr := true, cmlCnt := min 255 (s.hif.cmlCnt + 1) } }) ∧
  (∀ s (v : Byte), smbUp s = true → Becomes (.page (some v) .bad) s
     { s with resp := .nack, hif := { s.hif with pecErr := true, pecCnt := min 255 (s.hif.pecCnt + 1), cmlPec := true } }) ∧
  (∀ s p, smbUp s = true → Becomes (.page none p) s (answered 0x00 [s.hif.page] s)) ∧
  (∀ s (r : RailId) c, smbUp s = true → s.hif.page = BitVec.ofNat 8 r.val → railCfg s r = some c →
     railState s.rails[r] = 0 → s.pwr.dev = .run → s.rails[r].seq.discHold = false → s.rails[r].prot.snsP = false →
     s.rails[r].prot.snsN = false → Gives (.operation (some 0x80#8) .good) s fun t => t.resp = .ack ∧
     t.rails[r].seq.st = .start ∧ t.rails[r].seq.smIdx = 0 ∧ t.rails[r].seq.cal = true ∧
     (∀ ch : ChanId, { t.chans[ch] with nextCs := none } = { s.chans[ch] with nextCs := none }) ∧
     (∀ ch : ChanId, ch.val ∉ accordChans c → t.chans[ch] = s.chans[ch]) ∧ t.sealed = s.sealed ∧ ∀ j : RailId, j ≠ r →
     { t.rails[j] with sil := {} } = { s.rails[j] with sil := {} }) ∧
  (∀ s (r : RailId) c (v : Byte) (a : SmAction), smbUp s = true → s.hif.page = BitVec.ofNat 8 r.val →
     railCfg s r = some c → v = 0x00#8 ∨ v = 0x40#8 → railState s.rails[r] = 1 ∨ railState s.rails[r] = 2 →
     c.seq.stop[0]?.map (·.action) = some a → a ≠ .terminalOff → a ≠ .terminalOn → (a = .assertPg →
     s.rails[r].prot.uvRaw = false) → Gives (.operation (some v) .good) s fun t => t.resp = .ack ∧
     t.rails[r].seq.st = .stop ∧ t.rails[r].seq.table = true ∧ t.rails[r].seq.smIdx = 0 ∧
     t.rails[r].seq.acting = true ∧ t.rails[r].prot.uvArm = (a == .assertPg) ∧ t.sealed = s.sealed ∧ t.pwr = s.pwr ∧
     (∀ ch : ChanId, ch.val ∉ accordChans c → t.chans[ch] = s.chans[ch]) ∧ ∀ j : RailId, j ≠ r →
     { t.rails[j] with sil := {} } = { s.rails[j] with sil := {} }) ∧
  (∀ s (r : RailId) c (v : Byte), smbUp s = true → s.hif.page = BitVec.ofNat 8 r.val → railCfg s r = some c →
     v = 0x00#8 ∨ v = 0x40#8 → railState s.rails[r] = 1 ∨ railState s.rails[r] = 2 →
     c.seq.stop[0]?.map (·.action) = some .terminalOff → Gives (.operation (some v) .good) s fun t => t.resp = .ack ∧
     t.rails[r].seq.st = .stopped ∧ t.rails[r].seq.sw = false ∧ t.rails[r].seq.pgPin = false ∧
     t.rails[r].seq.pgArm = false ∧ t.rails[r].prot.ovArm = false ∧ t.rails[r].prot.uvArm = false ∧
     t.sealed = s.sealed ∧ t.pwr = s.pwr ∧ (∀ ch : ChanId, ch.val ∈ accordChans c → t.chans[ch].nextCs = none ∧
     (s.chans[ch].st ≠ .safe → t.chans[ch].out = .off)) ∧ (∀ ch : ChanId, ch.val ∉ accordChans c →
     t.chans[ch] = s.chans[ch]) ∧ ∀ j : RailId, j ≠ r → { t.rails[j] with sil := {} } = { s.rails[j] with sil := {} }) ∧
  (∀ s p (r : RailId) c, smbUp s = true → s.hif.page = BitVec.ofNat 8 r.val → railCfg s r = some c →
     Becomes (.operation none p) s (answered 0x01 [if railState s.rails[r] = 2 then 0x80#8 else 0x00#8] s)) ∧
  (∀ s v (r : RailId) c, smbUp s = true → s.hif.page = BitVec.ofNat 8 r.val → railCfg s r = some c →
     railState s.rails[r] = 2 → raiseFrozen s = false → Gives (.voutCommand (some v) .good) s fun t => t.resp = .ack ∧
     t.rails[r].pos.target = BitVec.ofNat 16 (clampN c.eng.vmin c.eng.vmax (ofLinear16 v.toNat)) ∧
     t.rails[r].pos.src = 1 ∧ t.rails[r].seq = s.rails[r].seq ∧ t.chans = s.chans ∧ t.sealed = s.sealed ∧
     ∀ j : RailId, j ≠ r → { t.rails[j] with sil := {} } = { s.rails[j] with sil := {} }) ∧
  (∀ s p (r : RailId) c, smbUp s = true → s.hif.page = BitVec.ofNat 8 r.val → railCfg s r = some c →
     Becomes (.voutCommand none p) s (answered 0x21 (natLe 2 (toLinear16 s.rails[r].pos.target.toNat)) s)) ∧
  (∀ s v (r : RailId) c, smbUp s = true → s.hif.page = BitVec.ofNat 8 r.val → railCfg s r = some c →
     Becomes (.voutTransitionRate (some v) .good) s { onRail r (fun x => { x with pos := { x.pos with slew := BitVec.ofNat 9 (clampI 1 320 (ofLinear11 (-2) v.toNat)).toNat } }) s with resp := .ack }) ∧
  (∀ s v (r : RailId) c, smbUp s = true → s.hif.page = BitVec.ofNat 8 r.val → railCfg s r = some c →
     railState s.rails[r] = 2 → raiseFrozen s = false → Gives (.mfrTargetRaw (some v) .good) s fun t =>
     t.resp = .ack ∧ t.rails[r].pos.target = BitVec.ofNat 16 (clampN c.eng.vmin c.eng.vmax v.toNat) ∧
     t.rails[r].pos.src = 1 ∧ t.rails[r].seq = s.rails[r].seq ∧ t.chans = s.chans ∧ t.sealed = s.sealed ∧
     ∀ j : RailId, j ≠ r → { t.rails[j] with sil := {} } = { s.rails[j] with sil := {} }) ∧
  (∀ s v, smbUp s = true → Becomes (.mfrRegAddr (some v) .good) s
     { s with resp := .ack, hif := { s.hif with ptrS := v } }) ∧
  (∀ s p, smbUp s = true → factoryHit s s.hif.ptrS = false → regVal .smb s s.hif.ptrS = none →
     s.hif.ptrS.toNat % 256 + 4 ≤ 0xFF →
     Becomes (.mfrRegData none p) s { answered 0xD3 [4#8, 0#8, 0#8, 0#8, 0#8] s with hif := { s.hif with ptrS := s.hif.ptrS + 4 }, glb := { s.glb with accErr := true } }) ∧
  (∀ s p w, smbUp s = true → s.hif.ptrS = 0x0508#16 → regVal .smb s 0x0508#16 = some w →
     Becomes (.mfrRegData none p) s { answered 0xD3 (4#8 :: leBytes w) s with hif := { s.hif with ptrS := 0x050C#16 } }) ∧
  (∀ s, kaServes s = true → Becomes .kaReadWord s (answered 0xD0 (natLe 2 (pwrKa s)) s)) ∧
  (∀ s, kaServes s = true → s.pwr.dev = .standby → s.pwr.tgt = none → Gives (.kaStateCmd 2 .good) s fun t =>
     t.resp = .ack ∧ t.pwr.tgt = some .ready ∧ t.pwr.wake = .supplies ∧ t.ka.wakeSrc = 2 ∧ t.sealed = s.sealed ∧
     t.flash = s.flash) ∧
  (∀ s, kaServes s = false → smbUp s = true → Becomes .mfrKaRead s (answered 0xD0 (natLe 2 (pwrKa s)) s)) ∧
  (∀ s, kaServes s = false → smbUp s = true → s.pwr.dev = .ready → s.pwr.tgt = none → isSealed s = true →
     s.thm.bandSel = false → Becomes (.mfrStateCmd 3 .good) s
     { s with resp := .ack, pwr := { s.pwr with tgt := some .run, runWait := true } })

/-- I3C_PRIVATE_WRITE, I3C_PRIVATE_READ, ENTDAA, RSTDAA, ENEC, DISEC, SETMWL, SETMRL, SETDASA, SETNEWDA, GETMWL,
GETMRL, GETPID, GETBCR, GETDCR, GETSTATUS, GETMXDS, I3C_UNDEFINED_CCC, IBI_DELIVERY, HOT_JOIN_REQUEST (R393 to
R396): private transfers through the pointer, the address commands with DAACHG, the event enables, the lengths and
their limits, the direct reads, a delivered request, and HDR traffic, ignored from ENTHDR to the HDR Exit Pattern.
Model choices: log entries 3, 23, 43. -/
def Obligations.I3cTarget : Prop :=
  (∀ s l, s.hif.hdr = true → Becomes (.i3cPrivateWrite l) s { s with resp := .none }) ∧
  (∀ s, hostUp s = true → Becomes (.i3cUndefinedCcc .entHdr) s
     { s with resp := .none, hif := { s.hif with hdr := true } }) ∧
  (∀ s, hostUp s = true → s.hif.hdr = true → Becomes (.i3cUndefinedCcc .hdrExit) s
     { s with resp := .none, hif := { s.hif with hdr := false } }) ∧
  (∀ s (lo hi : Byte), i3cUp s = true → s.pwr.softReq = false → 2 ≤ s.hif.mwl.toNat →
     Becomes (.i3cPrivateWrite [lo, hi]) s { s with resp := .ack, hif := { s.hif with ptrI := hi ++ lo } }) ∧
  (∀ s (b0 b1 b2 b3 : Byte), i3cUp s = true → s.pwr.softReq = false → 6 ≤ s.hif.mwl.toNat →
     Becomes (.i3cPrivateWrite [0x10, 0x08, b0, b1, b2, b3]) s
     { s with resp := .ack, hif := { s.hif with ptrI := 0x0814#16 }, nl := { s.nl with peerSel := b0.setWidth 6 } }) ∧
  (∀ s w, i3cUp s = true → 4 ≤ s.hif.mrl.toNat → s.hif.ptrI = 0x0508#16 → regVal .i3c s 0x0508#16 = some w →
     Becomes (.i3cPrivateRead 4) s { s with resp := .bytes (leBytes w), hif := { s.hif with ptrI := 0x050C#16 } }) ∧
  (∀ s (a : BitVec 7), i3cOpen s = true → s.hif.dynAddr = none → Becomes (.entdaa a) s
     { s with resp := .bytes (pidBytes s ++ [0x06#8, 0x00#8]), hif := { s.hif with dynAddr := some a, daaChg := true } }) ∧
  (∀ s, i3cOpen s = true → Becomes .rstdaa s
     { s with resp := .ack, hif := { s.hif with dynAddr := none, daaChg := s.hif.daaChg || s.hif.dynAddr.isSome } }) ∧
  (∀ s (a : BitVec 7), i3cOpen s = true → (hostif s).i3csa ≠ 0 → s.hif.dynAddr = none → Becomes (.setdasa a) s
     { s with resp := .ack, hif := { s.hif with dynAddr := some a, daaChg := true } }) ∧
  (∀ s (a : BitVec 7), i3cUp s = true → Becomes (.setnewda a) s
     { s with resp := .ack, hif := { s.hif with dynAddr := some a, daaChg := s.hif.daaChg || s.hif.dynAddr != some a } }) ∧
  (∀ s (e : Byte), i3cOpen s = true → Becomes (.enec e) s
     { s with resp := .ack, hif := { s.hif with intEn := s.hif.intEn || e.getLsbD 0, hjEn := s.hif.hjEn || e.getLsbD 3 } }) ∧
  (∀ s (e : Byte), i3cOpen s = true → e.getLsbD 0 = true → (hostif s).ibiEn = true → (∀ q ∈ s.hif.ibi,
     ∃ n ∈ pendList s, srcGroup n = q) → Gives (.enec e) s fun t =>
     t.hif.ibi = (s.hif.ibi ++ ((pendList s).filter (routeIbi s)).map srcGroup).eraseDups) ∧
  (∀ s (e : Byte), i3cOpen s = true → Becomes (.disec e) s
     { s with resp := .ack, hif := { s.hif with intEn := s.hif.intEn && !e.getLsbD 0, hjEn := s.hif.hjEn && !e.getLsbD 3 } }) ∧
  (∀ s (n : BitVec 16), i3cOpen s = true → 4 ≤ n.toNat → n.toNat ≤ 1024 → Becomes (.setmwl n) s
     { s with resp := .ack, hif := { s.hif with mwl := n } }) ∧
  (∀ s (n : BitVec 16), i3cOpen s = true → 4 ≤ n.toNat → n.toNat ≤ 1024 → Becomes (.setmrl n) s
     { s with resp := .ack, hif := { s.hif with mrl := n } }) ∧
  (∀ s (n : BitVec 16), i3cOpen s = true → n.toNat < 4 → Becomes (.setmrl n) s { s with resp := .ack }) ∧
  (∀ s, i3cUp s = true → Becomes .getmwl s
     { s with resp := .bytes [s.hif.mwl.extractLsb' 8 8, s.hif.mwl.extractLsb' 0 8] }) ∧
  (∀ s, i3cUp s = true → Becomes .getmrl s
     { s with resp := .bytes [s.hif.mrl.extractLsb' 8 8, s.hif.mrl.extractLsb' 0 8, 0x01#8] }) ∧
  (∀ s, i3cUp s = true → Becomes .getpid s { s with resp := .bytes (pidBytes s) }) ∧
  (∀ s, i3cUp s = true → Becomes .getbcr s { s with resp := .bytes [0x06#8] }) ∧
  (∀ s, i3cUp s = true → Becomes .getdcr s { s with resp := .bytes [0x00#8] }) ∧
  (∀ s, i3cUp s = true → Becomes .getstatus s
     { s with resp := .bytes [0x00#8, BitVec.ofNat 8 (min 15 s.hif.ibi.length + bitf 5 s.hif.protErr)], hif := { s.hif with protErr := false } }) ∧
  (∀ s, i3cUp s = true → Becomes .getmxds s { s with resp := .bytes [0x00#8, 0x00#8] }) ∧
  (∀ s, i3cOpen s = true → Becomes (.i3cUndefinedCcc .undefinedDirect) s
     { s with resp := .nack, hif := { s.hif with i3cErr := true, protErr := true } }) ∧
  (∀ s pg g l, i3cUp s = true → s.hif.intEn = true → s.hif.ibiFrom ≤ s.now → s.hif.ibi = (pg, g) :: l →
     Becomes (.ibiDelivery true) s
     { s with resp := .ibi (BitVec.ofNat 8 (pg - 0x60)) (BitVec.ofNat 8 g), hif := { s.hif with ibiCnt := (s.hif.ibiCnt + 1) % 65536 } }) ∧
  (∀ s pg g l, i3cUp s = true → s.hif.intEn = true → s.hif.ibiFrom ≤ s.now → s.hif.ibi = (pg, g) :: l →
     (hostif s).ibiEn = true → (∀ q ∈ l, ∃ n ∈ pendList s, srcGroup n = q) → Gives (.ibiDelivery true) s fun t =>
     t.hif.ibi = l ∧ t.hif.ibiCnt = (s.hif.ibiCnt + 1) % 65536) ∧
  (∀ s, isDue .hotJoinRequest s = true → i3cOpen s = true → s.hif.dynAddr = none → s.hif.hjEn = true →
     (hostif s).hotjoin = true → Becomes .hotJoinRequest s { s with resp := .bytes [0x02#8] })

/-- BYPASS_INSTR, IDCODE, SAMPLE_PRELOAD, EXTEST, CLAMP, HIGHZ, REGACC, HALT, RELEASE, KEYPROG, FTMKEY,
TEST_LOGIC_RESET (R379, R397 to R400): each instruction that the port loads, the pins' condition, the debug halt,
the register access, which is applied at the next core clock edge, with its result one access later, the key slots,
and the factory key. Model choices: log entries 3, 24, 26, 27, 49. -/
def Obligations.TestPort : Prop :=
  (∀ s, hostUp s = true → Becomes .bypassInstr s { s with tap := { s.tap with irOut := some 0x01#8, ir := .bypass } }) ∧
  (∀ s, hostUp s = true → Becomes .idcode s
     { s with resp := .dr 0x06192A5B#49, tap := { s.tap with irOut := some 0x01#8, ir := .idcode } }) ∧
  (∀ s, hostUp s = true → Becomes .samplePreload s
     { s with tap := { s.tap with irOut := some 0x01#8, ir := .sample } }) ∧
  (∀ s, hostUp s = true → pinsFree s = true → Becomes .extest s
     { s with tap := { s.tap with irOut := some 0x01#8, ir := .extest } }) ∧
  (∀ s, hostUp s = true → pinsFree s = false → Becomes .extest s
     { s with tap := { s.tap with irOut := some 0x01#8, ir := .bypass } }) ∧
  (∀ s, hostUp s = true → pinsFree s = true → Becomes .clamp s
     { s with tap := { s.tap with irOut := some 0x01#8, ir := .clamp } }) ∧
  (∀ s, hostUp s = true → pinsFree s = true → Becomes .highz s
     { s with tap := { s.tap with irOut := some 0x01#8, ir := .highz } }) ∧
  (∀ s (dr : BitVec 49), hostUp s = true → isDue (.regacc dr) s = false → Becomes (.regacc dr) s
     { s with resp := .dr s.tap.result, tap := { s.tap with irOut := some 0x01#8, ir := .regacc }, agenda := s.agenda ++ [⟨s.now + (2 - s.now % 2), .regacc dr, false⟩] }) ∧
  (∀ s (a : BitVec 16) (x : Word) w, isDue (.regacc ((0#1 ++ a) ++ x)) s = true → hostUp s = true → a = 0x0508#16 →
     regVal .tap s a = some w → Gives (.regacc ((0#1 ++ a) ++ x)) s fun t => t.tap.result.setWidth 32 = w ∧
     t.tap.result.getLsbD 48 = false ∧ t.tap.ir = s.tap.ir ∧ t.resp = s.resp ∧ t.glb.accErr = s.glb.accErr ∧
     t.hif.ptrS = s.hif.ptrS ∧ t.hif.ptrT = a ∧ t.sealed = s.sealed ∧ t.chans = s.chans) ∧
  (∀ s (x : Word), isDue (.regacc ((1#1 ++ 0x0A00#16) ++ x)) s = true → hostUp s = true → s.pwr.softReq = false →
     s.glb.accErr = false → Gives (.regacc ((1#1 ++ 0x0A00#16) ++ x)) s fun t => t.tap.result.getLsbD 48 = false ∧
     t.glb.accErr = true ∧ t.tap.ir = s.tap.ir ∧ t.resp = s.resp ∧ t.hif.ptrT = 0x0A00#16 ∧ t.sealed = s.sealed ∧
     t.chans = s.chans) ∧
  (∀ s, hostUp s = true → Becomes .halt s
     { s with tap := { s.tap with irOut := some 0x01#8, ir := .halt, halted := true } }) ∧
  (∀ s, hostUp s = true → Becomes .release s
     { s with tap := { s.tap with irOut := some 0x01#8, ir := .release, halted := false }, tmr := { s.tmr with slowMode := false } }) ∧
  (∀ s (i : BitVec 2) (k : BitVec 128), hostUp s = true → isSealed s = false → s.otp.keys.getD i.toNat none = none →
     Becomes (.keyprog (i ++ k)) s
     { s with tap := { s.tap with irOut := some 0x01#8, ir := .keyprog }, otp := { s.otp with keys := modAt s.otp.keys i.toNat (fun _ => some k) } }) ∧
  (∀ s d, hostUp s = true → isSealed s = true → Becomes (.keyprog d) s
     { s with tap := { s.tap with irOut := some 0x01#8, ir := .keyprog } }) ∧
  (∀ s, hostUp s = true → s.tap.ftmBlocked = false → isSealed s = false → Becomes (.ftmkey true Config.deviceKey) s
     { s with tap := { s.tap with irOut := some 0x01#8, ir := .ftmkey, ftm := true } }) ∧
  (∀ s, hostUp s = true → s.tap.ftmBlocked = false → isSealed s = true →
     Gives (.ftmkey true Config.deviceKey) s fun t =>
     t.tap = { s.tap with irOut := some 0x01#8, ir := .ftmkey, ftm := true } ∧ t.sealed = s.sealed ∧ t.pwr = s.pwr ∧
     t.flash = s.flash ∧ (∀ rc ∈ configured s, ∀ ch : ChanId, ch.val ∈ accordChans rc.2 → t.chans[ch].st = .safe ∧
     t.chans[ch].out = .safe) ∧ ∀ ch : ChanId, (∀ rc ∈ configured s, ch.val ∉ accordChans rc.2) →
     t.chans[ch] = s.chans[ch]) ∧
  (∀ s b k, hostUp s = true → s.tap.ftmBlocked = false → k ≠ Config.deviceKey → Becomes (.ftmkey b k) s
     { s with tap := { s.tap with irOut := some 0x01#8, ir := .ftmkey, ftmBlocked := true } }) ∧
  (∀ s, s.tap.halted = false → Becomes .testLogicReset s
     { s with tap := { s.tap with ir := .idcode, halted := false } })

/-- CLAIM, YIELD, TIMEBASE, HELLO, LEAVE, NL_BAD_FRAME, NL_LISTEN_END, NL_HELLO_TIMER, NL_PEER_TIMEOUT, MLOST,
RENEGOTIATE, SYNC_IN_PULSE (R403 to R410, R414): a claim or a time base of another controller is followed; a
duplicate CHAINID runs free and sends no more; a peer comes and goes with its HELLO; the loss or the leave of the
master starts a new negotiation; a sync pulse corrects bank 0. Model choices: log entries 3, 38. -/
def Obligations.NelinkFrames : Prop :=
  (∀ s (id : BitVec 6) pl, nlHears s = true → bits pl 16 16 = 0x6192 → bits pl 0 14 = 0 → id.toNat ≠ chainId s →
     s.nl.mute = false → s.nl.role ≠ .follower → Gives (.claim id pl false) s fun t => t.nl.role = .follower ∧
     t.nl.masterId = id ∧ t.nl.roleChg = true ∧ t.nl.listening = false ∧ t.nl.peers = s.nl.peers ∧ t.banks = s.banks ∧
     t.chans = s.chans ∧ t.sealed = s.sealed) ∧
  (∀ s (id : BitVec 6) pl b, nlHears s = true → bits pl 16 16 = 0x6192 → bits pl 0 14 = 0 → id.toNat = chainId s →
     Gives (.claim id pl b) s fun t => t.nl.role = .free ∧ t.nl.dupId = true ∧ t.nl.mute = true ∧ t.nl.masterId = 0 ∧
     t.nl.txq = s.nl.txq ∧ t.nl.lostArb = (if b then min 255 (s.nl.lostArb + 1) else s.nl.lostArb) ∧
     t.banks = s.banks ∧ t.sealed = s.sealed) ∧
  (∀ s (id : BitVec 6), nlHears s = true → s.nl.role = .follower → s.nl.masterId = id → s.nl.mute = false →
     Gives (.yield id 0 false) s fun t => t.nl.role = .listening ∧ t.nl.listening = true ∧ t.nl.roleChg = true ∧
     t.nl.masterId = 0 ∧ t.nl.peers = s.nl.peers ∧ t.banks = s.banks ∧ t.sealed = s.sealed) ∧
  (∀ s (id : BitVec 6) (h : BitVec 20), nlHears s = true → id.toNat ≠ chainId s → s.nl.mute = false →
     s.nl.role = .follower → s.nl.masterId = id → Gives (.timebase id (h ++ 0#12) false) s fun t =>
     t.nl.tb = some (h, 16 - pulsesSince ⟨id, 3, h ++ 0#12⟩ s) ∧ t.nl.tbAt = s.now ∧ t.nl.role = .follower ∧
     t.nl.masterId = id ∧ t.nl.roleChg = s.nl.roleChg ∧ t.banks = s.banks ∧ t.sealed = s.sealed) ∧
  (∀ s (id : BitVec 6) pl, nlHears s = true → bits pl 16 16 = 0x6192 → id.toNat ≠ chainId s →
     Gives (.hello id pl false) s fun t => t.nl.peers = putPeer id pl s.nl.peers ∧ t.nl.role = s.nl.role ∧
     t.nl.peerChg = (s.nl.peerChg || !s.nl.peers.any fun p => p.1 == id) ∧ t.banks = s.banks ∧ t.sealed = s.sealed ∧
     t.chans = s.chans) ∧
  (∀ s (id : BitVec 6), nlHears s = true → s.nl.role ≠ .follower → Gives (.leave id 0 false) s fun t =>
     t.nl.peers = s.nl.peers.filter (fun p => p.1 != id) ∧
     t.nl.peerChg = (s.nl.peerChg || s.nl.peers.any fun p => p.1 == id) ∧ t.nl.role = s.nl.role ∧ t.banks = s.banks ∧
     t.sealed = s.sealed) ∧
  (∀ s, nlHears s = true → Becomes (.nlBadFrame (.crc false)) s
     { s with nl := { s.nl with nlErr := true, errCause := 1, crcCnt := min 255 (s.nl.crcCnt + 1) } }) ∧
  (∀ s, nlHears s = true → Becomes (.nlBadFrame (.bit false)) s
     { s with nl := { s.nl with nlErr := true, errCause := 2, bitCnt := min 255 (s.nl.bitCnt + 1) } }) ∧
  (∀ s, nlHears s = true → Becomes (.nlBadFrame .noAck) s
     { s with nl := { s.nl with noAck := min 255 (s.nl.noAck + 1) } }) ∧
  (∀ s, nlHears s = true → Becomes (.nlBadFrame (.undefinedType false)) s { s with resp := .ack }) ∧
  (∀ s, nlHears s = true → s.nl.claiming = true → Gives (.nlBadFrame .own) s fun t => t.nl.nlErr = true ∧
     t.nl.errCause = 2 ∧ t.nl.bitCnt = min 255 (s.nl.bitCnt + 1) ∧ t.nl.claiming = true ∧ t.nl.role = s.nl.role ∧
     ⟨s.now + (880 + nlTicks ⟨BitVec.ofNat 6 (chainId s), 1, claimPayload s⟩), .nlListenEnd true, false⟩ ∈ t.agenda ∧
     (∀ d ∈ t.agenda, d.ev = .nlListenEnd true →
     d.at_ = s.now + (880 + nlTicks ⟨BitVec.ofNat 6 (chainId s), 1, claimPayload s⟩)) ∧ t.sealed = s.sealed ∧
     t.chans = s.chans ∧ t.banks = s.banks ∧ t.flash = s.flash) ∧
  (∀ s, nlHears s = true → s.nl.claiming = false → Becomes (.nlBadFrame .own) s
     { s with nl := { s.nl with nlErr := true, errCause := 2, bitCnt := min 255 (s.nl.bitCnt + 1) } }) ∧
  (∀ s b, isDue (.nlListenEnd true) s = true → s.nl.claiming = false → s.nl.listening = true → nlRoleCfg s ≠ 0 →
     s.nl.noClaim = false → s.nl.mute = false → (nelinkCfg s).isSome = true → Gives (.nlListenEnd b) s fun t =>
     t.nl.claiming = true ∧ t.nl.listening = false ∧ t.nl.role = s.nl.role ∧ t.nl.noAck = s.nl.noAck ∧
     t.nl.txq.getLast? = some ⟨BitVec.ofNat 6 (chainId s), 1, claimPayload s⟩ ∧ isArmed (.nlListenEnd true) t = true ∧
     t.nl.peers = s.nl.peers ∧ t.banks = s.banks ∧ t.sealed = s.sealed) ∧
  (∀ s b, isDue (.nlListenEnd true) s = true → s.nl.claiming = true → s.nl.mute = false →
     Gives (.nlListenEnd b) s fun t => t.nl.role = .master ∧ t.nl.claiming = false ∧
     t.nl.masterId = BitVec.ofNat 6 (chainId s) ∧ t.nl.roleChg = (s.nl.roleChg || s.nl.role != .master) ∧
     t.nl.noAck = (if b then s.nl.noAck else min 255 (s.nl.noAck + 1)) ∧ t.nl.peers = s.nl.peers ∧ t.banks = s.banks ∧
     t.sealed = s.sealed) ∧
  (∀ s b, isDue (.nlListenEnd true) s = true → s.nl.claiming = false → s.nl.listening = true → nlRoleCfg s = 0 →
     Gives (.nlListenEnd b) s fun t => t.nl.role = .free ∧ t.nl.listening = false ∧ t.nl.masterId = 0 ∧
     t.nl.peers = s.nl.peers ∧ t.banks = s.banks ∧ t.sealed = s.sealed) ∧
  (∀ s b, isDue (.nlHelloTimer true) s = true → s.nl.mute = false → (nelinkCfg s).isSome = true →
     Gives (.nlHelloTimer b) s fun t => t.nl.txq.getLast? = some ⟨BitVec.ofNat 6 (chainId s), 4, helloWord s⟩ ∧
     t.nl.role = s.nl.role ∧ t.nl.noAck = (if b then s.nl.noAck else min 255 (s.nl.noAck + 1)) ∧
     t.nl.peers = s.nl.peers ∧ t.banks = s.banks ∧ t.sealed = s.sealed) ∧
  (∀ s (id : BitVec 6), isDue (.nlPeerTimeout id) s = true → s.nl.peers.any (fun p => p.1 == id) = true →
     Becomes (.nlPeerTimeout id) s
     { s with nl := { s.nl with peers := s.nl.peers.filter (fun p => p.1 != id), peerChg := true } }) ∧
  (∀ s, islandUp s = true → s.nl.role = .follower → s.nl.mute = false → (nelinkCfg s).isSome = true → Becomes .mlost s
     { s with nl := { s.nl with mlost := true, role := .listening, roleChg := true, masterId := 0, listening := true, claiming := false, tb := none } }) ∧
  (∀ s, hostUp s = true → (nelinkCfg s).isSome = true → s.nl.role = .master → s.nl.mute = false →
     Gives .renegotiate s fun t => t.nl.role = .listening ∧ t.nl.listening = true ∧ t.nl.noClaim = true ∧
     t.nl.roleChg = true ∧ (⟨BitVec.ofNat 6 (chainId s), 2, 0⟩ : NlFrame) ∈ t.nl.txq ∧ t.banks = s.banks ∧
     t.sealed = s.sealed) ∧
  (∀ s, hostUp s = true → s.nl.role ≠ .master → Becomes .renegotiate s { s with nl := { s.nl with cmdRej := true } }) ∧
  (∀ s n, islandUp s = true → nelinkCfg s = some n → s.nl.role = .follower → s.nl.tb = none →
     Becomes .syncInPulse s { onBank 0 (fun k => { k with epoch := k.epoch + BitVec.ofInt 32 (lowCorr k.epoch n.epochofs), syncErr := k.syncErr || decide (1 < (lowCorr k.epoch n.epochofs).natAbs) }) s with nl := { s.nl with lastCorr := BitVec.ofInt 16 (lowCorr s.banks[(0 : Fin 24)].epoch n.epochofs), syncAt := s.now } }) ∧
  (∀ s n, islandUp s = true → nelinkCfg s = some n → n.epochofs = 0 → s.nl.role = .follower →
     pulseNow s.banks[(0 : Fin 24)] = false → Gives .syncInPulse s fun t =>
     t.banks[(0 : Fin 24)].epoch.toNat % 4096 = 0 ∧ isArmed (.syncPulse 0) t = true ∧ t.chans = s.chans ∧
     t.sealed = s.sealed) ∧
  (∀ s, islandUp s = true → (nelinkCfg s).isSome = true → s.nl.role ≠ .follower → Becomes .syncInPulse s
     { s with nl := { s.nl with syncAt := s.now } })

/-- A step takes the command at the front of the queue and answers what its effect on the state with the queue's
rest answers. Model choices: log entry 10. -/
def Obligations.StepRunsTheFrontCommand : Prop :=
  ∀ (c : Instr) (l : List Instr) (s : State), s.pending = c :: l → step s = exec c { s with pending := l }

/-- With an empty queue a step first brings into the queue what has fallen due at the present DPWM tick, and changes
no register; when nothing has fallen due it is one DPWM tick (R27, R93, R99, R335, R361, R364; the step itself is
the model's choice, log entry 1, DESIGN CHOICE): the epochs advance by 1 while the clocks run and not otherwise, a
bank whose epoch reaches a multiple of 4,096 passes its sync pulse, and at each second tick, a core clock edge, an
ungated running timer counts one and the watchdog counts down; a timer that does not run keeps its state, and no
register of a rail, a channel or the image changes, but for compare words of a sample that wait, which take effect
at their core clock edge (R35, R94), and for observed pins (`DrivenPinsReachTheirObservers`); the VDDIO groups are
powered as the board powers them at the new tick (R321, R436; log entry 19); a GOTO OFF of an earlier core cycle is
carried out at a core clock edge (log entries 38, 58). The epochs count from the DLL lock of a wake on. -/
def Obligations.CoreCycle : Prop :=
  (∀ s : State, s.pending = [] → fallen s ≠ [] → ∃ t, step s = .next t ∧ t.pending = fallen s ∧ dueNow t = [] ∧
    SameCore { s with pending := fallen s } t ∧ t.rails = s.rails ∧ t.nvl = s.nvl ∧ t.ports = s.ports ∧ t.hif = s.hif) ∧
  (∀ s : State, s.pending = [] → fallen s = [] → s.pwr.tgt ≠ some .off → wordsWait s = false ∨ (s.now + 1) % 2 = 1 →
    ∃ t, step s = .next t ∧ t.now = s.now + 1 ∧ t.chans = s.chans ∧
    t.sealed = s.sealed ∧ t.img = s.img ∧ t.flash = s.flash ∧ (s.nvl.testRun = false → t.hadc = s.hadc) ∧
    (∀ r : RailId, { t.rails[r] with sil := {}, seq := { t.rails[r].seq with seqIn := false } } =
      { s.rails[r] with sil := {}, seq := { s.rails[r].seq with seqIn := false } }) ∧
    (observedPins s = [] ∨ t.now % 2 = 1 → t.rails = s.rails ∧ (s.nvl.testRun = false → t.agenda = s.agenda) ∧
      ∀ k : TimerId, s.tmr.tmr[k].st ≠ .running → t.tmr.tmr[k] = s.tmr.tmr[k]) ∧
    t.pwr.ioUp = (List.range 4).map (fun g => !Config.vddioAbsent t.now g) ∧
    (∀ b : BankId, t.banks[b] = { s.banks[b] with epoch := s.banks[b].epoch + if dpwmRuns s then 1 else 0 }) ∧
    (∀ b : BankId, clocksRun s = true → t.banks[b].epoch.toNat % 4096 = 0 → .syncPulse b ∈ t.pending) ∧
    (t.now % 2 = 1 → t.tmr = s.tmr ∧ t.pwr = { s.pwr with ioUp := t.pwr.ioUp }) ∧
    (∀ k : TimerId, s.tmr.tmr[k].st = .running → s.tmr.tmr[k].gated = false → clocksRun s = true → coreStopped s = false →
      s.tmr.slowMode = false → t.now % 2 = 0 → t.tmr.tmr[k].count = s.tmr.tmr[k].count + 1 ∧
        (t.tmr.tmr[k].matched = true ↔ s.tmr.tmr[k].count + 1 = max 1 s.tmr.tmr[k].mtch.toNat)) ∧
    (wdogCounts s = true → clocksRun s = true → t.now % 2 = 0 → t.pwr.wdog = s.pwr.wdog - 1 ∧
      (s.pwr.wdog = 1 → .watchdogReset ∈ t.pending))) ∧
  (∀ s : State, s.pending = [] → fallen s = [] → s.pwr.tgt ≠ some .off → clocksRun s = true → (s.now + 1) % 2 = 0 →
    ∃ t, step s = .next t ∧ t.sealed = s.sealed ∧
      ∀ (r : RailId) c, railCfg s r = some c → (∀ n, t.rails[r].eng.wordsDue = some n → s.now + 1 < n) ∧ (∀ n e d, t.rails[r].eng.coriDue = some (n, e, d) → s.now + 1 < n)) ∧
  (∀ (s : State) n, s.pending = [] → fallen s = [] → clocksRun s = true → s.pwr.tgt = some .off → s.pwr.goAt = some n →
    n < (s.now + 1) / 2 → (s.now + 1) % 2 = 0 →
    ∃ t, step s = .next t ∧ t.pwr.dev = .off ∧ t.pwr.tgt = none ∧ t.sealed.img = none ∧ t.irqEn = 0 ∧ t.flash = s.flash ∧ t.otp = s.otp)

/-- A level that the device itself changes at a pin reaches every observer of the pin through the two-stage
synchroniser (R69, R27; how the ticks are counted is the model's choice, log entry 12, DESIGN CHOICE): `lagging s`
lists the pins whose level by the device an observer does not see yet. At a core clock edge such a level is captured
first, and two core cycles after its capture the capture input and the gate input of every timer and the sequencing
input of every rail that observe the pin take it; before that no timer and no rail changes. The step at a core clock
edge is this operation behind the counting of the timers. Nothing else of the block changes but what a captured edge
writes. -/
def Obligations.DrivenPinsReachTheirObservers : Prop :=
  (∀ (s : State) p l, (p, l) ∈ lagging s → syncSince s p + 2 ≤ cycle s →
    (∀ k : TimerId, pinOf s 2 k.val = some p → (syncPins s).tmr.tmr[k].capIn = l) ∧
    (∀ k : TimerId, pinOf s 3 k.val = some p → (syncPins s).tmr.tmr[k].gateIn = l) ∧
    ∀ r : RailId, pinOf s 1 r.val = some p → (syncPins s).rails[r].seq.seqIn = l) ∧
  (∀ (s : State) p l, (p, l) ∈ lagging s → cycle s < syncSince s p + 2 → (p, syncSince s p) ∈ (syncPins s).pins.sync) ∧
  (∀ s : State, (∀ p l, (p, l) ∈ lagging s → cycle s < syncSince s p + 2) →
    (syncPins s).tmr = s.tmr ∧ (syncPins s).rails = s.rails ∧ (syncPins s).fifo = s.fifo) ∧
  (∀ s : State, (syncPins s).chans = s.chans ∧ (syncPins s).banks = s.banks ∧ (syncPins s).ports = s.ports ∧
    (syncPins s).sealed = s.sealed ∧ (syncPins s).pins.low = s.pins.low ∧ (syncPins s).glb = s.glb ∧
    (∀ k : TimerId, (syncPins s).tmr.tmr[k].st = s.tmr.tmr[k].st ∧ (syncPins s).tmr.tmr[k].count = s.tmr.tmr[k].count ∧
      (syncPins s).tmr.tmr[k].out = s.tmr.tmr[k].out) ∧
    ∀ r : RailId, { (syncPins s).rails[r] with seq := { (syncPins s).rails[r].seq with seqIn := false } } =
      { s.rails[r] with seq := { s.rails[r].seq with seqIn := false } }) ∧
  (∀ s v : State, v = { later s with banks := if dpwmRuns s then mapTab (fun _ => epochStep) s.banks else s.banks } →
    s.pending = [] → fallen s = [] → s.pwr.tgt ≠ some .off → clocksRun s = true → coreStopped s = false →
    wordsWait s = false → s.nvl.testRun = false → (s.now + 1) % 2 = 0 →
    ∃ t, step s = .next t ∧ t.pins = (syncPins (coreEdge v)).pins ∧ t.tmr = (syncPins (coreEdge v)).tmr ∧
      t.fifo = (syncPins (coreEdge v)).fifo ∧
      ∀ r : RailId, t.rails[r].seq.seqIn = (syncPins (coreEdge v)).rails[r].seq.seqIn)

/-- What the registers read right after power-on reset (R14; the Reset column of the register tables): the device in
OFF, nothing sealed, every channel without an accord and at its weak bias, and the registers listed, each at the
value of its table. Model choices: log entries 2, 6. -/
def Obligations.ResetValues : Prop :=
  State.reset.pwr.dev = .off ∧ State.reset.sealed.img = none ∧ State.reset.irqEn = 0 ∧ State.reset.pending = [] ∧
  (∀ ch : ChanId, State.reset.chans[ch].st = .noAccord ∧ State.reset.chans[ch].out = .weak) ∧
  (∀ p ∈ [(0x0000#16, 0x00006192#32), (0x0010#16, 0#32), (0x0014#16, 0#32), (0x0100#16, 0x02000002#32), (0x0110#16, 0#32), (0x0118#16, 0x20#32),
      (0x0200#16, 0#32), (0x0204#16, 0x10000000#32), (0x030C#16, 0x04000000#32), (0x0408#16, 0x3E8#32), (0x0504#16, 0x012C0064#32), (0x0700#16, 0#32),
      (0x0708#16, 0x04000400#32), (0x0600#16, 0#32), (0x0624#16, 0#32), (0x0800#16, 0#32), (0x3004#16, 0xFFFFFFFF#32), (0x6000#16, 0#32),
      (0x6B40#16, 0x20000000#32)],
    regVal .smb State.reset p.1 = some p.2) ∧
  (∀ r : RailId, regVal .smb State.reset (BitVec.ofNat 16 (0x1044 + 256 * r.val)) = some 0x0C000000#32 ∧
    regVal .smb State.reset (BitVec.ofNat 16 (0x1090 + 256 * r.val)) = some 0x00000800#32) ∧
  (∀ b : BankId, regVal .smb State.reset (BitVec.ofNat 16 (0x408C + 256 * b.val)) = some 0x00FFFFFF#32 ∧
    regVal .smb State.reset (BitVec.ofNat 16 (0x4090 + 256 * b.val)) = some 0x00FFFFFF#32 ∧
    ∀ j : Fin 8, regVal .smb State.reset (BitVec.ofNat 16 (0x4000 + 256 * b.val + 16 * j.val)) = some 0x3F000000#32 ∧
      regVal .smb State.reset (BitVec.ofNat 16 (0x40A0 + 256 * b.val + 4 * j.val)) = some 0x80000000#32)

/-- Outside factory test mode every command of the table completes, in every state: only an access to page 0xF0 in
factory test mode is refused (R13; the spec does not list that page's registers). Model choices: log entry 45. -/
def Obligations.EveryCommandCompletes : Prop :=
  ∀ (c : Instr) (s : State), s.tap.ftm = false → ∃ t, exec c s = .next t

/-- A command's effect leaves the queue of waiting commands as it is. Model choices: log entry 10. -/
def Obligations.ExecKeepsTheQueue : Prop :=
  ∀ (c : Instr) (s t : State), exec c s = .next t → t.pending = s.pending

/-- The flash after reset is in canonical form: addresses strictly rising, no entry equal to an erased byte. Model
choices: log entry 4. -/
def Obligations.FlashCanonicalAtReset : Prop :=
  Memory.wf State.reset.flash = true

/-- Every step keeps the canonical form of the flash: from every state whose flash is canonical, a step that answers
a next state answers one whose flash is canonical. Model choices: log entry 4. -/
def Obligations.FlashStaysCanonical : Prop :=
  ∀ s t : State, Memory.wf s.flash = true → step s = .next t → Memory.wf t.flash = true

/-- The one-time-programmable controls only grow (R77, R399): from every state, a step leaves every blown fuse,
every revocation and every programmed key as it was, and AUTHREQ too. -/
def Obligations.OtpNeverReverts : Prop :=
  ∀ s t : State, step s = .next t → s.otp.fuses ≤ t.otp.fuses ∧ t.otp.authReq = s.otp.authReq ∧
    (∀ i : Fin 4, s.otp.revoked.getLsbD i.val = true → t.otp.revoked.getLsbD i.val = true) ∧
    (∀ (i : Nat) (k : BitVec 128), s.otp.keys.getD i none = some k → t.otp.keys.getD i none = some k)

/-- A soft reset asked for by PWR_RST acts at the end of the transfer that wrote it (R334): no request is open at
reset, and a step from a state without an open request leaves none. -/
def Obligations.NoTransferStaysOpen : Prop :=
  State.reset.pwr.softReq = false ∧ ∀ s t : State, s.pwr.softReq = false → step s = .next t → t.pwr.softReq = false

/-- The frame of the flash: every command but those that write a slot, write or erase the log, or write a register
leaves every byte of the flash as it was. Model choices: log entry 4. -/
def Obligations.FlashFrame : Prop :=
  ∀ (c : Instr) (s t : State), mayWriteFlash c = false → exec c s = .next t → ∀ a : Nat, flashRead t.flash a = flashRead s.flash a

/-- A command of a load port leaves every rail that the port does not own as it was, apart from its Sillage buffer,
which a routed event source freezes, and every channel outside the accords of the rails it owns; it changes no other
port's counters, and neither the sealed image nor the flash (R26, R184, R217). -/
def Obligations.PortsKeepApart : Prop :=
  ∀ (c : Instr) (p : PortId) (s t : State), portCmd c = some p → exec c s = .next t →
    t.sealed = s.sealed ∧ t.flash = s.flash ∧ t.otp = s.otp ∧ t.irqEn = s.irqEn ∧
    (∀ q : PortId, q ≠ p → t.ports[q].rejCnt = s.ports[q].rejCnt ∧ t.ports[q].errCnt = s.ports[q].errCnt ∧
      t.ports[q].accepted = s.ports[q].accepted ∧ t.ports[q].lastAck = s.ports[q].lastAck) ∧
    (∀ r : RailId, r ∉ ownedRails s p → { t.rails[r] with sil := {} } = { s.rails[r] with sil := {} }) ∧
    ∀ ch : ChanId, (∀ (r : RailId) k, r ∈ ownedRails s p → railCfg s r = some k → ch.val ∉ accordChans k) →
      t.chans[ch] = s.chans[ch]

/-- At the trip of a class F source (PLL or DLL loss of lock, a brown-out of VDD or VDDA, the loss of a DPWM clock,
an uncorrectable error of the configuration in force, TSHUT) every channel of every configured rail takes its safe
level (R112, R297); the device stands in SAFE. Model choices: log entry 12. -/
def Obligations.FatalHoldMakesSafe : Prop :=
  (∀ s, islandUp s = true → fatalArmed s = true → s.glb.latched = false → Gives .pllLossOfLock s fun t =>
     t.pwr.dev = .safe ∧ ∀ rc ∈ configured s, ∀ ch : ChanId, ch.val ∈ accordChans rc.2 → t.chans[ch].st = .safe ∧
     t.chans[ch].out = .safe) ∧
  (∀ s, islandUp s = true → fatalArmed s = true → s.glb.latched = false → Gives .dllLossOfLock s fun t =>
     t.pwr.dev = .safe ∧ ∀ rc ∈ configured s, ∀ ch : ChanId, ch.val ∈ accordChans rc.2 → t.chans[ch].st = .safe ∧
     t.chans[ch].out = .safe) ∧
  (∀ s, islandUp s = true → fatalArmed s = true → s.glb.latched = false → s.pwr.vddBo = false →
     Gives (.vddBrownout true) s fun t => t.pwr.dev = .safe ∧
     ∀ rc ∈ configured s, ∀ ch : ChanId, ch.val ∈ accordChans rc.2 → t.chans[ch].st = .safe ∧ t.chans[ch].out = .safe) ∧
  (∀ s, islandUp s = true → fatalArmed s = true → s.glb.latched = false → s.pwr.dpwmBad = false →
     Gives (.dpwmClockLost true) s fun t => t.pwr.dev = .safe ∧
     ∀ rc ∈ configured s, ∀ ch : ChanId, ch.val ∈ accordChans rc.2 → t.chans[ch].st = .safe ∧ t.chans[ch].out = .safe) ∧
  (∀ s, islandUp s = true → fatalArmed s = true → s.glb.latched = false → s.pwr.vddaBo = false →
     Gives (.vddaBrownout true) s fun t => t.pwr.dev = .safe ∧
     ∀ rc ∈ configured s, ∀ ch : ChanId, ch.val ∈ accordChans rc.2 → t.chans[ch].st = .safe ∧ t.chans[ch].out = .safe) ∧
  (∀ s e, islandUp s = true → fatalArmed s = true → s.glb.latched = false → e.double = true → e.inForce = true →
     Gives (.configScrub [e]) s fun t => t.pwr.dev = .safe ∧
     ∀ rc ∈ configured s, ∀ ch : ChanId, ch.val ∈ accordChans rc.2 → t.chans[ch].st = .safe ∧ t.chans[ch].out = .safe) ∧
  (∀ s c v i e x n m tb, Delivers s c i e x .none → e.chan = 24 + n → Averaged s x (hadcCode c.range v) →
     m = roundDiv (16 * (filtered x (hadcCode c.range v)).sum) (filtered x (hadcCode c.range v)).length →
     tbandCfg s = some tb → s.thm.sens.length = 32 → n < 8 → 1200 * 3072 ≤ 3 * (75 * m - 2400 * 1024) →
     3 * (75 * m - 2400 * 1024) ≤ 1400 * 3072 → (s.thm.sens.getD n {}).shutCnt = 1 → fatalArmed s = true →
     s.glb.latched = false → Gives (.hadcConversionDone v) s fun t => t.pwr.dev = .safe ∧
     ∀ rc ∈ configured s, ∀ ch : ChanId, ch.val ∈ accordChans rc.2 → t.chans[ch].st = .safe ∧ t.chans[ch].out = .safe)

/-- TMR_GSTART (R361, R363): every timer of the mask, all owned and ARMED, is RUNNING at once and the others stay;
at the next core edge each of them that is not gated counts its first tick; when any named timer does not stand
ARMED or is not owned, no timer starts and the refusal is counted; a mask of zero is ignored. Model choices:
`coreEdge` is the model's core edge (log entry 1, DESIGN CHOICE); a timer that another START of the same core edge
has started still stands ARMED (R375 as log entry 8 reads it). -/
def Obligations.TimerGroupStart : Prop :=
  (∀ (s : State) (m : Word), hostUp s = true →
      (∀ k : TimerId, m.getLsbD k.val = true → timerOwned s k = true ∧ s.tmr.tmr[k].st = .armed) →
      Gives (.tmrGstart m) s fun t =>
        (∀ k : TimerId, t.tmr.tmr[k] = if m.getLsbD k.val then { s.tmr.tmr[k] with st := .running, grpAt := some (cycle s) } else s.tmr.tmr[k]) ∧
        t.tmr.rejCnt = s.tmr.rejCnt ∧ t.sealed = s.sealed ∧ t.rails.map (·.seq) = s.rails.map (·.seq) ∧ t.flash = s.flash ∧
        (coreStopped s = false → s.tmr.slowMode = false →
          ∀ k : TimerId, m.getLsbD k.val = true → s.tmr.tmr[k].gated = false → (coreEdge t).tmr.tmr[k].count = s.tmr.tmr[k].count + 1)) ∧
  (∀ (s : State) (m : Word) (k : TimerId), hostUp s = true → m.getLsbD k.val = true →
      timerOwned s k = false ∨ standing (cycle s) s.tmr.tmr[k] ≠ .armed →
      Becomes (.tmrGstart m) s { s with tmr := { s.tmr with rej := true, terr := true, terrAt := terrHit s, rejCnt := min 255 (s.tmr.rejCnt + 1) } }) ∧
  (∀ s : State, hostUp s = true → Becomes (.tmrGstart 0) s s)

/-- Writes to TMR_CFG and TMR_MATCHt (R362): TMR_CFG is taken in IDLE, ARMED and DONE and refused while the timer
runs or is not owned; TMR_MATCHt is taken in every state at once. Model choice: a timer that a START of the present
core edge has started still stands ARMED and takes the write (R375 as log entry 8 reads it; the model's
`runsSince`). -/
def Obligations.TimerRegisterWrites : Prop :=
  (∀ (s : State) (i : Iface) (w : Word), hostUp s = true → timerOwned s (selTimer i s) = true →
      s.tmr.tmr[selTimer i s].st = .idle ∨ s.tmr.tmr[selTimer i s].st = .armed ∨ s.tmr.tmr[selTimer i s].st = .done →
      Becomes (.tmrCfgWrite i w) s (onTimer (selTimer i s) (fun k => { k with
        gated := bitw w 31, glvl := bitw w 30, capen := bitw w 29, cappol := bitw w 28, outinit := bitw w 26
        sact := BitVec.ofNat 2 (bits w 14 2), lact := BitVec.ofNat 2 (bits w 12 2), link := BitVec.ofNat 5 (bits w 0 5) }) s)) ∧
  (∀ (s : State) (i : Iface) (w : Word), hostUp s = true →
      runsSince (cycle s) s.tmr.tmr[selTimer i s] = true ∨ timerOwned s (selTimer i s) = false →
      Becomes (.tmrCfgWrite i w) s { s with tmr := { s.tmr with rej := true, terr := true, terrAt := terrHit s, rejCnt := min 255 (s.tmr.rejCnt + 1) } }) ∧
  (∀ (s : State) (k : TimerId) (w : Word), hostUp s = true →
      Gives (.tmrMatchWrite k w) s fun t => t.tmr.tmr[k].mtch = w ∧ t.tmr.rejCnt = s.tmr.rejCnt ∧ t.tmr.rej = s.tmr.rej ∧
        t.sealed = s.sealed ∧ ∀ j : TimerId, j ≠ k → t.tmr.tmr[j].mtch = s.tmr.tmr[j].mtch)

/-- TFIFOf_LO and TFIFOf_HI (R421): a read of LO returns bits 31:0 of the oldest entry and leaves it; a read of HI
returns bits 63:32 and removes it; an 8-byte read from LO returns one whole entry; an empty FIFO reads 0 from both,
and nothing changes. The clauses on `fifoVoid` and on `lost` are the model's choice (log entry 8, DESIGN CHOICE),
read from R432's order of the accesses of one core cycle: a read comes before the pushes of its core cycle, so a
FIFO that was empty before them reads 0, and an entry that a full FIFO has discarded in this cycle finds room behind
the head that a read removes. -/
def Obligations.TraceFifoReads : Prop :=
  (∀ (s : State) (i : Iface) (f : FifoId) (e : BitVec 64) (l : List (BitVec 64)), s.fifo[f].entries = e :: l →
      fifoVoid s s.fifo[f] = false → (∀ x, s.fifo[f].lost = some x → x.at_ ≠ cycle s) →
      regRead i (BitVec.ofNat 16 (0x40 + 8 * f.val)) s = (e.setWidth 32, s) ∧
      regRead i (BitVec.ofNat 16 (0x44 + 8 * f.val)) s = ((e >>> 32).setWidth 32, onFifo f (fun x => { x with entries := l }) s) ∧
      readBytes i (some (BitVec.ofNat 16 (0x40 + 8 * f.val))) 8 8 s =
        (natLe 8 e.toNat, some (BitVec.ofNat 16 (0x48 + 8 * f.val)), onFifo f (fun x => { x with entries := l }) s)) ∧
  (∀ (s : State) (i : Iface) (f : FifoId) (e : BitVec 64) (l : List (BitVec 64)), s.fifo[f].entries = e :: l → fifoVoid s s.fifo[f] = false →
      regRead i (BitVec.ofNat 16 (0x40 + 8 * f.val)) s = (e.setWidth 32, s) ∧
      (regRead i (BitVec.ofNat 16 (0x44 + 8 * f.val)) s).1 = (e >>> 32).setWidth 32 ∧
      (regRead i (BitVec.ofNat 16 (0x44 + 8 * f.val)) s).2.fifo[f].entries =
        l ++ (s.fifo[f].lost.toList.filter fun x => x.at_ == cycle s).map (·.entry) ∧
      ∀ g : FifoId, g ≠ f → (regRead i (BitVec.ofNat 16 (0x44 + 8 * f.val)) s).2.fifo[g] = s.fifo[g]) ∧
  (∀ (s : State) (i : Iface) (f : FifoId), fifoVoid s s.fifo[f] = true →
      regRead i (BitVec.ofNat 16 (0x40 + 8 * f.val)) s = (0, s) ∧ regRead i (BitVec.ofNat 16 (0x44 + 8 * f.val)) s = (0, s)) ∧
  (∀ (s : State) (i : Iface) (f : FifoId), s.fifo[f].entries = [] →
      regRead i (BitVec.ofNat 16 (0x40 + 8 * f.val)) s = (0, s) ∧ regRead i (BitVec.ofNat 16 (0x44 + 8 * f.val)) s = (0, s)) ∧
  (∀ (s : State) (f : FifoId), hostUp s = true → fifoVoid s s.fifo[f] = false → (∀ x, s.fifo[f].lost = some x → x.at_ ≠ cycle s) → Gives (.tfifoHiRead f) s fun t =>
      t.resp = .word (((s.fifo[f].entries.headD 0) >>> 32).setWidth 32) ∧ t.fifo[f].entries = s.fifo[f].entries.drop 1 ∧
      t.fifo[f].ovf = s.fifo[f].ovf ∧ ∀ g : FifoId, g ≠ f → t.fifo[g] = s.fifo[g])

/-- Host writes to RAIL_TARGET and RAIL_SLEW (R195): in TERMINAL_ON, and unless a raise freeze forbids the saturated
value, TARGET takes the value saturated to VMIN to VMAX; a refused write leaves TARGET and sets HREJ; RAIL_SLEW is
taken in every state. The freeze clauses compare with both the register and its working copy, so they hold whichever
of the two R194's 'TARGET in force' is. -/
def Obligations.HostTargetWrites : Prop :=
  (∀ (s : State) (r : RailId) (c : RailCfg) (w : Word), hostUp s = true → railCfg s r = some c → bitw w 29 = false →
      railState s.rails[r] = 2 →
      raiseFrozen s = false ∨
        clampN c.eng.vmin c.eng.vmax (bits w 0 16) ≤ s.rails[r].pos.target.toNat ∧ clampN c.eng.vmin c.eng.vmax (bits w 0 16) ≤ s.rails[r].pos.tgtW →
      Gives (.railTargetWrite r w) s fun t =>
        t.rails[r].pos.target = BitVec.ofNat 16 (clampN c.eng.vmin c.eng.vmax (bits w 0 16)) ∧
        t.rails[r].pos.hrej = s.rails[r].pos.hrej ∧ t.rails[r].seq = s.rails[r].seq ∧ t.chans = s.chans ∧ t.sealed = s.sealed ∧
        ∀ j : RailId, j ≠ r → { t.rails[j] with sil := {} } = { s.rails[j] with sil := {} }) ∧
  (∀ (s : State) (r : RailId) (c : RailCfg) (w : Word), hostUp s = true → railCfg s r = some c →
      railState s.rails[r] ≠ 2 ∨
        raiseFrozen s = true ∧ s.rails[r].pos.target.toNat < clampN c.eng.vmin c.eng.vmax (bits w 0 16) ∧
          s.rails[r].pos.tgtW < clampN c.eng.vmin c.eng.vmax (bits w 0 16) →
      Becomes (.railTargetWrite r w) s (onRail r (fun x => { x with pos := { x.pos with hrej := true } }) s)) ∧
  (∀ (s : State) (i : Iface) (r : RailId) (c : RailCfg) (w : Word), hostUp s = true → s.pwr.softReq = false → railCfg s r = some c →
      Becomes (.registerWrite i (BitVec.ofNat 16 ((0x10 + r.val) * 256 + 0x64)) w) s
        (onRail r (fun x => { x with pos := { x.pos with slew := BitVec.ofNat 9 (bits w 0 9) } }) s))

/-- The slow clock is lost while the timers run on it (R373): every RUNNING timer is DONE without a match or a match
action, so its counter and its output hold, no DONE bit rises and every other timer stays; TMR_STAT.SLOW of each and
SLOWERR read 1. The second hypothesis leaves out a slow-clock edge with matches at this very instant, which the
model settles under log entry 8. -/
def Obligations.SlowClockLossEndsTimers : Prop :=
  ∀ s : State, s.tmr.slowMode = true → (∀ e, s.tmr.slowWas = some e → e.at_ ≠ s.now) →
    Gives .slowClockLost s fun t =>
      t.tmr.slowErr = true ∧ t.tmr.slowMode = true ∧ t.tmr.done = s.tmr.done ∧ t.tmr.doneMask = s.tmr.doneMask ∧
      t.fifo = s.fifo ∧ t.sealed = s.sealed ∧ t.hadc.req = s.hadc.req ∧
      ∀ k : TimerId,
        (s.tmr.tmr[k].st = .running → t.tmr.tmr[k].st = .done ∧ t.tmr.tmr[k].slow = true ∧
          t.tmr.tmr[k].count = s.tmr.tmr[k].count ∧ t.tmr.tmr[k].out = s.tmr.tmr[k].out) ∧
        (s.tmr.tmr[k].st ≠ .running → t.tmr.tmr[k] = s.tmr.tmr[k])

end
end

