-- ==== Sys2Proof/Laws/Table.lean ====
section
/-! SUPPORT. Laws of the tables: an updated entry, a mapped table, indices. -/

namespace Sys2Proof.Machine

theorem upd_get {α : Type} {n : Nat} (v : Vector α n) (i j : Fin n) (f : α → α) :
    (upd v i f)[j] = if j = i then f v[i] else v[j] := by
  simp only [upd, Fin.getElem_fin, Vector.getElem_set]
  by_cases h : j = i
  · simp [h]
  · simp [h, show ¬ i.val = j.val from fun e => h (Fin.ext e.symm)]

theorem mapTab_get {α : Type} {n : Nat} (f : Nat → α → α) (v : Vector α n) (j : Fin n) :
    (mapTab f v)[j] = f j.val v[j] := by
  simp [mapTab]

@[simp] theorem toFin_val {n : Nat} (j : Fin n) : toFin n j.val = some j := by
  simp [toFin]

end Sys2Proof.Machine
end

