-- ==== Sys2Proof/Laws/Kept.lean ====
section
/-! SUPPORT. The part of the state that few operations touch: the queue, the flash, the one-time-programmable controls.
`kept s` is that part; one lemma per operation says that the operation leaves it as it is. -/

namespace Sys2Proof.Machine

/-- The queue, the flash and the one-time-programmable controls. -/
def kept (s : State) : List Instr × List Host.Cell × Otp := (s.pending, s.flash, s.otp)

@[simp ↓] theorem kept_mk (pending now agenda free resp respPec chans banks rails ports hadc thm nvl nrd tmr fifo pwr ka glb img sealed otp
    hif tap pins nl irqEn raised flash) :
    kept (State.mk pending now agenda free resp respPec chans banks rails ports hadc thm nvl nrd tmr fifo pwr ka glb img sealed otp
      hif tap pins nl irqEn raised flash) = (pending, flash, otp) := rfl

@[simp] theorem kept_fold (s : State) : (s.pending, s.flash, s.otp) = kept s := rfl

@[simp] theorem kept_ite (c : Prop) [Decidable c] (a b : State) : kept (if c then a else b) = if c then kept a else kept b := by
  split <;> rfl

theorem kept_fields {s t : State} (h : kept t = kept s) : t.pending = s.pending ∧ t.flash = s.flash ∧ t.otp = s.otp := by
  simpa only [kept, Prod.mk.injEq] using h

theorem kept_of {s t : State} (hp : t.pending = s.pending) (hf : t.flash = s.flash) (ho : t.otp = s.otp) : kept t = kept s := by
  simp only [kept, hp, hf, ho]

@[simp] theorem kept_forEach {α : Type} (l : List α) (f : α → State → State) (h : ∀ a s, kept (f a s) = kept s) (s : State) :
    kept (forEach l f s) = kept s := by
  unfold forEach
  induction l generalizing s with
  | nil => rfl
  | cons a l ih => exact (ih (f a s)).trans (h a s)

/-! ## Operation by operation -/

@[simp] theorem kept_onRail (r : RailId) (f : Rail → Rail) (s : State) : kept (onRail r f s) = kept s := by
  unfold onRail
  rfl

@[simp] theorem kept_onBank (b : BankId) (f : Bank → Bank) (s : State) : kept (onBank b f s) = kept s := by
  unfold onBank
  rfl

@[simp] theorem kept_onChan (ch : ChanId) (f : Chan → Chan) (s : State) : kept (onChan ch f s) = kept s := by
  unfold onChan
  rfl

@[simp] theorem kept_onPort (p : PortId) (f : Port → Port) (s : State) : kept (onPort p f s) = kept s := by
  unfold onPort
  rfl

@[simp] theorem kept_onTimer (t : TimerId) (f : Timer → Timer) (s : State) : kept (onTimer t f s) = kept s := by
  unfold onTimer
  rfl

@[simp] theorem kept_onFifo (i : FifoId) (f : Tfifo → Tfifo) (s : State) : kept (onFifo i f s) = kept s := by
  unfold onFifo
  rfl

@[simp] theorem kept_onChans (l : List Nat) (f : Nat → Chan → Chan) (s : State) : kept (onChans l f s) = kept s := by
  unfold onChans
  rfl

@[simp] theorem kept_onBanks (l : List Nat) (f : Bank → Bank) (s : State) : kept (onBanks l f s) = kept s := by
  unfold onBanks
  rfl

@[simp] theorem kept_probeBegin (l : List Nat) (s : State) : kept (probeBegin l s) = kept s := by
  unfold probeBegin
  rfl

@[simp] theorem kept_onCfgRails (f : RailId → RailCfg → Rail → Rail) (s : State) : kept (onCfgRails f s) = kept s := by
  unfold onCfgRails
  rfl

@[simp] theorem kept_reply (r : Resp) (s : State) : kept (reply r s) = kept s := by
  unfold reply
  rfl

@[simp] theorem kept_arm (dt : Nat) (e : Instr) (s : State) : kept (arm dt e s) = kept s := by
  unfold arm
  rfl

@[simp] theorem kept_disarm (p : Instr → Bool) (s : State) : kept (disarm p s) = kept s := by
  unfold disarm
  rfl

@[simp] theorem kept_rearm (dt : Nat) (e : Instr) (s : State) : kept (rearm dt e s) = kept s := by
  unfold rearm
  rfl

@[simp] theorem kept_onFire (e : Instr) (f : State → State) (h : ∀ s, kept (f s) = kept s) (s : State) :
    kept (onFire e f s) = kept s := by
  unfold onFire fire
  by_cases hc : isDue e s
  · simp [hc, h]
  · simp [hc]

@[simp] theorem kept_disarmSeq (r : RailId) (s : State) : kept (disarmSeq r s) = kept s := by
  unfold disarmSeq
  rfl

@[simp] theorem kept_drawFree (s : State) : kept (drawFree s).2 = kept s := rfl

@[simp] theorem kept_pinInputs  (s : State) : kept (pinInputs s) = kept s := by
  unfold pinInputs
  rfl

@[simp] theorem kept_wiped  (s : State) : kept (wiped s) = kept s := by
  unfold wiped
  rfl

@[simp] theorem kept_w1cRenew (page off : Nat) (w : Word) (s : State) : kept (w1cRenew page off w s) = kept s := by
  unfold w1cRenew
  simp

@[simp] theorem kept_w1cDo (page off : Nat) (w : Word) (f : Word → State → State)
    (h : ∀ w s, kept (f w s) = kept s) (s : State) : kept (w1cDo page off w f s) = kept s := by
  unfold w1cDo
  simp [h]

@[simp] theorem kept_roundSpoil (b : BankId) (s : State) : kept (roundSpoil b s) = kept s := by
  unfold roundSpoil
  rfl

@[simp] theorem kept_brefEvent (b : BankId) (s : State) : kept (brefEvent b s) = kept s := by
  unfold brefEvent
  simp

@[simp] theorem kept_brefEvents (l : List Nat) (s : State) : kept (brefEvents l s) = kept s := by
  unfold brefEvents
  exact kept_forEach _ _ (fun a s => by split <;> simp) _

@[simp] theorem kept_brefRelease (b : BankId) (s : State) : kept (brefRelease b s) = kept s := by
  unfold brefRelease
  simp

@[simp] theorem kept_lateBack (l : List Nat) (s : State) : kept (lateBack l s) = kept s := by
  unfold lateBack
  rfl

@[simp] theorem kept_safeChans (l : List Nat) (s : State) : kept (safeChans l s) = kept s := by
  unfold safeChans
  simp

@[simp] theorem kept_freeChans (r : RailId) (c : RailCfg) (s : State) : kept (freeChans r c s) = kept s := by
  unfold freeChans
  simp

@[simp] theorem kept_stopCarriers (r : RailId) (c : RailCfg) (s : State) : kept (stopCarriers r c s) = kept s := by
  unfold stopCarriers
  rfl

@[simp] theorem kept_offAccord (r : RailId) (c : RailCfg) (s : State) : kept (offAccord r c s) = kept s := by
  unfold offAccord
  rfl

@[simp] theorem kept_pgLow (r : RailId) (s : State) : kept (pgLow r s) = kept s := by
  unfold pgLow
  rfl

@[simp] theorem kept_sndAbort (r : RailId) (s : State) : kept (sndAbort r s) = kept s := by
  unfold sndAbort
  rfl

@[simp] theorem kept_sndDrop (r : RailId) (s : State) : kept (sndDrop r s) = kept s := by
  unfold sndDrop
  rfl

@[simp] theorem kept_railHalt (r : RailId) (s : State) : kept (railHalt r s) = kept s := by
  unfold railHalt
  rfl

@[simp] theorem kept_latchTrip (r : RailId) (c : RailCfg) (cause : BitVec 2) (wh : Nat) (s : State) :
    kept (latchTrip r c cause wh s) = kept s := by
  unfold latchTrip
  simp

@[simp] theorem kept_btsfLatch (r : RailId) (c : RailCfg) (b : Nat) (s : State) : kept (btsfLatch r c b s) = kept s := by
  unfold btsfLatch
  simp

@[simp] theorem kept_latchProt (r : RailId) (c : RailCfg) (cause : BitVec 3) (s : State) :
    kept (latchProt r c cause s) = kept s := by
  unfold latchProt
  simp

@[simp] theorem kept_macerRail (r : RailId) (s : State) : kept (macerRail r s) = kept s := by
  unfold macerRail
  (repeat' split) <;> simp

@[simp] theorem kept_blotBreak  (s : State) : kept (blotBreak s) = kept s := by
  unfold blotBreak
  simp

@[simp] theorem kept_macerDev  (s : State) : kept (macerDev s) = kept s := by
  unfold macerDev
  (repeat' split) <;> simp

@[simp] theorem kept_releaseRail (r : RailId) (c : RailCfg) (s : State) : kept (releaseRail r c s) = kept s := by
  unfold releaseRail
  simp

@[simp] theorem kept_bdLatch (r : RailId) (c : RailCfg) (s : State) : kept (bdLatch r c s) = kept s := by
  unfold bdLatch
  simp

@[simp] theorem kept_fatalRail (rc : RailId × RailCfg) (s : State) : kept (fatalRail rc s) = kept s := by
  unfold fatalRail
  simp

@[simp] theorem kept_fatalEnter (cause : BitVec 3) (s : State) : kept (fatalEnter cause s) = kept s := by
  unfold fatalEnter
  simp

@[simp] theorem kept_pwrReject  (s : State) : kept (pwrReject s) = kept s := by
  unfold pwrReject
  rfl

@[simp] theorem kept_fatalFirst  (s : State) : kept (fatalFirst s) = kept s := by
  unfold fatalFirst
  simp

@[simp] theorem kept_fatalRaise (cause : BitVec 3) (mark : Glb → Glb) (s : State) :
    kept (fatalRaise cause mark s) = kept s := by
  unfold fatalRaise
  simp

@[simp] theorem kept_urgentReq (user : ConvUser) (input : Nat) (s : State) : kept (urgentReq user input s) = kept s := by
  unfold urgentReq
  rfl

@[simp] theorem kept_freezeAll (l : List Nat) (s : State) : kept (freezeAll l s) = kept s := by
  unfold freezeAll
  simp

@[simp] theorem kept_queueOne (old : State) (n : Nat) (s : State) : kept (queueOne old n s) = kept s := by
  unfold queueOne
  simp

@[simp] theorem kept_queueAll (old : State) (l : List Nat) (s : State) : kept (queueAll old l s) = kept s := by
  unfold queueAll
  simp

@[simp] theorem kept_ibiSettle (oldPend : List Nat) (s : State) : kept (ibiSettle oldPend s) = kept s := by
  unfold ibiSettle
  rfl

@[simp] theorem kept_alertSettle (by_ : Option PortId) (old s : State) : kept (alertSettle by_ old s) = kept s := by
  unfold alertSettle
  rfl

@[simp] theorem kept_raisedPut (was : List Bool) (l : List Nat) (s : State) : kept (raisedPut was l s) = kept s := by
  unfold raisedPut
  simp

@[simp] theorem kept_settleBy (by_ : Option PortId) (occ : List Nat) (old s : State) : kept (settleBy by_ occ old s) = kept s := by
  unfold settleBy
  simp

@[simp] theorem kept_settle (occ : List Nat) (old s : State) : kept (settle occ old s) = kept s := by
  unfold settle
  simp

@[simp] theorem kept_moveTo (r : RailId) (p0 sl dest : Nat) (s : State) : kept (moveTo r p0 sl dest s) = kept s := by
  unfold moveTo
  simp

@[simp] theorem kept_moveStop (r : RailId) (s : State) : kept (moveStop r s) = kept s := by
  unfold moveStop
  rfl

@[simp] theorem kept_vselWrite (r : RailId) (p : PortId) (t : Nat) (s : State) : kept (vselWrite r p t s) = kept s := by
  unfold vselWrite
  simp

@[simp] theorem kept_terminalTarget (r : RailId) (c : RailCfg) (s : State) : kept (terminalTarget r c s) = kept s := by
  unfold terminalTarget
  dsimp only
  (repeat' split) <;> simp

@[simp] theorem kept_hostTarget (r : RailId) (c : RailCfg) (v : Nat) (s : State) : kept (hostTarget r c v s) = kept s := by
  unfold hostTarget
  simp

@[simp] theorem kept_swOn (r : RailId) (c : RailCfg) (s : State) : kept (swOn r c s) = kept s := by
  unfold swOn
  rfl

@[simp] theorem kept_swOff (r : RailId) (c : RailCfg) (s : State) : kept (swOff r c s) = kept s := by
  unfold swOff
  rfl

@[simp] theorem kept_swDischarge (r : RailId) (c : RailCfg) (s : State) : kept (swDischarge r c s) = kept s := by
  unfold swDischarge
  rfl

@[simp] theorem kept_ovLatch (r : RailId) (c : RailCfg) (s : State) : kept (ovLatch r c s) = kept s := by
  unfold ovLatch
  simp

@[simp] theorem kept_uvLatch (r : RailId) (c : RailCfg) (s : State) : kept (uvLatch r c s) = kept s := by
  unfold uvLatch
  simp

@[simp] theorem kept_snsLatch (r : RailId) (c : RailCfg) (neg : Bool) (s : State) : kept (snsLatch r c neg s) = kept s := by
  unfold snsLatch
  simp

@[simp] theorem kept_pgStart (r : RailId) (c : RailCfg) (s : State) : kept (pgStart r c s) = kept s := by
  unfold pgStart
  rfl

@[simp] theorem kept_pgArm (r : RailId) (c : RailCfg) (s : State) : kept (pgArm r c s) = kept s := by
  unfold pgArm
  simp

@[simp] theorem kept_pgDisarm (r : RailId) (s : State) : kept (pgDisarm r s) = kept s := by
  unfold pgDisarm
  rfl

@[simp] theorem kept_disarmState (r : RailId) (s : State) : kept (disarmState r s) = kept s := by
  unfold disarmState
  rfl

@[simp] theorem kept_startDuration (r : RailId) (d : Nat) (s : State) : kept (startDuration r d s) = kept s := by
  unfold startDuration
  simp

@[simp] theorem kept_rampBegin (r : RailId) (c : RailCfg) (s : State) : kept (rampBegin r c s) = kept s := by
  unfold rampBegin
  dsimp only
  (repeat' split) <;> simp

@[simp] theorem kept_beginAction (r : RailId) (c : RailCfg) (s : State) : kept (beginAction r c s) = kept s := by
  unfold beginAction
  dsimp only
  (repeat' split) <;> simp

@[simp] theorem kept_enterState (r : RailId) (c : RailCfg) (i : Nat) (s : State) : kept (enterState r c i s) = kept s := by
  unfold enterState
  simp

@[simp] theorem kept_startRail (r : RailId) (c : RailCfg) (s : State) : kept (startRail r c s) = kept s := by
  unfold startRail
  simp

@[simp] theorem kept_stopRail (r : RailId) (c : RailCfg) (s : State) : kept (stopRail r c s) = kept s := by
  unfold stopRail
  simp

@[simp] theorem kept_seqCmd (r : RailId) (c : RailCfg) (cmd : Nat) (s : State) : kept (seqCmd r c cmd s) = kept s := by
  unfold seqCmd
  (repeat' split) <;> simp

@[simp] theorem kept_seqWrite (r : RailId) (c : RailCfg) (w : Word) (s : State) : kept (seqWrite r c w s) = kept s := by
  unfold seqWrite
  simp

@[simp] theorem kept_tripRelease (r : RailId) (c : RailCfg) (s : State) : kept (tripRelease r c s) = kept s := by
  unfold tripRelease
  simp

@[simp] theorem kept_tripWrite (r : RailId) (c : RailCfg) (w : Word) (s : State) : kept (tripWrite r c w s) = kept s := by
  unfold tripWrite
  simp

@[simp] theorem kept_protRelease (r : RailId) (c : RailCfg) (s : State) : kept (protRelease r c s) = kept s := by
  unfold protRelease
  simp

@[simp] theorem kept_protWrite (r : RailId) (c : RailCfg) (w : Word) (s : State) : kept (protWrite r c w s) = kept s := by
  unfold protWrite
  simp

@[simp] theorem kept_countTrip (r : RailId) (c : RailCfg) (ch : ChanId) (s : State) :
    kept (countTrip r c ch s) = kept s := by
  unfold countTrip
  simp

@[simp] theorem kept_phaseTrip (ch : ChanId) (s : State) : kept (phaseTrip ch s) = kept s := by
  unfold phaseTrip
  (repeat' split) <;> simp

@[simp] theorem kept_startTrip (r : RailId) (c : RailCfg) (ch : ChanId) (odd : Bool) (s : State) :
    kept (startTrip r c ch odd s) = kept s := by
  unfold startTrip
  simp

@[simp] theorem kept_padHold  (old s : State) : kept (padHold old s) = kept s := by
  unfold padHold
  simp

@[simp] theorem kept_throttleOn (r : RailId) (c : RailCfg) (s : State) : kept (throttleOn r c s) = kept s := by
  unfold throttleOn
  simp

@[simp] theorem kept_throttleOff (r : RailId) (c : RailCfg) (s : State) : kept (throttleOff r c s) = kept s := by
  unfold throttleOff
  simp

@[simp] theorem kept_throttleRail (rc : RailId × RailCfg) (s : State) : kept (throttleRail rc s) = kept s := by
  unfold throttleRail
  simp

@[simp] theorem kept_throttleAll  (s : State) : kept (throttleAll s) = kept s := by
  unfold throttleAll
  simp

@[simp] theorem kept_throttleStepped (r : RailId) (c : RailCfg) (s : State) : kept (throttleStepped r c s) = kept s := by
  unfold throttleStepped
  simp

@[simp] theorem kept_budgetRail (r : RailId) (c : RailCfg) (b : Nat) (s : State) : kept (budgetRail r c b s) = kept s := by
  unfold budgetRail
  simp

@[simp] theorem kept_budgetWrite (p : PortId) (w : Word) (s : State) : kept (budgetWrite p w s) = kept s := by
  unfold budgetWrite
  exact (kept_forEach _ _ (fun a s => by (repeat' split) <;> simp) _).trans rfl

@[simp] theorem kept_budgetStepped (r : RailId) (c : RailCfg) (s : State) : kept (budgetStepped r c s) = kept s := by
  unfold budgetStepped
  simp

@[simp] theorem kept_distribute (r : RailId) (c : RailCfg) (s : State) : kept (distribute r c s) = kept s := by
  unfold distribute
  rfl

@[simp] theorem kept_coriPut (c : RailCfg) (q : Nat) (s : State) : kept (coriPut c q s) = kept s := by
  unfold coriPut
  split
  · exact kept_onChan _ _ _
  · rfl

@[simp] theorem kept_wordsPut (r : RailId) (t : Nat) (s : State) : kept (wordsPut r t s) = kept s := by
  unfold wordsPut
  simp

@[simp] theorem kept_coriSample (r : RailId) (c : RailCfg) (ef c5 : Int) (s : State) : kept (coriSample r c ef c5 s) = kept s := by
  unfold coriSample
  dsimp only
  (repeat' split) <;> simp

@[simp] theorem kept_wordsTake (rc : RailId × RailCfg) (s : State) : kept (wordsTake rc s) = kept s := by
  unfold wordsTake
  dsimp only
  (repeat' split) <;> simp

@[simp] theorem kept_silRecord (r : RailId) (c : RailCfg) (s : State) : kept (silRecord r c s) = kept s := by
  unfold silRecord
  rfl

@[simp] theorem kept_prebSample (r : RailId) (c : RailCfg) (code : Int) (s : State) :
    kept (prebSample r c code s) = kept s := by
  unfold prebSample
  simp

@[simp] theorem kept_silAgain (r : RailId) (w : BitVec 64) (s : State) : kept (silAgain r w s) = kept s := by
  unfold silAgain
  rfl

@[simp] theorem kept_remark (e : Nat) (rc : RailId × RailCfg) (s : State) : kept (remark e rc s) = kept s := by
  unfold remark
  dsimp only
  (repeat' split) <;> simp

@[simp] theorem kept_loopSample (r : RailId) (c : RailCfg) (ef : Int) (acts : Bool) (s : State) :
    kept (loopSample r c ef acts s) = kept s := by
  unfold loopSample
  simp

@[simp] theorem kept_eadcSample (r : RailId) (c : RailCfg) (vpin : Int) (s : State) :
    kept (eadcSample r c vpin s) = kept s := by
  unfold eadcSample
  simp

@[simp] theorem kept_coefWrite (r : RailId) (w : Word) (s : State) : kept (coefWrite r w s) = kept s := by
  unfold coefWrite
  rfl

@[simp] theorem kept_sndWrite (r : RailId) (w : Word) (s : State) : kept (sndWrite r w s) = kept s := by
  unfold sndWrite
  simp

@[simp] theorem kept_sndStart (r : RailId) (c : RailCfg) (s : State) : kept (sndStart r c s) = kept s := by
  unfold sndStart
  simp

@[simp] theorem kept_sndRep (r : RailId) (m : Nat) (c : RailCfg) (s : State) : kept (sndRep r m c s) = kept s := by
  unfold sndRep
  rfl

@[simp] theorem kept_sndSample (r : RailId) (k : Nat) (s : State) : kept (sndSample r k s) = kept s := by
  unfold sndSample
  rfl

@[simp] theorem kept_sndTick (r : RailId) (c : RailCfg) (s : State) : kept (sndTick r c s) = kept s := by
  unfold sndTick
  simp

@[simp] theorem kept_sndVolt (r : RailId) (c : RailCfg) (v1 : Int) (late : Bool) (s : State) :
    kept (sndVolt r c v1 late s) = kept s := by
  unfold sndVolt
  simp

@[simp] theorem kept_sndTaken (r : RailId) (c : RailCfg) (k : Nat) (code : Int) (wait : Nat) (s : State) :
    kept (sndTaken r c k code wait s) = kept s := by
  unfold sndTaken
  simp

@[simp] theorem kept_sndFinish (r : RailId) (c : RailCfg) (s : State) : kept (sndFinish r c s) = kept s := by
  unfold sndFinish
  simp

@[simp] theorem kept_thrRenew (r : RailId) (c : RailCfg) (l : List Nat) (s : State) : kept (thrRenew r c l s) = kept s := by
  unfold thrRenew
  rfl

@[simp] theorem kept_thrLoad (r : RailId) (c : RailCfg) (s : State) : kept (thrLoad r c s) = kept s := by
  unfold thrLoad
  rfl

@[simp] theorem kept_stepSet (r : RailId) (c : RailCfg) (n : Nat) (mask : Word) (d : Option StepDec) (s : State) :
    kept (stepSet r c n mask d s) = kept s := by
  unfold stepSet
  rfl

@[simp] theorem kept_applyDue (r : RailId) (c : RailCfg) (s : State) : kept (applyDue r c s) = kept s := by
  unfold applyDue
  dsimp only
  (repeat' split) <;> simp

@[simp] theorem kept_applyStep (r : RailId) (c : RailCfg) (s : State) : kept (applyStep r c s) = kept s := by
  unfold applyStep
  dsimp only
  (repeat' split) <;> simp

@[simp] theorem kept_loadTarget (r : RailId) (c : RailCfg) (s : State) : kept (loadTarget r c s) = kept s := by
  unfold loadTarget
  dsimp only
  (repeat' split) <;> simp

@[simp] theorem kept_loadRest (r : RailId) (c : RailCfg) (s : State) : kept (loadRest r c s) = kept s := by
  unfold loadRest
  rfl

@[simp] theorem kept_bdStart (r : RailId) (c : RailCfg) (s : State) : kept (bdStart r c s) = kept s := by
  unfold bdStart
  dsimp only
  (repeat' split) <;> simp

@[simp] theorem kept_bdEnd (r : RailId) (c : RailCfg) (s : State) : kept (bdEnd r c s) = kept s := by
  unfold bdEnd
  dsimp only
  (repeat' split) <;> simp

@[simp] theorem kept_bdPeriod (r : RailId) (c : RailCfg) (s : State) : kept (bdPeriod r c s) = kept s := by
  unfold bdPeriod
  simp

@[simp] theorem kept_fifoPush (f : FifoId) (e : Nat → BitVec 64) (s : State) : kept (fifoPush f e s).1 = kept s := by
  unfold fifoPush
  dsimp only
  (repeat' split) <;> simp

@[simp] theorem kept_telPush (r : RailId) (s : State) : kept (telPush r s) = kept s := by
  unfold telPush
  (repeat' split) <;> simp

@[simp] theorem kept_rotateStep (r : RailId) (c : RailCfg) (s : State) : kept (rotateStep r c s) = kept s := by
  unfold rotateStep
  simp

@[simp] theorem kept_rotateCount (r : RailId) (s : State) : kept (rotateCount r s) = kept s := by
  unfold rotateCount
  simp

@[simp] theorem kept_carriersBegin (r : RailId) (c : RailCfg) (s : State) : kept (carriersBegin r c s) = kept s := by
  unfold carriersBegin
  rfl

@[simp] theorem kept_mcsStep (r : RailId) (c : RailCfg) (s : State) : kept (mcsStep r c s) = kept s := by
  unfold mcsStep
  simp

@[simp] theorem kept_masterStart (r : RailId) (c : RailCfg) (s : State) : kept (masterStart r c s) = kept s := by
  unfold masterStart
  simp

@[simp] theorem kept_phBypass (r : RailId) (c : RailCfg) (q : Nat) (s : State) : kept (phBypass r c q s) = kept s := by
  unfold phBypass
  simp

@[simp] theorem kept_phRestore (r : RailId) (c : RailCfg) (q : Nat) (s : State) : kept (phRestore r c q s) = kept s := by
  unfold phRestore
  simp

@[simp] theorem kept_phBalance (r : RailId) (rot : Bool) (q : Nat) (s : State) : kept (phBalance r rot q s) = kept s := by
  unfold phBalance
  simp

@[simp] theorem kept_phcmdWrite (r : RailId) (c : RailCfg) (w : Word) (s : State) : kept (phcmdWrite r c w s) = kept s := by
  unfold phcmdWrite
  (repeat' split) <;> simp

@[simp] theorem kept_isliceTake (ch : ChanId) (v : Int) (s : State) : kept (isliceTake ch v s) = kept s := by
  unfold isliceTake
  simp

@[simp] theorem kept_roundApply (r : RailId) (c : RailCfg) (s : State) : kept (roundApply r c s) = kept s := by
  unfold roundApply
  exact (kept_forEach _ _ (fun a s => by split <;> simp) _).trans rfl

@[simp] theorem kept_roundAdd (r : RailId) (c : RailCfg) (q : Nat) (m : Smp) (v : Int) (s : State) :
    kept (roundAdd r c q m v s) = kept s := by
  unfold roundAdd
  simp

@[simp] theorem kept_negLimit (r : RailId) (c : RailCfg) (ch : ChanId) (q : Nat) (amps : Int) (s : State) :
    kept (negLimit r c ch q amps s) = kept s := by
  unfold negLimit
  simp

@[simp] theorem kept_isliceDone (ch : ChanId) (s : State) : kept (isliceDone ch s) = kept s := by
  unfold isliceDone
  dsimp only
  (repeat' split) <;> simp

@[simp] theorem kept_ofsSet (r : RailId) (c : RailCfg) (q : Nat) (sum : Int) (s : State) :
    kept (ofsSet r c q sum s) = kept s := by
  unfold ofsSet
  (repeat' split) <;> simp

@[simp] theorem kept_calDone (r : RailId) (c : RailCfg) (sums : List Int) (s : State) :
    kept (calDone r c sums s) = kept s := by
  unfold calDone
  simp

@[simp] theorem kept_brefWindow (b : BankId) (up : Bool) (s : State) : kept (brefWindow b up s) = kept s := by
  unfold brefWindow
  simp

@[simp] theorem kept_btsfAct (b : BankId) (s : State) : kept (btsfAct b s) = kept s := by
  unfold btsfAct
  simp

@[simp] theorem kept_btsfChange (b : BankId) (up : Bool) (s : State) : kept (btsfChange b up s) = kept s := by
  unfold btsfChange
  simp

@[simp] theorem kept_setTj  (s : State) : kept (setTj s) = kept s := by
  unfold setTj
  dsimp only
  (repeat' split) <;> simp

@[simp] theorem kept_bandDecide (t : TbandCfg) (s : State) : kept (bandDecide t s) = kept s := by
  unfold bandDecide
  simp

@[simp] theorem kept_thermalReading (i : Fin 32) (mean : Int) (s : State) : kept (thermalReading i mean s) = kept s := by
  unfold thermalReading
  (repeat' split) <;> simp

@[simp] theorem kept_thermalEval  (s : State) : kept (thermalEval s) = kept s := by
  unfold thermalEval
  (repeat' split) <;> simp

@[simp] theorem kept_slotOpen  (s : State) : kept (slotOpen s) = kept s := by
  unfold slotOpen
  simp

@[simp] theorem kept_hostTrigger (tmr : Bool) (s : State) : kept (hostTrigger tmr s) = kept s := by
  unfold hostTrigger
  rfl

@[simp] theorem kept_reqWrite (w : Word) (s : State) : kept (reqWrite w s) = kept s := by
  unfold reqWrite
  simp

@[simp] theorem kept_avgWrite (w : Word) (s : State) : kept (avgWrite w s) = kept s := by
  unfold avgWrite
  rfl

@[simp] theorem kept_supplyResult (i : Nat) (code : Int) (s : State) : kept (supplyResult i code s) = kept s := by
  unfold supplyResult
  rfl

@[simp] theorem kept_roundEnd (d : List Bool) (s : State) : kept (roundEnd d s) = kept s := by
  unfold roundEnd
  simp

@[simp] theorem kept_refResult (i : Nat) (code : Int) (s : State) : kept (refResult i code s) = kept s := by
  unfold refResult
  simp

@[simp] theorem kept_excludeOdd  (s : State) : kept (excludeOdd s) = kept s := by
  unfold excludeOdd
  simp

@[simp] theorem kept_refWrite (w : Word) (s : State) : kept (refWrite w s) = kept s := by
  unfold refWrite
  extract_lets m m1 ok m2 t
  split
  · rfl
  · exact (kept_forEach _ _ (fun a s => by (repeat' split) <;> simp) _).trans rfl

@[simp] theorem kept_holdResult (mean : Int) (s : State) : kept (holdResult mean s) = kept s := by
  unfold holdResult
  simp

@[simp] theorem kept_discBegin  (s : State) : kept (discBegin s) = kept s := by
  unfold discBegin
  rfl

@[simp] theorem kept_csResult (b : Nat) (code : Int) (at_ : Nat) (s : State) : kept (csResult b code at_ s) = kept s := by
  unfold csResult
  split
  · rfl
  · dsimp only
    (repeat' split) <;> simp

@[simp] theorem kept_entryFeed (i : Nat) (e : HadcEntry) (code : Int) (at_ : Nat) (s : State) :
    kept (entryFeed i e code at_ s) = kept s := by
  unfold entryFeed
  (repeat' split) <;> simp

@[simp] theorem kept_entryResult (i : Nat) (code : Int) (mark : HMark) (at_ : Nat) (s : State) :
    kept (entryResult i code mark at_ s) = kept s := by
  unfold entryResult
  (repeat' split) <;> simp

@[simp] theorem kept_selfTestResult (code : Int) (mark : HMark) (s : State) :
    kept (selfTestResult code mark s) = kept s := by
  unfold selfTestResult
  simp

@[simp] theorem kept_convDone (v : Int) (s : State) : kept (convDone v s) = kept s := by
  unfold convDone
  dsimp only
  (repeat' split) <;> simp

@[simp] theorem kept_discWrite (w : Word) (s : State) : kept (discWrite w s) = kept s := by
  unfold discWrite
  simp

@[simp] theorem kept_writeClasses (forRun : Bool) (mask : BitVec 24) (probes : List (ChanId × Probe)) (s : State) :
    kept (writeClasses forRun mask probes s) = kept s := by
  unfold writeClasses
  simp

@[simp] theorem kept_discRail (forRun : Bool) (rc : RailId × RailCfg) (s : State) :
    kept (discRail forRun rc s) = kept s := by
  unfold discRail
  simp

@[simp] theorem kept_banksMarked (mask : BitVec 24) (s : State) : kept (banksMarked mask s) = kept s := by
  unfold banksMarked
  rfl

@[simp] theorem kept_discPart (probes : List (ChanId × Probe)) (s : State) : kept (discPart probes s) = kept s := by
  unfold discPart
  simp

@[simp] theorem kept_discFinish (probes : List (ChanId × Probe)) (s : State) : kept (discFinish probes s) = kept s := by
  unfold discFinish
  simp

@[simp] theorem kept_writeLast (ch k : Nat) (s : State) : kept (writeLast ch k s) = kept s := by
  unfold writeLast
  (repeat' split) <;> simp

@[simp] theorem kept_discOne (b : Nat) (flt : Bool) (s : State) : kept (discOne b flt s) = kept s := by
  unfold discOne
  rfl

@[simp] theorem kept_restoreDone (r : RailId) (c : RailCfg) (p : Probe) (cal : Int) (s : State) :
    kept (restoreDone r c p cal s) = kept s := by
  unfold restoreDone
  dsimp only
  (repeat' split) <;> simp

@[simp] theorem kept_media (cause : BitVec 4) (s : State) : kept (media cause s) = kept s := by
  unfold media
  rfl

@[simp] theorem kept_eraseLater (wait k : Nat) (s : State) : kept (eraseLater wait k s) = kept s := by
  unfold eraseLater
  rfl

@[simp] theorem kept_gateArm  (s : State) : kept (gateArm s) = kept s := by
  unfold gateArm
  simp

@[simp] theorem kept_scanRead  (s : State) : kept (scanRead s) = kept s := by
  unfold scanRead
  rfl

@[simp] theorem kept_endurance  (s : State) : kept (endurance s) = kept s := by
  unfold endurance
  rfl

@[simp] theorem kept_scanStart  (s : State) : kept (scanStart s) = kept s := by
  unfold scanStart
  rfl

@[simp] theorem kept_testStart  (s : State) : kept (testStart s) = kept s := by
  unfold testStart
  simp

@[simp] theorem kept_blotSample  (s : State) : kept (blotSample s) = kept s := by
  unfold blotSample
  (repeat' split) <;> simp

@[simp] theorem kept_testWaiting  (s : State) : kept (testWaiting s) = kept s := by
  unfold testWaiting
  simp

@[simp] theorem kept_testEnd (vh dv : Int) (dt : Nat) (s : State) : kept (testEnd vh dv dt s) = kept s := by
  unfold testEnd
  simp

@[simp] theorem kept_dropHead  (s : State) : kept (dropHead s) = kept s := by
  unfold dropHead
  simp

@[simp] theorem kept_gateHold  (s : State) : kept (gateHold s) = kept s := by
  unfold gateHold
  rfl

@[simp] theorem kept_gateTest  (s : State) : kept (gateTest s) = kept s := by
  unfold gateTest
  simp

@[simp] theorem kept_advance  (s : State) : kept (advance s) = kept s := by
  unfold advance
  simp

@[simp] theorem kept_erasePending  (s : State) : kept (erasePending s) = kept s := by
  unfold erasePending
  simp

@[simp] theorem kept_rdctrlWrite (w : Word) (s : State) : kept (rdctrlWrite w s) = kept s := by
  unfold rdctrlWrite
  dsimp only
  (repeat' split) <;> simp

@[simp] theorem kept_fetchDone  (s : State) : kept (fetchDone s) = kept s := by
  unfold fetchDone
  (repeat' split) <;> simp

@[simp] theorem kept_rddataNext  (s : State) : kept (rddataNext s) = kept s := by
  unfold rddataNext
  simp

@[simp] theorem kept_timeTick  (s : State) : kept (timeTick s) = kept s := by
  unfold timeTick
  rfl

@[simp] theorem kept_timeWrite (w : Word) (s : State) : kept (timeWrite w s) = kept s := by
  unfold timeWrite
  rfl

@[simp] theorem kept_nvlCfgWrite (w : Word) (s : State) : kept (nvlCfgWrite w s) = kept s := by
  unfold nvlCfgWrite
  rfl

@[simp] theorem kept_blotWrite (w : Word) (s : State) : kept (blotWrite w s) = kept s := by
  unfold blotWrite
  simp

@[simp] theorem kept_tmrRefuse  (s : State) : kept (tmrRefuse s) = kept s := by
  unfold tmrRefuse
  rfl

@[simp] theorem kept_tmrErr  (s : State) : kept (tmrErr s) = kept s := by
  unfold tmrErr
  rfl

@[simp] theorem kept_matchThese (l : List (Nat × Timer)) (s : State) : kept (matchThese l s) = kept s := by
  unfold matchThese
  simp

@[simp] theorem kept_matchGroup (t : TimerId) (s : State) : kept (matchGroup t s) = kept s := by
  unfold matchGroup
  simp

@[simp] theorem kept_tmrCmd (t : TimerId) (cmd : Nat) (s : State) : kept (tmrCmd t cmd s) = kept s := by
  unfold tmrCmd
  dsimp only
  (repeat' split) <;> simp

@[simp] theorem kept_tmrCmdWrite (w : Word) (s : State) : kept (tmrCmdWrite w s) = kept s := by
  unfold tmrCmdWrite
  (repeat' split) <;> simp

@[simp] theorem kept_gstart (mask : Word) (s : State) : kept (gstart mask s) = kept s := by
  unfold gstart
  simp

@[simp] theorem kept_tmrCfg (i : Iface) (w : Word) (s : State) : kept (tmrCfg i w s) = kept s := by
  unfold tmrCfg
  simp

@[simp] theorem kept_matchWrite (t : TimerId) (w : Word) (s : State) : kept (matchWrite t w s) = kept s := by
  unfold matchWrite
  simp

@[simp] theorem kept_pairLost (t : TimerId) (f : FifoId) (old s : State) : kept (pairLost t f old s) = kept s := by
  unfold pairLost
  simp

@[simp] theorem kept_pairDone (t : TimerId) (first n : Nat) (rising : Bool) (s : State) :
    kept (pairDone t first n rising s) = kept s := by
  unfold pairDone
  dsimp only
  (repeat' split) <;> simp

@[simp] theorem kept_captureEdge (t : TimerId) (rising : Bool) (s : State) : kept (captureEdge t rising s) = kept s := by
  unfold captureEdge
  dsimp only
  (repeat' split) <;> simp

@[simp] theorem kept_slowTick  (s : State) : kept (slowTick s) = kept s := by
  unfold slowTick
  simp

@[simp] theorem kept_slowLeave  (s : State) : kept (slowLeave s) = kept s := by
  unfold slowLeave
  rfl

@[simp] theorem kept_slowUndo  (s : State) : kept (slowUndo s) = kept s := by
  unfold slowUndo
  dsimp only
  (repeat' split) <;> simp

@[simp] theorem kept_slowLost  (s : State) : kept (slowLost s) = kept s := by
  unfold slowLost
  simp

@[simp] theorem kept_tmrReset  (s : State) : kept (tmrReset s) = kept s := by
  unfold tmrReset
  rfl

@[simp] theorem kept_nlSend (ty : BitVec 4) (pl : Word) (s : State) : kept (nlSend ty pl s) = kept s := by
  unfold nlSend
  simp

@[simp] theorem kept_nlHello  (s : State) : kept (nlHello s) = kept s := by
  unfold nlHello
  simp

@[simp] theorem kept_nlDisarm  (s : State) : kept (nlDisarm s) = kept s := by
  unfold nlDisarm
  rfl

@[simp] theorem kept_nlSetRole (r : NlRole) (mid : BitVec 6) (s : State) : kept (nlSetRole r mid s) = kept s := by
  unfold nlSetRole
  rfl

@[simp] theorem kept_nlStepDown  (s : State) : kept (nlStepDown s) = kept s := by
  unfold nlStepDown
  simp

@[simp] theorem kept_nlListen  (s : State) : kept (nlListen s) = kept s := by
  unfold nlListen
  simp

@[simp] theorem kept_nlWatch  (s : State) : kept (nlWatch s) = kept s := by
  unfold nlWatch
  rfl

@[simp] theorem kept_nlFollow (id : BitVec 6) (s : State) : kept (nlFollow id s) = kept s := by
  unfold nlFollow
  simp

@[simp] theorem kept_nlSent (acked : Bool) (s : State) : kept (nlSent acked s) = kept s := by
  unfold nlSent
  simp

@[simp] theorem kept_nlClaimSend (wait : Nat) (s : State) : kept (nlClaimSend wait s) = kept s := by
  unfold nlClaimSend
  simp

@[simp] theorem kept_nlListenDone (acked : Bool) (s : State) : kept (nlListenDone acked s) = kept s := by
  unfold nlListenDone
  simp

@[simp] theorem kept_nlHelloDue (acked : Bool) (s : State) : kept (nlHelloDue acked s) = kept s := by
  unfold nlHelloDue
  simp

@[simp] theorem kept_nlLost  (s : State) : kept (nlLost s) = kept s := by
  unfold nlLost
  simp

@[simp] theorem kept_nlRenegotiate  (s : State) : kept (nlRenegotiate s) = kept s := by
  unfold nlRenegotiate
  simp

@[simp] theorem kept_nlCmdWrite (w : Word) (s : State) : kept (nlCmdWrite w s) = kept s := by
  unfold nlCmdWrite
  simp

@[simp] theorem kept_nlArb (lost : Bool) (s : State) : kept (nlArb lost s) = kept s := by
  unfold nlArb
  simp

@[simp] theorem kept_nlRetry (lost : Bool) (s : State) : kept (nlRetry lost s) = kept s := by
  unfold nlRetry
  simp

@[simp] theorem kept_nlDup  (s : State) : kept (nlDup s) = kept s := by
  unfold nlDup
  rfl

@[simp] theorem kept_nlClaim (id : BitVec 6) (pl : Word) (s : State) : kept (nlClaim id pl s) = kept s := by
  unfold nlClaim
  simp

@[simp] theorem kept_nlMasterGone (id : BitVec 6) (s : State) : kept (nlMasterGone id s) = kept s := by
  unfold nlMasterGone
  simp

@[simp] theorem kept_nlYield (id : BitVec 6) (pl : Word) (s : State) : kept (nlYield id pl s) = kept s := by
  unfold nlYield
  simp

@[simp] theorem kept_nlTimebase (id : BitVec 6) (pl : Word) (s : State) : kept (nlTimebase id pl s) = kept s := by
  unfold nlTimebase
  simp

@[simp] theorem kept_nlHelloIn (id : BitVec 6) (pl : Word) (s : State) : kept (nlHelloIn id pl s) = kept s := by
  unfold nlHelloIn
  simp

@[simp] theorem kept_nlDropPeer (id : BitVec 6) (s : State) : kept (nlDropPeer id s) = kept s := by
  unfold nlDropPeer
  simp

@[simp] theorem kept_nlLeave (id : BitVec 6) (pl : Word) (s : State) : kept (nlLeave id pl s) = kept s := by
  unfold nlLeave
  simp

@[simp] theorem kept_nlCrcErr  (s : State) : kept (nlCrcErr s) = kept s := by
  unfold nlCrcErr
  rfl

@[simp] theorem kept_nlBitErr  (s : State) : kept (nlBitErr s) = kept s := by
  unfold nlBitErr
  rfl

@[simp] theorem kept_nlBad (k : NlFault) (s : State) : kept (nlBad k s) = kept s := by
  unfold nlBad
  (repeat' split) <;> simp

@[simp] theorem kept_boundaryLoad (hi : BitVec 20) (s : State) : kept (boundaryLoad hi s) = kept s := by
  unfold boundaryLoad
  simp

@[simp] theorem kept_pulseSet (b : BankId) (old : Bank) (s : State) : kept (pulseSet b old s) = kept s := by
  unfold pulseSet
  simp

@[simp] theorem kept_nlSyncIn  (s : State) : kept (nlSyncIn s) = kept s := by
  unfold nlSyncIn
  dsimp only
  (repeat' split) <;> simp

@[simp] theorem kept_nlMasterPulse (b : BankId) (s : State) : kept (nlMasterPulse b s) = kept s := by
  unfold nlMasterPulse
  simp

@[simp] theorem kept_syncPulse (b : BankId) (s : State) : kept (syncPulse b s) = kept s := by
  unfold syncPulse
  (repeat' split) <;> simp

@[simp] theorem kept_onIsland (r : RailId) (f : RailCfg → State → State) (h : ∀ c s, kept (f c s) = kept s) (s : State) :
    kept (onIsland r f s) = kept s := by
  unfold onIsland
  (repeat' split) <;> simp [h]

@[simp] theorem kept_onGrid (e : Instr) (r : RailId) (f : RailCfg → State → State) (h : ∀ c s, kept (f c s) = kept s) (s : State) :
    kept (onGrid e r f s) = kept s := by
  unfold onGrid
  apply kept_onFire
  intro s
  split <;> simp [h]

@[simp] theorem kept_onDue (e : Instr) (r : RailId) (f : RailCfg → State → State) (h : ∀ c s, kept (f c s) = kept s) (s : State) :
    kept (onDue e r f s) = kept s := by
  unfold onDue
  simp [h]

@[simp] theorem kept_tripLatch (r : RailId) (ch : ChanId) (c : RailCfg) (s : State) :
    kept (tripLatch r ch c s) = kept s := by
  unfold tripLatch
  (repeat' split) <;> simp

@[simp] theorem kept_masterDue (r : RailId) (c : RailCfg) (s : State) : kept (masterDue r c s) = kept s := by
  unfold masterDue
  simp

@[simp] theorem kept_carrierZero (ch : ChanId) (s : State) : kept (carrierZero ch s) = kept s := by
  unfold carrierZero
  (repeat' split) <;> simp

@[simp] theorem kept_edgeAct (ch : ChanId) (on : Bool) (s : State) : kept (edgeAct ch on s) = kept s := by
  unfold edgeAct
  (repeat' split) <;> simp

@[simp] theorem kept_eadcDue (vpin : Int) (r : RailId) (c : RailCfg) (s : State) : kept (eadcDue vpin r c s) = kept s := by
  unfold eadcDue
  simp

@[simp] theorem kept_trimSatSet (r : RailId) (q : Nat) (s : State) : kept (trimSatSet r q s) = kept s := by
  unfold trimSatSet
  rfl

@[simp] theorem kept_phaseLimit (ch : ChanId) (up : Bool) (s : State) : kept (phaseLimit ch up s) = kept s := by
  unfold phaseLimit
  simp

@[simp] theorem kept_brefClose (b : BankId) (s : State) : kept (brefClose b s) = kept s := by
  unfold brefClose
  rfl

@[simp] theorem kept_rawTrips (c : RailCfg) (s : State) : kept (rawTrips c s) = kept s := by
  unfold rawTrips
  exact kept_forEach _ _ (fun a s => by (repeat' split) <;> simp) _

@[simp] theorem kept_rawBtsf (l : List Nat) (s : State) : kept (rawBtsf l s) = kept s := by
  unfold rawBtsf
  simp

@[simp] theorem kept_holdSafe (c : RailCfg) (s : State) : kept (holdSafe c s) = kept s := by
  unfold holdSafe
  simp

@[simp] theorem kept_brefMoved  (old s : State) : kept (brefMoved old s) = kept s := by
  unfold brefMoved
  simp

@[simp] theorem kept_wdogStart  (s : State) : kept (wdogStart s) = kept s := by
  unfold wdogStart
  rfl

@[simp] theorem kept_sealNelink  (s : State) : kept (sealNelink s) = kept s := by
  unfold sealNelink
  simp

@[simp] theorem kept_vselAgain (s : State) : kept (vselAgain s) = kept s := by
  unfold vselAgain
  exact kept_forEach _ _ (fun a s => by dsimp only; (repeat' split) <;> simp) _

@[simp] theorem kept_sealImage (im : ImageCfg) (src : BitVec 2) (s : State) : kept (sealImage im src s) = kept s := by
  unfold sealImage
  simp

@[simp] theorem kept_patchChans (n : RailId) (old : List Nat) (s : State) : kept (patchChans n old s) = kept s := by
  unfold patchChans
  rfl

@[simp] theorem kept_commitPatch (n : RailId) (c : RailCfg) (s : State) : kept (commitPatch n c s) = kept s := by
  unfold commitPatch
  simp

@[simp] theorem kept_readGens  (s : State) : kept (readGens s) = kept s := by
  unfold readGens
  rfl

@[simp] theorem kept_imgIgnore  (s : State) : kept (imgIgnore s) = kept s := by
  unfold imgIgnore
  rfl

@[simp] theorem kept_imgIdle  (s : State) : kept (imgIdle s) = kept s := by
  unfold imgIdle
  simp

@[simp] theorem kept_putErr (e : LdErr) (s : State) : kept (putErr e s) = kept s := by
  unfold putErr
  rfl

@[simp] theorem kept_imgReject  (s : State) : kept (imgReject s) = kept s := by
  unfold imgReject
  rfl

@[simp] theorem kept_imgErr (e : LdErr) (s : State) : kept (imgErr e s) = kept s := by
  unfold imgErr
  rfl

@[simp] theorem kept_imgFail (e : LdErr) (s : State) : kept (imgFail e s) = kept s := by
  unfold imgFail
  simp

@[simp] theorem kept_imgDone  (s : State) : kept (imgDone s) = kept s := by
  unfold imgDone
  simp

@[simp] theorem kept_imgBegin (op : ImgOp) (ph : ImgPhase) (s : State) : kept (imgBegin op ph s) = kept s := by
  unfold imgBegin
  rfl

@[simp] theorem kept_imgOpen (op : ImgOp) (ph : ImgPhase) (s : State) : kept (imgOpen op ph s) = kept s := by
  unfold imgOpen
  rfl

@[simp] theorem kept_winRefuse  (s : State) : kept (winRefuse s) = kept s := by
  unfold winRefuse
  rfl

@[simp] theorem kept_qspiBegin (op : ImgOp) (s : State) : kept (qspiBegin op s) = kept s := by
  unfold qspiBegin
  rfl

@[simp] theorem kept_bootStart  (s : State) : kept (bootStart s) = kept s := by
  unfold bootStart
  simp

@[simp] theorem kept_qspiSeal (im : ImageCfg) (b fb : Bool) (s : State) : kept (qspiSeal im b fb s) = kept s := by
  unfold qspiSeal
  simp

@[simp] theorem kept_qspiDone (l : List Bool) (flashId : Byte) (s : State) : kept (qspiDone l flashId s) = kept s := by
  unfold qspiDone
  dsimp only
  (repeat' split) <;> simp

@[simp] theorem kept_oneSlot (b : Bool) (flashId : Byte) (s : State) : kept (oneSlot b flashId s) = kept s := by
  unfold oneSlot
  simp

@[simp] theorem kept_hostDone  (s : State) : kept (hostDone s) = kept s := by
  unfold hostDone
  (repeat' split) <;> simp

@[simp] theorem kept_fullDone (flashId : Byte) (s : State) : kept (fullDone flashId s) = kept s := by
  unfold fullDone
  (repeat' split) <;> simp

@[simp] theorem kept_streamEnd  (s : State) : kept (streamEnd s) = kept s := by
  unfold streamEnd
  dsimp only
  (repeat' split) <;> simp

@[simp] theorem kept_streamFail (e : LdErr) (s : State) : kept (streamFail e s) = kept s := by
  unfold streamFail
  simp

@[simp] theorem kept_streamHeader  (s : State) : kept (streamHeader s) = kept s := by
  unfold streamHeader
  (repeat' split) <;> simp

@[simp] theorem kept_slotGuard (b : Bool) (f : State → State) (h : ∀ s, kept (f s) = kept s) (s : State) :
    kept (slotGuard b f s) = kept s := by
  unfold slotGuard
  simp [h]

@[simp] theorem kept_putErased (b v : Bool) (s : State) : kept (putErased b v s) = kept s := by
  unfold putErased
  rfl

@[simp] theorem kept_putChecked (b v : Bool) (s : State) : kept (putChecked b v s) = kept s := by
  unfold putChecked
  rfl

@[simp] theorem kept_writeBegin (b : Bool) (s : State) : kept (writeBegin b s) = kept s := by
  unfold writeBegin
  rfl

@[simp] theorem kept_commitBegin (b : Bool) (s : State) : kept (commitBegin b s) = kept s := by
  unfold commitBegin
  simp

@[simp] theorem kept_slotCheckEnd (flashId : Byte) (s : State) : kept (slotCheckEnd flashId s) = kept s := by
  unfold slotCheckEnd
  (repeat' split) <;> simp

@[simp] theorem kept_writeStopped  (s : State) : kept (writeStopped s) = kept s := by
  unfold writeStopped
  (repeat' split) <;> simp

@[simp] theorem kept_applyBegin (n : Nat) (s : State) : kept (applyBegin n s) = kept s := by
  unfold applyBegin
  (repeat' split) <;> simp

@[simp] theorem kept_patchDone  (s : State) : kept (patchDone s) = kept s := by
  unfold patchDone
  (repeat' split) <;> simp

@[simp] theorem kept_imgAbort  (s : State) : kept (imgAbort s) = kept s := by
  unfold imgAbort
  simp

@[simp] theorem kept_ctlSound (r : RailId) (s : State) : kept (ctlSound r s) = kept s := by
  unfold ctlSound
  rfl

@[simp] theorem kept_ctlDisc  (s : State) : kept (ctlDisc s) = kept s := by
  have e : ∀ d l, kept (writeClasses false d l s) = kept s := fun d l => kept_writeClasses false d l s
  unfold ctlDisc
  simp only [kept_ite, kept_mk, (kept_fields (e _ _)).1, (kept_fields (e _ _)).2.1, (kept_fields (e _ _)).2.2]
  simp only [kept_fold, ite_self]

@[simp] theorem kept_ctlFields  (s : State) : kept (ctlFields s) = kept s := by
  unfold ctlFields
  simp

@[simp] theorem kept_islandReset  (s : State) : kept (islandReset s) = kept s := by
  unfold islandReset
  rfl

@[simp] theorem kept_coreReset  (s : State) : kept (coreReset s) = kept s := by
  unfold coreReset
  simp

@[simp] theorem kept_strapRead  (s : State) : kept (strapRead s) = kept s := by
  unfold strapRead
  rfl

@[simp] theorem kept_powerOn  (s : State) : kept (powerOn s) = kept s := by
  unfold powerOn
  simp

@[simp] theorem kept_ibiAgain  (s : State) : kept (ibiAgain s) = kept s := by
  unfold ibiAgain
  simp

@[simp] theorem kept_hadcBegin  (s : State) : kept (hadcBegin s) = kept s := by
  unfold hadcBegin
  rfl

@[simp] theorem kept_ctlStart  (s : State) : kept (ctlStart s) = kept s := by
  unfold ctlStart
  simp

@[simp] theorem kept_ctlReset (kind : BitVec 3) (s : State) : kept (ctlReset kind s) = kept s := by
  unfold ctlReset
  simp

@[simp] theorem kept_epochZero  (s : State) : kept (epochZero s) = kept s := by
  unfold epochZero
  rfl

@[simp] theorem kept_ctlRelease  (s : State) : kept (ctlRelease s) = kept s := by
  unfold ctlRelease
  simp

@[simp] theorem kept_wakeStart (src : BitVec 2) (s : State) : kept (wakeStart src s) = kept s := by
  unfold wakeStart
  simp

@[simp] theorem kept_wakeFail  (s : State) : kept (wakeFail s) = kept s := by
  unfold wakeFail
  rfl

@[simp] theorem kept_wakeSupplies  (s : State) : kept (wakeSupplies s) = kept s := by
  unfold wakeSupplies
  simp

@[simp] theorem kept_wakeSupFail  (s : State) : kept (wakeSupFail s) = kept s := by
  unfold wakeSupFail
  simp

@[simp] theorem kept_pllStart  (s : State) : kept (pllStart s) = kept s := by
  unfold pllStart
  rfl

@[simp] theorem kept_dllStart  (s : State) : kept (dllStart s) = kept s := by
  unfold dllStart
  rfl

@[simp] theorem kept_wakeRef (rc : Bool) (s : State) : kept (wakeRef rc s) = kept s := by
  unfold wakeRef
  simp

@[simp] theorem kept_wakePll  (s : State) : kept (wakePll s) = kept s := by
  unfold wakePll
  simp

@[simp] theorem kept_wakePllFail  (s : State) : kept (wakePllFail s) = kept s := by
  unfold wakePllFail
  simp

@[simp] theorem kept_wakeDllFail  (s : State) : kept (wakeDllFail s) = kept s := by
  unfold wakeDllFail
  simp

@[simp] theorem kept_rawAll  (s : State) : kept (rawAll s) = kept s := by
  unfold rawAll
  simp

@[simp] theorem kept_brownoutStands  (s : State) : kept (brownoutStands s) = kept s := by
  unfold brownoutStands
  simp

@[simp] theorem kept_enterReady  (s : State) : kept (enterReady s) = kept s := by
  unfold enterReady
  simp

@[simp] theorem kept_wakeDll  (s : State) : kept (wakeDll s) = kept s := by
  unfold wakeDll
  simp

@[simp] theorem kept_wakeRestore (ok : Bool) (s : State) : kept (wakeRestore ok s) = kept s := by
  unfold wakeRestore
  simp

@[simp] theorem kept_startUndo  (s : State) : kept (startUndo s) = kept s := by
  unfold startUndo
  simp

@[simp] theorem kept_enterOff  (s : State) : kept (enterOff s) = kept s := by
  unfold enterOff
  simp

@[simp] theorem kept_offStart  (s : State) : kept (offStart s) = kept s := by
  unfold offStart
  simp

@[simp] theorem kept_offEnter  (s : State) : kept (offEnter s) = kept s := by
  unfold offEnter
  simp

@[simp] theorem kept_leaveReady  (s : State) : kept (leaveReady s) = kept s := by
  unfold leaveReady
  simp

@[simp] theorem kept_offStandby  (s : State) : kept (offStandby s) = kept s := by
  unfold offStandby
  simp

@[simp] theorem kept_runDiscover  (s : State) : kept (runDiscover s) = kept s := by
  unfold runDiscover
  rfl

@[simp] theorem kept_runStart  (s : State) : kept (runStart s) = kept s := by
  unfold runStart
  simp

@[simp] theorem kept_runBand  (s : State) : kept (runBand s) = kept s := by
  unfold runBand
  simp

@[simp] theorem kept_runExpire  (s : State) : kept (runExpire s) = kept s := by
  unfold runExpire
  simp

@[simp] theorem kept_enterRun  (s : State) : kept (enterRun s) = kept s := by
  unfold enterRun
  simp

@[simp] theorem kept_discEnd (probes : List (ChanId × Probe)) (s : State) : kept (discEnd probes s) = kept s := by
  unfold discEnd
  simp

@[simp] theorem kept_gotoDo (src : BitVec 2) (g : Nat) (s : State) : kept (gotoDo src g s) = kept s := by
  unfold gotoDo
  (repeat' split) <;> simp

@[simp] theorem kept_pwrGoto (g : Nat) (s : State) : kept (pwrGoto g s) = kept s := by
  unfold pwrGoto
  simp

@[simp] theorem kept_pwrCmdWrite (w : Word) (s : State) : kept (pwrCmdWrite w s) = kept s := by
  unfold pwrCmdWrite
  simp

@[simp] theorem kept_wakeYield  (s : State) : kept (wakeYield s) = kept s := by
  unfold wakeYield
  (repeat' split) <;> simp

@[simp] theorem kept_tookGo (n : Nat) (s : State) : kept (tookGo n s) = kept s := by
  unfold tookGo
  rfl

@[simp] theorem kept_kaTake (g : Nat) (s : State) : kept (kaTake g s) = kept s := by
  unfold kaTake
  simp

@[simp] theorem kept_kaGoto (g : Nat) (s : State) : kept (kaGoto g s) = kept s := by
  unfold kaGoto
  simp

@[simp] theorem kept_kaStateWrite (d : Byte) (pec : Pec) (s : State) : kept (kaStateWrite d pec s) = kept s := by
  unfold kaStateWrite
  simp

@[simp] theorem kept_gotoAny (g : Nat) (s : State) : kept (gotoAny g s) = kept s := by
  unfold gotoAny
  simp

@[simp] theorem kept_enterStandby  (s : State) : kept (enterStandby s) = kept s := by
  unfold enterStandby
  simp

@[simp] theorem kept_dropRetained  (s : State) : kept (dropRetained s) = kept s := by
  unfold dropRetained
  simp

@[simp] theorem kept_resetCore (low : Nat) (s : State) : kept (resetCore low s) = kept s := by
  unfold resetCore
  simp

@[simp] theorem kept_resetAct (low : Nat) (s : State) : kept (resetAct low s) = kept s := by
  unfold resetAct
  (repeat' split) <;> simp

@[simp] theorem kept_resetPulse (ns : Nat) (s : State) : kept (resetPulse ns s) = kept s := by
  unfold resetPulse
  simp

@[simp] theorem kept_wakePulse (ns : Nat) (s : State) : kept (wakePulse ns s) = kept s := by
  unfold wakePulse
  simp

@[simp] theorem kept_softReset  (s : State) : kept (softReset s) = kept s := by
  unfold softReset
  simp

@[simp] theorem kept_pwrRstWrite (w : Word) (s : State) : kept (pwrRstWrite w s) = kept s := by
  unfold pwrRstWrite
  simp

@[simp] theorem kept_xferEnd  (s : State) : kept (xferEnd s) = kept s := by
  unfold xferEnd
  simp

@[simp] theorem kept_wdogExpire  (s : State) : kept (wdogExpire s) = kept s := by
  unfold wdogExpire
  simp

@[simp] theorem kept_wdogKick  (s : State) : kept (wdogKick s) = kept s := by
  unfold wdogKick
  simp

@[simp] theorem kept_pwrWdogWrite (w : Word) (s : State) : kept (pwrWdogWrite w s) = kept s := by
  unfold pwrWdogWrite
  simp

@[simp] theorem kept_vddStep (up : Bool) (s : State) : kept (vddStep up s) = kept s := by
  unfold vddStep
  simp

@[simp] theorem kept_vddaStep (up : Bool) (s : State) : kept (vddaStep up s) = kept s := by
  unfold vddaStep
  simp

@[simp] theorem kept_dpwmStep (lost : Bool) (s : State) : kept (dpwmStep lost s) = kept s := by
  unfold dpwmStep
  simp

@[simp] theorem kept_pllDrop  (s : State) : kept (pllDrop s) = kept s := by
  unfold pllDrop
  simp

@[simp] theorem kept_dllDrop  (s : State) : kept (dllDrop s) = kept s := by
  unfold dllDrop
  simp

@[simp] theorem kept_pllGain  (s : State) : kept (pllGain s) = kept s := by
  unfold pllGain
  simp

@[simp] theorem kept_dllGain  (s : State) : kept (dllGain s) = kept s := by
  unfold dllGain
  simp

@[simp] theorem kept_refLost  (s : State) : kept (refLost s) = kept s := by
  unfold refLost
  simp

@[simp] theorem kept_slowClkLost  (s : State) : kept (slowClkLost s) = kept s := by
  unfold slowClkLost
  simp

@[simp] theorem kept_fatalRelease  (s : State) : kept (fatalRelease s) = kept s := by
  unfold fatalRelease
  simp

@[simp] theorem kept_fatalWrite (w : Word) (s : State) : kept (fatalWrite w s) = kept s := by
  unfold fatalWrite
  simp

@[simp] theorem kept_scrubOne (e : ScrubErr) (s : State) : kept (scrubOne e s) = kept s := by
  unfold scrubOne
  simp

@[simp] theorem kept_scrubPass (errs : List ScrubErr) (s : State) : kept (scrubPass errs s) = kept s := by
  unfold scrubPass
  simp

@[simp] theorem kept_portTarget (r : RailId) (t : Nat) (s : State) : kept (portTarget r t s) = kept s := by
  unfold portTarget
  rfl

@[simp] theorem kept_portSlew (r : RailId) (v : Nat) (s : State) : kept (portSlew r v s) = kept s := by
  unfold portSlew
  rfl

@[simp] theorem kept_linkFail (p : PortId) (cause : LinkCause) (s : State) : kept (linkFail p cause s) = kept s := by
  unfold linkFail
  rfl

@[simp] theorem kept_vselTake (p : PortId) (j : Nat) (s : State) : kept (vselTake p j s) = kept s := by
  unfold vselTake
  exact (kept_forEach _ _ (fun a s => by (repeat' split) <;> simp) _).trans (by simp)

@[simp] theorem kept_vselStep (p : PortId) (j : Fin 8) (s : State) : kept (vselStep p j s) = kept s := by
  unfold vselStep
  simp

@[simp] theorem kept_v2answer (p : PortId) (f : BitVec 32) (a : Ack) (data : Nat) (s : State) :
    kept (v2answer p f a data s) = kept s := by
  unfold v2answer
  rfl

@[simp] theorem kept_v2read (p : PortId) (f : BitVec 32) (s : State) : kept (v2read p f s) = kept s := by
  unfold v2read
  dsimp only
  (repeat' split) <;> simp

@[simp] theorem kept_v2rail' (p : PortId) (f : BitVec 32) (ovr : Bool) (r : RailId) (c : RailCfg) (s : State) :
    kept (v2rail' p f ovr r c s) = kept s := by
  unfold v2rail'
  dsimp only
  (repeat' split) <;> simp

@[simp] theorem kept_v2frame (p : PortId) (f : BitVec 32) (ovr : Bool) (s : State) : kept (v2frame p f ovr s) = kept s := by
  unfold v2frame
  (repeat' split) <;> simp

@[simp] theorem kept_v1answer (p : PortId) (a : Ack) (data : Nat) (s : State) : kept (v1answer p a data s) = kept s := by
  unfold v1answer
  rfl

@[simp] theorem kept_v1rail' (p : PortId) (f : BitVec 16) (ovr : Bool) (r : RailId) (c : RailCfg) (s : State) :
    kept (v1rail' p f ovr r c s) = kept s := by
  unfold v1rail'
  dsimp only
  (repeat' split) <;> simp

@[simp] theorem kept_v1frame (p : PortId) (f : BitVec 16) (ovr : Bool) (s : State) : kept (v1frame p f ovr s) = kept s := by
  unfold v1frame
  (repeat' split) <;> simp

@[simp] theorem kept_avsAnswer (p : PortId) (sel : BitVec 4) (a : Ack) (data : Option (BitVec 16)) (s : State) :
    kept (avsAnswer p sel a data s) = kept s := by
  unfold avsAnswer
  dsimp only
  (repeat' split) <;> simp

@[simp] theorem kept_avsReply (p : PortId) (sel : BitVec 4) (b : Ack) (data : Option (BitVec 16)) (s : State) :
    kept (avsReply p sel b data s) = kept s := by
  unfold avsReply
  simp

@[simp] theorem kept_avsDo (ty : BitVec 4) (d : BitVec 16) (rc : RailId × RailCfg) (s : State) :
    kept (avsDo ty d rc s) = kept s := by
  unfold avsDo
  simp

@[simp] theorem kept_avsCommit (p : PortId) (ty sel : BitVec 4) (d : BitVec 16) (s : State) :
    kept (avsCommit p ty sel d s) = kept s := by
  unfold avsCommit
  simp

@[simp] theorem kept_avsHeldOne (p : PortId) (ovr : Bool) (h : BitVec 4 × BitVec 4 × BitVec 16) (s : State) :
    kept (avsHeldOne p ovr h s) = kept s := by
  unfold avsHeldOne
  (repeat' split) <;> simp

@[simp] theorem kept_avsHeld (p : PortId) (ovr : Bool) (s : State) : kept (avsHeld p ovr s) = kept s := by
  unfold avsHeld
  simp

@[simp] theorem kept_avsWrite (p : PortId) (ty sel : BitVec 4) (d : BitVec 16) (ovr : Bool) (s : State) :
    kept (avsWrite p ty sel d ovr s) = kept s := by
  unfold avsWrite
  simp

@[simp] theorem kept_avsHold (p : PortId) (ty sel : BitVec 4) (d : BitVec 16) (s : State) :
    kept (avsHold p ty sel d s) = kept s := by
  unfold avsHold
  simp

@[simp] theorem kept_avsRead (p : PortId) (sel : BitVec 4) (v : Rail → Nat) (s : State) :
    kept (avsRead p sel v s) = kept s := by
  unfold avsRead
  (repeat' split) <;> simp

@[simp] theorem kept_avsStatRead (p : PortId) (sel : BitVec 4) (s : State) : kept (avsStatRead p sel s) = kept s := by
  unfold avsStatRead
  simp

@[simp] theorem kept_avsVersRead (p : PortId) (sel : BitVec 4) (s : State) : kept (avsVersRead p sel s) = kept s := by
  unfold avsVersRead
  simp

@[simp] theorem kept_avsNothing (p : PortId) (sel : BitVec 4) (why : AvsBad) (s : State) :
    kept (avsNothing p sel why s) = kept s := by
  unfold avsNothing
  (repeat' split) <;> simp

@[simp] theorem kept_accErr  (s : State) : kept (accErr s) = kept s := by
  unfold accErr
  rfl

@[simp] theorem kept_bistStart (b : BankId) (s : State) : kept (bistStart b s) = kept s := by
  unfold bistStart
  simp

@[simp] theorem kept_bistWrite (b : BankId) (w : Word) (s : State) : kept (bistWrite b w s) = kept s := by
  unfold bistWrite
  simp

@[simp] theorem kept_bistEnd (b : BankId) (map : Byte) (item : BitVec 4) (s : State) :
    kept (bistEnd b map item s) = kept s := by
  unfold bistEnd
  simp

@[simp] theorem kept_silFreeze (r : RailId) (s : State) : kept (silFreeze r s) = kept s := by
  unfold silFreeze
  simp

@[simp] theorem kept_silRearm (r : RailId) (s : State) : kept (silRearm r s) = kept s := by
  unfold silRearm
  dsimp only
  split <;> rfl

@[simp] theorem kept_silWrite (r : RailId) (w : Word) (s : State) : kept (silWrite r w s) = kept s := by
  unfold silWrite
  simp

@[simp] theorem kept_silErr (r : RailId) (s : State) : kept (silErr r s) = kept s := by
  unfold silErr
  rfl

@[simp] theorem kept_silReadLo (r : RailId) (s : State) : kept (silReadLo r s) = kept s := by
  unfold silReadLo
  simp

@[simp] theorem kept_silReadHi (r : RailId) (s : State) : kept (silReadHi r s) = kept s := by
  unfold silReadHi
  simp

@[simp] theorem kept_countRead (i : Iface) (s : State) : kept (countRead i s) = kept s := by
  unfold countRead
  simp

@[simp] theorem kept_pairKept (l : Lost) (s : State) : kept (pairKept l s) = kept s := by
  unfold pairKept
  dsimp only
  (repeat' split) <;> simp

@[simp] theorem kept_fifoPop (f : FifoId) (s : State) : kept (fifoPop f s) = kept s := by
  unfold fifoPop
  dsimp only
  (repeat' split) <;> simp

@[simp] theorem kept_readEffect (i : Iface) (a : BitVec 16) (s : State) : kept (readEffect i a s) = kept s := by
  unfold readEffect
  dsimp only
  (repeat' split) <;> simp

@[simp] theorem kept_regRead (i : Iface) (a : BitVec 16) (s : State) : kept (regRead i a s).2 = kept s := by
  unfold regRead
  simp

@[simp] theorem kept_glbWrite (off : Nat) (w : Word) (s : State) : kept (glbWrite off w s) = kept s := by
  unfold glbWrite
  (repeat' split) <;> simp

@[simp] theorem kept_pwrWrite (off : Nat) (w : Word) (s : State) : kept (pwrWrite off w s) = kept s := by
  unfold pwrWrite
  (repeat' split) <;> simp

@[simp] theorem kept_hadcWrite (off : Nat) (w : Word) (s : State) : kept (hadcWrite off w s) = kept s := by
  unfold hadcWrite
  (repeat' split) <;> simp

@[simp] theorem kept_thmWrite (off : Nat) (w : Word) (s : State) : kept (thmWrite off w s) = kept s := by
  unfold thmWrite
  (repeat' split) <;> simp

@[simp] theorem kept_nvlWrite (off : Nat) (w : Word) (s : State) : kept (nvlWrite off w s) = kept s := by
  unfold nvlWrite
  (repeat' split) <;> simp

@[simp] theorem kept_selWrite (i : Iface) (w : Word) (s : State) : kept (selWrite i w s) = kept s := by
  unfold selWrite
  (repeat' split) <;> simp

@[simp] theorem kept_tmrWrite (i : Iface) (off : Nat) (w : Word) (s : State) : kept (tmrWrite i off w s) = kept s := by
  unfold tmrWrite
  (repeat' split) <;> simp

@[simp] theorem kept_hifWrite (off : Nat) (w : Word) (s : State) : kept (hifWrite off w s) = kept s := by
  unfold hifWrite
  (repeat' split) <;> simp

@[simp] theorem kept_nlWrite (off : Nat) (w : Word) (s : State) : kept (nlWrite off w s) = kept s := by
  unfold nlWrite
  (repeat' split) <;> simp

@[simp] theorem kept_targetWrite (r : RailId) (c : RailCfg) (w : Word) (s : State) :
    kept (targetWrite r c w s) = kept s := by
  unfold targetWrite
  simp

@[simp] theorem kept_protClear (r : RailId) (c : RailCfg) (w : Word) (s : State) : kept (protClear r c w s) = kept s := by
  unfold protClear
  simp

@[simp] theorem kept_railWrite (r : RailId) (c : RailCfg) (off : Nat) (w : Word) (s : State) :
    kept (railWrite r c off w s) = kept s := by
  unfold railWrite
  (repeat' split) <;> simp

@[simp] theorem kept_portWrite (p : PortId) (off : Nat) (w : Word) (s : State) : kept (portWrite p off w s) = kept s := by
  unfold portWrite
  (repeat' split) <;> simp

@[simp] theorem kept_bankWrite (b : BankId) (off : Nat) (w : Word) (s : State) : kept (bankWrite b off w s) = kept s := by
  unfold bankWrite
  (repeat' split) <;> simp

@[simp] theorem kept_irqWrite (page off : Nat) (w : Word) (s : State) : kept (irqWrite page off w s) = kept s := by
  unfold irqWrite
  (repeat' split) <;> simp

@[simp] theorem kept_bareWrite (page off : Nat) (w : Word) (s : State) : kept (bareWrite page off w s) = kept s := by
  unfold bareWrite
  (repeat' split) <;> simp

@[simp] theorem kept_railPageWrite (page off : Nat) (w : Word) (s : State) : kept (railPageWrite page off w s) = kept s := by
  unfold railPageWrite
  (repeat' split) <;> simp

@[simp] theorem kept_blockWrite (page off : Nat) (w : Word) (s : State) : kept (blockWrite page off w s) = kept s := by
  unfold blockWrite
  (repeat' split) <;> simp

@[simp] theorem kept_onRailPage (r : RailId) (f : RailCfg → State → State) (h : ∀ c s, kept (f c s) = kept s) (s : State) :
    kept (onRailPage r f s) = kept s := by
  unfold onRailPage
  (repeat' split) <;> simp [h]

@[simp] theorem kept_onRailReg (r : RailId) (off : Nat) (w : Word) (f : RailCfg → Word → State → State)
    (h : ∀ c w s, kept (f c w s) = kept s) (s : State) : kept (onRailReg r off w f s) = kept s := by
  unfold onRailReg
  exact kept_onRailPage _ _ (fun c s => kept_w1cDo _ _ _ _ (fun w s => h c w s) s) _

@[simp] theorem kept_onRailSeq (r : RailId) (w : Word) (s : State) : kept (onRailSeq r w s) = kept s := by
  unfold onRailSeq
  (repeat' split) <;> simp

@[simp] theorem kept_onHost (f : State → State) (h : ∀ s, kept (f s) = kept s) (s : State) : kept (onHost f s) = kept s := by
  unfold onHost
  simp [h]

@[simp] theorem kept_readBytes (i : Iface) (a : Option (BitVec 16)) (fuel n : Nat) (s : State) :
    kept (readBytes i a fuel n s).2.2 = kept s := by
  induction fuel generalizing a n s with
  | zero => rfl
  | succ k ih =>
    unfold readBytes
    split
    · rfl
    · split
      · simp
      · exact (ih _ _ _).trans (by simp)

@[simp] theorem kept_ptrAfter (a : Option (BitVec 16)) (s : State) : kept (ptrAfter a s).2 = kept s := by
  unfold ptrAfter
  (repeat' split) <;> simp

@[simp] theorem kept_restoreEnd (r : RailId) (p : Probe) (cal : Int) (s : State) : kept (restoreEnd r p cal s) = kept s := by
  unfold restoreEnd
  simp

@[simp] theorem kept_freezeRaises  (s : State) : kept (freezeRaises s) = kept s := by
  unfold freezeRaises
  rfl

@[simp] theorem kept_macerClose (win : Option RailId) (s : State) : kept (macerClose win s) = kept s := by
  unfold macerClose
  (repeat' split) <;> simp

@[simp] theorem kept_hadcResult (v : Int) (s : State) : kept (hadcResult v s) = kept s := by
  unfold hadcResult
  simp

@[simp] theorem kept_pairRead (ballN lvl : Bool) (s : State) : kept (pairRead ballN lvl s) = kept s := by
  unfold pairRead
  simp

@[simp] theorem kept_hostRead (i : Iface) (a : BitVec 16) (s : State) : kept (hostRead i a s) = kept s := by
  unfold hostRead
  simp

@[simp] theorem kept_pecFail  (s : State) : kept (pecFail s) = kept s := by
  unfold pecFail
  rfl

@[simp] theorem kept_badData  (s : State) : kept (badData s) = kept s := by
  unfold badData
  rfl

@[simp] theorem kept_badCode  (s : State) : kept (badCode s) = kept s := by
  unfold badCode
  rfl

@[simp] theorem kept_smbWrite (pec : Pec) (f : State → State) (h : ∀ s, kept (f s) = kept s) (s : State) :
    kept (smbWrite pec f s) = kept s := by
  unfold smbWrite
  (repeat' split) <;> simp [h]

@[simp] theorem kept_smbRead (f : State → State) (h : ∀ s, kept (f s) = kept s) (s : State) :
    kept (smbRead f s) = kept s := by
  unfold smbRead
  simp [h]

@[simp] theorem kept_withPec (code : Nat) (f : State → State) (h : ∀ s, kept (f s) = kept s) (s : State) :
    kept (withPec code f s) = kept s := by
  unfold withPec
  dsimp only
  (repeat' split) <;> simp [h]

@[simp] theorem kept_pagedWrite (f : RailId → RailCfg → State → State) (h : ∀ r c s, kept (f r c s) = kept s) (s : State) :
    kept (pagedWrite f s) = kept s := by
  unfold pagedWrite
  (repeat' split) <;> simp [h]

@[simp] theorem kept_pagedRead (n : Nat) (f : RailId → RailCfg → Nat) (s : State) : kept (pagedRead n f s) = kept s := by
  unfold pagedRead
  (repeat' split) <;> simp

@[simp] theorem kept_plainRead (n v : Nat) (s : State) : kept (plainRead n v s) = kept s := by
  unfold plainRead
  rfl

@[simp] theorem kept_blockRead (l : List Byte) (s : State) : kept (blockRead l s) = kept s := by
  unfold blockRead
  rfl

@[simp] theorem kept_pageCmd (d : Option Byte) (pec : Pec) (s : State) : kept (pageCmd d pec s) = kept s := by
  unfold pageCmd
  split
  · simp
  · exact kept_smbWrite _ _ (fun s => by split <;> simp) _

@[simp] theorem kept_operationCmd (d : Option Byte) (pec : Pec) (s : State) : kept (operationCmd d pec s) = kept s := by
  unfold operationCmd
  (repeat' split) <;> simp

@[simp] theorem kept_clearRail (r : RailId) (_c : RailCfg) (s : State) : kept (clearRail r _c s) = kept s := by
  unfold clearRail
  simp

@[simp] theorem kept_clearCmd (pec : Pec) (s : State) : kept (clearCmd pec s) = kept s := by
  unfold clearCmd
  refine kept_smbWrite _ _ (fun s => ?_) _
  split
  · simp
  · exact (kept_pagedWrite _ (fun r c s => by simp) _).trans (by simp)

@[simp] theorem kept_voutCmd (d : Option (BitVec 16)) (pec : Pec) (s : State) : kept (voutCmd d pec s) = kept s := by
  unfold voutCmd
  (repeat' split) <;> simp

@[simp] theorem kept_rateCmd (d : Option (BitVec 16)) (pec : Pec) (s : State) : kept (rateCmd d pec s) = kept s := by
  unfold rateCmd
  (repeat' split) <;> simp

@[simp] theorem kept_rawTargetCmd (d : Option (BitVec 16)) (pec : Pec) (s : State) :
    kept (rawTargetCmd d pec s) = kept s := by
  unfold rawTargetCmd
  (repeat' split) <;> simp

@[simp] theorem kept_readPaged (n : Nat) (f : State → RailId → RailCfg → Nat) (s : State) :
    kept (readPaged n f s) = kept s := by
  unfold readPaged
  simp

@[simp] theorem kept_kaWordRead  (s : State) : kept (kaWordRead s) = kept s := by
  unfold kaWordRead
  simp

@[simp] theorem kept_stateCmd (d : Byte) (pec : Pec) (s : State) : kept (stateCmd d pec s) = kept s := by
  unfold stateCmd
  simp

@[simp] theorem kept_regAddrCmd (d : Option (BitVec 16)) (pec : Pec) (s : State) : kept (regAddrCmd d pec s) = kept s := by
  unfold regAddrCmd
  split
  · simp
  · exact kept_smbWrite _ _ (fun s => by simp) _

@[simp] theorem kept_ptrStep  (s : State) : kept (ptrStep s) = kept s := by
  unfold ptrStep
  simp

@[simp] theorem kept_unknownCmd (code : Byte) (s : State) : kept (unknownCmd code s) = kept s := by
  unfold unknownCmd
  simp

@[simp] theorem kept_smbTimeout (s : State) : kept (smbTimeout s) = kept s := by
  unfold smbTimeout
  exact kept_onHost _ (fun s => by simp) _

@[simp] theorem kept_alertAnswer  (s : State) : kept (alertAnswer s) = kept s := by
  unfold alertAnswer
  simp

@[simp] theorem kept_i3cDirect (f : State → State) (h : ∀ s, kept (f s) = kept s) (s : State) :
    kept (i3cDirect f s) = kept s := by
  unfold i3cDirect
  simp [h]

@[simp] theorem kept_mwlCut (data : List Byte) (s : State) : kept (mwlCut data s).2 = kept s := by
  unfold mwlCut
  (repeat' split) <;> simp

@[simp] theorem kept_i3cRead (n : Nat) (s : State) : kept (i3cRead n s) = kept s := by
  unfold i3cRead
  refine kept_i3cDirect _ (fun s => ?_) _
  simp [kept_readBytes]

@[simp] theorem kept_setDyn (a : Option (BitVec 7)) (s : State) : kept (setDyn a s) = kept s := by
  unfold setDyn
  rfl

@[simp] theorem kept_takeAddr (a : BitVec 7) (s : State) : kept (takeAddr a s) = kept s := by
  unfold takeAddr
  rfl

@[simp] theorem kept_entdaaCmd (a : BitVec 7) (s : State) : kept (entdaaCmd a s) = kept s := by
  unfold entdaaCmd
  simp

@[simp] theorem kept_rstdaaCmd  (s : State) : kept (rstdaaCmd s) = kept s := by
  unfold rstdaaCmd
  simp

@[simp] theorem kept_setdasaCmd (a : BitVec 7) (s : State) : kept (setdasaCmd a s) = kept s := by
  unfold setdasaCmd
  simp

@[simp] theorem kept_setnewdaCmd (a : BitVec 7) (s : State) : kept (setnewdaCmd a s) = kept s := by
  unfold setnewdaCmd
  simp

@[simp] theorem kept_enecCmd (ev : Byte) (s : State) : kept (enecCmd ev s) = kept s := by
  unfold enecCmd
  simp

@[simp] theorem kept_disecCmd (ev : Byte) (s : State) : kept (disecCmd ev s) = kept s := by
  unfold disecCmd
  simp

@[simp] theorem kept_setmwlCmd (n : BitVec 16) (s : State) : kept (setmwlCmd n s) = kept s := by
  unfold setmwlCmd
  simp

@[simp] theorem kept_setmrlCmd (n : BitVec 16) (s : State) : kept (setmrlCmd n s) = kept s := by
  unfold setmrlCmd
  simp

@[simp] theorem kept_cccRead (f : State → List Byte) (s : State) : kept (cccRead f s) = kept s := by
  unfold cccRead
  simp

@[simp] theorem kept_getstatusCmd  (s : State) : kept (getstatusCmd s) = kept s := by
  unfold getstatusCmd
  simp

@[simp] theorem kept_i3cFault  (s : State) : kept (i3cFault s) = kept s := by
  unfold i3cFault
  rfl

@[simp] theorem kept_hdrSet (v : Bool) (s : State) : kept (hdrSet v s) = kept s := by
  unfold hdrSet
  rfl

@[simp] theorem kept_cccOther (k : CccKind) (s : State) : kept (cccOther k s) = kept s := by
  unfold cccOther
  (repeat' split) <;> simp

@[simp] theorem kept_ibiDeliver (ack : Bool) (s : State) : kept (ibiDeliver ack s) = kept s := by
  unfold ibiDeliver
  (repeat' split) <;> simp

@[simp] theorem kept_hotJoin  (s : State) : kept (hotJoin s) = kept s := by
  unfold hotJoin
  simp

@[simp] theorem kept_onLoader (f : State → State) (h : ∀ s, kept (f s) = kept s) (s : State) :
    kept (onLoader f s) = kept s := by
  unfold onLoader
  simp [h]

@[simp] theorem kept_blotterDue  (s : State) : kept (blotterDue s) = kept s := by
  unfold blotterDue
  simp

@[simp] theorem kept_heard (lost : Bool) (f : State → State) (h : ∀ s, kept (f s) = kept s) (s : State) :
    kept (heard lost f s) = kept s := by
  unfold heard
  simp [h]

@[simp] theorem kept_badFrame (pr : Proto) (p : PortId) (cause : LinkCause) (s : State) :
    kept (badFrame pr p cause s) = kept s := by
  unfold badFrame
  simp

@[simp] theorem kept_toldPin (pin : Nat) (lvl : Bool) (s : State) : kept (toldPin pin lvl s) = kept s := by
  unfold toldPin
  simp

@[simp] theorem kept_capPut (t : TimerId) (lvl : Bool) (s : State) : kept (capPut t lvl s) = kept s := by
  unfold capPut
  simp

@[simp] theorem kept_gatePut (t : TimerId) (lvl : Bool) (s : State) : kept (gatePut t lvl s) = kept s := by
  unfold gatePut
  rfl

@[simp] theorem kept_seqPut (r : RailId) (lvl : Bool) (s : State) : kept (seqPut r lvl s) = kept s := by
  unfold seqPut
  rfl

@[simp] theorem kept_pinPut (pin : Nat) (lvl : Bool) (s : State) : kept (pinPut pin lvl s) = kept s := by
  unfold pinPut
  simp

@[simp] theorem kept_pinTold (pin : Nat) (was lvl : Bool) (s : State) : kept (pinTold pin was lvl s) = kept s := by
  unfold pinTold
  simp

@[simp] theorem kept_timerInputs (t : TimerId) (cap gate : Bool) (s : State) : kept (timerInputs t cap gate s) = kept s := by
  unfold timerInputs
  dsimp only
  (repeat' split) <;> simp

@[simp] theorem kept_seqInput (r : RailId) (lvl : Bool) (s : State) : kept (seqInput r lvl s) = kept s := by
  unfold seqInput
  split <;> simp

@[simp] theorem kept_syncPins  (s : State) : kept (syncPins s) = kept s := by
  unfold syncPins
  simp

@[simp] theorem kept_ovChange (r : RailId) (up : Bool) (s : State) : kept (ovChange r up s) = kept s := by
  unfold ovChange
  simp

@[simp] theorem kept_uvChange (r : RailId) (up : Bool) (s : State) : kept (uvChange r up s) = kept s := by
  unfold uvChange
  simp

@[simp] theorem kept_snsTrip (r : RailId) (neg : Bool) (c : RailCfg) (s : State) : kept (snsTrip r neg c s) = kept s := by
  unfold snsTrip
  simp

@[simp] theorem kept_snsChange (r : RailId) (neg up : Bool) (s : State) : kept (snsChange r neg up s) = kept s := by
  unfold snsChange
  simp

@[simp] theorem kept_pgEdge (r : RailId) (up : Bool) (c : RailCfg) (s : State) : kept (pgEdge r up c s) = kept s := by
  unfold pgEdge
  simp

@[simp] theorem kept_pgChange (r : RailId) (up : Bool) (s : State) : kept (pgChange r up s) = kept s := by
  unfold pgChange
  simp

@[simp] theorem kept_pgRise (r : RailId) (s : State) : kept (pgRise r s) = kept s := by
  unfold pgRise
  simp

@[simp] theorem kept_pgFall (r : RailId) (s : State) : kept (pgFall r s) = kept s := by
  unfold pgFall
  simp

@[simp] theorem kept_seqStep (r : RailId) (i : Bool) (c : RailCfg) (s : State) : kept (seqStep r i c s) = kept s := by
  unfold seqStep
  dsimp only
  (repeat' split) <;> simp

@[simp] theorem kept_durDone (r : RailId) (s : State) : kept (durDone r s) = kept s := by
  unfold durDone
  rfl

@[simp] theorem kept_prebDone (r : RailId) (c : RailCfg) (s : State) : kept (prebDone r c s) = kept s := by
  unfold prebDone
  simp

@[simp] theorem kept_moveDone (r : RailId) (c : RailCfg) (s : State) : kept (moveDone r c s) = kept s := by
  unfold moveDone
  dsimp only
  (repeat' split) <;> simp

@[simp] theorem kept_tapLoad (i : TapIr) (s : State) : kept (tapLoad i s) = kept s := by
  unfold tapLoad
  simp

@[simp] theorem kept_tapPins (i : TapIr) (s : State) : kept (tapPins i s) = kept s := by
  unfold tapPins
  simp

@[simp] theorem kept_tapHalt  (s : State) : kept (tapHalt s) = kept s := by
  unfold tapHalt
  simp

@[simp] theorem kept_tapRelease  (s : State) : kept (tapRelease s) = kept s := by
  unfold tapRelease
  simp

@[simp] theorem kept_tapReset  (s : State) : kept (tapReset s) = kept s := by
  unfold tapReset
  simp

@[simp] theorem kept_drOpen (s : State) : kept (drOpen s).2 = kept s := rfl

@[simp] theorem kept_ftmkeyCmd (testen : Bool) (key : BitVec 128) (s : State) : kept (ftmkeyCmd testen key s) = kept s := by
  unfold ftmkeyCmd
  simp

@[simp] theorem kept_idOut  (s : State) : kept (idOut s) = kept s := by
  unfold idOut
  simp

@[simp] theorem kept_matchNow (t : TimerId) (s : State) : kept (matchNow t s) = kept s := by
  unfold matchNow
  simp

@[simp] theorem kept_coreEdge  (s : State) : kept (coreEdge s) = kept s := by
  unfold coreEdge
  rfl

@[simp] theorem kept_wordsEdge  (s : State) : kept (wordsEdge s) = kept s := by
  unfold wordsEdge
  simp

@[simp] theorem kept_pinsEdge  (s : State) : kept (pinsEdge s) = kept s := by
  unfold pinsEdge
  simp

@[simp] theorem kept_later  (s : State) : kept (later s) = kept s := by
  unfold later
  rfl

end Sys2Proof.Machine
end

