-- ==== Sys2Proof/Laws/Memory.lean ====
section
/-! SUPPORT. Laws of the flash: the canonical form is kept by every operation, a read after a write gives the value
written, a write leaves every other byte alone. -/

namespace Sys2Proof.Machine

theorem risingFrom_mono {n k : Nat} {m : List Host.Cell} (h : risingFrom n m = true) (hk : k ≤ n) : risingFrom k m = true := by
  cases m with
  | nil => rfl
  | cons c cs =>
    simp only [risingFrom, Bool.and_eq_true, decide_eq_true_eq] at h ⊢
    exact ⟨⟨Nat.le_trans hk h.1.1, h.1.2⟩, h.2⟩

theorem risingFrom_put {n a : Nat} (v : Byte) {m : List Host.Cell} (h : risingFrom n m = true) (ha : n ≤ a) :
    risingFrom n (flashPut m a v) = true := by
  induction m generalizing n with
  | nil =>
    unfold flashPut
    split
    · rfl
    · simp [risingFrom, *]
  | cons c cs ih =>
    have h0 := h
    simp only [risingFrom, Bool.and_eq_true, decide_eq_true_eq] at h
    unfold flashPut
    split
    · split
      · exact h0
      · rename_i h1 h2
        simp only [risingFrom, Bool.and_eq_true, decide_eq_true_eq, bne_iff_ne]
        exact ⟨⟨ha, h2⟩, ⟨h1, bne_iff_ne.mp h.1.2⟩, h.2⟩
    · split
      · rename_i h1 h2
        split
        · exact risingFrom_mono h.2 (by omega)
        · rename_i h3
          simp only [risingFrom, Bool.and_eq_true, decide_eq_true_eq, bne_iff_ne]
          exact ⟨⟨ha, h3⟩, by rw [h2]; exact h.2⟩
      · simp only [risingFrom, Bool.and_eq_true, decide_eq_true_eq]
        exact ⟨h.1, ih h.2 (by omega)⟩

/-- Writing a byte keeps the canonical form. -/
theorem wf_put {m : List Host.Cell} (a : Nat) (v : Byte) (h : Memory.wf m = true) : Memory.wf (flashPut m a v) = true :=
  risingFrom_put v h (Nat.zero_le a)

/-- Programming a byte keeps the canonical form. -/
theorem wf_prog {m : List Host.Cell} (a : Nat) (v : Byte) (h : Memory.wf m = true) : Memory.wf (flashProg m a v) = true :=
  wf_put a _ h

/-- Programming bytes keeps the canonical form. -/
theorem wf_progList (l : List Byte) {m : List Host.Cell} (a : Nat) (h : Memory.wf m = true) :
    Memory.wf (flashProgList m a l) = true := by
  induction l generalizing m a with
  | nil => exact h
  | cons v vs ih => exact ih (a + 1) (wf_prog a v h)

theorem risingFrom_filter (p : Host.Cell → Bool) {n : Nat} {m : List Host.Cell} (h : risingFrom n m = true) :
    risingFrom n (m.filter p) = true := by
  induction m generalizing n with
  | nil => rfl
  | cons c cs ih =>
    have h' := h
    simp only [risingFrom, Bool.and_eq_true, decide_eq_true_eq] at h
    rw [List.filter_cons]
    split
    · simp only [risingFrom, Bool.and_eq_true, decide_eq_true_eq]
      exact ⟨h.1, ih h.2⟩
    · exact risingFrom_mono (ih h.2) (by omega)

/-- Erasing keeps the canonical form. -/
theorem wf_erase {m : List Host.Cell} (a n : Nat) (h : Memory.wf m = true) : Memory.wf (flashErase m a n) = true :=
  risingFrom_filter _ h

theorem flashRead_low {n a : Nat} {m : List Host.Cell} (h : risingFrom n m = true) (ha : a < n) : flashRead m a = erasedByte := by
  induction m generalizing n with
  | nil => rfl
  | cons c cs ih =>
    simp only [risingFrom, Bool.and_eq_true, decide_eq_true_eq] at h
    rw [flashRead, if_neg (by omega)]
    exact ih h.2 (by omega)

theorem flashRead_put_of {n : Nat} {m : List Host.Cell} (h : risingFrom n m = true) (a b : Nat) (v : Byte) :
    flashRead (flashPut m a v) b = if b = a then v else flashRead m b := by
  induction m generalizing n with
  | nil =>
    unfold flashPut
    split
    · rename_i h1; simp [flashRead, h1]
    · simp [flashRead, eq_comm]
  | cons c cs ih =>
    simp only [risingFrom, Bool.and_eq_true, decide_eq_true_eq] at h
    unfold flashPut
    split
    · rename_i h1
      have low : flashRead (c :: cs) a = erasedByte := by
        rw [flashRead, if_neg (by omega)]
        exact flashRead_low h.2 (by omega)
      split
      · rename_i h2
        by_cases e : b = a
        · rw [if_pos e, e, low, h2]
        · rw [if_neg e]
      · rw [flashRead]
        by_cases e : b = a
        · simp [e]
        · simp [e, Ne.symm e]
    · split
      · rename_i h1 h2
        split
        · rename_i h3
          by_cases e : b = a
          · rw [if_pos e, h3, e]
            exact flashRead_low h.2 (by omega)
          · rw [if_neg e, flashRead, if_neg (by omega)]
        · by_cases e : b = a
          · simp [flashRead, e]
          · rw [if_neg e, flashRead, if_neg (Ne.symm e), flashRead, if_neg (by omega)]
      · rename_i h1 h2
        rw [flashRead, flashRead]
        by_cases e : c.1 = b
        · rw [if_pos e, if_pos e, if_neg (by omega)]
        · rw [if_neg e, if_neg e]
          exact ih h.2

/-- A read after a write gives the value written. -/
theorem flashRead_put_same {m : List Host.Cell} (h : Memory.wf m = true) (a : Nat) (v : Byte) :
    flashRead (flashPut m a v) a = v := by rw [flashRead_put_of h, if_pos rfl]

/-- A write leaves every other byte as it is. -/
theorem flashRead_put_other {m : List Host.Cell} (h : Memory.wf m = true) {a b : Nat} (hab : b ≠ a) (v : Byte) :
    flashRead (flashPut m a v) b = flashRead m b := by rw [flashRead_put_of h, if_neg hab]

/-- Programming bytes leaves the bytes outside them as they are. -/
theorem flashRead_progList {m : List Host.Cell} (l : List Byte) (h : Memory.wf m = true) {a b : Nat}
    (hb : b < a ∨ a + l.length ≤ b) : flashRead (flashProgList m a l) b = flashRead m b := by
  induction l generalizing m a with
  | nil => rfl
  | cons v vs ih =>
    rw [List.length_cons] at hb
    rw [flashProgList, ih (wf_prog a v h) (by omega)]
    exact flashRead_put_other h (by omega) _

/-- An erased byte reads 0xFF, and every other byte as before. -/
theorem flashRead_erase (m : List Host.Cell) (a n b : Nat) :
    flashRead (flashErase m a n) b = if a ≤ b ∧ b < a + n then erasedByte else flashRead m b := by
  unfold flashErase
  induction m with
  | nil => simp [flashRead]
  | cons c cs ih =>
    rw [List.filter_cons]
    by_cases e : c.1 = b
    · by_cases hb : a ≤ b ∧ b < a + n
      · rw [if_neg (by simp [e, hb]), ih]
        simp [hb]
      · rw [if_pos (by simp only [e, Bool.not_eq_true', Bool.and_eq_false_imp, decide_eq_true_eq, decide_eq_false_iff_not]; omega)]
        simp [flashRead, e, hb]
    · split
      · rw [flashRead, if_neg e, ih, flashRead, if_neg e]
      · rw [ih, flashRead, if_neg e]

/-- Bytes programmed over erased ones read back as they were programmed. -/
theorem flashReadList_prog {m : List Host.Cell} (l : List Byte) (h : Memory.wf m = true) {a : Nat}
    (he : ∀ b, a ≤ b → b < a + l.length → flashRead m b = erasedByte) :
    flashReadList (flashProgList m a l) a l.length = l := by
  induction l generalizing m a with
  | nil => rfl
  | cons v vs ih =>
    have h' : Memory.wf (flashProg m a v) = true := wf_prog a v h
    simp only [flashProgList, List.length_cons, flashReadList]
    rw [flashRead_progList vs h' (Or.inl (Nat.lt_succ_self a)), ih h']
    · have : flashRead (flashProg m a v) a = v := by
        unfold flashProg
        rw [flashRead_put_same h, he a (Nat.le_refl a) (by simp)]
        exact BitVec.allOnes_and
      rw [this]
    · intro b hb hl
      unfold flashProg
      rw [flashRead_put_other h (by omega)]
      exact he b (by omega) (by simp only [List.length_cons]; omega)

/-- The first bytes of a longer read. -/
theorem flashReadList_take (m : List Host.Cell) (a n k : Nat) :
    (flashReadList m a (n + k)).take n = flashReadList m a n := by
  induction n generalizing a with
  | zero => rfl
  | succ n ih =>
    rw [Nat.add_right_comm]
    simp only [flashReadList, List.take_succ_cons, ih]

/-- A read depends only on the bytes read. -/
theorem flashReadList_congr {m m' : List Host.Cell} (n a : Nat)
    (h : ∀ b, a ≤ b → b < a + n → flashRead m b = flashRead m' b) : flashReadList m a n = flashReadList m' a n := by
  induction n generalizing a with
  | zero => rfl
  | succ n ih =>
    simp only [flashReadList]
    rw [h a (Nat.le_refl a) (by omega), ih (a + 1) (fun b hb hl => h b (by omega) (by omega))]

/-- The flash after reset is in canonical form. -/
theorem wf_reset : Memory.wf State.reset.flash = true := rfl

end Sys2Proof.Machine
end

