-- ==== Sys2Proof/Laws/Grows.lean ====
section
/-! SUPPORT. The operations that write the flash or the one-time-programmable controls: the queue stays, the flash keeps
its canonical form, and a fuse, a revocation or a key once programmed stays (R77, R399). -/

namespace Sys2Proof.Machine

/-- One-time-programmable controls only grow: fuses are blown, keys revoked or programmed, never the other way. -/
structure OtpGrows (a b : Otp) : Prop where
  fuses : a.fuses ≤ b.fuses
  revoked : ∀ i : Nat, a.revoked.getLsbD i = true → b.revoked.getLsbD i = true
  keys : ∀ (i : Nat) (k : BitVec 128), a.keys.getD i none = some k → b.keys.getD i none = some k

theorem OtpGrows.refl (a : Otp) : OtpGrows a a := ⟨Nat.le_refl _, fun _ h => h, fun _ _ h => h⟩

theorem OtpGrows.trans {a b c : Otp} (h : OtpGrows a b) (k : OtpGrows b c) : OtpGrows a c :=
  ⟨Nat.le_trans h.fuses k.fuses, fun i x => k.revoked i (h.revoked i x), fun i v x => k.keys i v (h.keys i v x)⟩

/-- From `s` to `t` the queue stays, the flash keeps its canonical form and the one-time controls only grow. -/
structure Grows (s t : State) : Prop where
  pending : t.pending = s.pending
  flash : Memory.wf s.flash = true → Memory.wf t.flash = true
  otp : OtpGrows s.otp t.otp

theorem Grows.refl (s : State) : Grows s s := ⟨rfl, fun h => h, .refl _⟩

theorem Grows.trans {s t u : State} (a : Grows s t) (b : Grows t u) : Grows s u :=
  ⟨b.pending.trans a.pending, fun h => b.flash (a.flash h), a.otp.trans b.otp⟩

theorem Grows.of_kept {s t : State} (h : kept t = kept s) : Grows s t := by
  obtain ⟨hp, hf, ho⟩ := kept_fields h
  exact ⟨hp, fun w => by rw [hf]; exact w, by rw [ho]; exact .refl _⟩

/-- What grows to `t` grows to every state with the same kept part as `t`. -/
theorem Grows.upto {s t u : State} (a : Grows s t) (h : kept u = kept t) : Grows s u := a.trans (.of_kept h)

theorem grows_forEach {α : Type} (l : List α) (f : α → State → State) (h : ∀ a s, Grows s (f a s)) (s : State) :
    Grows s (forEach l f s) := by
  unfold forEach
  induction l generalizing s with
  | nil => exact .refl s
  | cons a l ih => exact (h a s).trans (ih (f a s))

theorem kept_fire {e : Instr} {s t : State} (h : fire e s = some t) : kept t = kept s := by
  unfold fire at h
  split at h
  · cases h
    rfl
  · cases h

theorem grows_onFire (e : Instr) (f : State → State) (h : ∀ s, Grows s (f s)) (s : State) : Grows s (onFire e f s) := by
  unfold onFire fire
  by_cases hc : isDue e s
  · simp only [hc, if_true]
    exact (Grows.of_kept (by simp)).trans (h _)
  · simp only [hc]
    exact .refl s

theorem grows_onHost (f : State → State) (h : ∀ s, Grows s (f s)) (s : State) : Grows s (onHost f s) := by
  unfold onHost
  split
  · exact h s
  · exact .refl s

/-! ## The log -/

theorem grows_putState (v i : Nat) (s : State) : Grows s (putState v i s) :=
  ⟨rfl, wf_progList _ _, .refl _⟩

theorem grows_voidOpen (s : State) : Grows s (voidOpen s) := by
  unfold voidOpen
  extract_lets l u
  have h : Grows s u := grows_forEach l _ (grows_putState 0) s
  exact h.upto (by simp only [kept_mk, kept_fold])

theorem grows_eraseBlock (k : Nat) (s : State) : Grows s (eraseBlock k s) := ⟨rfl, wf_erase _ _, .refl _⟩

theorem grows_flashProg (a : Nat) (l : List Byte) (s : State) : Grows s { s with flash := flashProgList s.flash a l } :=
  ⟨rfl, wf_progList _ _, .refl _⟩

theorem grows_openSlot (s : State) : Grows s (openSlot s) := by
  unfold openSlot
  split
  · exact .refl s
  · extract_lets body u
    have h : Grows s u := grows_putState stOpen s.nvl.wslot s
    exact h.trans (grows_flashProg _ _ u)

theorem grows_scanErase (s : State) : Grows s (scanErase s) := by
  unfold scanErase
  extract_lets k
  split
  · exact .refl s
  · split
    · exact .of_kept (kept_endurance s)
    · split
      · exact (Grows.of_kept (kept_media 2 s)).trans (grows_eraseBlock k _)
      · exact .of_kept ((kept_eraseLater _ _ _).trans (kept_media 2 s))

theorem grows_scanDone (s : State) : Grows s (scanDone s) := by
  unfold scanDone
  split
  · exact .refl s
  · extract_lets bad t u v
    have ht : Grows s t := .of_kept (kept_scanRead s)
    have hu : Grows s u := by
      simp only [u]
      split
      · exact ht.trans (grows_voidOpen t)
      · exact ht
    have hv : Grows s v := by
      simp only [v]
      split
      · exact hu.upto (kept_media 1 u)
      · exact hu
    exact (hv.trans (grows_scanErase v)).upto ((kept_testWaiting _).trans (kept_gateArm _))

theorem grows_eraseAll (s : State) : Grows s (eraseAll s) := by
  unfold eraseAll
  split
  · exact grows_forEach _ _ grows_eraseBlock s
  · exact .refl s

theorem grows_openFree (s : State) : Grows s (openFree s) := by
  unfold openFree
  split
  · exact grows_openSlot s
  · exact .of_kept (by simp)

theorem grows_commitStart (s : State) : Grows s (commitStart s) := by
  unfold commitStart
  extract_lets t
  have h : Grows s t := by
    simp only [t]
    split
    · exact (grows_voidOpen s).trans (grows_eraseAll _)
    · exact grows_eraseAll s
  exact (h.upto (u := { t with nvl := { t.nvl with busy := true, retry := false } }) rfl).trans (grows_openFree _)

theorem grows_gate (s : State) : Grows s (gate s) := by
  unfold gate
  have hh : Grows s (gateHold s) := .of_kept (kept_gateHold s)
  have ht : Grows s (gateTest s) := .of_kept (kept_gateTest s)
  dsimp only
  (repeat' split)
  all_goals first
    | exact hh
    | exact ht
    | exact .refl s
    | exact grows_commitStart s
    | exact .of_kept (kept_gateTest _)

theorem grows_gateTurn (s : State) : Grows s (gateTurn s) := (grows_gate s).upto (kept_testWaiting _)

theorem grows_commitDone (s : State) : Grows s (commitDone s) := by
  unfold commitDone
  split
  · exact .refl s
  · exact (grows_putState stCommitted s.nvl.wslot s).upto (by simp)

theorem grows_programTimeout (s : State) : Grows s (programTimeout s) := by
  unfold programTimeout
  split
  · exact .refl s
  · extract_lets again t
    have h : Grows s t :=
      ((Grows.of_kept (kept_media 3 s)).trans (grows_putState 0 s.nvl.wslot _)).upto (by simp [t])
    split
    · exact (h.upto (u := { t with nvl := { t.nvl with retry := true } }) rfl).trans (grows_openFree _)
    · exact h.upto (by simp)

theorem grows_blockErase (s : State) : Grows s (blockErase s) := by
  unfold blockErase
  split
  · exact .refl s
  · split
    · exact (grows_eraseBlock _ s).upto (kept_erasePending _)
    · exact .of_kept (by simp)

/-! ## The loader -/

theorem grows_writePage (b : Bool) (s : State) : Grows s (writePage b s) := by
  unfold writePage
  extract_lets n k
  split
  · exact .of_kept (by simp)
  · exact ⟨rfl, wf_progList _ _, .refl _⟩

theorem grows_pageStep (fin : Bool) (s : State) : Grows s (pageStep fin s) := by
  unfold pageStep
  split
  · split
    · exact grows_writePage _ s
    · exact .refl s
  · exact .refl s

theorem grows_dataWrite (w : Word) (s : State) : Grows s (dataWrite w s) := by
  unfold dataWrite
  split
  · exact .of_kept (by simp)
  · extract_lets i0 t u fin v
    have h : kept u = kept s := by
      simp only [u]
      split
      · simp [t]
      · rfl
    split
    · exact .of_kept h
    · have hv : Grows s v := (Grows.of_kept h).trans (grows_pageStep _ _)
      split
      · exact hv.upto (by simp)
      · exact hv

theorem grows_eraseBegin (b : Bool) (s : State) : Grows s (eraseBegin b s) := by
  unfold eraseBegin
  extract_lets t
  have h : Grows s t := .of_kept (by simp [t])
  exact (h.trans (t := t) (u := { t with flash := flashErase t.flash (flaconBase b + 0x7F000) 4096 })
    ⟨rfl, wf_erase _ _, .refl _⟩).upto rfl

theorem grows_eraseDone (ok : Bool) (s : State) : Grows s (eraseDone ok s) := by
  unfold eraseDone
  split
  · split
    · exact .of_kept (by simp)
    · split
      · have h : Grows s { s with flash := flashErase s.flash (flaconBase ‹Bool›) 0x80000 } := ⟨rfl, wf_erase _ _, .refl _⟩
        exact h.upto (by simp only [kept_imgDone, kept_readGens, kept_putErased])
      · exact .of_kept (by simp)
  · exact .refl s

theorem grows_slotCommitEnd (ok : Bool) (s : State) : Grows s (slotCommitEnd ok s) := by
  unfold slotCommitEnd
  split
  · split
    · extract_lets t
      have h : Grows s t := ⟨rfl, wf_progList _ _, .refl _⟩
      exact h.upto (by simp)
    · exact .of_kept (by simp)
  · split
    · exact .of_kept (by simp)
    · exact .of_kept (by simp)
  · exact .refl s

theorem grows_slotGuard (b : Bool) (f : State → State) (h : ∀ s, Grows s (f s)) (s : State) : Grows s (slotGuard b f s) := by
  unfold slotGuard
  split
  · exact .of_kept (by simp)
  · split
    · exact .of_kept (by simp)
    · exact h s

theorem grows_revokeKey (k : BitVec 2) (s : State) : Grows s (revokeKey k s) := by
  unfold revokeKey
  extract_lets used
  split
  · exact .of_kept (by simp)
  · exact ⟨rfl, fun h => h, Nat.le_refl _, fun i h => by simp [h], fun _ _ h => h⟩

theorem grows_epochNext (s : State) : Grows s (epochNext s) := by
  unfold epochNext
  split
  · exact .of_kept (by simp)
  · split
    · exact .of_kept (by simp)
    · exact ⟨rfl, fun h => h, Nat.le_succ _, fun _ h => h, fun _ _ h => h⟩

theorem grows_imgRun (cmd slot rail : Nat) (s : State) : Grows s (imgRun cmd slot rail s) := by
  unfold imgRun
  extract_lets b
  split
  case h_8 => exact grows_slotGuard _ _ (grows_eraseBegin _) s
  case h_9 => exact grows_slotGuard _ _ (fun s => .of_kept (by split <;> simp)) s
  case h_10 => exact grows_slotGuard _ _ (fun s => .of_kept (by simp)) s
  case h_11 => exact grows_revokeKey _ s
  case h_12 => exact grows_epochNext s
  all_goals exact .of_kept (by (repeat' split) <;> simp)

theorem grows_imgCtrl (w : Word) (s : State) : Grows s (imgCtrl w s) := by
  unfold imgCtrl
  extract_lets cmd slot rail
  split
  · exact .of_kept (by simp)
  · split
    · exact .of_kept (by simp)
    · split
      · exact .of_kept (by simp)
      · exact grows_imgRun _ _ _ s

theorem grows_imgCmd (cmd slot rail : Nat) (s : State) : Grows s (imgCmd cmd slot rail s) :=
  grows_onHost _ (grows_imgCtrl _) s

/-! ## Register access -/

theorem grows_imgWrite (off : Nat) (w : Word) (s : State) : Grows s (imgWrite off w s) := by
  unfold imgWrite
  extract_lets m
  split
  · exact grows_imgCtrl w s
  · exact .of_kept rfl
  · exact grows_dataWrite w s
  · exact .refl s

theorem grows_pageWrite (i : Iface) (page off : Nat) (w : Word) (s : State) : Grows s (pageWrite i page off w s) := by
  unfold pageWrite
  split
  · exact .of_kept (kept_blockWrite _ _ _ _)
  · split
    case h_3 => exact grows_imgWrite off w s
    all_goals exact .of_kept (by simp)

theorem grows_w1cDo (page off : Nat) (w : Word) (f : Word → State → State) (h : ∀ w s, Grows s (f w s)) (s : State) :
    Grows s (w1cDo page off w f s) := by
  unfold w1cDo
  exact (Grows.of_kept (by simp)).trans (h _ _)

theorem grows_regWrite (i : Iface) (a : BitVec 16) (w : Word) (s : State) : Grows s (regWrite i a w s) := by
  unfold regWrite
  split
  · exact .of_kept (by simp)
  · exact grows_w1cDo _ _ _ _ (fun w s => grows_pageWrite _ _ _ w s) s

theorem grows_writeBytes (i : Iface) (l : List Byte) (a : Option (BitVec 16)) (s : State) :
    Grows s (writeBytes i a l s).2 := by
  fun_induction writeBytes i a l s with
  | case1 => exact .refl _
  | case2 => exact .of_kept (by simp)
  | case3 _ _ _ _ _ _ _ ih => exact (grows_regWrite _ _ _ _).trans ih
  | case4 => exact .of_kept (by simp)

theorem grows_smbWrite (pec : Pec) (f : State → State) (h : ∀ s, Grows s (f s)) (s : State) : Grows s (smbWrite pec f s) := by
  unfold smbWrite
  split
  · exact .of_kept (by simp)
  · split
    · exact .of_kept (by simp)
    · split
      · exact .of_kept (by simp)
      · exact (Grows.of_kept (kept_reply .ack s)).trans (h _)
    · exact (Grows.of_kept (kept_reply .ack s)).trans (h _)

theorem grows_regDataCmd (d : Option (List Byte)) (pec : Pec) (s : State) : Grows s (regDataCmd d pec s) := by
  unfold regDataCmd
  split
  · exact .of_kept (kept_smbRead _ (fun s => by simp) s)
  · refine grows_smbWrite _ _ (fun s => ?_) s
    split
    · rename_i b0 b1 b2 b3
      exact (grows_regWrite .smb s.hif.ptrS (b3 ++ b2 ++ b1 ++ b0) s).upto (by simp)
    · exact .of_kept (by simp)

theorem grows_i3cDirect (f : State → State) (h : ∀ s, Grows s (f s)) (s : State) : Grows s (i3cDirect f s) := by
  unfold i3cDirect
  split
  · exact h s
  · exact .of_kept (by simp)

theorem grows_i3cWrite (data : List Byte) (s : State) : Grows s (i3cWrite data s) := by
  unfold i3cWrite
  refine grows_i3cDirect _ (fun s => ?_) s
  dsimp only
  have h : Grows s (mwlCut data (reply .ack s)).2 := .of_kept (by simp)
  split
  · rename_i off page l _
    exact (h.trans (grows_writeBytes .i3c l (some (page ++ off)) (mwlCut data (reply .ack s)).2)).upto (by simp)
  · exact h

theorem grows_regaccAct (dr : BitVec 49) (s : State) : Grows s (regaccAct dr s) := by
  unfold regaccAct
  extract_lets a _ u o put
  have hu : kept u = kept s := by
    simp only [u]
    split <;> rfl
  have ho : kept o.2 = kept s := (kept_drOpen u).trans hu
  split
  · exact .of_kept ho
  · split
    · exact ((Grows.of_kept ho).trans (grows_regWrite .tap a _ o.2)).upto (kept_xferEnd _)
    · exact .of_kept ((kept_regRead .tap a o.2).trans ho)

theorem grows_regaccCmd (dr : BitVec 49) (s : State) : Grows s (regaccCmd dr s) := by
  unfold regaccCmd
  split
  · rename_i u h
    exact (Grows.of_kept (kept_fire h)).trans (grows_regaccAct dr u)
  · split <;> exact .of_kept (by simp)

theorem modAt_getD_ne {α : Type} (l : List α) (i j : Nat) (f : α → α) (d : α) (h : i ≠ j) :
    (modAt l i f).getD j d = l.getD j d := by
  induction l generalizing i j with
  | nil => rfl
  | cons a as ih =>
    cases i <;> cases j <;> simp_all [modAt]

theorem keys_programmed (l : List (Option (BitVec 128))) (i : Nat) (k : BitVec 128) (h : (l.getD i none).isNone = true)
    (j : Nat) (v : BitVec 128) (hj : l.getD j none = some v) : (modAt l i fun _ => some k).getD j none = some v := by
  have hne : i ≠ j := by
    intro e
    rw [e, hj] at h
    simp at h
  rw [modAt_getD_ne l i j _ none hne, hj]

theorem grows_keyprogCmd (dr : BitVec 130) (s : State) : Grows s (keyprogCmd dr s) := by
  unfold keyprogCmd
  extract_lets t i
  have h : Grows s t := .of_kept (kept_tapLoad .keyprog s)
  split
  · rename_i hc
    simp only [Bool.and_eq_true] at hc
    exact h.trans ⟨rfl, fun w => w, Nat.le_refl _, fun _ x => x, keys_programmed _ _ _ hc.2⟩
  · exact h

end Sys2Proof.Machine
end

