-- ==== Sys2Proof/Laws/State.lean ====
section
/-! SUPPORT. Field laws: what each update of Machine/Ops.lean leaves in each field of the state. -/

namespace Sys2Proof.Machine

/-! ## onRail -/

@[simp] theorem onRail_pending (r : RailId) (f : Rail → Rail) (s : State) : (onRail r f s).pending = s.pending := rfl
@[simp] theorem onRail_now (r : RailId) (f : Rail → Rail) (s : State) : (onRail r f s).now = s.now := rfl
@[simp] theorem onRail_agenda (r : RailId) (f : Rail → Rail) (s : State) : (onRail r f s).agenda = s.agenda := rfl
@[simp] theorem onRail_free (r : RailId) (f : Rail → Rail) (s : State) : (onRail r f s).free = s.free := rfl
@[simp] theorem onRail_resp (r : RailId) (f : Rail → Rail) (s : State) : (onRail r f s).resp = s.resp := rfl
@[simp] theorem onRail_respPec (r : RailId) (f : Rail → Rail) (s : State) : (onRail r f s).respPec = s.respPec := rfl
@[simp] theorem onRail_chans (r : RailId) (f : Rail → Rail) (s : State) : (onRail r f s).chans = s.chans := rfl
@[simp] theorem onRail_banks (r : RailId) (f : Rail → Rail) (s : State) : (onRail r f s).banks = s.banks := rfl
@[simp] theorem onRail_ports (r : RailId) (f : Rail → Rail) (s : State) : (onRail r f s).ports = s.ports := rfl
@[simp] theorem onRail_hadc (r : RailId) (f : Rail → Rail) (s : State) : (onRail r f s).hadc = s.hadc := rfl
@[simp] theorem onRail_thm (r : RailId) (f : Rail → Rail) (s : State) : (onRail r f s).thm = s.thm := rfl
@[simp] theorem onRail_nvl (r : RailId) (f : Rail → Rail) (s : State) : (onRail r f s).nvl = s.nvl := rfl
@[simp] theorem onRail_nrd (r : RailId) (f : Rail → Rail) (s : State) : (onRail r f s).nrd = s.nrd := rfl
@[simp] theorem onRail_tmr (r : RailId) (f : Rail → Rail) (s : State) : (onRail r f s).tmr = s.tmr := rfl
@[simp] theorem onRail_fifo (r : RailId) (f : Rail → Rail) (s : State) : (onRail r f s).fifo = s.fifo := rfl
@[simp] theorem onRail_pwr (r : RailId) (f : Rail → Rail) (s : State) : (onRail r f s).pwr = s.pwr := rfl
@[simp] theorem onRail_ka (r : RailId) (f : Rail → Rail) (s : State) : (onRail r f s).ka = s.ka := rfl
@[simp] theorem onRail_glb (r : RailId) (f : Rail → Rail) (s : State) : (onRail r f s).glb = s.glb := rfl
@[simp] theorem onRail_img (r : RailId) (f : Rail → Rail) (s : State) : (onRail r f s).img = s.img := rfl
@[simp] theorem onRail_sealed (r : RailId) (f : Rail → Rail) (s : State) : (onRail r f s).sealed = s.sealed := rfl
@[simp] theorem onRail_otp (r : RailId) (f : Rail → Rail) (s : State) : (onRail r f s).otp = s.otp := rfl
@[simp] theorem onRail_hif (r : RailId) (f : Rail → Rail) (s : State) : (onRail r f s).hif = s.hif := rfl
@[simp] theorem onRail_tap (r : RailId) (f : Rail → Rail) (s : State) : (onRail r f s).tap = s.tap := rfl
@[simp] theorem onRail_pins (r : RailId) (f : Rail → Rail) (s : State) : (onRail r f s).pins = s.pins := rfl
@[simp] theorem onRail_nl (r : RailId) (f : Rail → Rail) (s : State) : (onRail r f s).nl = s.nl := rfl
@[simp] theorem onRail_irqEn (r : RailId) (f : Rail → Rail) (s : State) : (onRail r f s).irqEn = s.irqEn := rfl
@[simp] theorem onRail_raised (r : RailId) (f : Rail → Rail) (s : State) : (onRail r f s).raised = s.raised := rfl
@[simp] theorem onRail_flash (r : RailId) (f : Rail → Rail) (s : State) : (onRail r f s).flash = s.flash := rfl

/-! ## onBank -/

@[simp] theorem onBank_pending (b : BankId) (f : Bank → Bank) (s : State) : (onBank b f s).pending = s.pending := rfl
@[simp] theorem onBank_now (b : BankId) (f : Bank → Bank) (s : State) : (onBank b f s).now = s.now := rfl
@[simp] theorem onBank_agenda (b : BankId) (f : Bank → Bank) (s : State) : (onBank b f s).agenda = s.agenda := rfl
@[simp] theorem onBank_free (b : BankId) (f : Bank → Bank) (s : State) : (onBank b f s).free = s.free := rfl
@[simp] theorem onBank_resp (b : BankId) (f : Bank → Bank) (s : State) : (onBank b f s).resp = s.resp := rfl
@[simp] theorem onBank_respPec (b : BankId) (f : Bank → Bank) (s : State) : (onBank b f s).respPec = s.respPec := rfl
@[simp] theorem onBank_chans (b : BankId) (f : Bank → Bank) (s : State) : (onBank b f s).chans = s.chans := rfl
@[simp] theorem onBank_rails (b : BankId) (f : Bank → Bank) (s : State) : (onBank b f s).rails = s.rails := rfl
@[simp] theorem onBank_ports (b : BankId) (f : Bank → Bank) (s : State) : (onBank b f s).ports = s.ports := rfl
@[simp] theorem onBank_hadc (b : BankId) (f : Bank → Bank) (s : State) : (onBank b f s).hadc = s.hadc := rfl
@[simp] theorem onBank_thm (b : BankId) (f : Bank → Bank) (s : State) : (onBank b f s).thm = s.thm := rfl
@[simp] theorem onBank_nvl (b : BankId) (f : Bank → Bank) (s : State) : (onBank b f s).nvl = s.nvl := rfl
@[simp] theorem onBank_nrd (b : BankId) (f : Bank → Bank) (s : State) : (onBank b f s).nrd = s.nrd := rfl
@[simp] theorem onBank_tmr (b : BankId) (f : Bank → Bank) (s : State) : (onBank b f s).tmr = s.tmr := rfl
@[simp] theorem onBank_fifo (b : BankId) (f : Bank → Bank) (s : State) : (onBank b f s).fifo = s.fifo := rfl
@[simp] theorem onBank_pwr (b : BankId) (f : Bank → Bank) (s : State) : (onBank b f s).pwr = s.pwr := rfl
@[simp] theorem onBank_ka (b : BankId) (f : Bank → Bank) (s : State) : (onBank b f s).ka = s.ka := rfl
@[simp] theorem onBank_glb (b : BankId) (f : Bank → Bank) (s : State) : (onBank b f s).glb = s.glb := rfl
@[simp] theorem onBank_img (b : BankId) (f : Bank → Bank) (s : State) : (onBank b f s).img = s.img := rfl
@[simp] theorem onBank_sealed (b : BankId) (f : Bank → Bank) (s : State) : (onBank b f s).sealed = s.sealed := rfl
@[simp] theorem onBank_otp (b : BankId) (f : Bank → Bank) (s : State) : (onBank b f s).otp = s.otp := rfl
@[simp] theorem onBank_hif (b : BankId) (f : Bank → Bank) (s : State) : (onBank b f s).hif = s.hif := rfl
@[simp] theorem onBank_tap (b : BankId) (f : Bank → Bank) (s : State) : (onBank b f s).tap = s.tap := rfl
@[simp] theorem onBank_pins (b : BankId) (f : Bank → Bank) (s : State) : (onBank b f s).pins = s.pins := rfl
@[simp] theorem onBank_nl (b : BankId) (f : Bank → Bank) (s : State) : (onBank b f s).nl = s.nl := rfl
@[simp] theorem onBank_irqEn (b : BankId) (f : Bank → Bank) (s : State) : (onBank b f s).irqEn = s.irqEn := rfl
@[simp] theorem onBank_raised (b : BankId) (f : Bank → Bank) (s : State) : (onBank b f s).raised = s.raised := rfl
@[simp] theorem onBank_flash (b : BankId) (f : Bank → Bank) (s : State) : (onBank b f s).flash = s.flash := rfl

/-! ## onChan -/

@[simp] theorem onChan_pending (ch : ChanId) (f : Chan → Chan) (s : State) : (onChan ch f s).pending = s.pending := rfl
@[simp] theorem onChan_now (ch : ChanId) (f : Chan → Chan) (s : State) : (onChan ch f s).now = s.now := rfl
@[simp] theorem onChan_agenda (ch : ChanId) (f : Chan → Chan) (s : State) : (onChan ch f s).agenda = s.agenda := rfl
@[simp] theorem onChan_free (ch : ChanId) (f : Chan → Chan) (s : State) : (onChan ch f s).free = s.free := rfl
@[simp] theorem onChan_resp (ch : ChanId) (f : Chan → Chan) (s : State) : (onChan ch f s).resp = s.resp := rfl
@[simp] theorem onChan_respPec (ch : ChanId) (f : Chan → Chan) (s : State) : (onChan ch f s).respPec = s.respPec := rfl
@[simp] theorem onChan_banks (ch : ChanId) (f : Chan → Chan) (s : State) : (onChan ch f s).banks = s.banks := rfl
@[simp] theorem onChan_rails (ch : ChanId) (f : Chan → Chan) (s : State) : (onChan ch f s).rails = s.rails := rfl
@[simp] theorem onChan_ports (ch : ChanId) (f : Chan → Chan) (s : State) : (onChan ch f s).ports = s.ports := rfl
@[simp] theorem onChan_hadc (ch : ChanId) (f : Chan → Chan) (s : State) : (onChan ch f s).hadc = s.hadc := rfl
@[simp] theorem onChan_thm (ch : ChanId) (f : Chan → Chan) (s : State) : (onChan ch f s).thm = s.thm := rfl
@[simp] theorem onChan_nvl (ch : ChanId) (f : Chan → Chan) (s : State) : (onChan ch f s).nvl = s.nvl := rfl
@[simp] theorem onChan_nrd (ch : ChanId) (f : Chan → Chan) (s : State) : (onChan ch f s).nrd = s.nrd := rfl
@[simp] theorem onChan_tmr (ch : ChanId) (f : Chan → Chan) (s : State) : (onChan ch f s).tmr = s.tmr := rfl
@[simp] theorem onChan_fifo (ch : ChanId) (f : Chan → Chan) (s : State) : (onChan ch f s).fifo = s.fifo := rfl
@[simp] theorem onChan_pwr (ch : ChanId) (f : Chan → Chan) (s : State) : (onChan ch f s).pwr = s.pwr := rfl
@[simp] theorem onChan_ka (ch : ChanId) (f : Chan → Chan) (s : State) : (onChan ch f s).ka = s.ka := rfl
@[simp] theorem onChan_glb (ch : ChanId) (f : Chan → Chan) (s : State) : (onChan ch f s).glb = s.glb := rfl
@[simp] theorem onChan_img (ch : ChanId) (f : Chan → Chan) (s : State) : (onChan ch f s).img = s.img := rfl
@[simp] theorem onChan_sealed (ch : ChanId) (f : Chan → Chan) (s : State) : (onChan ch f s).sealed = s.sealed := rfl
@[simp] theorem onChan_otp (ch : ChanId) (f : Chan → Chan) (s : State) : (onChan ch f s).otp = s.otp := rfl
@[simp] theorem onChan_hif (ch : ChanId) (f : Chan → Chan) (s : State) : (onChan ch f s).hif = s.hif := rfl
@[simp] theorem onChan_tap (ch : ChanId) (f : Chan → Chan) (s : State) : (onChan ch f s).tap = s.tap := rfl
@[simp] theorem onChan_pins (ch : ChanId) (f : Chan → Chan) (s : State) : (onChan ch f s).pins = s.pins := rfl
@[simp] theorem onChan_nl (ch : ChanId) (f : Chan → Chan) (s : State) : (onChan ch f s).nl = s.nl := rfl
@[simp] theorem onChan_irqEn (ch : ChanId) (f : Chan → Chan) (s : State) : (onChan ch f s).irqEn = s.irqEn := rfl
@[simp] theorem onChan_raised (ch : ChanId) (f : Chan → Chan) (s : State) : (onChan ch f s).raised = s.raised := rfl
@[simp] theorem onChan_flash (ch : ChanId) (f : Chan → Chan) (s : State) : (onChan ch f s).flash = s.flash := rfl

/-! ## onPort -/

@[simp] theorem onPort_pending (p : PortId) (f : Port → Port) (s : State) : (onPort p f s).pending = s.pending := rfl
@[simp] theorem onPort_now (p : PortId) (f : Port → Port) (s : State) : (onPort p f s).now = s.now := rfl
@[simp] theorem onPort_agenda (p : PortId) (f : Port → Port) (s : State) : (onPort p f s).agenda = s.agenda := rfl
@[simp] theorem onPort_free (p : PortId) (f : Port → Port) (s : State) : (onPort p f s).free = s.free := rfl
@[simp] theorem onPort_resp (p : PortId) (f : Port → Port) (s : State) : (onPort p f s).resp = s.resp := rfl
@[simp] theorem onPort_respPec (p : PortId) (f : Port → Port) (s : State) : (onPort p f s).respPec = s.respPec := rfl
@[simp] theorem onPort_chans (p : PortId) (f : Port → Port) (s : State) : (onPort p f s).chans = s.chans := rfl
@[simp] theorem onPort_banks (p : PortId) (f : Port → Port) (s : State) : (onPort p f s).banks = s.banks := rfl
@[simp] theorem onPort_rails (p : PortId) (f : Port → Port) (s : State) : (onPort p f s).rails = s.rails := rfl
@[simp] theorem onPort_hadc (p : PortId) (f : Port → Port) (s : State) : (onPort p f s).hadc = s.hadc := rfl
@[simp] theorem onPort_thm (p : PortId) (f : Port → Port) (s : State) : (onPort p f s).thm = s.thm := rfl
@[simp] theorem onPort_nvl (p : PortId) (f : Port → Port) (s : State) : (onPort p f s).nvl = s.nvl := rfl
@[simp] theorem onPort_nrd (p : PortId) (f : Port → Port) (s : State) : (onPort p f s).nrd = s.nrd := rfl
@[simp] theorem onPort_tmr (p : PortId) (f : Port → Port) (s : State) : (onPort p f s).tmr = s.tmr := rfl
@[simp] theorem onPort_fifo (p : PortId) (f : Port → Port) (s : State) : (onPort p f s).fifo = s.fifo := rfl
@[simp] theorem onPort_pwr (p : PortId) (f : Port → Port) (s : State) : (onPort p f s).pwr = s.pwr := rfl
@[simp] theorem onPort_ka (p : PortId) (f : Port → Port) (s : State) : (onPort p f s).ka = s.ka := rfl
@[simp] theorem onPort_glb (p : PortId) (f : Port → Port) (s : State) : (onPort p f s).glb = s.glb := rfl
@[simp] theorem onPort_img (p : PortId) (f : Port → Port) (s : State) : (onPort p f s).img = s.img := rfl
@[simp] theorem onPort_sealed (p : PortId) (f : Port → Port) (s : State) : (onPort p f s).sealed = s.sealed := rfl
@[simp] theorem onPort_otp (p : PortId) (f : Port → Port) (s : State) : (onPort p f s).otp = s.otp := rfl
@[simp] theorem onPort_hif (p : PortId) (f : Port → Port) (s : State) : (onPort p f s).hif = s.hif := rfl
@[simp] theorem onPort_tap (p : PortId) (f : Port → Port) (s : State) : (onPort p f s).tap = s.tap := rfl
@[simp] theorem onPort_pins (p : PortId) (f : Port → Port) (s : State) : (onPort p f s).pins = s.pins := rfl
@[simp] theorem onPort_nl (p : PortId) (f : Port → Port) (s : State) : (onPort p f s).nl = s.nl := rfl
@[simp] theorem onPort_irqEn (p : PortId) (f : Port → Port) (s : State) : (onPort p f s).irqEn = s.irqEn := rfl
@[simp] theorem onPort_raised (p : PortId) (f : Port → Port) (s : State) : (onPort p f s).raised = s.raised := rfl
@[simp] theorem onPort_flash (p : PortId) (f : Port → Port) (s : State) : (onPort p f s).flash = s.flash := rfl

/-! ## onTimer -/

@[simp] theorem onTimer_pending (t : TimerId) (f : Timer → Timer) (s : State) : (onTimer t f s).pending = s.pending := rfl
@[simp] theorem onTimer_now (t : TimerId) (f : Timer → Timer) (s : State) : (onTimer t f s).now = s.now := rfl
@[simp] theorem onTimer_agenda (t : TimerId) (f : Timer → Timer) (s : State) : (onTimer t f s).agenda = s.agenda := rfl
@[simp] theorem onTimer_free (t : TimerId) (f : Timer → Timer) (s : State) : (onTimer t f s).free = s.free := rfl
@[simp] theorem onTimer_resp (t : TimerId) (f : Timer → Timer) (s : State) : (onTimer t f s).resp = s.resp := rfl
@[simp] theorem onTimer_respPec (t : TimerId) (f : Timer → Timer) (s : State) : (onTimer t f s).respPec = s.respPec := rfl
@[simp] theorem onTimer_chans (t : TimerId) (f : Timer → Timer) (s : State) : (onTimer t f s).chans = s.chans := rfl
@[simp] theorem onTimer_banks (t : TimerId) (f : Timer → Timer) (s : State) : (onTimer t f s).banks = s.banks := rfl
@[simp] theorem onTimer_rails (t : TimerId) (f : Timer → Timer) (s : State) : (onTimer t f s).rails = s.rails := rfl
@[simp] theorem onTimer_ports (t : TimerId) (f : Timer → Timer) (s : State) : (onTimer t f s).ports = s.ports := rfl
@[simp] theorem onTimer_hadc (t : TimerId) (f : Timer → Timer) (s : State) : (onTimer t f s).hadc = s.hadc := rfl
@[simp] theorem onTimer_thm (t : TimerId) (f : Timer → Timer) (s : State) : (onTimer t f s).thm = s.thm := rfl
@[simp] theorem onTimer_nvl (t : TimerId) (f : Timer → Timer) (s : State) : (onTimer t f s).nvl = s.nvl := rfl
@[simp] theorem onTimer_nrd (t : TimerId) (f : Timer → Timer) (s : State) : (onTimer t f s).nrd = s.nrd := rfl
@[simp] theorem onTimer_fifo (t : TimerId) (f : Timer → Timer) (s : State) : (onTimer t f s).fifo = s.fifo := rfl
@[simp] theorem onTimer_pwr (t : TimerId) (f : Timer → Timer) (s : State) : (onTimer t f s).pwr = s.pwr := rfl
@[simp] theorem onTimer_ka (t : TimerId) (f : Timer → Timer) (s : State) : (onTimer t f s).ka = s.ka := rfl
@[simp] theorem onTimer_glb (t : TimerId) (f : Timer → Timer) (s : State) : (onTimer t f s).glb = s.glb := rfl
@[simp] theorem onTimer_img (t : TimerId) (f : Timer → Timer) (s : State) : (onTimer t f s).img = s.img := rfl
@[simp] theorem onTimer_sealed (t : TimerId) (f : Timer → Timer) (s : State) : (onTimer t f s).sealed = s.sealed := rfl
@[simp] theorem onTimer_otp (t : TimerId) (f : Timer → Timer) (s : State) : (onTimer t f s).otp = s.otp := rfl
@[simp] theorem onTimer_hif (t : TimerId) (f : Timer → Timer) (s : State) : (onTimer t f s).hif = s.hif := rfl
@[simp] theorem onTimer_tap (t : TimerId) (f : Timer → Timer) (s : State) : (onTimer t f s).tap = s.tap := rfl
@[simp] theorem onTimer_pins (t : TimerId) (f : Timer → Timer) (s : State) : (onTimer t f s).pins = s.pins := rfl
@[simp] theorem onTimer_nl (t : TimerId) (f : Timer → Timer) (s : State) : (onTimer t f s).nl = s.nl := rfl
@[simp] theorem onTimer_irqEn (t : TimerId) (f : Timer → Timer) (s : State) : (onTimer t f s).irqEn = s.irqEn := rfl
@[simp] theorem onTimer_raised (t : TimerId) (f : Timer → Timer) (s : State) : (onTimer t f s).raised = s.raised := rfl
@[simp] theorem onTimer_flash (t : TimerId) (f : Timer → Timer) (s : State) : (onTimer t f s).flash = s.flash := rfl

/-! ## onFifo -/

@[simp] theorem onFifo_pending (i : FifoId) (f : Tfifo → Tfifo) (s : State) : (onFifo i f s).pending = s.pending := rfl
@[simp] theorem onFifo_now (i : FifoId) (f : Tfifo → Tfifo) (s : State) : (onFifo i f s).now = s.now := rfl
@[simp] theorem onFifo_agenda (i : FifoId) (f : Tfifo → Tfifo) (s : State) : (onFifo i f s).agenda = s.agenda := rfl
@[simp] theorem onFifo_free (i : FifoId) (f : Tfifo → Tfifo) (s : State) : (onFifo i f s).free = s.free := rfl
@[simp] theorem onFifo_resp (i : FifoId) (f : Tfifo → Tfifo) (s : State) : (onFifo i f s).resp = s.resp := rfl
@[simp] theorem onFifo_respPec (i : FifoId) (f : Tfifo → Tfifo) (s : State) : (onFifo i f s).respPec = s.respPec := rfl
@[simp] theorem onFifo_chans (i : FifoId) (f : Tfifo → Tfifo) (s : State) : (onFifo i f s).chans = s.chans := rfl
@[simp] theorem onFifo_banks (i : FifoId) (f : Tfifo → Tfifo) (s : State) : (onFifo i f s).banks = s.banks := rfl
@[simp] theorem onFifo_rails (i : FifoId) (f : Tfifo → Tfifo) (s : State) : (onFifo i f s).rails = s.rails := rfl
@[simp] theorem onFifo_ports (i : FifoId) (f : Tfifo → Tfifo) (s : State) : (onFifo i f s).ports = s.ports := rfl
@[simp] theorem onFifo_hadc (i : FifoId) (f : Tfifo → Tfifo) (s : State) : (onFifo i f s).hadc = s.hadc := rfl
@[simp] theorem onFifo_thm (i : FifoId) (f : Tfifo → Tfifo) (s : State) : (onFifo i f s).thm = s.thm := rfl
@[simp] theorem onFifo_nvl (i : FifoId) (f : Tfifo → Tfifo) (s : State) : (onFifo i f s).nvl = s.nvl := rfl
@[simp] theorem onFifo_nrd (i : FifoId) (f : Tfifo → Tfifo) (s : State) : (onFifo i f s).nrd = s.nrd := rfl
@[simp] theorem onFifo_tmr (i : FifoId) (f : Tfifo → Tfifo) (s : State) : (onFifo i f s).tmr = s.tmr := rfl
@[simp] theorem onFifo_pwr (i : FifoId) (f : Tfifo → Tfifo) (s : State) : (onFifo i f s).pwr = s.pwr := rfl
@[simp] theorem onFifo_ka (i : FifoId) (f : Tfifo → Tfifo) (s : State) : (onFifo i f s).ka = s.ka := rfl
@[simp] theorem onFifo_glb (i : FifoId) (f : Tfifo → Tfifo) (s : State) : (onFifo i f s).glb = s.glb := rfl
@[simp] theorem onFifo_img (i : FifoId) (f : Tfifo → Tfifo) (s : State) : (onFifo i f s).img = s.img := rfl
@[simp] theorem onFifo_sealed (i : FifoId) (f : Tfifo → Tfifo) (s : State) : (onFifo i f s).sealed = s.sealed := rfl
@[simp] theorem onFifo_otp (i : FifoId) (f : Tfifo → Tfifo) (s : State) : (onFifo i f s).otp = s.otp := rfl
@[simp] theorem onFifo_hif (i : FifoId) (f : Tfifo → Tfifo) (s : State) : (onFifo i f s).hif = s.hif := rfl
@[simp] theorem onFifo_tap (i : FifoId) (f : Tfifo → Tfifo) (s : State) : (onFifo i f s).tap = s.tap := rfl
@[simp] theorem onFifo_pins (i : FifoId) (f : Tfifo → Tfifo) (s : State) : (onFifo i f s).pins = s.pins := rfl
@[simp] theorem onFifo_nl (i : FifoId) (f : Tfifo → Tfifo) (s : State) : (onFifo i f s).nl = s.nl := rfl
@[simp] theorem onFifo_irqEn (i : FifoId) (f : Tfifo → Tfifo) (s : State) : (onFifo i f s).irqEn = s.irqEn := rfl
@[simp] theorem onFifo_raised (i : FifoId) (f : Tfifo → Tfifo) (s : State) : (onFifo i f s).raised = s.raised := rfl
@[simp] theorem onFifo_flash (i : FifoId) (f : Tfifo → Tfifo) (s : State) : (onFifo i f s).flash = s.flash := rfl

/-! ## onChans -/

@[simp] theorem onChans_pending (l : List Nat) (f : Nat → Chan → Chan) (s : State) : (onChans l f s).pending = s.pending := rfl
@[simp] theorem onChans_now (l : List Nat) (f : Nat → Chan → Chan) (s : State) : (onChans l f s).now = s.now := rfl
@[simp] theorem onChans_agenda (l : List Nat) (f : Nat → Chan → Chan) (s : State) : (onChans l f s).agenda = s.agenda := rfl
@[simp] theorem onChans_free (l : List Nat) (f : Nat → Chan → Chan) (s : State) : (onChans l f s).free = s.free := rfl
@[simp] theorem onChans_resp (l : List Nat) (f : Nat → Chan → Chan) (s : State) : (onChans l f s).resp = s.resp := rfl
@[simp] theorem onChans_respPec (l : List Nat) (f : Nat → Chan → Chan) (s : State) : (onChans l f s).respPec = s.respPec := rfl
@[simp] theorem onChans_banks (l : List Nat) (f : Nat → Chan → Chan) (s : State) : (onChans l f s).banks = s.banks := rfl
@[simp] theorem onChans_rails (l : List Nat) (f : Nat → Chan → Chan) (s : State) : (onChans l f s).rails = s.rails := rfl
@[simp] theorem onChans_ports (l : List Nat) (f : Nat → Chan → Chan) (s : State) : (onChans l f s).ports = s.ports := rfl
@[simp] theorem onChans_hadc (l : List Nat) (f : Nat → Chan → Chan) (s : State) : (onChans l f s).hadc = s.hadc := rfl
@[simp] theorem onChans_thm (l : List Nat) (f : Nat → Chan → Chan) (s : State) : (onChans l f s).thm = s.thm := rfl
@[simp] theorem onChans_nvl (l : List Nat) (f : Nat → Chan → Chan) (s : State) : (onChans l f s).nvl = s.nvl := rfl
@[simp] theorem onChans_nrd (l : List Nat) (f : Nat → Chan → Chan) (s : State) : (onChans l f s).nrd = s.nrd := rfl
@[simp] theorem onChans_tmr (l : List Nat) (f : Nat → Chan → Chan) (s : State) : (onChans l f s).tmr = s.tmr := rfl
@[simp] theorem onChans_fifo (l : List Nat) (f : Nat → Chan → Chan) (s : State) : (onChans l f s).fifo = s.fifo := rfl
@[simp] theorem onChans_pwr (l : List Nat) (f : Nat → Chan → Chan) (s : State) : (onChans l f s).pwr = s.pwr := rfl
@[simp] theorem onChans_ka (l : List Nat) (f : Nat → Chan → Chan) (s : State) : (onChans l f s).ka = s.ka := rfl
@[simp] theorem onChans_glb (l : List Nat) (f : Nat → Chan → Chan) (s : State) : (onChans l f s).glb = s.glb := rfl
@[simp] theorem onChans_img (l : List Nat) (f : Nat → Chan → Chan) (s : State) : (onChans l f s).img = s.img := rfl
@[simp] theorem onChans_sealed (l : List Nat) (f : Nat → Chan → Chan) (s : State) : (onChans l f s).sealed = s.sealed := rfl
@[simp] theorem onChans_otp (l : List Nat) (f : Nat → Chan → Chan) (s : State) : (onChans l f s).otp = s.otp := rfl
@[simp] theorem onChans_hif (l : List Nat) (f : Nat → Chan → Chan) (s : State) : (onChans l f s).hif = s.hif := rfl
@[simp] theorem onChans_tap (l : List Nat) (f : Nat → Chan → Chan) (s : State) : (onChans l f s).tap = s.tap := rfl
@[simp] theorem onChans_pins (l : List Nat) (f : Nat → Chan → Chan) (s : State) : (onChans l f s).pins = s.pins := rfl
@[simp] theorem onChans_nl (l : List Nat) (f : Nat → Chan → Chan) (s : State) : (onChans l f s).nl = s.nl := rfl
@[simp] theorem onChans_irqEn (l : List Nat) (f : Nat → Chan → Chan) (s : State) : (onChans l f s).irqEn = s.irqEn := rfl
@[simp] theorem onChans_raised (l : List Nat) (f : Nat → Chan → Chan) (s : State) : (onChans l f s).raised = s.raised := rfl
@[simp] theorem onChans_flash (l : List Nat) (f : Nat → Chan → Chan) (s : State) : (onChans l f s).flash = s.flash := rfl

/-! ## onBanks -/

@[simp] theorem onBanks_pending (l : List Nat) (f : Bank → Bank) (s : State) : (onBanks l f s).pending = s.pending := rfl
@[simp] theorem onBanks_now (l : List Nat) (f : Bank → Bank) (s : State) : (onBanks l f s).now = s.now := rfl
@[simp] theorem onBanks_agenda (l : List Nat) (f : Bank → Bank) (s : State) : (onBanks l f s).agenda = s.agenda := rfl
@[simp] theorem onBanks_free (l : List Nat) (f : Bank → Bank) (s : State) : (onBanks l f s).free = s.free := rfl
@[simp] theorem onBanks_resp (l : List Nat) (f : Bank → Bank) (s : State) : (onBanks l f s).resp = s.resp := rfl
@[simp] theorem onBanks_respPec (l : List Nat) (f : Bank → Bank) (s : State) : (onBanks l f s).respPec = s.respPec := rfl
@[simp] theorem onBanks_chans (l : List Nat) (f : Bank → Bank) (s : State) : (onBanks l f s).chans = s.chans := rfl
@[simp] theorem onBanks_rails (l : List Nat) (f : Bank → Bank) (s : State) : (onBanks l f s).rails = s.rails := rfl
@[simp] theorem onBanks_ports (l : List Nat) (f : Bank → Bank) (s : State) : (onBanks l f s).ports = s.ports := rfl
@[simp] theorem onBanks_hadc (l : List Nat) (f : Bank → Bank) (s : State) : (onBanks l f s).hadc = s.hadc := rfl
@[simp] theorem onBanks_thm (l : List Nat) (f : Bank → Bank) (s : State) : (onBanks l f s).thm = s.thm := rfl
@[simp] theorem onBanks_nvl (l : List Nat) (f : Bank → Bank) (s : State) : (onBanks l f s).nvl = s.nvl := rfl
@[simp] theorem onBanks_nrd (l : List Nat) (f : Bank → Bank) (s : State) : (onBanks l f s).nrd = s.nrd := rfl
@[simp] theorem onBanks_tmr (l : List Nat) (f : Bank → Bank) (s : State) : (onBanks l f s).tmr = s.tmr := rfl
@[simp] theorem onBanks_fifo (l : List Nat) (f : Bank → Bank) (s : State) : (onBanks l f s).fifo = s.fifo := rfl
@[simp] theorem onBanks_pwr (l : List Nat) (f : Bank → Bank) (s : State) : (onBanks l f s).pwr = s.pwr := rfl
@[simp] theorem onBanks_ka (l : List Nat) (f : Bank → Bank) (s : State) : (onBanks l f s).ka = s.ka := rfl
@[simp] theorem onBanks_glb (l : List Nat) (f : Bank → Bank) (s : State) : (onBanks l f s).glb = s.glb := rfl
@[simp] theorem onBanks_img (l : List Nat) (f : Bank → Bank) (s : State) : (onBanks l f s).img = s.img := rfl
@[simp] theorem onBanks_sealed (l : List Nat) (f : Bank → Bank) (s : State) : (onBanks l f s).sealed = s.sealed := rfl
@[simp] theorem onBanks_otp (l : List Nat) (f : Bank → Bank) (s : State) : (onBanks l f s).otp = s.otp := rfl
@[simp] theorem onBanks_hif (l : List Nat) (f : Bank → Bank) (s : State) : (onBanks l f s).hif = s.hif := rfl
@[simp] theorem onBanks_tap (l : List Nat) (f : Bank → Bank) (s : State) : (onBanks l f s).tap = s.tap := rfl
@[simp] theorem onBanks_pins (l : List Nat) (f : Bank → Bank) (s : State) : (onBanks l f s).pins = s.pins := rfl
@[simp] theorem onBanks_nl (l : List Nat) (f : Bank → Bank) (s : State) : (onBanks l f s).nl = s.nl := rfl
@[simp] theorem onBanks_irqEn (l : List Nat) (f : Bank → Bank) (s : State) : (onBanks l f s).irqEn = s.irqEn := rfl
@[simp] theorem onBanks_raised (l : List Nat) (f : Bank → Bank) (s : State) : (onBanks l f s).raised = s.raised := rfl
@[simp] theorem onBanks_flash (l : List Nat) (f : Bank → Bank) (s : State) : (onBanks l f s).flash = s.flash := rfl

/-! ## onCfgRails -/

@[simp] theorem onCfgRails_pending (f : RailId → RailCfg → Rail → Rail) (s : State) : (onCfgRails f s).pending = s.pending := rfl
@[simp] theorem onCfgRails_now (f : RailId → RailCfg → Rail → Rail) (s : State) : (onCfgRails f s).now = s.now := rfl
@[simp] theorem onCfgRails_agenda (f : RailId → RailCfg → Rail → Rail) (s : State) : (onCfgRails f s).agenda = s.agenda := rfl
@[simp] theorem onCfgRails_free (f : RailId → RailCfg → Rail → Rail) (s : State) : (onCfgRails f s).free = s.free := rfl
@[simp] theorem onCfgRails_resp (f : RailId → RailCfg → Rail → Rail) (s : State) : (onCfgRails f s).resp = s.resp := rfl
@[simp] theorem onCfgRails_respPec (f : RailId → RailCfg → Rail → Rail) (s : State) : (onCfgRails f s).respPec = s.respPec := rfl
@[simp] theorem onCfgRails_chans (f : RailId → RailCfg → Rail → Rail) (s : State) : (onCfgRails f s).chans = s.chans := rfl
@[simp] theorem onCfgRails_banks (f : RailId → RailCfg → Rail → Rail) (s : State) : (onCfgRails f s).banks = s.banks := rfl
@[simp] theorem onCfgRails_ports (f : RailId → RailCfg → Rail → Rail) (s : State) : (onCfgRails f s).ports = s.ports := rfl
@[simp] theorem onCfgRails_hadc (f : RailId → RailCfg → Rail → Rail) (s : State) : (onCfgRails f s).hadc = s.hadc := rfl
@[simp] theorem onCfgRails_thm (f : RailId → RailCfg → Rail → Rail) (s : State) : (onCfgRails f s).thm = s.thm := rfl
@[simp] theorem onCfgRails_nvl (f : RailId → RailCfg → Rail → Rail) (s : State) : (onCfgRails f s).nvl = s.nvl := rfl
@[simp] theorem onCfgRails_nrd (f : RailId → RailCfg → Rail → Rail) (s : State) : (onCfgRails f s).nrd = s.nrd := rfl
@[simp] theorem onCfgRails_tmr (f : RailId → RailCfg → Rail → Rail) (s : State) : (onCfgRails f s).tmr = s.tmr := rfl
@[simp] theorem onCfgRails_fifo (f : RailId → RailCfg → Rail → Rail) (s : State) : (onCfgRails f s).fifo = s.fifo := rfl
@[simp] theorem onCfgRails_pwr (f : RailId → RailCfg → Rail → Rail) (s : State) : (onCfgRails f s).pwr = s.pwr := rfl
@[simp] theorem onCfgRails_ka (f : RailId → RailCfg → Rail → Rail) (s : State) : (onCfgRails f s).ka = s.ka := rfl
@[simp] theorem onCfgRails_glb (f : RailId → RailCfg → Rail → Rail) (s : State) : (onCfgRails f s).glb = s.glb := rfl
@[simp] theorem onCfgRails_img (f : RailId → RailCfg → Rail → Rail) (s : State) : (onCfgRails f s).img = s.img := rfl
@[simp] theorem onCfgRails_sealed (f : RailId → RailCfg → Rail → Rail) (s : State) : (onCfgRails f s).sealed = s.sealed := rfl
@[simp] theorem onCfgRails_otp (f : RailId → RailCfg → Rail → Rail) (s : State) : (onCfgRails f s).otp = s.otp := rfl
@[simp] theorem onCfgRails_hif (f : RailId → RailCfg → Rail → Rail) (s : State) : (onCfgRails f s).hif = s.hif := rfl
@[simp] theorem onCfgRails_tap (f : RailId → RailCfg → Rail → Rail) (s : State) : (onCfgRails f s).tap = s.tap := rfl
@[simp] theorem onCfgRails_pins (f : RailId → RailCfg → Rail → Rail) (s : State) : (onCfgRails f s).pins = s.pins := rfl
@[simp] theorem onCfgRails_nl (f : RailId → RailCfg → Rail → Rail) (s : State) : (onCfgRails f s).nl = s.nl := rfl
@[simp] theorem onCfgRails_irqEn (f : RailId → RailCfg → Rail → Rail) (s : State) : (onCfgRails f s).irqEn = s.irqEn := rfl
@[simp] theorem onCfgRails_raised (f : RailId → RailCfg → Rail → Rail) (s : State) : (onCfgRails f s).raised = s.raised := rfl
@[simp] theorem onCfgRails_flash (f : RailId → RailCfg → Rail → Rail) (s : State) : (onCfgRails f s).flash = s.flash := rfl

/-! ## reply -/

@[simp] theorem reply_pending (a : Resp) (s : State) : (reply a s).pending = s.pending := rfl
@[simp] theorem reply_now (a : Resp) (s : State) : (reply a s).now = s.now := rfl
@[simp] theorem reply_agenda (a : Resp) (s : State) : (reply a s).agenda = s.agenda := rfl
@[simp] theorem reply_free (a : Resp) (s : State) : (reply a s).free = s.free := rfl
@[simp] theorem reply_respPec (a : Resp) (s : State) : (reply a s).respPec = s.respPec := rfl
@[simp] theorem reply_chans (a : Resp) (s : State) : (reply a s).chans = s.chans := rfl
@[simp] theorem reply_banks (a : Resp) (s : State) : (reply a s).banks = s.banks := rfl
@[simp] theorem reply_rails (a : Resp) (s : State) : (reply a s).rails = s.rails := rfl
@[simp] theorem reply_ports (a : Resp) (s : State) : (reply a s).ports = s.ports := rfl
@[simp] theorem reply_hadc (a : Resp) (s : State) : (reply a s).hadc = s.hadc := rfl
@[simp] theorem reply_thm (a : Resp) (s : State) : (reply a s).thm = s.thm := rfl
@[simp] theorem reply_nvl (a : Resp) (s : State) : (reply a s).nvl = s.nvl := rfl
@[simp] theorem reply_nrd (a : Resp) (s : State) : (reply a s).nrd = s.nrd := rfl
@[simp] theorem reply_tmr (a : Resp) (s : State) : (reply a s).tmr = s.tmr := rfl
@[simp] theorem reply_fifo (a : Resp) (s : State) : (reply a s).fifo = s.fifo := rfl
@[simp] theorem reply_pwr (a : Resp) (s : State) : (reply a s).pwr = s.pwr := rfl
@[simp] theorem reply_ka (a : Resp) (s : State) : (reply a s).ka = s.ka := rfl
@[simp] theorem reply_glb (a : Resp) (s : State) : (reply a s).glb = s.glb := rfl
@[simp] theorem reply_img (a : Resp) (s : State) : (reply a s).img = s.img := rfl
@[simp] theorem reply_sealed (a : Resp) (s : State) : (reply a s).sealed = s.sealed := rfl
@[simp] theorem reply_otp (a : Resp) (s : State) : (reply a s).otp = s.otp := rfl
@[simp] theorem reply_hif (a : Resp) (s : State) : (reply a s).hif = s.hif := rfl
@[simp] theorem reply_tap (a : Resp) (s : State) : (reply a s).tap = s.tap := rfl
@[simp] theorem reply_pins (a : Resp) (s : State) : (reply a s).pins = s.pins := rfl
@[simp] theorem reply_nl (a : Resp) (s : State) : (reply a s).nl = s.nl := rfl
@[simp] theorem reply_irqEn (a : Resp) (s : State) : (reply a s).irqEn = s.irqEn := rfl
@[simp] theorem reply_raised (a : Resp) (s : State) : (reply a s).raised = s.raised := rfl
@[simp] theorem reply_flash (a : Resp) (s : State) : (reply a s).flash = s.flash := rfl

/-! ## arm -/

@[simp] theorem arm_pending (dt : Nat) (e : Instr) (s : State) : (arm dt e s).pending = s.pending := rfl
@[simp] theorem arm_now (dt : Nat) (e : Instr) (s : State) : (arm dt e s).now = s.now := rfl
@[simp] theorem arm_free (dt : Nat) (e : Instr) (s : State) : (arm dt e s).free = s.free := rfl
@[simp] theorem arm_resp (dt : Nat) (e : Instr) (s : State) : (arm dt e s).resp = s.resp := rfl
@[simp] theorem arm_respPec (dt : Nat) (e : Instr) (s : State) : (arm dt e s).respPec = s.respPec := rfl
@[simp] theorem arm_chans (dt : Nat) (e : Instr) (s : State) : (arm dt e s).chans = s.chans := rfl
@[simp] theorem arm_banks (dt : Nat) (e : Instr) (s : State) : (arm dt e s).banks = s.banks := rfl
@[simp] theorem arm_rails (dt : Nat) (e : Instr) (s : State) : (arm dt e s).rails = s.rails := rfl
@[simp] theorem arm_ports (dt : Nat) (e : Instr) (s : State) : (arm dt e s).ports = s.ports := rfl
@[simp] theorem arm_hadc (dt : Nat) (e : Instr) (s : State) : (arm dt e s).hadc = s.hadc := rfl
@[simp] theorem arm_thm (dt : Nat) (e : Instr) (s : State) : (arm dt e s).thm = s.thm := rfl
@[simp] theorem arm_nvl (dt : Nat) (e : Instr) (s : State) : (arm dt e s).nvl = s.nvl := rfl
@[simp] theorem arm_nrd (dt : Nat) (e : Instr) (s : State) : (arm dt e s).nrd = s.nrd := rfl
@[simp] theorem arm_tmr (dt : Nat) (e : Instr) (s : State) : (arm dt e s).tmr = s.tmr := rfl
@[simp] theorem arm_fifo (dt : Nat) (e : Instr) (s : State) : (arm dt e s).fifo = s.fifo := rfl
@[simp] theorem arm_pwr (dt : Nat) (e : Instr) (s : State) : (arm dt e s).pwr = s.pwr := rfl
@[simp] theorem arm_ka (dt : Nat) (e : Instr) (s : State) : (arm dt e s).ka = s.ka := rfl
@[simp] theorem arm_glb (dt : Nat) (e : Instr) (s : State) : (arm dt e s).glb = s.glb := rfl
@[simp] theorem arm_img (dt : Nat) (e : Instr) (s : State) : (arm dt e s).img = s.img := rfl
@[simp] theorem arm_sealed (dt : Nat) (e : Instr) (s : State) : (arm dt e s).sealed = s.sealed := rfl
@[simp] theorem arm_otp (dt : Nat) (e : Instr) (s : State) : (arm dt e s).otp = s.otp := rfl
@[simp] theorem arm_hif (dt : Nat) (e : Instr) (s : State) : (arm dt e s).hif = s.hif := rfl
@[simp] theorem arm_tap (dt : Nat) (e : Instr) (s : State) : (arm dt e s).tap = s.tap := rfl
@[simp] theorem arm_pins (dt : Nat) (e : Instr) (s : State) : (arm dt e s).pins = s.pins := rfl
@[simp] theorem arm_nl (dt : Nat) (e : Instr) (s : State) : (arm dt e s).nl = s.nl := rfl
@[simp] theorem arm_irqEn (dt : Nat) (e : Instr) (s : State) : (arm dt e s).irqEn = s.irqEn := rfl
@[simp] theorem arm_raised (dt : Nat) (e : Instr) (s : State) : (arm dt e s).raised = s.raised := rfl
@[simp] theorem arm_flash (dt : Nat) (e : Instr) (s : State) : (arm dt e s).flash = s.flash := rfl

/-! ## disarm -/

@[simp] theorem disarm_pending (q : Instr → Bool) (s : State) : (disarm q s).pending = s.pending := rfl
@[simp] theorem disarm_now (q : Instr → Bool) (s : State) : (disarm q s).now = s.now := rfl
@[simp] theorem disarm_free (q : Instr → Bool) (s : State) : (disarm q s).free = s.free := rfl
@[simp] theorem disarm_resp (q : Instr → Bool) (s : State) : (disarm q s).resp = s.resp := rfl
@[simp] theorem disarm_respPec (q : Instr → Bool) (s : State) : (disarm q s).respPec = s.respPec := rfl
@[simp] theorem disarm_chans (q : Instr → Bool) (s : State) : (disarm q s).chans = s.chans := rfl
@[simp] theorem disarm_banks (q : Instr → Bool) (s : State) : (disarm q s).banks = s.banks := rfl
@[simp] theorem disarm_rails (q : Instr → Bool) (s : State) : (disarm q s).rails = s.rails := rfl
@[simp] theorem disarm_ports (q : Instr → Bool) (s : State) : (disarm q s).ports = s.ports := rfl
@[simp] theorem disarm_hadc (q : Instr → Bool) (s : State) : (disarm q s).hadc = s.hadc := rfl
@[simp] theorem disarm_thm (q : Instr → Bool) (s : State) : (disarm q s).thm = s.thm := rfl
@[simp] theorem disarm_nvl (q : Instr → Bool) (s : State) : (disarm q s).nvl = s.nvl := rfl
@[simp] theorem disarm_nrd (q : Instr → Bool) (s : State) : (disarm q s).nrd = s.nrd := rfl
@[simp] theorem disarm_tmr (q : Instr → Bool) (s : State) : (disarm q s).tmr = s.tmr := rfl
@[simp] theorem disarm_fifo (q : Instr → Bool) (s : State) : (disarm q s).fifo = s.fifo := rfl
@[simp] theorem disarm_pwr (q : Instr → Bool) (s : State) : (disarm q s).pwr = s.pwr := rfl
@[simp] theorem disarm_ka (q : Instr → Bool) (s : State) : (disarm q s).ka = s.ka := rfl
@[simp] theorem disarm_glb (q : Instr → Bool) (s : State) : (disarm q s).glb = s.glb := rfl
@[simp] theorem disarm_img (q : Instr → Bool) (s : State) : (disarm q s).img = s.img := rfl
@[simp] theorem disarm_sealed (q : Instr → Bool) (s : State) : (disarm q s).sealed = s.sealed := rfl
@[simp] theorem disarm_otp (q : Instr → Bool) (s : State) : (disarm q s).otp = s.otp := rfl
@[simp] theorem disarm_hif (q : Instr → Bool) (s : State) : (disarm q s).hif = s.hif := rfl
@[simp] theorem disarm_tap (q : Instr → Bool) (s : State) : (disarm q s).tap = s.tap := rfl
@[simp] theorem disarm_pins (q : Instr → Bool) (s : State) : (disarm q s).pins = s.pins := rfl
@[simp] theorem disarm_nl (q : Instr → Bool) (s : State) : (disarm q s).nl = s.nl := rfl
@[simp] theorem disarm_irqEn (q : Instr → Bool) (s : State) : (disarm q s).irqEn = s.irqEn := rfl
@[simp] theorem disarm_raised (q : Instr → Bool) (s : State) : (disarm q s).raised = s.raised := rfl
@[simp] theorem disarm_flash (q : Instr → Bool) (s : State) : (disarm q s).flash = s.flash := rfl

/-! ## rearm -/

@[simp] theorem rearm_pending (dt : Nat) (e : Instr) (s : State) : (rearm dt e s).pending = s.pending := rfl
@[simp] theorem rearm_now (dt : Nat) (e : Instr) (s : State) : (rearm dt e s).now = s.now := rfl
@[simp] theorem rearm_free (dt : Nat) (e : Instr) (s : State) : (rearm dt e s).free = s.free := rfl
@[simp] theorem rearm_resp (dt : Nat) (e : Instr) (s : State) : (rearm dt e s).resp = s.resp := rfl
@[simp] theorem rearm_respPec (dt : Nat) (e : Instr) (s : State) : (rearm dt e s).respPec = s.respPec := rfl
@[simp] theorem rearm_chans (dt : Nat) (e : Instr) (s : State) : (rearm dt e s).chans = s.chans := rfl
@[simp] theorem rearm_banks (dt : Nat) (e : Instr) (s : State) : (rearm dt e s).banks = s.banks := rfl
@[simp] theorem rearm_rails (dt : Nat) (e : Instr) (s : State) : (rearm dt e s).rails = s.rails := rfl
@[simp] theorem rearm_ports (dt : Nat) (e : Instr) (s : State) : (rearm dt e s).ports = s.ports := rfl
@[simp] theorem rearm_hadc (dt : Nat) (e : Instr) (s : State) : (rearm dt e s).hadc = s.hadc := rfl
@[simp] theorem rearm_thm (dt : Nat) (e : Instr) (s : State) : (rearm dt e s).thm = s.thm := rfl
@[simp] theorem rearm_nvl (dt : Nat) (e : Instr) (s : State) : (rearm dt e s).nvl = s.nvl := rfl
@[simp] theorem rearm_nrd (dt : Nat) (e : Instr) (s : State) : (rearm dt e s).nrd = s.nrd := rfl
@[simp] theorem rearm_tmr (dt : Nat) (e : Instr) (s : State) : (rearm dt e s).tmr = s.tmr := rfl
@[simp] theorem rearm_fifo (dt : Nat) (e : Instr) (s : State) : (rearm dt e s).fifo = s.fifo := rfl
@[simp] theorem rearm_pwr (dt : Nat) (e : Instr) (s : State) : (rearm dt e s).pwr = s.pwr := rfl
@[simp] theorem rearm_ka (dt : Nat) (e : Instr) (s : State) : (rearm dt e s).ka = s.ka := rfl
@[simp] theorem rearm_glb (dt : Nat) (e : Instr) (s : State) : (rearm dt e s).glb = s.glb := rfl
@[simp] theorem rearm_img (dt : Nat) (e : Instr) (s : State) : (rearm dt e s).img = s.img := rfl
@[simp] theorem rearm_sealed (dt : Nat) (e : Instr) (s : State) : (rearm dt e s).sealed = s.sealed := rfl
@[simp] theorem rearm_otp (dt : Nat) (e : Instr) (s : State) : (rearm dt e s).otp = s.otp := rfl
@[simp] theorem rearm_hif (dt : Nat) (e : Instr) (s : State) : (rearm dt e s).hif = s.hif := rfl
@[simp] theorem rearm_tap (dt : Nat) (e : Instr) (s : State) : (rearm dt e s).tap = s.tap := rfl
@[simp] theorem rearm_pins (dt : Nat) (e : Instr) (s : State) : (rearm dt e s).pins = s.pins := rfl
@[simp] theorem rearm_nl (dt : Nat) (e : Instr) (s : State) : (rearm dt e s).nl = s.nl := rfl
@[simp] theorem rearm_irqEn (dt : Nat) (e : Instr) (s : State) : (rearm dt e s).irqEn = s.irqEn := rfl
@[simp] theorem rearm_raised (dt : Nat) (e : Instr) (s : State) : (rearm dt e s).raised = s.raised := rfl
@[simp] theorem rearm_flash (dt : Nat) (e : Instr) (s : State) : (rearm dt e s).flash = s.flash := rfl

/-! ## The updated field -/

@[simp] theorem onRail_get (r j : RailId) (f : Rail → Rail) (s : State) :
    (onRail r f s).rails[j] = if j = r then f s.rails[r] else s.rails[j] := upd_get _ _ _ _

@[simp] theorem onBank_get (b j : BankId) (f : Bank → Bank) (s : State) :
    (onBank b f s).banks[j] = if j = b then f s.banks[b] else s.banks[j] := upd_get _ _ _ _

@[simp] theorem onChan_get (ch j : ChanId) (f : Chan → Chan) (s : State) :
    (onChan ch f s).chans[j] = if j = ch then f s.chans[ch] else s.chans[j] := upd_get _ _ _ _

@[simp] theorem onPort_get (p j : PortId) (f : Port → Port) (s : State) :
    (onPort p f s).ports[j] = if j = p then f s.ports[p] else s.ports[j] := upd_get _ _ _ _

@[simp] theorem onTimer_get (t j : TimerId) (f : Timer → Timer) (s : State) :
    (onTimer t f s).tmr.tmr[j] = if j = t then f s.tmr.tmr[t] else s.tmr.tmr[j] := upd_get _ _ _ _

@[simp] theorem onFifo_get (i j : FifoId) (f : Tfifo → Tfifo) (s : State) :
    (onFifo i f s).fifo[j] = if j = i then f s.fifo[i] else s.fifo[j] := upd_get _ _ _ _

@[simp] theorem onChans_get (l : List Nat) (f : Nat → Chan → Chan) (j : ChanId) (s : State) :
    (onChans l f s).chans[j] = if l.contains j.val then f j.val s.chans[j] else s.chans[j] := mapTab_get _ _ _

@[simp] theorem onBanks_get (l : List Nat) (f : Bank → Bank) (j : BankId) (s : State) :
    (onBanks l f s).banks[j] = if l.contains j.val then f s.banks[j] else s.banks[j] := mapTab_get _ _ _

@[simp] theorem onCfgRails_get (f : RailId → RailCfg → Rail → Rail) (j : RailId) (s : State) :
    (onCfgRails f s).rails[j] = match railCfg s j with | some c => f j c s.rails[j] | none => s.rails[j] := by
  unfold onCfgRails
  simp only [mapTab_get, toFin_val] <;> cases railCfg s j <;> rfl

@[simp] theorem reply_resp (a : Resp) (s : State) : (reply a s).resp = a := rfl

@[simp] theorem disarm_agenda (q : Instr → Bool) (s : State) :
    (disarm q s).agenda = s.agenda.filter (fun d => !q d.ev) := rfl

@[simp] theorem arm_agenda (dt : Nat) (e : Instr) (s : State) : (arm dt e s).agenda = s.agenda ++ [⟨s.now + dt, e, false⟩] := rfl

/-- An armed event is armed. -/
theorem isArmed_rearm (dt : Nat) (e : Instr) (s : State) : isArmed e (rearm dt e s) = true := by
  simp [isArmed, rearm]

end Sys2Proof.Machine
end

