-- ==== Sys2Proof/Laws/Settle.lean ====
section
/-! SUPPORT. What follows from a step of state (`settle`, `settleBy`) changes only the Sillage buffers, FLT_STATUS.SILFRZ,
the log queue, the in-band interrupt requests, the agenda and StatusAlert. -/

namespace Sys2Proof.Machine

theorem SameCore.refl (s : State) : SameCore s s := by constructor <;> intros <;> rfl

theorem SameCore.trans {s t u : State} (a : SameCore s t) (b : SameCore t u) : SameCore s u := by
  constructor
  case rails => exact fun r => (b.rails r).trans (a.rails r)
  case ports => exact fun p => (b.ports p).trans (a.ports p)
  all_goals first
    | exact b.pending.trans a.pending | exact b.now.trans a.now | exact b.free.trans a.free
    | exact b.resp.trans a.resp | exact b.respPec.trans a.respPec | exact b.chans.trans a.chans | exact b.banks.trans a.banks
    | exact b.hadc.trans a.hadc | exact b.thm.trans a.thm | exact b.nvl.trans a.nvl | exact b.nrd.trans a.nrd
    | exact b.tmr.trans a.tmr | exact b.fifo.trans a.fifo | exact b.pwr.trans a.pwr | exact b.ka.trans a.ka
    | exact b.glb.trans a.glb | exact b.img.trans a.img | exact b.sealed.trans a.sealed | exact b.otp.trans a.otp
    | exact b.hif.trans a.hif | exact b.tap.trans a.tap | exact b.pins.trans a.pins | exact b.nl.trans a.nl | exact b.irqEn.trans a.irqEn
    | exact b.flash.trans a.flash

theorem freezeSil_core (m n : Nat) (x : Rail) : { freezeSil m n x with sil := {} } = { x with sil := {} } := by
  unfold freezeSil; dsimp only; repeat' split
  all_goals rfl

theorem freezeAll_core (l : List Nat) (s : State) : SameCore s (freezeAll l s) := by
  have h : ∀ r : RailId, { (freezeAll l s).rails[r] with sil := {} } = { s.rails[r] with sil := {} } := by
    intro r
    have e : (freezeAll l s).rails = (onCfgRails (fun r c x => match freezer l r c with
        | some n => freezeSil (cycle s) n x | none => x) s).rails := by
      unfold freezeAll; dsimp only; split <;> rfl
    rw [e, onCfgRails_get]
    split
    · split
      · exact freezeSil_core _ _ _
      · rfl
    · rfl
  constructor
  case rails => exact h
  all_goals intros
  all_goals unfold freezeAll; dsimp only; split <;> rfl

theorem raisedPut_core (was : List Bool) (l : List Nat) (s : State) : SameCore s (raisedPut was l s) := by
  unfold raisedPut; dsimp only; repeat' split
  all_goals (constructor <;> intros <;> rfl)

theorem queueOne_core (old : State) (n : Nat) (s : State) : SameCore s (queueOne old n s) := by
  unfold queueOne
  dsimp only
  repeat' split
  all_goals (constructor <;> intros <;> rfl)

theorem forEach_core {α : Type} (l : List α) (f : α → State → State) (h : ∀ a s, SameCore s (f a s)) (s : State) :
    SameCore s (forEach l f s) := by
  unfold forEach
  induction l generalizing s with
  | nil => exact .refl s
  | cons a l ih => exact (h a s).trans (ih (f a s))

theorem queueAll_core (old : State) (l : List Nat) (s : State) : SameCore s (queueAll old l s) := by
  unfold queueAll
  split
  · exact forEach_core _ _ (queueOne_core old) s
  · exact .refl s

theorem ibiSettle_core (p : List Nat) (s : State) : SameCore s (ibiSettle p s) := by
  constructor <;> intros <;> rfl

theorem alertSettle_core (p : Option PortId) (old s : State) : SameCore s (alertSettle p old s) := by
  have h : ∀ i : PortId, { (alertSettle p old s).ports[i] with alert := false } = { s.ports[i] with alert := false } := by
    intro i
    have e : (alertSettle p old s).ports[i] = if p != some i && (ownedRails s i).any (fun r =>
        railState old.rails[r] != railState s.rails[r]) then { s.ports[i] with alert := true } else s.ports[i] := by
      unfold alertSettle; simp only [mapTab_get, toFin_val]
    rw [e]; split <;> rfl
  constructor
  case ports => exact h
  all_goals intros; rfl

/-- What follows from a step of state leaves everything else as it is. -/
theorem settleBy_core (p : Option PortId) (o : List Nat) (old s : State) : SameCore s (settleBy p o old s) := by
  unfold settleBy
  exact (freezeAll_core _ s).trans <| (raisedPut_core _ _ _).trans <| (queueAll_core _ _ _).trans <|
    (ibiSettle_core _ _).trans (alertSettle_core _ _ _)

/-! ## Field by field -/

theorem SameCore.railsField {α : Type} (f : Rail → α) (e : ∀ x, f { x with sil := {} } = f x) {s t : State}
    (h : SameCore s t) (i : RailId) : f t.rails[i] = f s.rails[i] :=
  (e _).symm.trans ((congrArg f (h.rails i)).trans (e _))

theorem SameCore.portsField {α : Type} (f : Port → α) (e : ∀ x, f { x with alert := false } = f x) {s t : State}
    (h : SameCore s t) (i : PortId) : f t.ports[i] = f s.ports[i] :=
  (e _).symm.trans ((congrArg f (h.ports i)).trans (e _))

theorem SameCore.nvlField {α : Type} (f : Nvl → α) (e : ∀ x, f { x with queue := [], drop := false, dropCnt := 0, headNew := false, qAt := 0, qNew := 0 } = f x) {s t : State}
    (h : SameCore s t) : f t.nvl = f s.nvl :=
  (e _).symm.trans ((congrArg f (h.nvl)).trans (e _))

theorem SameCore.glbField {α : Type} (f : Glb → α) (e : ∀ x, f { x with silFrz := false } = f x) {s t : State}
    (h : SameCore s t) : f t.glb = f s.glb :=
  (e _).symm.trans ((congrArg f (h.glb)).trans (e _))

theorem SameCore.hifField {α : Type} (f : Hif → α) (e : ∀ x, f { x with ibi := [] } = f x) {s t : State}
    (h : SameCore s t) : f t.hif = f s.hif :=
  (e _).symm.trans ((congrArg f (h.hif)).trans (e _))

@[simp] theorem settle_by (o : List Nat) (old s : State) : settle o old s = settleBy none o old s := rfl

@[simp] theorem settleBy_pending (p : Option PortId) (o : List Nat) (old s : State) : (settleBy p o old s).pending = s.pending := (settleBy_core p o old s).pending
@[simp] theorem settleBy_now (p : Option PortId) (o : List Nat) (old s : State) : (settleBy p o old s).now = s.now := (settleBy_core p o old s).now
@[simp] theorem settleBy_free (p : Option PortId) (o : List Nat) (old s : State) : (settleBy p o old s).free = s.free := (settleBy_core p o old s).free
@[simp] theorem settleBy_resp (p : Option PortId) (o : List Nat) (old s : State) : (settleBy p o old s).resp = s.resp := (settleBy_core p o old s).resp
@[simp] theorem settleBy_respPec (p : Option PortId) (o : List Nat) (old s : State) : (settleBy p o old s).respPec = s.respPec := (settleBy_core p o old s).respPec
@[simp] theorem settleBy_chans (p : Option PortId) (o : List Nat) (old s : State) : (settleBy p o old s).chans = s.chans := (settleBy_core p o old s).chans
@[simp] theorem settleBy_banks (p : Option PortId) (o : List Nat) (old s : State) : (settleBy p o old s).banks = s.banks := (settleBy_core p o old s).banks
@[simp] theorem settleBy_hadc (p : Option PortId) (o : List Nat) (old s : State) : (settleBy p o old s).hadc = s.hadc := (settleBy_core p o old s).hadc
@[simp] theorem settleBy_thm (p : Option PortId) (o : List Nat) (old s : State) : (settleBy p o old s).thm = s.thm := (settleBy_core p o old s).thm
@[simp] theorem settleBy_nrd (p : Option PortId) (o : List Nat) (old s : State) : (settleBy p o old s).nrd = s.nrd := (settleBy_core p o old s).nrd
@[simp] theorem settleBy_tmr (p : Option PortId) (o : List Nat) (old s : State) : (settleBy p o old s).tmr = s.tmr := (settleBy_core p o old s).tmr
@[simp] theorem settleBy_fifo (p : Option PortId) (o : List Nat) (old s : State) : (settleBy p o old s).fifo = s.fifo := (settleBy_core p o old s).fifo
@[simp] theorem settleBy_pwr (p : Option PortId) (o : List Nat) (old s : State) : (settleBy p o old s).pwr = s.pwr := (settleBy_core p o old s).pwr
@[simp] theorem settleBy_ka (p : Option PortId) (o : List Nat) (old s : State) : (settleBy p o old s).ka = s.ka := (settleBy_core p o old s).ka
@[simp] theorem settleBy_img (p : Option PortId) (o : List Nat) (old s : State) : (settleBy p o old s).img = s.img := (settleBy_core p o old s).img
@[simp] theorem settleBy_sealed (p : Option PortId) (o : List Nat) (old s : State) : (settleBy p o old s).sealed = s.sealed := (settleBy_core p o old s).sealed
@[simp] theorem settleBy_otp (p : Option PortId) (o : List Nat) (old s : State) : (settleBy p o old s).otp = s.otp := (settleBy_core p o old s).otp
@[simp] theorem settleBy_tap (p : Option PortId) (o : List Nat) (old s : State) : (settleBy p o old s).tap = s.tap := (settleBy_core p o old s).tap
@[simp] theorem settleBy_pins (p : Option PortId) (o : List Nat) (old s : State) : (settleBy p o old s).pins = s.pins := (settleBy_core p o old s).pins
@[simp] theorem settleBy_nl (p : Option PortId) (o : List Nat) (old s : State) : (settleBy p o old s).nl = s.nl := (settleBy_core p o old s).nl
@[simp] theorem settleBy_irqEn (p : Option PortId) (o : List Nat) (old s : State) : (settleBy p o old s).irqEn = s.irqEn := (settleBy_core p o old s).irqEn
@[simp] theorem settleBy_flash (p : Option PortId) (o : List Nat) (old s : State) : (settleBy p o old s).flash = s.flash := (settleBy_core p o old s).flash
@[simp] theorem settleBy_rail_eng (p : Option PortId) (o : List Nat) (old s : State) (r : RailId) :
    (settleBy p o old s).rails[r].eng = s.rails[r].eng := (settleBy_core p o old s).railsField Rail.eng (fun _ => rfl) r
@[simp] theorem settleBy_rail_coef (p : Option PortId) (o : List Nat) (old s : State) (r : RailId) :
    (settleBy p o old s).rails[r].coef = s.rails[r].coef := (settleBy_core p o old s).railsField Rail.coef (fun _ => rfl) r
@[simp] theorem settleBy_rail_pos (p : Option PortId) (o : List Nat) (old s : State) (r : RailId) :
    (settleBy p o old s).rails[r].pos = s.rails[r].pos := (settleBy_core p o old s).railsField Rail.pos (fun _ => rfl) r
@[simp] theorem settleBy_rail_sh (p : Option PortId) (o : List Nat) (old s : State) (r : RailId) :
    (settleBy p o old s).rails[r].sh = s.rails[r].sh := (settleBy_core p o old s).railsField Rail.sh (fun _ => rfl) r
@[simp] theorem settleBy_rail_ph (p : Option PortId) (o : List Nat) (old s : State) (r : RailId) :
    (settleBy p o old s).rails[r].ph = s.rails[r].ph := (settleBy_core p o old s).railsField Rail.ph (fun _ => rfl) r
@[simp] theorem settleBy_rail_trip (p : Option PortId) (o : List Nat) (old s : State) (r : RailId) :
    (settleBy p o old s).rails[r].trip = s.rails[r].trip := (settleBy_core p o old s).railsField Rail.trip (fun _ => rfl) r
@[simp] theorem settleBy_rail_seq (p : Option PortId) (o : List Nat) (old s : State) (r : RailId) :
    (settleBy p o old s).rails[r].seq = s.rails[r].seq := (settleBy_core p o old s).railsField Rail.seq (fun _ => rfl) r
@[simp] theorem settleBy_rail_prot (p : Option PortId) (o : List Nat) (old s : State) (r : RailId) :
    (settleBy p o old s).rails[r].prot = s.rails[r].prot := (settleBy_core p o old s).railsField Rail.prot (fun _ => rfl) r
@[simp] theorem settleBy_rail_lim (p : Option PortId) (o : List Nat) (old s : State) (r : RailId) :
    (settleBy p o old s).rails[r].lim = s.rails[r].lim := (settleBy_core p o old s).railsField Rail.lim (fun _ => rfl) r
@[simp] theorem settleBy_rail_sns (p : Option PortId) (o : List Nat) (old s : State) (r : RailId) :
    (settleBy p o old s).rails[r].sns = s.rails[r].sns := (settleBy_core p o old s).railsField Rail.sns (fun _ => rfl) r
@[simp] theorem settleBy_rail_snd (p : Option PortId) (o : List Nat) (old s : State) (r : RailId) :
    (settleBy p o old s).rails[r].snd = s.rails[r].snd := (settleBy_core p o old s).railsField Rail.snd (fun _ => rfl) r
@[simp] theorem settleBy_rail_tel (p : Option PortId) (o : List Nat) (old s : State) (r : RailId) :
    (settleBy p o old s).rails[r].tel = s.rails[r].tel := (settleBy_core p o old s).railsField Rail.tel (fun _ => rfl) r
@[simp] theorem settleBy_port_rej (p : Option PortId) (o : List Nat) (old s : State) (i : PortId) :
    (settleBy p o old s).ports[i].rej = s.ports[i].rej := (settleBy_core p o old s).portsField Port.rej (fun _ => rfl) i
@[simp] theorem settleBy_port_linkErr (p : Option PortId) (o : List Nat) (old s : State) (i : PortId) :
    (settleBy p o old s).ports[i].linkErr = s.ports[i].linkErr := (settleBy_core p o old s).portsField Port.linkErr (fun _ => rfl) i
@[simp] theorem settleBy_port_hostOvr (p : Option PortId) (o : List Nat) (old s : State) (i : PortId) :
    (settleBy p o old s).ports[i].hostOvr = s.ports[i].hostOvr := (settleBy_core p o old s).portsField Port.hostOvr (fun _ => rfl) i
@[simp] theorem settleBy_port_raiseFrz (p : Option PortId) (o : List Nat) (old s : State) (i : PortId) :
    (settleBy p o old s).ports[i].raiseFrz = s.ports[i].raiseFrz := (settleBy_core p o old s).portsField Port.raiseFrz (fun _ => rfl) i
@[simp] theorem settleBy_port_linkCause (p : Option PortId) (o : List Nat) (old s : State) (i : PortId) :
    (settleBy p o old s).ports[i].linkCause = s.ports[i].linkCause := (settleBy_core p o old s).portsField Port.linkCause (fun _ => rfl) i
@[simp] theorem settleBy_port_busyTo (p : Option PortId) (o : List Nat) (old s : State) (i : PortId) :
    (settleBy p o old s).ports[i].busyTo = s.ports[i].busyTo := (settleBy_core p o old s).portsField Port.busyTo (fun _ => rfl) i
@[simp] theorem settleBy_port_frames (p : Option PortId) (o : List Nat) (old s : State) (i : PortId) :
    (settleBy p o old s).ports[i].frames = s.ports[i].frames := (settleBy_core p o old s).portsField Port.frames (fun _ => rfl) i
@[simp] theorem settleBy_port_vselIdx (p : Option PortId) (o : List Nat) (old s : State) (i : PortId) :
    (settleBy p o old s).ports[i].vselIdx = s.ports[i].vselIdx := (settleBy_core p o old s).portsField Port.vselIdx (fun _ => rfl) i
@[simp] theorem settleBy_port_vselPin (p : Option PortId) (o : List Nat) (old s : State) (i : PortId) :
    (settleBy p o old s).ports[i].vselPin = s.ports[i].vselPin := (settleBy_core p o old s).portsField Port.vselPin (fun _ => rfl) i
@[simp] theorem settleBy_port_vselAt (p : Option PortId) (o : List Nat) (old s : State) (i : PortId) :
    (settleBy p o old s).ports[i].vselAt = s.ports[i].vselAt := (settleBy_core p o old s).portsField Port.vselAt (fun _ => rfl) i
@[simp] theorem settleBy_port_lastAck (p : Option PortId) (o : List Nat) (old s : State) (i : PortId) :
    (settleBy p o old s).ports[i].lastAck = s.ports[i].lastAck := (settleBy_core p o old s).portsField Port.lastAck (fun _ => rfl) i
@[simp] theorem settleBy_port_rejCnt (p : Option PortId) (o : List Nat) (old s : State) (i : PortId) :
    (settleBy p o old s).ports[i].rejCnt = s.ports[i].rejCnt := (settleBy_core p o old s).portsField Port.rejCnt (fun _ => rfl) i
@[simp] theorem settleBy_port_errCnt (p : Option PortId) (o : List Nat) (old s : State) (i : PortId) :
    (settleBy p o old s).ports[i].errCnt = s.ports[i].errCnt := (settleBy_core p o old s).portsField Port.errCnt (fun _ => rfl) i
@[simp] theorem settleBy_port_accepted (p : Option PortId) (o : List Nat) (old s : State) (i : PortId) :
    (settleBy p o old s).ports[i].accepted = s.ports[i].accepted := (settleBy_core p o old s).portsField Port.accepted (fun _ => rfl) i
@[simp] theorem settleBy_port_budget (p : Option PortId) (o : List Nat) (old s : State) (i : PortId) :
    (settleBy p o old s).ports[i].budget = s.ports[i].budget := (settleBy_core p o old s).portsField Port.budget (fun _ => rfl) i
@[simp] theorem settleBy_port_vselPend (p : Option PortId) (o : List Nat) (old s : State) (i : PortId) :
    (settleBy p o old s).ports[i].vselPend = s.ports[i].vselPend := (settleBy_core p o old s).portsField Port.vselPend (fun _ => rfl) i
@[simp] theorem settleBy_port_hold (p : Option PortId) (o : List Nat) (old s : State) (i : PortId) :
    (settleBy p o old s).ports[i].hold = s.ports[i].hold := (settleBy_core p o old s).portsField Port.hold (fun _ => rfl) i
@[simp] theorem settleBy_port_avsOut (p : Option PortId) (o : List Nat) (old s : State) (i : PortId) :
    (settleBy p o old s).ports[i].avsOut = s.ports[i].avsOut := (settleBy_core p o old s).portsField Port.avsOut (fun _ => rfl) i
@[simp] theorem settleBy_port_avsResp (p : Option PortId) (o : List Nat) (old s : State) (i : PortId) :
    (settleBy p o old s).ports[i].avsResp = s.ports[i].avsResp := (settleBy_core p o old s).portsField Port.avsResp (fun _ => rfl) i
@[simp] theorem settleBy_nvl_vstop (p : Option PortId) (o : List Nat) (old s : State) :
    (settleBy p o old s).nvl.vstop = s.nvl.vstop := (settleBy_core p o old s).nvlField Nvl.vstop (fun _ => rfl)
@[simp] theorem settleBy_nvl_bperiod (p : Option PortId) (o : List Nat) (old s : State) :
    (settleBy p o old s).nvl.bperiod = s.nvl.bperiod := (settleBy_core p o old s).nvlField Nvl.bperiod (fun _ => rfl)
@[simp] theorem settleBy_nvl_logged (p : Option PortId) (o : List Nat) (old s : State) :
    (settleBy p o old s).nvl.logged = s.nvl.logged := (settleBy_core p o old s).nvlField Nvl.logged (fun _ => rfl)
@[simp] theorem settleBy_nvl_cresync (p : Option PortId) (o : List Nat) (old s : State) :
    (settleBy p o old s).nvl.cresync = s.nvl.cresync := (settleBy_core p o old s).nvlField Nvl.cresync (fun _ => rfl)
@[simp] theorem settleBy_nvl_blotFail (p : Option PortId) (o : List Nat) (old s : State) :
    (settleBy p o old s).nvl.blotFail = s.nvl.blotFail := (settleBy_core p o old s).nvlField Nvl.blotFail (fun _ => rfl)
@[simp] theorem settleBy_nvl_holdPend (p : Option PortId) (o : List Nat) (old s : State) :
    (settleBy p o old s).nvl.holdPend = s.nvl.holdPend := (settleBy_core p o old s).nvlField Nvl.holdPend (fun _ => rfl)
@[simp] theorem settleBy_nvl_media (p : Option PortId) (o : List Nat) (old s : State) :
    (settleBy p o old s).nvl.media = s.nvl.media := (settleBy_core p o old s).nvlField Nvl.media (fun _ => rfl)
@[simp] theorem settleBy_nvl_scan (p : Option PortId) (o : List Nat) (old s : State) :
    (settleBy p o old s).nvl.scan = s.nvl.scan := (settleBy_core p o old s).nvlField Nvl.scan (fun _ => rfl)
@[simp] theorem settleBy_nvl_busy (p : Option PortId) (o : List Nat) (old s : State) :
    (settleBy p o old s).nvl.busy = s.nvl.busy := (settleBy_core p o old s).nvlField Nvl.busy (fun _ => rfl)
@[simp] theorem settleBy_nvl_mcause (p : Option PortId) (o : List Nat) (old s : State) :
    (settleBy p o old s).nvl.mcause = s.nvl.mcause := (settleBy_core p o old s).nvlField Nvl.mcause (fun _ => rfl)
@[simp] theorem settleBy_nvl_result (p : Option PortId) (o : List Nat) (old s : State) :
    (settleBy p o old s).nvl.result = s.nvl.result := (settleBy_core p o old s).nvlField Nvl.result (fun _ => rfl)
@[simp] theorem settleBy_nvl_capUf (p : Option PortId) (o : List Nat) (old s : State) :
    (settleBy p o old s).nvl.capUf = s.nvl.capUf := (settleBy_core p o old s).nvlField Nvl.capUf (fun _ => rfl)
@[simp] theorem settleBy_nvl_eavl (p : Option PortId) (o : List Nat) (old s : State) :
    (settleBy p o old s).nvl.eavl = s.nvl.eavl := (settleBy_core p o old s).nvlField Nvl.eavl (fun _ => rfl)
@[simp] theorem settleBy_nvl_vh (p : Option PortId) (o : List Nat) (old s : State) :
    (settleBy p o old s).nvl.vh = s.nvl.vh := (settleBy_core p o old s).nvlField Nvl.vh (fun _ => rfl)
@[simp] theorem settleBy_nvl_dvuv (p : Option PortId) (o : List Nat) (old s : State) :
    (settleBy p o old s).nvl.dvuv = s.nvl.dvuv := (settleBy_core p o old s).nvlField Nvl.dvuv (fun _ => rfl)
@[simp] theorem settleBy_nvl_cap (p : Option PortId) (o : List Nat) (old s : State) :
    (settleBy p o old s).nvl.cap = s.nvl.cap := (settleBy_core p o old s).nvlField Nvl.cap (fun _ => rfl)
@[simp] theorem settleBy_nvl_q (p : Option PortId) (o : List Nat) (old s : State) :
    (settleBy p o old s).nvl.q = s.nvl.q := (settleBy_core p o old s).nvlField Nvl.q (fun _ => rfl)
@[simp] theorem settleBy_nvl_sampA (p : Option PortId) (o : List Nat) (old s : State) :
    (settleBy p o old s).nvl.sampA = s.nvl.sampA := (settleBy_core p o old s).nvlField Nvl.sampA (fun _ => rfl)
@[simp] theorem settleBy_nvl_sampB (p : Option PortId) (o : List Nat) (old s : State) :
    (settleBy p o old s).nvl.sampB = s.nvl.sampB := (settleBy_core p o old s).nvlField Nvl.sampB (fun _ => rfl)
@[simp] theorem settleBy_nvl_testOk (p : Option PortId) (o : List Nat) (old s : State) :
    (settleBy p o old s).nvl.testOk = s.nvl.testOk := (settleBy_core p o old s).nvlField Nvl.testOk (fun _ => rfl)
@[simp] theorem settleBy_nvl_testAt (p : Option PortId) (o : List Nat) (old s : State) :
    (settleBy p o old s).nvl.testAt = s.nvl.testAt := (settleBy_core p o old s).nvlField Nvl.testAt (fun _ => rfl)
@[simp] theorem settleBy_nvl_testRun (p : Option PortId) (o : List Nat) (old s : State) :
    (settleBy p o old s).nvl.testRun = s.nvl.testRun := (settleBy_core p o old s).nvlField Nvl.testRun (fun _ => rfl)
@[simp] theorem settleBy_nvl_testDue (p : Option PortId) (o : List Nat) (old s : State) :
    (settleBy p o old s).nvl.testDue = s.nvl.testDue := (settleBy_core p o old s).nvlField Nvl.testDue (fun _ => rfl)
@[simp] theorem settleBy_nvl_seen (p : Option PortId) (o : List Nat) (old s : State) :
    (settleBy p o old s).nvl.seen = s.nvl.seen := (settleBy_core p o old s).nvlField Nvl.seen (fun _ => rfl)
@[simp] theorem settleBy_nvl_v87 (p : Option PortId) (o : List Nat) (old s : State) :
    (settleBy p o old s).nvl.v87 = s.nvl.v87 := (settleBy_core p o old s).nvlField Nvl.v87 (fun _ => rfl)
@[simp] theorem settleBy_nvl_resync (p : Option PortId) (o : List Nat) (old s : State) :
    (settleBy p o old s).nvl.resync = s.nvl.resync := (settleBy_core p o old s).nvlField Nvl.resync (fun _ => rfl)
@[simp] theorem settleBy_nvl_voidDue (p : Option PortId) (o : List Nat) (old s : State) :
    (settleBy p o old s).nvl.voidDue = s.nvl.voidDue := (settleBy_core p o old s).nvlField Nvl.voidDue (fun _ => rfl)
@[simp] theorem settleBy_nvl_secs (p : Option PortId) (o : List Nat) (old s : State) :
    (settleBy p o old s).nvl.secs = s.nvl.secs := (settleBy_core p o old s).nvlField Nvl.secs (fun _ => rfl)
@[simp] theorem settleBy_nvl_secAt (p : Option PortId) (o : List Nat) (old s : State) :
    (settleBy p o old s).nvl.secAt = s.nvl.secAt := (settleBy_core p o old s).nvlField Nvl.secAt (fun _ => rfl)
@[simp] theorem settleBy_nvl_seq (p : Option PortId) (o : List Nat) (old s : State) :
    (settleBy p o old s).nvl.seq = s.nvl.seq := (settleBy_core p o old s).nvlField Nvl.seq (fun _ => rfl)
@[simp] theorem settleBy_nvl_lap (p : Option PortId) (o : List Nat) (old s : State) :
    (settleBy p o old s).nvl.lap = s.nvl.lap := (settleBy_core p o old s).nvlField Nvl.lap (fun _ => rfl)
@[simp] theorem settleBy_nvl_wslot (p : Option PortId) (o : List Nat) (old s : State) :
    (settleBy p o old s).nvl.wslot = s.nvl.wslot := (settleBy_core p o old s).nvlField Nvl.wslot (fun _ => rfl)
@[simp] theorem settleBy_nvl_retry (p : Option PortId) (o : List Nat) (old s : State) :
    (settleBy p o old s).nvl.retry = s.nvl.retry := (settleBy_core p o old s).nvlField Nvl.retry (fun _ => rfl)
@[simp] theorem settleBy_nvl_eraseDue (p : Option PortId) (o : List Nat) (old s : State) :
    (settleBy p o old s).nvl.eraseDue = s.nvl.eraseDue := (settleBy_core p o old s).nvlField Nvl.eraseDue (fun _ => rfl)
@[simp] theorem settleBy_nvl_onAt (p : Option PortId) (o : List Nat) (old s : State) :
    (settleBy p o old s).nvl.onAt = s.nvl.onAt := (settleBy_core p o old s).nvlField Nvl.onAt (fun _ => rfl)
@[simp] theorem settleBy_nvl_stopped (p : Option PortId) (o : List Nat) (old s : State) :
    (settleBy p o old s).nvl.stopped = s.nvl.stopped := (settleBy_core p o old s).nvlField Nvl.stopped (fun _ => rfl)
@[simp] theorem settleBy_glb_pllLock (p : Option PortId) (o : List Nat) (old s : State) :
    (settleBy p o old s).glb.pllLock = s.glb.pllLock := (settleBy_core p o old s).glbField Glb.pllLock (fun _ => rfl)
@[simp] theorem settleBy_glb_dllLock (p : Option PortId) (o : List Nat) (old s : State) :
    (settleBy p o old s).glb.dllLock = s.glb.dllLock := (settleBy_core p o old s).glbField Glb.dllLock (fun _ => rfl)
@[simp] theorem settleBy_glb_dpwmClk (p : Option PortId) (o : List Nat) (old s : State) :
    (settleBy p o old s).glb.dpwmClk = s.glb.dpwmClk := (settleBy_core p o old s).glbField Glb.dpwmClk (fun _ => rfl)
@[simp] theorem settleBy_glb_vddBo (p : Option PortId) (o : List Nat) (old s : State) :
    (settleBy p o old s).glb.vddBo = s.glb.vddBo := (settleBy_core p o old s).glbField Glb.vddBo (fun _ => rfl)
@[simp] theorem settleBy_glb_vddaBo (p : Option PortId) (o : List Nat) (old s : State) :
    (settleBy p o old s).glb.vddaBo = s.glb.vddaBo := (settleBy_core p o old s).glbField Glb.vddaBo (fun _ => rfl)
@[simp] theorem settleBy_glb_cfgUnc (p : Option PortId) (o : List Nat) (old s : State) :
    (settleBy p o old s).glb.cfgUnc = s.glb.cfgUnc := (settleBy_core p o old s).glbField Glb.cfgUnc (fun _ => rfl)
@[simp] theorem settleBy_glb_cfgCor (p : Option PortId) (o : List Nat) (old s : State) :
    (settleBy p o old s).glb.cfgCor = s.glb.cfgCor := (settleBy_core p o old s).glbField Glb.cfgCor (fun _ => rfl)
@[simp] theorem settleBy_glb_cfgBad (p : Option PortId) (o : List Nat) (old s : State) :
    (settleBy p o old s).glb.cfgBad = s.glb.cfgBad := (settleBy_core p o old s).glbField Glb.cfgBad (fun _ => rfl)
@[simp] theorem settleBy_glb_refFb (p : Option PortId) (o : List Nat) (old s : State) :
    (settleBy p o old s).glb.refFb = s.glb.refFb := (settleBy_core p o old s).glbField Glb.refFb (fun _ => rfl)
@[simp] theorem settleBy_glb_slowClk (p : Option PortId) (o : List Nat) (old s : State) :
    (settleBy p o old s).glb.slowClk = s.glb.slowClk := (settleBy_core p o old s).glbField Glb.slowClk (fun _ => rfl)
@[simp] theorem settleBy_glb_wdRst (p : Option PortId) (o : List Nat) (old s : State) :
    (settleBy p o old s).glb.wdRst = s.glb.wdRst := (settleBy_core p o old s).glbField Glb.wdRst (fun _ => rfl)
@[simp] theorem settleBy_glb_accErr (p : Option PortId) (o : List Nat) (old s : State) :
    (settleBy p o old s).glb.accErr = s.glb.accErr := (settleBy_core p o old s).glbField Glb.accErr (fun _ => rfl)
@[simp] theorem settleBy_glb_sealWr (p : Option PortId) (o : List Nat) (old s : State) :
    (settleBy p o old s).glb.sealWr = s.glb.sealWr := (settleBy_core p o old s).glbField Glb.sealWr (fun _ => rfl)
@[simp] theorem settleBy_glb_latched (p : Option PortId) (o : List Nat) (old s : State) :
    (settleBy p o old s).glb.latched = s.glb.latched := (settleBy_core p o old s).glbField Glb.latched (fun _ => rfl)
@[simp] theorem settleBy_glb_clrRej (p : Option PortId) (o : List Nat) (old s : State) :
    (settleBy p o old s).glb.clrRej = s.glb.clrRej := (settleBy_core p o old s).glbField Glb.clrRej (fun _ => rfl)
@[simp] theorem settleBy_glb_cause (p : Option PortId) (o : List Nat) (old s : State) :
    (settleBy p o old s).glb.cause = s.glb.cause := (settleBy_core p o old s).glbField Glb.cause (fun _ => rfl)
@[simp] theorem settleBy_glb_fatalAt (p : Option PortId) (o : List Nat) (old s : State) :
    (settleBy p o old s).glb.fatalAt = s.glb.fatalAt := (settleBy_core p o old s).glbField Glb.fatalAt (fun _ => rfl)
@[simp] theorem settleBy_glb_fatalOcc (p : Option PortId) (o : List Nat) (old s : State) :
    (settleBy p o old s).glb.fatalOcc = s.glb.fatalOcc := (settleBy_core p o old s).glbField Glb.fatalOcc (fun _ => rfl)
@[simp] theorem settleBy_glb_clrAt (p : Option PortId) (o : List Nat) (old s : State) :
    (settleBy p o old s).glb.clrAt = s.glb.clrAt := (settleBy_core p o old s).glbField Glb.clrAt (fun _ => rfl)
@[simp] theorem settleBy_glb_clrCause (p : Option PortId) (o : List Nat) (old s : State) :
    (settleBy p o old s).glb.clrCause = s.glb.clrCause := (settleBy_core p o old s).glbField Glb.clrCause (fun _ => rfl)
@[simp] theorem settleBy_glb_part (p : Option PortId) (o : List Nat) (old s : State) :
    (settleBy p o old s).glb.part = s.glb.part := (settleBy_core p o old s).glbField Glb.part (fun _ => rfl)
@[simp] theorem settleBy_glb_corCnt (p : Option PortId) (o : List Nat) (old s : State) :
    (settleBy p o old s).glb.corCnt = s.glb.corCnt := (settleBy_core p o old s).glbField Glb.corCnt (fun _ => rfl)
@[simp] theorem settleBy_glb_fltWire (p : Option PortId) (o : List Nat) (old s : State) :
    (settleBy p o old s).glb.fltWire = s.glb.fltWire := (settleBy_core p o old s).glbField Glb.fltWire (fun _ => rfl)
@[simp] theorem settleBy_glb_wBall (p : Option PortId) (o : List Nat) (old s : State) :
    (settleBy p o old s).glb.wBall = s.glb.wBall := (settleBy_core p o old s).glbField Glb.wBall (fun _ => rfl)
@[simp] theorem settleBy_glb_wLvl (p : Option PortId) (o : List Nat) (old s : State) :
    (settleBy p o old s).glb.wLvl = s.glb.wLvl := (settleBy_core p o old s).glbField Glb.wLvl (fun _ => rfl)
@[simp] theorem settleBy_glb_ballP (p : Option PortId) (o : List Nat) (old s : State) :
    (settleBy p o old s).glb.ballP = s.glb.ballP := (settleBy_core p o old s).glbField Glb.ballP (fun _ => rfl)
@[simp] theorem settleBy_glb_ballN (p : Option PortId) (o : List Nat) (old s : State) :
    (settleBy p o old s).glb.ballN = s.glb.ballN := (settleBy_core p o old s).glbField Glb.ballN (fun _ => rfl)
@[simp] theorem settleBy_hif_pecErr (p : Option PortId) (o : List Nat) (old s : State) :
    (settleBy p o old s).hif.pecErr = s.hif.pecErr := (settleBy_core p o old s).hifField Hif.pecErr (fun _ => rfl)
@[simp] theorem settleBy_hif_cmlErr (p : Option PortId) (o : List Nat) (old s : State) :
    (settleBy p o old s).hif.cmlErr = s.hif.cmlErr := (settleBy_core p o old s).hifField Hif.cmlErr (fun _ => rfl)
@[simp] theorem settleBy_hif_smbTo (p : Option PortId) (o : List Nat) (old s : State) :
    (settleBy p o old s).hif.smbTo = s.hif.smbTo := (settleBy_core p o old s).hifField Hif.smbTo (fun _ => rfl)
@[simp] theorem settleBy_hif_i3cErr (p : Option PortId) (o : List Nat) (old s : State) :
    (settleBy p o old s).hif.i3cErr = s.hif.i3cErr := (settleBy_core p o old s).hifField Hif.i3cErr (fun _ => rfl)
@[simp] theorem settleBy_hif_daaChg (p : Option PortId) (o : List Nat) (old s : State) :
    (settleBy p o old s).hif.daaChg = s.hif.daaChg := (settleBy_core p o old s).hifField Hif.daaChg (fun _ => rfl)
@[simp] theorem settleBy_hif_dynAddr (p : Option PortId) (o : List Nat) (old s : State) :
    (settleBy p o old s).hif.dynAddr = s.hif.dynAddr := (settleBy_core p o old s).hifField Hif.dynAddr (fun _ => rfl)
@[simp] theorem settleBy_hif_strapValid (p : Option PortId) (o : List Nat) (old s : State) :
    (settleBy p o old s).hif.strapValid = s.hif.strapValid := (settleBy_core p o old s).hifField Hif.strapValid (fun _ => rfl)
@[simp] theorem settleBy_hif_lvl0 (p : Option PortId) (o : List Nat) (old s : State) :
    (settleBy p o old s).hif.lvl0 = s.hif.lvl0 := (settleBy_core p o old s).hifField Hif.lvl0 (fun _ => rfl)
@[simp] theorem settleBy_hif_lvl1 (p : Option PortId) (o : List Nat) (old s : State) :
    (settleBy p o old s).hif.lvl1 = s.hif.lvl1 := (settleBy_core p o old s).hifField Hif.lvl1 (fun _ => rfl)
@[simp] theorem settleBy_hif_kaAddr (p : Option PortId) (o : List Nat) (old s : State) :
    (settleBy p o old s).hif.kaAddr = s.hif.kaAddr := (settleBy_core p o old s).hifField Hif.kaAddr (fun _ => rfl)
@[simp] theorem settleBy_hif_mwl (p : Option PortId) (o : List Nat) (old s : State) :
    (settleBy p o old s).hif.mwl = s.hif.mwl := (settleBy_core p o old s).hifField Hif.mwl (fun _ => rfl)
@[simp] theorem settleBy_hif_mrl (p : Option PortId) (o : List Nat) (old s : State) :
    (settleBy p o old s).hif.mrl = s.hif.mrl := (settleBy_core p o old s).hifField Hif.mrl (fun _ => rfl)
@[simp] theorem settleBy_hif_ibiCnt (p : Option PortId) (o : List Nat) (old s : State) :
    (settleBy p o old s).hif.ibiCnt = s.hif.ibiCnt := (settleBy_core p o old s).hifField Hif.ibiCnt (fun _ => rfl)
@[simp] theorem settleBy_hif_pecCnt (p : Option PortId) (o : List Nat) (old s : State) :
    (settleBy p o old s).hif.pecCnt = s.hif.pecCnt := (settleBy_core p o old s).hifField Hif.pecCnt (fun _ => rfl)
@[simp] theorem settleBy_hif_cmlCnt (p : Option PortId) (o : List Nat) (old s : State) :
    (settleBy p o old s).hif.cmlCnt = s.hif.cmlCnt := (settleBy_core p o old s).hifField Hif.cmlCnt (fun _ => rfl)
@[simp] theorem settleBy_hif_page (p : Option PortId) (o : List Nat) (old s : State) :
    (settleBy p o old s).hif.page = s.hif.page := (settleBy_core p o old s).hifField Hif.page (fun _ => rfl)
@[simp] theorem settleBy_hif_pageI (p : Option PortId) (o : List Nat) (old s : State) :
    (settleBy p o old s).hif.pageI = s.hif.pageI := (settleBy_core p o old s).hifField Hif.pageI (fun _ => rfl)
@[simp] theorem settleBy_hif_pageT (p : Option PortId) (o : List Nat) (old s : State) :
    (settleBy p o old s).hif.pageT = s.hif.pageT := (settleBy_core p o old s).hifField Hif.pageT (fun _ => rfl)
@[simp] theorem settleBy_hif_ptrS (p : Option PortId) (o : List Nat) (old s : State) :
    (settleBy p o old s).hif.ptrS = s.hif.ptrS := (settleBy_core p o old s).hifField Hif.ptrS (fun _ => rfl)
@[simp] theorem settleBy_hif_ptrI (p : Option PortId) (o : List Nat) (old s : State) :
    (settleBy p o old s).hif.ptrI = s.hif.ptrI := (settleBy_core p o old s).hifField Hif.ptrI (fun _ => rfl)
@[simp] theorem settleBy_hif_ptrT (p : Option PortId) (o : List Nat) (old s : State) :
    (settleBy p o old s).hif.ptrT = s.hif.ptrT := (settleBy_core p o old s).hifField Hif.ptrT (fun _ => rfl)
@[simp] theorem settleBy_hif_selS (p : Option PortId) (o : List Nat) (old s : State) :
    (settleBy p o old s).hif.selS = s.hif.selS := (settleBy_core p o old s).hifField Hif.selS (fun _ => rfl)
@[simp] theorem settleBy_hif_selI (p : Option PortId) (o : List Nat) (old s : State) :
    (settleBy p o old s).hif.selI = s.hif.selI := (settleBy_core p o old s).hifField Hif.selI (fun _ => rfl)
@[simp] theorem settleBy_hif_selT (p : Option PortId) (o : List Nat) (old s : State) :
    (settleBy p o old s).hif.selT = s.hif.selT := (settleBy_core p o old s).hifField Hif.selT (fun _ => rfl)
@[simp] theorem settleBy_hif_cmlBad (p : Option PortId) (o : List Nat) (old s : State) :
    (settleBy p o old s).hif.cmlBad = s.hif.cmlBad := (settleBy_core p o old s).hifField Hif.cmlBad (fun _ => rfl)
@[simp] theorem settleBy_hif_cmlData (p : Option PortId) (o : List Nat) (old s : State) :
    (settleBy p o old s).hif.cmlData = s.hif.cmlData := (settleBy_core p o old s).hifField Hif.cmlData (fun _ => rfl)
@[simp] theorem settleBy_hif_cmlPec (p : Option PortId) (o : List Nat) (old s : State) :
    (settleBy p o old s).hif.cmlPec = s.hif.cmlPec := (settleBy_core p o old s).hifField Hif.cmlPec (fun _ => rfl)
@[simp] theorem settleBy_hif_intEn (p : Option PortId) (o : List Nat) (old s : State) :
    (settleBy p o old s).hif.intEn = s.hif.intEn := (settleBy_core p o old s).hifField Hif.intEn (fun _ => rfl)
@[simp] theorem settleBy_hif_hjEn (p : Option PortId) (o : List Nat) (old s : State) :
    (settleBy p o old s).hif.hjEn = s.hif.hjEn := (settleBy_core p o old s).hifField Hif.hjEn (fun _ => rfl)
@[simp] theorem settleBy_hif_protErr (p : Option PortId) (o : List Nat) (old s : State) :
    (settleBy p o old s).hif.protErr = s.hif.protErr := (settleBy_core p o old s).hifField Hif.protErr (fun _ => rfl)
@[simp] theorem settleBy_hif_ibiFrom (p : Option PortId) (o : List Nat) (old s : State) :
    (settleBy p o old s).hif.ibiFrom = s.hif.ibiFrom := (settleBy_core p o old s).hifField Hif.ibiFrom (fun _ => rfl)
@[simp] theorem settleBy_hif_hdr (p : Option PortId) (o : List Nat) (old s : State) :
    (settleBy p o old s).hif.hdr = s.hif.hdr := (settleBy_core p o old s).hifField Hif.hdr (fun _ => rfl)

end Sys2Proof.Machine
end

