-- ==== Sys2Proof/Laws/Gives.lean ====
section
/-! SUPPORT. How a statement of Safety.lean is reached: from the effect of a meaning to `Gives` and `Becomes`. -/

namespace Sys2Proof.Machine

/-- A command whose meaning is `act f` gives what holds of `f s` after its follow-ups. -/
theorem gives_act {c : Instr} {s : State} {f : State → State} {P : State → Prop} (e : exec c s = act f s)
    (h : P (settleBy none (occurs f s) s (f s))) : Gives c s P := ⟨_, e, h⟩

/-- The same for a command of a port. -/
theorem gives_actBy {c : Instr} {s : State} {p : PortId} {f : State → State} {P : State → Prop}
    (e : exec c s = actBy p f s) (h : P (settleBy (some p) (occurs f s) s (f s))) : Gives c s P := ⟨_, e, h⟩

/-- A command whose meaning is `act f` brings `f s`. -/
theorem becomes_act {c : Instr} {s u : State} {f : State → State} (e : exec c s = act f s) (h : SameCore u (f s)) :
    Becomes c s u := ⟨_, e, h.trans (settleBy_core _ _ _ _)⟩

/-- The same for a command of a port. -/
theorem becomes_actBy {c : Instr} {s u : State} {p : PortId} {f : State → State} (e : exec c s = actBy p f s)
    (h : SameCore u (f s)) : Becomes c s u := ⟨_, e, h.trans (settleBy_core _ _ _ _)⟩

/-- States that differ in the agenda alone agree in the core. -/
theorem core_agenda (s : State) (l : List Due) : SameCore s { s with agenda := l } := by
  constructor <;> intros <;> rfl

@[simp] theorem core_disarm (p : Instr → Bool) (s : State) : SameCore s (disarm p s) := core_agenda _ _

@[simp] theorem core_arm (n : Nat) (e : Instr) (s : State) : SameCore s (arm n e s) := core_agenda _ _

@[simp] theorem core_rearm (n : Nat) (e : Instr) (s : State) : SameCore s (rearm n e s) :=
  (core_disarm _ _).trans (core_arm _ _ _)

/-- An event that is due acts on the state without it. -/
theorem onFire_due {e : Instr} {s : State} (f : State → State) (h : isDue e s = true) :
    onFire e f s = f (disarm (· == e) s) := by
  simp only [onFire, fire, h, if_true]

/-- A reading of the state that every step of a loop keeps, the loop keeps. -/
theorem forEach_keeps {α β : Type} (g : State → β) (l : List α) (f : α → State → State)
    (h : ∀ a s, g (f a s) = g s) (s : State) : g (forEach l f s) = g s := by
  unfold forEach
  induction l generalizing s with
  | nil => rfl
  | cons a l ih => exact (ih (f a s)).trans (h a s)

end Sys2Proof.Machine
end

