-- ==== Sys2Proof/WellFormed.lean ====
section
/-! DEFINITION. Commands whose operands the spec's own layouts admit: a frame spells the command it stands for, a
register address is one of a register, a keyed write asks for what the command names. A command that is not well-formed
still runs: the check tells which terms are commands of the row they name. -/

namespace Sys2Proof

/-- The START bits of a VCMD-2 frame, 0b10, and its OP (R199). -/
def vcmd2Op (f : BitVec 32) (op : BitVec 3) : Bool := f.extractLsb' 30 2 == 2#2 && f.extractLsb' 27 3 == op

/-- The START bits of a VCMD-1 frame, 0b10, and its OP (R206). -/
def vcmd1Op (f : BitVec 16) (op : BitVec 2) : Bool := f.extractLsb' 14 2 == 2#2 && f.extractLsb' 12 2 == op

/-- DATA of a VCMD-1 frame (R206). -/
def vcmd1Data (f : BitVec 16) : BitVec 8 := f.extractLsb' 1 8

/-- The PMBus command codes that are supported (R389, R392). -/
def supportedCode (c : Byte) : Bool :=
  [0x00, 0x01, 0x02, 0x03, 0x19, 0x20, 0x21, 0x24, 0x27, 0x2B, 0x40, 0x44, 0x46, 0x78, 0x79, 0x7A, 0x7B, 0x7D, 0x7E, 0x80,
    0x8B, 0x8C, 0x8D, 0x8E, 0x98, 0x99, 0x9A, 0x9B, 0xAD, 0xAE, 0xD0, 0xD1, 0xD2, 0xD3, 0xD4].contains c.toNat

/-- The operands of a command are ones that its row admits. -/
def Instr.wf : Instr → Bool
  | .registerWrite _ a _ => a.extractLsb' 0 2 == 0
  | .glbFatalClr w => w.getLsbD 22
  | .railTripClr _ w => w.getLsbD 30
  | .railProtClr _ w => w.getLsbD 30
  | .railSeqStart _ w => w.extractLsb' 0 4 == 1
  | .railSeqStop _ w => w.extractLsb' 0 4 == 2
  | .coefApply _ w => w.getLsbD 31
  | .bankBistStart _ w => w.getLsbD 0
  | .soundingRequest _ w => w.getLsbD 23
  | .unfreeze w => w.getLsbD 31
  | .readmit w => w.getLsbD 30
  | .hadcGo w => w.getLsbD 31
  | .hadcAvgsetApply w => w.getLsbD 31
  | .railSilFreeze _ w => w.getLsbD 30
  | .rearm _ w => w.getLsbD 29
  | .offsetCalDone _ sums => sums.length == 32
  | .vcmd2SetTarget _ f _ => vcmd2Op f 0
  | .vcmd2SetSlew _ f => vcmd2Op f 1
  | .vcmd2Start _ f => vcmd2Op f 2
  | .vcmd2Stop _ f => vcmd2Op f 3
  | .vcmd2Read _ f => vcmd2Op f 4
  | .vcmd2Nop _ f => vcmd2Op f 5 || vcmd2Op f 6 || vcmd2Op f 7
  | .vcmd2LinkError _ c => c != .crc
  | .setVid _ f _ => vcmd1Op f 0
  | .vcmd1SetSlew _ f => vcmd1Op f 1
  | .readVid _ f => vcmd1Op f 2
  | .vcmd1On _ f => vcmd1Op f 3 && vcmd1Data f != 0
  | .vcmd1Off _ f => vcmd1Op f 3 && vcmd1Data f == 0
  | .vcmd1LinkError _ c => c != .crc
  | .mfrRegData (some l) _ => decide (l.length ≤ 255)
  | .pmbusUnsupported c => !supportedCode c
  | _ => true

end Sys2Proof
end

