-- ==== Sys2Proof/Tests/Slice0.lean ====
section
/-! SUPPORT. The model's own tests: ill-formed terms that the check refuses, states that meet the hypotheses of the
statements, an image and a patch that pass every check, one-step checks. -/

namespace Sys2Proof.Tests

open Machine

set_option Elab.async false

/-- Powered off, right after power-on reset. -/
def off : State := .reset

/-- READY without an image. -/
def bare : State := { State.reset with pwr := { State.reset.pwr with dev := .ready, pllLk := true, dllLk := true } }

/-- A rail of four phases on channels 0, 8, 16 and 24. -/
def railC : RailCfg :=
  { acc := { nph := 4, nmin := 1, bypass := false, pair := false, phase := [0, 8, 16, 24], safe := [0, 0, 0, 0],
             irated := 480, peak := 1600, spoint := 0 }
    eng := { integ := true, zeros := 1, poles := 1, llEn := true, fixed := false, fixset := 0, divk := 0, lline := 0,
             spacing := 0, soffset := 0, vmax := 1200, vmin := 200, vboot := 640, slew := 40 }
    coef := { nl := 1, nc := 1, ledge := [], cedge := [], sets := [⟨1, 1, 0, 0, 0, 0, 0, 12⟩] }
    md := { mode := .ffvm, toCori := false, corin := 0, period := 1600, dmax := 60000, dmin := 0, toncl := 0, tonco := 0,
            ripg := 0, corout := 0 }
    cur := { rotate := true, tripn := 8, fbLinear := false, ilim := 1600, tfloor := 160, tperiod := 10, dwell := 4, trimmax := 0,
             ovth := 120, uvth := 120, ineg := 80, bdtime := 20, fold := [], shed := [] }
    seq := { pgrise := 60, pgfall := 80, pgdelay := 10
             ramps := [{ delay := 100, slew := 40, fromPrebias := false }]
             start := [{ action := .rampUp, ramp := 0, duration := 0, slots := [(2, 1)] },
                       { action := .terminalOn, ramp := 0, duration := 0, slots := [] }]
             stop := [{ action := .rampDown, ramp := 0, duration := 0, slots := [(2, 1)] },
                      { action := .terminalOff, ramp := 0, duration := 0, slots := [] }] }
    rev := 0 }

/-- An image with rail 0, one VCMD-2 port over it, one schedule entry and a watchdog. -/
def image : ImageCfg :=
  { gen := 7, auth := false, epoch := 0, keyidx := 0
    rails := some railC :: List.replicate 23 none
    pins := []
    ports := [{ proto := .vcmd2, nrail := 1, step := 1, budget := 800, rails := [0], share := [256], vsel := [] }]
    tband := { edges := [400, 600], hyst := 16, ror := List.replicate 32 0, bands := [] }
    hadc := { maceration := 5, entries := [{ chan := 0, user := 0, start := 0, stride := 4, avg := 0, lowz := true, range := 0 }] }
    irq := List.replicate 448 0
    hostif := { strapmode := 0, smbaddr := 0x20, pecreq := false, i3csa := 0, hotjoin := false, ibiEn := true, wdog := 100 }
    nelink := some { role := 1, chainid := 5, epochofs := 0 } }

/-- READY with the image sealed. -/
def ready : State := { bare with sealed := { img := some image } }

/-- RUN with the image sealed. -/
def run : State := { ready with pwr := { ready.pwr with dev := .run } }

/-- `s` with event `e` armed. -/
def armed (e : Instr) (s : State) : State := { s with agenda := [⟨s.now, e, false⟩] }

/-- READY with timer 3 owned by the host and its capture input on SYNC_IN. -/
def timed : State :=
  { ready with sealed := { img := some { image with pins := [⟨3, 3, 5, 0xFE, false⟩, ⟨2, 0x600, 2, 3, true⟩] } } }

/-- READY with timer 0's match output, high, on LP2CLK, which timer 1 captures, timer 2 takes for its gate and rail 0 for its
sequencing input. -/
def pinned : State :=
  onTimer 0 (fun k => { k with out := true })
    { ready with sealed := { img := some { image with pins :=
      [⟨2, 0x202, 4, 0, false⟩, ⟨2, 0x202, 2, 1, true⟩, ⟨2, 0x202, 3, 2, true⟩, ⟨2, 0x202, 1, 0, true⟩] } } }

/-- RUN with rail 0 in TERMINAL_ON. -/
def railOn : State := onRail 0 (fun x => { x with seq := { x.seq with st := .on } }) run

/-- The same with port 0 speaking another protocol over rail 0. -/
def ported (pr : Proto) : State :=
  { railOn with sealed := { img := some { image with ports := [{ proto := pr, nrail := 1, step := 1, budget := 800, rails := [0], share := [256], vsel := [[640, 720, 800, 640, 640, 640, 640, 640]] }] } } }

/-- The rail with nine phases. -/
def bigC : RailCfg := { railC with acc := { railC.acc with nph := 9, phase := [0, 8, 16, 24, 32, 40, 48, 56, 64], safe := List.replicate 9 0 } }

/-- RUN with the rail of nine phases, the comparator of its switching channel 8 asserted. -/
def tripping : State :=
  onChan 8 (fun k => { k with st := .switching, rawTrip := true })
    { run with sealed := { img := some { image with rails := some bigC :: List.replicate 23 none } } }

/-- The rail with a start table of two states, the second with action `a`. -/
def tableC (a : SmAction) : RailCfg :=
  { railC with seq := { railC.seq with start := [⟨.holdOff, 0, 0, [(1, 1)]⟩, ⟨a, 0, 5, []⟩] } }

/-- RUN with that table's first slot true, the rail at 0.5 V. -/
def between (a : SmAction) : State :=
  onRail 0 (fun x => { x with seq := { x.seq with st := .start, acting := true, durOk := true }, pos := { x.pos with moves := [⟨0, 838860800, 0, 838860800⟩] } })
    { run with sealed := { img := some { image with rails := some (tableC a) :: List.replicate 23 none } } }

/-- The rail whose stop table is one TERMINAL_OFF state. -/
def offC : RailCfg := { railC with seq := { railC.seq with stop := [⟨.terminalOff, 0, 0, []⟩] } }

/-- RUN with port 0 speaking a protocol over that rail, which stands in TERMINAL_ON. -/
def portedOff (pr : Proto) : State :=
  { railOn with sealed := { img := some { image with rails := some offC :: List.replicate 23 none, ports := [{ proto := pr, nrail := 1, step := 1, budget := 800, rails := [0], share := [256], vsel := [] }] } } }

/-- READY with a loss of lock of the PLL pending, its source enabled. -/
def pended : State := { ready with irqEn := BitVec.ofNat 448 (2 ^ 384), glb := { ready.glb with pllLock := true } }

/-- READY with a schedule of one entry of an input, its conversion in progress. -/
def sched (chan range : Nat) : State :=
  { ready with
    sealed := { img := some { image with hadc := { image.hadc with entries := [{ chan := chan, user := 0, start := 0, stride := 4, avg := 0, lowz := true, range := range }] } } }
    hadc := { ready.hadc with conv := some ⟨chan, range, .entry 0, false, false, 0, 0⟩ } }

/-- Its entry. -/
def schedE (chan range : Nat) : HadcEntry := { chan := chan, user := 0, start := 0, stride := 4, avg := 0, lowz := true, range := range }

/-- Its conversion. -/
def schedC (chan range : Nat) : Conv := ⟨chan, range, .entry 0, false, false, 0, 0⟩

/-- That schedule with other values of the monitors. -/
def monitored (chan range : Nat) (f : HadcMon → HadcMon) : State :=
  { sched chan range with hadc := { (sched chan range).hadc with mon := f (sched chan range).hadc.mon } }

/-- A schedule that holds the inputs of VREFX, a round of which lacks one result, in RUN. -/
def rounds (k : Nat) (ab ax bx : Option Bool) (f : HadcMon → HadcMon) : State :=
  let l := [88, 89, 90, 92].map fun n => { schedE n 3 with chan := n }
  { ready with
    sealed := { img := some { image with hadc := { image.hadc with entries := l } } }
    hadc := { ready.hadc with conv := some ⟨88 + k, 3, .entry k, false, false, 0, 0⟩, mon := f { ready.hadc.mon with round := [ab, ax, bx] } } }

/-- READY without an image, a load from QSPI under way over a flash. -/
def loading (op : ImgOp) (m : List Host.Cell) : State := { bare with flash := m, img := { bare.img with op := op, phase := .reading } }

/-- A topology image of no rail, GEN 7, written from R52 to R74. -/
def imgBytes : List Byte :=
  natLe 4848 0x6400002100200100000000000000000000000000000000000000000000000000000000000000000000000000000000000000000000000000000000000000000000000000000000000000000000000000000000000000000000000000000000000000000000000000000000000000000000000000000000000000000000000000000000000000000000000000000000000000000000000000000000000000000000000000000000000000000000000000000000000000000000000000000000000000000000000000000000000000000000000000000000000000000000000000000000000000000000000000000000000000000000000000000000000000000000000000000000000000000000000000000000000000000000000000000000000000000000000000000000000000000000000000000000000000000000000000000000000000000000000000000000000000000000000000000000000000000000000000000000000000000000000000000000000000000000000000000000000000000000000000000000000000000000000000000000000000000000000000000000000000000000000000000000000000000000000000000000000000000000000000000000000000000000000007000400004803580300040000400457010004000038051f010004000030051e010004000028051d010004000020051c010004000018051b010004000010051a0100040000080519010004000000051800000000000a00050000000000000000000000000000000000000000000000000000000000000000000000000000000000000000000000000000000000000000000000000000000000000000000000000000000000000000000000000000000000000000000000000000000000000000000000000000000000000000000000000000000000000000000000000000000000000000000000000000000000000000000000000000000000000000000000000000000000000000000000000000000000000000000000000000000000000000000000000000000000000000000000000000000000000000000000000000000000000000000000000000000000000000000000000000000000000000000000000000000000000000000000000000000000000000000000000000000000000000000000000000000000000000000000000000000000000000000000000000000000000000000000000000000000000000000000000000000000000000000000000000000000000000000000000000000000000000000000000000000000000000008000800000000000000000000000000000000000000000000000000000000000000000000000000000000000000000000000000000000000000000000000000000000000000000000000000000000000000000000000000000000000000000000000000000000000000000000000000000000000000000000000000000000000000000000000000000000000000000000000000000000000000000000000000000000000000000000000000000000000000000000000000000000000000000000000000000000000000000000000000000000000000000000000000000000000000000000000000000000000000000000000000000000000000000000000000000000000000000000000000000000000000000000000000000000000000000000000000000000000000000000000000000000000000000000000000000000000000000000000000000000000000000000000000000000000000000000000000000000000000000000000000000000000000000000000000000000000000000000000000000000000000000000000000000000000000000000000000000000000000000000000000000000000000000000000000000000000000000000000000000000000000000000000000000000000800080000000000000000000000000000000000000000000000000000000000000000000000000000000000000000000000000000000000000000000000000000000000000000000000000000000000000000000000000000000000000000000000000000000000000000000000000000000000000000000000000000000000000000000000000000000000000000000000000000000000000000000000000000000000000000000000000000000000000000000000000000000000000000000000000000000000000000000000000000000000000000000000000000000000000000000000000000000000000000000000000000000000000000000000000000000000000000000000000000000000000000000000000000000000000000000000000000000000000000000000000000000000000000000000000000000000000000000000000000000000000000000000000000000000000000000000000000000000000000000000000000000000000000000000000000000000000000000000000000000000000000000000000000000000000000000000000000000000000000000000000000000000000000000000000000000000000000000000000000000000000000000000000000000000080008000000000000000000000000000000000000000000000000000000000000000000000000000000000000000000000000000000000000000000000000000000000000000000000000000000000000000000000000000000000000000000000000000000000000000000000000000000000000000000000000000000000000000000000000000000000000000000000000000000000000000000000000000000000000000000000000000000000000000000000000000000000000000000000000000000000000000000000000000000000000000000000000000000000000000000000000000000000000000000000000000000000000000000000000000000000000000000000000000000000000000000000000000000000000000000000000000000000000000000000000000000000000000000000000000000000000000000000000000000000000000000000000000000000000000000000000000000000000000000000000000000000000000000000000000000000000000000000000000000000000000000000000000000000000000000000000000000000000000000000000000000000000000000000000000000000000000000000000000000000000000000000000000000000008000800000000000000000000000000000000000000000000000000000000000000000000000000000000000000000000000000000000000000000000000000000000000000000000000000000000000000000000000000000000000000000000000000000000000000000000000000000000000000000000000000000000000000000000000000000000000000000000000000000000000000000000000000000000000000000000000000000000000000000000000000000000000000000000000000000000000000000000000000000000000000000000000000000000000000000000000000000000000000000000000000000000000000000000000000000000000000000000000000000000000000000000000000000000000000000000000000000000000000000000000000000000000000000000000000000000000000000000000000000000000000000000000000000000000000000000000000000000000000000000000000000000000000000000000000000000000000000000000000000000000000000000000000000000000000000000000000000000000000000000000000000000000000000000000000000000000000000000000000000000000000000000000000000000000800080000000000000000000000000000000000000000000000000000000000000000000000000000000000000000000000000000000000000000000000000000000000000000000000000000000000000000000000000000000000000000000000000000000000000000000000000000000000000000000000000000000000000000000000000000000000000000000000000000000000000000000000000000000000000000000000000000000000000000000000000000000000000000000000000000000000000000000000000000000000000000000000000000000000000000000000000000000000000000000000000000000000000000000000000000000000000000000000000000000000000000000000000000000000000000000000000000000000000000000000000000000000000000000000000000000000000000000000000000000000000000000000000000000000000000000000000000000000000000000000000000000000000000000000000000000000000000000000000000000000000000000000000000000000000000000000000000000000000000000000000000000000000000000000000000000000000000000000000000000000000000000000000000000000080008000000000000000000000000000000000000000000000000000000000000000000000000000000000000000000000000000000000000000000000000000000000000000000000000001010101010101010101010101010101010101010101010101010101010101010008025801f40190012c00c8000000000000000000000000000000000000000000000000000000000000000000000000000000000000000000000000000000000000000000000000000000000000000000000000000000000000000000000000000000000000000000000000000000000000000000000000000000000000000000000000000000000000000000000000000000000000000000000000ffffffffffffffff0000000000000000000000000000000000000000000000000000000000000000000000000000000000000000000000000000000000000000000000000000000000000000000000000000000000000000000000000000000000000000000000000000000000000000000000000000000000000000000000000000000000000000000000000000000000000000000000000000000000000000ffffffffffffffff0000000000000000000000000000000000000000000000000000000000000000000000000000000000000000000000000000000000000000000000000000000000000000000000000000000000000000000000000000000000000000000000000000000000000000000000000000000000000000000000000000000000000000000000000000000000000000000000000000000000000000ffffffffffffffff0000000000000000000000000000000000000000000000000000000000000000000000000000000000000000000000000000000000000000000000000000000000000000000000000000000000000000000000000000000000000000000000000000000000000000000000000000000000000000000000000000000000000000000000000000000000000000000000000000000000000000ffffffffffffffff0000000000000000000000000000000000000000000000000000000000000000000000000000000000000000000000000000000000000000000000000000000000000000000000000000000000000000000000000000000000000000000000000000000000000000000000000000000000000000000000000000000000000000000000000000000000000000000000000000000000000000ffffffffffffffff0000000000000000000000000000000000000000000000000000000000000000000000000000000000000000000000000000000000000000000000000000000000000000000000000000000000000000000000000000000000000000000000000000000000000000000000000000000000000000000000000000000000000000000000000000000000000000000000000000000000000000ffffffffffffffff0000000000000000000000000000000000000000000000000000000000000000000000000000000000000000000000000000000000000000000000000000000000000000000000000000000000000000000000000000000000000000000000000000000000000000000000000000000000000000000000000000000000000000000000000000000000000000000000000000000000000000ffffffffffffffff0000000000000000000000000000000000000000000000000000000000000000000000000000000000000000000000000000000000000000000000000000000000000000000000000000000000000000000000000000000000000000000000000000000000000000000000000000000000000000000000000000000000000000000000000000000000000000000000000000000000000000ffffffffffffffff0000000000000000000000000000000000000000000000007cf2d22000000010000012e00000ff0c468a1643000001c0000011200000ff0be4e8bf2900000058000010c00000ff0a3882552d00000b10000005b00000ff095aa1881200000500000000b00000ff082144df1c00000004000000a00000ff021127e7480000000000000000000000000000000000000000000000000000000000000040000001000000000600000007000012f0000061920040010049545658

/-- A patch of rail 0 to GEN 7 with REV 1. -/
def patBytes : List Byte :=
  natLe 688 0x1000100000001000000000000000000000000000000000000000000ff09010000000000000102000000000000030000000000000000000000000000ff0801000000000000010200000000000001000000002800000064000000000000000a70007800010202000000000000000000ffffffffffffffffffffffffffffffffffffffffffffffffffffffffffffffffffffffffffffffffffffffffffffffffffffffffffffffffffffffffffffffffffffffffffffffffffffffffffffffffffffffffffffffffffffffffffffffffffffffffffffffffffffffffffffffff0118ffff00b4012c005000c80000006400000007000000060000000500000004000000030000000200000001000000000000001400506000a00000000004000a08000640000801000200000000000000ea60064001000000000000000000000000000d000000000000000000000000000000000000000001ffffffffffffffffffffffffffffffffffffffffffffffffffffffff000101000000000000000000000000000028028000c804b00000002800008000000001000000000000000000c00001e00000000000000000000000000000000000000000000000000000000000000000ffffffffffffffffffffffffffffffffffffffffffffffffffffffff0302010000010400a8d122a0000000180000029000ffff0ee249581d000000580000023000010007683287a2000000b80000017000010006790a814a00000010000001600001000521cbc17d000000380000012000010004d4529b55000000200000010000010003b02fbcdd0000004c000000b00001000133a422d60000000000000000000000000000000000000000000000000000000000000040000001000002000700000007000002b0000061920040010049545658

/-- A fold that evaluates at every element. -/
def foldGo {β : Type} (f : Nat → β → Nat) : List β → Nat → Nat
  | [], c => c
  | b :: bs, c => match Nat.decEq (f c b) 0 with
    | .isTrue _ => foldGo f bs 0
    | .isFalse _ => foldGo f bs (f c b)

theorem foldGo_eq {β : Type} (f : Nat → β → Nat) (bs : List β) : ∀ c, foldGo f bs c = bs.foldl f c := by
  induction bs with
  | nil => intro c; rfl
  | cons b bs ih =>
    intro c; simp only [foldGo, List.foldl_cons]
    cases Nat.decEq (f c b) 0 with
    | isTrue h => show foldGo f bs 0 = _; rw [ih, h]
    | isFalse h => exact ih _

/-- The CRC of a section, evaluated byte by byte. -/
def crcGo (bs : List Byte) : Nat := foldGo crcByte bs 0xFFFFFFFF ^^^ 0xFFFFFFFF

theorem crcGo_eq (bs : List Byte) : crcGo bs = crc32 bs := by unfold crcGo crc32; rw [foldGo_eq]

theorem checkCrcs_of {l : List Sec} (h : l.all (fun s => crcGo s.data == s.crc) = true) : checkCrcs l = none := by
  unfold checkCrcs firstErr
  rw [List.findSome?_eq_none_iff]
  intro x hx
  obtain ⟨s, hs, rfl⟩ := List.mem_map.mp hx
  have := List.all_eq_true.mp h s hs
  rw [crcGo_eq] at this
  rw [this]; rfl

theorem img_header : checkHeader false none imgBytes = none := by decide +kernel
theorem img_header_len : checkHeader false (some 4848) imgBytes = none := by decide +kernel
theorem img_dir : checkDir none imgBytes = none := by decide +kernel
theorem img_crcs : checkCrcs (readDir imgBytes) = none := checkCrcs_of (by decide +kernel)
theorem img_auth : checkAuth {} (hdrAuth imgBytes) imgBytes (readDir imgBytes) = none := by decide +kernel
theorem img_secs : checkSecs none (readDir imgBytes) = none := by decide +kernel
theorem img_claims : checkClaims (readImage imgBytes (readDir imgBytes)) = none := by decide +kernel

/-- A good image passes every check of R56. -/
theorem test_image_loads : checkImage {} none imgBytes = .ok (readImage imgBytes (readDir imgBytes)) := by
  unfold checkImage
  simp only [img_header, img_dir, img_crcs, img_auth, img_secs, img_claims, firstErr, List.findSome?_cons, List.findSome?_nil, id]

/-- The same image under a trailer that states its length. -/
theorem test_image_loads_len : checkImage {} (some 4848) imgBytes = .ok (readImage imgBytes (readDir imgBytes)) := by
  unfold checkImage
  simp only [img_header_len, img_dir, img_crcs, img_auth, img_secs, img_claims, firstErr, List.findSome?_cons, List.findSome?_nil, id]

theorem pat_header : checkHeader true none patBytes = none := by decide +kernel
theorem pat_dir : checkDir (some 0) patBytes = none := by decide +kernel
theorem pat_crcs : checkCrcs (readDir patBytes) = none := checkCrcs_of (by decide +kernel)
theorem pat_auth : checkAuth {} false patBytes (readDir patBytes) = none := by decide +kernel
theorem pat_secs : checkSecs (some image) (readDir patBytes) = none := by decide +kernel
theorem pat_claims : checkPatchClaims image 0 (readAccord (secData (readDir patBytes) 0x01 0)) = none := by decide +kernel
theorem pat_gen : u32 patBytes 0x10 = 7 := by decide +kernel
theorem pat_rev : tagRev (secData (readDir patBytes) 0x0E 0xFF) 1 = 1 := by decide +kernel
theorem pat_acc : (secOf (readDir patBytes) 0x01 0).isSome = true := by decide +kernel

/-- A patch whose checks pass gives its rail. -/
theorem checkPatch_of {im : ImageCfg} {n : Nat} {b : List Byte} (h1 : checkHeader true none b = none)
    (h2 : checkDir (some n) b = none) (h3 : checkCrcs (readDir b) = none) (h4 : u32 b 0x10 = im.gen)
    (h5 : checkAuth {} false b (readDir b) = none)
    (h6 : ((im.rails.getD n none).map (·.rev)).getD 0 < tagRev (secData (readDir b) 0x0E 0xFF) (n + 1))
    (h7 : checkSecs (some im) (readDir b) = none)
    (h8 : checkPatchClaims im n (readAccord (secData (readDir b) 0x01 n)) = none)
    (h9 : (secOf (readDir b) 0x01 n).isSome = true) : ∃ c, checkPatch {} false true im n b = .ok c := by
  obtain ⟨a, ha⟩ := Option.isSome_iff_exists.mp h9
  simp only [checkPatch, h1, h2, h3, h4, h5, h6, h7, h8, firstErr, List.findSome?_cons, List.findSome?_nil, id, readRail, ha,
    need, beq_self_eq_true, decide_true, if_true, Option.map_some]
  exact ⟨_, rfl⟩

/-- A good patch passes every check of R83. -/
theorem test_patch_checks : ∃ c, checkPatch {} false true image 0 patBytes = .ok c :=
  checkPatch_of pat_header pat_dir pat_crcs pat_gen pat_auth (pat_rev.symm ▸ Nat.zero_lt_one) pat_secs pat_claims pat_acc

/-- The bytes of slot A are `b`, and the trailer tells the length `n`, or nothing: the slot passes when its bytes pass. -/
theorem slotImage_of {b : List Byte} {s : State} {n : Option Nat} {r : Except LdErr ImageCfg}
    (hr : flashReadList s.flash 0 b.length = b) (hl : 64 + (b.length - 64) = b.length)
    (hn : max 64 (min 393216 (hdrLen (b.take 64))) = b.length)
    (ht : (if trailerOk s false then some (u32 (trailer s false) 8) else none) = n) (hc : checkImage s.otp n b = r) :
    slotImage s false = r := by
  have h0 : slotHeader s false = b.take 64 := by
    unfold slotHeader
    rw [show flaconBase false = 0 from rfl, ← flashReadList_take _ 0 64 (b.length - 64), hl, hr]
  have h1 : slotBytes s false = b := by
    unfold slotBytes
    rw [h0, hn]; exact hr
  unfold slotImage
  rw [h1, ht]
  exact hc

theorem img_len : 64 + (imgBytes.length - 64) = imgBytes.length ∧
    max 64 (min 393216 (hdrLen (imgBytes.take 64))) = imgBytes.length ∧ imgBytes.length ≤ 0x7FFF0 := by decide +kernel

/-- READY with the bytes in slot A, which is being checked. -/
def inSlotA (b : List Byte) : State :=
  { bare with flash := flashProgList [] 0 b, img := { bare.img with op := .check false, phase := .checkingSlot } }

theorem inSlotA_flash (b : List Byte) : (inSlotA b).flash = flashProgList [] 0 b := rfl
theorem inSlotA_otp (b : List Byte) : (inSlotA b).otp = {} := rfl

/-- Bytes below the trailer of slot A leave it erased. -/
theorem inSlotA_trailer {b : List Byte} (hm : b.length ≤ 0x7FFF0) : trailerOk (inSlotA b) false = false := by
  have h : trailer (inSlotA b) false = flashReadList [] 0x7FFF0 16 := by
    unfold trailer
    rw [inSlotA_flash]
    apply flashReadList_congr
    intro c hb _
    have h3 : trailerAt false = 0x7FFF0 := rfl
    exact flashRead_progList (m := []) b rfl (Or.inr (by omega))
  unfold trailerOk
  rw [h]; decide +kernel

/-- The image in the slot passes. -/
theorem test_slot_checks : slotImage (inSlotA imgBytes) false = .ok (readImage imgBytes (readDir imgBytes)) :=
  slotImage_of (by rw [inSlotA_flash]; exact flashReadList_prog (m := []) imgBytes rfl (fun _ _ _ => rfl)) img_len.1 img_len.2.1
    (if_neg (by rw [inSlotA_trailer img_len.2.2]; decide)) (by rw [inSlotA_otp]; exact test_image_loads)

/-! ## Committed slots -/

/-- The trailer of the image in slot A. -/
def trailA : List Byte := trailerBytes (imgBytes.take 64)

/-- A header of GEN 8 without the magic word, and its trailer. -/
def headB : List Byte := natLe 64 (8 * 2 ^ 128)
def trailB : List Byte := trailerBytes headB

/-- The image committed in slot A. -/
def flashA : List Host.Cell := flashProgList (flashProgList [] 0 imgBytes) 0x7FFF0 trailA

/-- The same, and a committed slot B whose image is damaged. -/
def flashAB : List Host.Cell := flashProgList (flashProgList flashA 0x80000 headB) 0xFFFF0 trailB

theorem tail_len : trailA.length = 16 ∧ headB.length = 64 ∧ trailB.length = 16 := by decide +kernel

theorem wf_flashA : Memory.wf flashA = true := wf_progList _ _ (wf_progList _ _ rfl)
theorem wf_flashB : Memory.wf (flashProgList flashA 0x80000 headB) = true := wf_progList _ _ wf_flashA

theorem flashA_low : flashReadList flashA 0 imgBytes.length = imgBytes := by
  refine (flashReadList_congr (m' := flashProgList [] 0 imgBytes) _ _ fun b _ hb => ?_).trans
    (flashReadList_prog (m := []) imgBytes rfl (fun _ _ _ => rfl))
  have hm := img_len.2.2
  exact flashRead_progList _ (wf_progList _ _ rfl) (Or.inl (by omega))

theorem flashA_erased {b : Nat} (h : imgBytes.length ≤ b) (k : b < 0x7FFF0 ∨ 0x80000 ≤ b) : flashRead flashA b = erasedByte := by
  have ht := tail_len.1
  refine (flashRead_progList _ (wf_progList _ _ rfl) (by omega)).trans ?_
  exact flashRead_progList (m := []) imgBytes rfl (Or.inr (by omega))

theorem flashA_tail : flashReadList flashA 0x7FFF0 16 = trailA := by
  have h := flashReadList_prog (m := flashProgList [] 0 imgBytes) (a := 0x7FFF0) trailA (wf_progList _ _ rfl) (fun b h _ => by
    have hm := img_len.2.2
    exact flashRead_progList (m := []) imgBytes rfl (Or.inr (by omega)))
  rw [tail_len.1] at h
  exact h

theorem flashAB_low (n a : Nat) (h : a + n ≤ 0x80000) : flashReadList flashAB a n = flashReadList flashA a n := by
  refine flashReadList_congr _ _ fun b _ hb => ?_
  exact (flashRead_progList _ wf_flashB (Or.inl (by omega))).trans (flashRead_progList _ wf_flashA (Or.inl (by omega)))

theorem flashAB_head : flashReadList flashAB 0x80000 64 = headB := by
  have hl := tail_len.2.1
  refine (flashReadList_congr (m' := flashProgList flashA 0x80000 headB) _ _ fun b _ hb => ?_).trans ?_
  · exact flashRead_progList _ wf_flashB (Or.inl (by omega))
  · have h := flashReadList_prog (a := 0x80000) headB wf_flashA (fun b h _ => flashA_erased (by have := img_len.2.2; omega) (Or.inr h))
    rw [hl] at h
    exact h

theorem flashAB_tail : flashReadList flashAB 0xFFFF0 16 = trailB := by
  have hl := tail_len.2.1
  have h := flashReadList_prog (a := 0xFFFF0) trailB wf_flashB (fun b h _ => by
    refine (flashRead_progList _ wf_flashA (Or.inr (by omega))).trans ?_
    exact flashA_erased (by have := img_len.2.2; omega) (Or.inr (by omega)))
  rw [tail_len.2.2] at h
  exact h

theorem loading_flash (op : ImgOp) (m : List Host.Cell) : (loading op m).flash = m := rfl
theorem loading_otp (op : ImgOp) (m : List Host.Cell) : (loading op m).otp = {} := rfl
theorem slot_bases : flaconBase false = 0 ∧ flaconBase true = 0x80000 ∧ trailerAt false = 0x7FFF0 ∧ trailerAt true = 0xFFFF0 := by
  decide

/-- Slot A is committed, and its image passes. -/
def SlotAGood (s : State) : Prop :=
  trailer s false = trailA ∧ slotCommitted s false = true ∧ slotImage s false = .ok (readImage imgBytes (readDir imgBytes))

/-- Slot A of a flash that holds the image and its trailer there. -/
theorem slotA_facts {s : State} (ho : s.otp = {}) (hb : flashReadList s.flash 0 imgBytes.length = imgBytes)
    (ht : flashReadList s.flash 0x7FFF0 16 = trailA) : SlotAGood s := by
  have h1 : trailer s false = trailA := by
    unfold trailer
    rw [slot_bases.2.2.1]; exact ht
  have h0 : slotHeader s false = imgBytes.take 64 := by
    unfold slotHeader
    rw [slot_bases.1, ← flashReadList_take _ 0 64 (imgBytes.length - 64), img_len.1, hb]
  have h2 : trailerOk s false = true := by
    unfold trailerOk
    rw [h1]; decide +kernel
  refine ⟨h1, ?_, slotImage_of hb img_len.1 img_len.2.1 (if_pos h2) ?_⟩
  · unfold slotCommitted
    rw [h0, h1, h2]; decide +kernel
  · rw [h1, ho, show u32 trailA 8 = 4848 by decide +kernel]
    exact test_image_loads_len

theorem flashA_facts (op : ImgOp) : SlotAGood (loading op flashA) :=
  slotA_facts (loading_otp _ _) (by rw [loading_flash]; exact flashA_low) (by rw [loading_flash]; exact flashA_tail)

theorem flashAB_facts (op : ImgOp) : SlotAGood (loading op flashAB) :=
  slotA_facts (loading_otp _ _)
    (by rw [loading_flash]; exact (flashAB_low _ _ (by have := img_len.2.2; omega)).trans flashA_low)
    (by rw [loading_flash]; exact (flashAB_low _ _ (by omega)).trans flashA_tail)

theorem trailB_ok : (u32 trailB 0 == 0x5EA1C0DE && u32 trailB 12 == crc32 (trailB.take 12)) = true ∧
    (u32 trailB 4 == u32 headB 0x10 && u32 trailB 8 == u32 headB 0x0C) = true := by decide +kernel

/-- Slot B is committed, and its image is damaged. -/
def SlotBBad (s : State) : Prop :=
  trailer s true = trailB ∧ slotCommitted s true = true ∧ ∃ e, slotImage s true = .error e

/-- Slot B of a flash that holds the damaged header and its trailer there. -/
theorem slotB_facts {s : State} (hb : flashReadList s.flash 0x80000 64 = headB) (ht : flashReadList s.flash 0xFFFF0 16 = trailB) :
    SlotBBad s := by
  have h1 : trailer s true = trailB := by
    unfold trailer
    rw [slot_bases.2.2.2]; exact ht
  have h2 : slotHeader s true = headB := by
    unfold slotHeader
    rw [slot_bases.2.1]; exact hb
  have h3 : slotBytes s true = headB := by
    unfold slotBytes
    rw [h2, show max 64 (min 393216 (hdrLen headB)) = 64 by decide +kernel, slot_bases.2.1]
    exact hb
  have h4 : ∀ n, checkHeader false n headB = some ⟨0x01, 0, 0, 0, 0, 0⟩ := fun n => by
    unfold checkHeader
    rw [show (u32 headB 0 == 0x49545658) = false by decide +kernel]
    rfl
  refine ⟨h1, ?_, ⟨0x01, 0, 0, 0, 0, 0⟩, ?_⟩
  · unfold slotCommitted trailerOk
    rw [h1, h2]
    simp only [trailB_ok.1, Bool.true_and]
    exact trailB_ok.2
  · unfold slotImage
    rw [h3]
    unfold checkImage
    simp only [h4, firstErr, List.findSome?_cons, id]

theorem slotB_bad (op : ImgOp) : SlotBBad (loading op flashAB) :=
  slotB_facts (by rw [loading_flash]; exact flashAB_head) (by rw [loading_flash]; exact flashAB_tail)

theorem slotOrder_both {s : State} (ha : slotCommitted s false = true) (hb : slotCommitted s true = true)
    (h : u32 (trailer s false) 4 < u32 (trailer s true) 4) : slotOrder s = [true, false] := by
  unfold slotOrder
  rw [ha, hb]
  exact if_pos h

theorem slotOrder_a {s : State} (ha : slotCommitted s false = true) (hb : slotCommitted s true = false) : slotOrder s = [false] := by
  unfold slotOrder
  rw [ha, hb]

/-- A boot load tries slot B first, whose GEN is the greater (R51). -/
theorem flashAB_order (op : ImgOp) : slotOrder (loading op flashAB) = [true, false] :=
  slotOrder_both (flashAB_facts op).2.1 (slotB_bad op).2.1
    (by rw [(flashAB_facts op).1, (slotB_bad op).1]; decide +kernel)

theorem erased_trailer : (u32 (List.replicate 16 erasedByte) 0 == 0x5EA1C0DE) = false ∧
    flashReadList [] 0xFFFF0 16 = List.replicate 16 erasedByte := by decide +kernel

/-- Slot B of the flash with one committed slot is not committed. -/
theorem flashA_order (op : ImgOp) : slotOrder (loading op flashA) = [false] := by
  have h : trailer (loading op flashA) true = List.replicate 16 erasedByte := by
    unfold trailer
    rw [slot_bases.2.2.2, loading_flash, ← erased_trailer.2]
    exact flashReadList_congr _ _ fun b h _ => flashA_erased (by have := img_len.2.2; omega) (Or.inr (by omega))
  have hc : slotCommitted (loading op flashA) true = false := by
    unfold slotCommitted trailerOk
    simp only [h, erased_trailer.1, Bool.false_and]
  exact slotOrder_a (flashA_facts op).2.1 hc

theorem slotOrder_b {s : State} (ha : slotCommitted s false = false) (hb : slotCommitted s true = true) : slotOrder s = [true] := by
  unfold slotOrder
  rw [ha, hb]

/-- The damaged image and its trailer alone, in slot B of an erased flash. -/
def flashB : List Host.Cell := flashProgList (flashProgList [] 0x80000 headB) 0xFFFF0 trailB

theorem flashB_reads : flashReadList flashB 0x80000 64 = headB ∧ flashReadList flashB 0xFFFF0 16 = trailB ∧
    flashReadList flashB 0x7FFF0 16 = List.replicate 16 erasedByte := by decide +kernel

theorem flashB_bad (op : ImgOp) : SlotBBad (loading op flashB) :=
  slotB_facts (by rw [loading_flash]; exact flashB_reads.1) (by rw [loading_flash]; exact flashB_reads.2.1)

/-- Slot A of the flash with the damaged image alone is not committed. -/
theorem flashB_order (op : ImgOp) : slotOrder (loading op flashB) = [true] := by
  have h : trailer (loading op flashB) false = List.replicate 16 erasedByte := by
    unfold trailer
    rw [slot_bases.2.2.1, loading_flash]; exact flashB_reads.2.2
  refine slotOrder_b ?_ (flashB_bad op).2.1
  unfold slotCommitted trailerOk
  simp only [h, erased_trailer.1, Bool.false_and]

/-- The hypotheses of `ResetsLeave` can be met, clause by clause. -/
theorem witness_ResetsLeave :
    (∃ (s : State) (ns : Nat), 200 ≤ ns ∧ s.pwr.wake = .none ∧ s.pwr.recov = false ∧ (s.pwr.dev = .ready ∨ s.pwr.dev = .run ∨ s.pwr.dev = .safe)) ∧
    (∃ (s : State) (ns : Nat), ns < 50) ∧
    (∃ (s : State), hostUp s = true) ∧
    (∃ (s : State), hostUp s = true ∧ isSealed s = true) ∧
    (∃ (s : State), hostUp s = true ∧ isSealed s = false) ∧
    (∃ (s : State), s.pwr.wdRun = true ∧ s.pwr.wdog = 0 ∧ s.pwr.ctlHeld = false) ∧
    (∃ (s : State), s.pwr.wdRun = true ∧ s.pwr.wdog = 0 ∧ s.pwr.ctlHeld = false ∧ isSealed s = true) ∧
    (∃ (s : State), s.pwr.wdRun = true ∧ s.pwr.wdog = 0 ∧ s.pwr.ctlHeld = false ∧ isSealed s = false) ∧
    (∃ (s : State), isDue .controlDomainRelease s = true ∧ s.pwr.ctlHeld = true) :=
  ⟨⟨ready, 300, by decide⟩,
   ⟨off, 10, by decide⟩,
   ⟨ready, by decide⟩,
   ⟨railOn, by decide⟩,
   ⟨bare, by decide⟩,
   ⟨{ ready with pwr := { ready.pwr with wdRun := true } }, by decide⟩,
   ⟨{ railOn with pwr := { railOn.pwr with wdRun := true } }, by decide⟩,
   ⟨{ bare with pwr := { bare.pwr with wdRun := true } }, by decide⟩,
   ⟨armed .controlDomainRelease { ready with pwr := { ready.pwr with ctlHeld := true, rstKind := 3 } }, by decide⟩⟩

/-- The hypotheses of `MonitorsRaiseTheirSources` can be met, clause by clause. -/
theorem witness_MonitorsRaiseTheirSources :
    (∃ (s : State), islandUp s = true ∧ fatalArmed s = true ∧ s.glb.latched = false ∧ s.glb.clrAt ≠ some (cycle s) ∧ s.pwr.vddBo = false) ∧
    (∃ (s : State), islandUp s = true) ∧
    (∃ (s : State), islandUp s = true ∧ fatalArmed s = true ∧ s.glb.latched = false ∧ s.glb.clrAt ≠ some (cycle s) ∧ s.pwr.vddaBo = false) ∧
    (∃ (s : State), islandUp s = true ∧ fatalArmed s = true ∧ s.glb.latched = false ∧ s.glb.clrAt ≠ some (cycle s) ∧ s.pwr.dpwmBad = false) ∧
    (∃ (s : State), islandUp s = true ∧ fatalArmed s = true ∧ s.glb.latched = false ∧ s.glb.clrAt ≠ some (cycle s)) ∧
    (∃ (s : State), islandUp s = true ∧ fatalArmed s = true ∧ s.glb.latched = false ∧ s.glb.clrAt ≠ some (cycle s)) ∧
    (∃ (s : State), islandUp s = true ∧ s.pwr.refRc = false) ∧
    (∃ (s : State), islandUp s = true ∧ s.tmr.slowMode = false) ∧
    (∃ (s : State), s.tmr.slowMode = true) ∧
    (∃ (s : State), islandUp s = false ∧ s.tmr.slowMode = false) :=
  ⟨⟨ready, by decide⟩,
   ⟨ready, by decide⟩,
   ⟨ready, by decide⟩,
   ⟨ready, by decide⟩,
   ⟨ready, by decide⟩,
   ⟨ready, by decide⟩,
   ⟨ready, by decide⟩,
   ⟨ready, by decide⟩,
   ⟨{ ready with pwr := { ready.pwr with dev := .standby }, tmr := { ready.tmr with slowMode := true, tmr := ready.tmr.tmr.set 3 { ready.tmr.tmr[3] with st := .running, count := 9 } } }, by decide⟩,
   ⟨off, by decide⟩⟩

/-- The hypotheses of `FatalClearScrubKick` can be met, clause by clause. -/
theorem witness_FatalClearScrubKick :
    (∃ (s : State) (w : Word), hostUp s = true ∧ bits w 24 8 = 0xA5 ∧ bitw w 22 = true ∧ s.glb.latched = true ∧ fatalClearable s = true ∧ s.glb.fatalOcc ≠ some (cycle s)) ∧
    (∃ (s : State) (w : Word), hostUp s = true ∧ bits w 24 8 = 0xA5 ∧ bitw w 22 = true ∧ s.glb.latched = true ∧ fatalClearable s = false) ∧
    (∃ (s : State) (e : ScrubErr), islandUp s = true ∧ e.double = false) ∧
    (∃ (s : State) (e : ScrubErr), islandUp s = true ∧ fatalArmed s = true ∧ s.glb.latched = false ∧ s.glb.clrAt ≠ some (cycle s) ∧ e.double = true ∧ e.inForce = true) ∧
    (∃ (s : State), hostUp s = true ∧ s.pwr.wdRun = true ∧ isSealed s = true ∧ 0 < (hostif s).wdog) :=
  ⟨⟨{ ready with pwr := { ready.pwr with dev := .safe }, glb := { ready.glb with latched := true, cause := 1 }, thm := { ready.thm with tjValid := true } }, 0xA5400000#32, by decide⟩,
   ⟨{ ready with pwr := { ready.pwr with dev := .safe }, glb := { ready.glb with latched := true, cause := 1 } }, 0xA5400000#32, by decide⟩,
   ⟨ready, { inForce := true, part := 3, double := false }, by decide⟩,
   ⟨ready, { inForce := true, part := 3, double := true }, by decide⟩,
   ⟨{ ready with pwr := { ready.pwr with wdRun := true } }, by decide⟩⟩

/-- The hypotheses of `StateCommands` can be met, clause by clause. -/
theorem witness_StateCommands :
    (∃ (s : State), hostUp s = true ∧ s.pwr.dev = .safe ∧ s.pwr.tgt = none ∧ s.glb.fatalOcc ≠ some (cycle s)) ∧
    (∃ (s : State), hostUp s = true ∧ s.pwr.dev = .ready ∧ s.pwr.tgt = none ∧ s.img.phase = .idle ∧ s.nvl.busy = false) ∧
    (∃ (s : State), s.pwr.dev = .standby ∧ s.pwr.tgt = none) ∧
    (∃ (s : State), islandUp s = true ∧ s.pwr.tgt = some .off ∧ s.pwr.goAt = some (cycle s) ∧ s.glb.latched = false ∧ s.glb.clrAt ≠ some (cycle s) ∧ s.pwr.dpwmBad = false) ∧
    (∃ (s : State), hostUp s = true ∧ s.pwr.dev = .safe ∧ s.glb.fatalOcc = some (cycle s)) ∧
    (∃ (s : State), s.pwr.dev = .ready ∧ s.pwr.tgt = none ∧ hostUp s = true ∧ s.img.phase = .idle ∧ s.nvl.busy = false) ∧
    (∃ (s : State), s.pwr.dev = .off ∧ s.pwr.tgt = none) ∧
    (∃ (s : State), s.pwr.tgt = some .standby) ∧
    (∃ (s : State), s.pwr.dev = .standby ∧ s.pwr.tgt = none) ∧
    (∃ (s : State), s.pwr.dev = .run ∧ s.pwr.tgt = none ∧ hostUp s = true ∧ ((∀ r : RailId, railState s.rails[r] = 0 ∨ railState s.rails[r] = 4))) ∧
    (∃ (s : State), s.pwr.dev = .ready ∧ s.pwr.tgt = none ∧ hostUp s = true ∧ isSealed s = true ∧ s.thm.bandSel = false) ∧
    (∃ (s : State), s.pwr.dev = .ready ∧ s.pwr.tgt = none ∧ hostUp s = true ∧ isSealed s = false) ∧
    (∃ (s : State), isDue .runTimeout s = true ∧ s.pwr.runWait = true) ∧
    (∃ (s : State) (ns : Nat), 1000 ≤ ns ∧ s.pwr.goAt = some (cycle s)) ∧
    (∃ (s : State) (ns : Nat), 1000 ≤ ns ∧ s.pwr.dev = .off ∧ s.pwr.tgt = none ∧ s.pwr.goAt ≠ some (cycle s)) ∧
    (∃ (s : State) (ns : Nat), ns < 200) :=
  ⟨⟨{ ready with pwr := { ready.pwr with dev := .safe } }, by decide⟩,
   ⟨ready, by decide⟩,
   ⟨{ ready with pwr := { ready.pwr with dev := .standby } }, by decide⟩,
   ⟨{ ready with pwr := { ready.pwr with tgt := some .off, goAt := some (cycle ready) } }, by decide⟩,
   ⟨{ ready with pwr := { ready.pwr with dev := .safe }, glb := { ready.glb with latched := true, cause := 1, fatalAt := some (cycle ready), fatalOcc := some (cycle ready) } }, by decide⟩,
   ⟨ready, by decide⟩,
   ⟨off, by decide⟩,
   ⟨{ ready with pwr := { ready.pwr with tgt := some .standby } }, by decide⟩,
   ⟨{ off with pwr := { off.pwr with dev := .standby } }, by decide⟩,
   ⟨run, by decide⟩,
   ⟨ready, by decide⟩,
   ⟨bare, by decide⟩,
   ⟨armed .runTimeout { ready with pwr := { ready.pwr with runWait := true } }, by decide⟩,
   ⟨{ off with pwr := { off.pwr with goAt := some (cycle off) } }, 1000, by decide⟩,
   ⟨off, 1000, by decide⟩,
   ⟨off, 10, by decide⟩⟩

/-- The hypotheses of `WakeSteps` can be met, clause by clause. -/
theorem witness_WakeSteps :
    (∃ (s : State), s.pwr.wake = .supplies) ∧
    (∃ (s : State), isDue .supplyTimeout s = true ∧ s.pwr.wake = .supplies) ∧
    (∃ (s : State), s.pwr.wake = .refQual) ∧
    (∃ (s : State), isDue .referenceQualTimeout s = true ∧ s.pwr.wake = .refQual) ∧
    (∃ (s : State), islandUp s = false ∧ s.pwr.wake = .pll) ∧
    (∃ (s : State), isDue .pllAttemptTimeout s = true ∧ s.pwr.wake = .pll ∧ s.pwr.refRc = false ∧ s.pwr.pllTry < 4) ∧
    (∃ (s : State), isDue .pllAttemptTimeout s = true ∧ s.pwr.wake = .pll ∧ s.pwr.refRc = false ∧ 4 ≤ s.pwr.pllTry) ∧
    (∃ (s : State), isDue .pllAttemptTimeout s = true ∧ s.pwr.wake = .pll ∧ s.pwr.refRc = true ∧ s.pwr.pllTry ≠ 4 ∧ s.pwr.pllTry < 8) ∧
    (∃ (s : State), isDue .pllAttemptTimeout s = true ∧ s.pwr.wake = .pll ∧ s.pwr.refRc = true ∧ (s.pwr.pllTry = 4 ∨ 8 ≤ s.pwr.pllTry)) ∧
    (∃ (s : State), islandUp s = false ∧ s.pwr.wake = .dll ∧ s.pwr.retained = true) ∧
    (∃ (s : State), islandUp s = false ∧ s.pwr.wake = .dll ∧ s.pwr.retained = false ∧ s.pwr.vddBo = false ∧ s.pwr.vddaBo = false) ∧
    (∃ (s : State), isDue .dllAttemptTimeout s = true ∧ s.pwr.wake = .dll ∧ s.pwr.dllTry < 4) ∧
    (∃ (s : State), isDue .dllAttemptTimeout s = true ∧ s.pwr.wake = .dll ∧ 4 ≤ s.pwr.dllTry) ∧
    (∃ (s : State), s.pwr.wake = .restore ∧ s.pwr.vddBo = false ∧ s.pwr.vddaBo = false) ∧
    (∃ (s : State), s.pwr.wake = .restore ∧ s.pwr.vddBo = false ∧ s.pwr.vddaBo = false) :=
  ⟨⟨{ off with pwr := { off.pwr with wake := .supplies } }, by decide⟩,
   ⟨armed .supplyTimeout { off with pwr := { off.pwr with wake := .supplies } }, by decide⟩,
   ⟨{ off with pwr := { off.pwr with wake := .refQual } }, by decide⟩,
   ⟨armed .referenceQualTimeout { off with pwr := { off.pwr with wake := .refQual } }, by decide⟩,
   ⟨{ off with pwr := { off.pwr with wake := .pll } }, by decide⟩,
   ⟨armed .pllAttemptTimeout { off with pwr := { off.pwr with wake := .pll } }, by decide⟩,
   ⟨armed .pllAttemptTimeout { off with pwr := { off.pwr with wake := .pll, pllTry := 4 } }, by decide⟩,
   ⟨armed .pllAttemptTimeout { off with pwr := { off.pwr with wake := .pll, refRc := true, pllTry := 7 } }, by decide⟩,
   ⟨armed .pllAttemptTimeout { off with pwr := { off.pwr with wake := .pll, refRc := true, pllTry := 8 } }, by decide⟩,
   ⟨{ off with pwr := { off.pwr with wake := .dll, retained := true } }, by decide⟩,
   ⟨{ off with pwr := { off.pwr with wake := .dll } }, by decide⟩,
   ⟨armed .dllAttemptTimeout { off with pwr := { off.pwr with wake := .dll } }, by decide⟩,
   ⟨armed .dllAttemptTimeout { off with pwr := { off.pwr with wake := .dll, dllTry := 4 } }, by decide⟩,
   ⟨{ off with pwr := { off.pwr with wake := .restore } }, by decide⟩,
   ⟨{ off with pwr := { off.pwr with wake := .restore } }, by decide⟩⟩

/-- The hypotheses of `CarriersAndEdges` can be met, clause by clause. -/
theorem witness_CarriersAndEdges :
    (∃ (s : State) (r : RailId) (c : RailCfg), islandUp s = true ∧ railCfg s r = some c ∧ mcsDue s r c = true) ∧
    (∃ (s : State) (ch : ChanId) (r : RailId) (c : RailCfg) (q : Nat) (odd : Bool), islandUp s = true ∧ owner s ch = some (r, c, q, odd) ∧ startDue s s.chans[ch] = true ∧ s.chans[ch].bandDue = false ∧ s.rails[r].eng.mode ≠ .cori ∧ s.chans[ch].rawTrip = false ∧ s.rails[r].snd.run = false ∧ s.chans[ch].shOnAt ≠ some s.now) ∧
    (∃ (s : State) (ch : ChanId) (r : RailId) (c : RailCfg) (q : Nat), islandUp s = true ∧ owner s ch = some (r, c, q, false) ∧ startDue s s.chans[ch] = true ∧ s.chans[ch].bandDue = false ∧ s.rails[r].eng.mode ≠ .cori ∧ s.chans[ch].rawTrip = true ∧ s.chans[ch].st = .switching ∧ 8 < c.acc.nph ∧ latched s.rails[r] = false ∧ s.rails[r].trip.inPeriod = false) ∧
    (∃ (s : State) (ch : ChanId) (r : RailId) (c : RailCfg) (q : Nat) (odd : Bool), islandUp s = true ∧ owner s ch = some (r, c, q, odd) ∧ onEdgeDue s c s.rails[r].eng.mode s.chans[ch] = true) ∧
    (∃ (s : State) (ch : ChanId) (r : RailId) (c : RailCfg) (q : Nat) (odd : Bool), islandUp s = true ∧ owner s ch = some (r, c, q, odd) ∧ offEdgeDue s c s.rails[r].eng.mode s.chans[ch] = true ∧ s.chans[ch].leaving = false ∧ s.chans[ch].negHold = false) ∧
    (∃ (s : State) (b : BankId), islandUp s = true ∧ pulseNow s.banks[b] = true) ∧
    (∃ (s : State) (r : RailId) (c : RailCfg), isDue (.rotationStep r) s = true ∧ islandUp s = true ∧ railCfg s r = some c ∧ s.rails[r].sh.rotate = true ∧ s.rails[r].eng.mode ≠ .cori) ∧
    (∃ (s : State) (r : RailId) (c : RailCfg) (f : FifoId), isDue (.telemetryPush r) s = true ∧ islandUp s = true ∧ railCfg s r = some c ∧ fifoOf s 7 r.val = some f ∧ telRuns s.rails[r] = true ∧ s.fifo[f].entries.length < 64) :=
  ⟨⟨onRail 0 (fun x => { x with seq := { x.seq with mcsAt := some 0 } }) run, 0, railC, by decide⟩,
   ⟨onChan 8 (fun k => { k with nextCs := some 0 }) run, 8, 0, railC, 1, false, by decide⟩,
   ⟨onChan 8 (fun k => { k with nextCs := some 0 }) tripping, 8, 0, bigC, 1, by decide⟩,
   ⟨onChan 8 (fun k => { k with st := .switching, out := .low, cmpOff := 6400 }) run, 8, 0, railC, 1, false, by decide⟩,
   ⟨onChan 8 (fun k => { k with st := .switching, out := .on }) run, 8, 0, railC, 1, false, by decide⟩,
   ⟨run, 0, by decide⟩,
   ⟨armed (.rotationStep 0) (onRail 0 (fun x => { x with sh := { x.sh with rotate := true }, seq := { x.seq with sw := true } }) run), 0, railC, by decide⟩,
   ⟨armed (.telemetryPush 0) { railOn with sealed := { img := some { image with pins := [⟨4, 3, 7, 0, false⟩] } } }, 0, railC, 3, by decide⟩⟩

/-- The hypotheses of `SamplesAndTrips` can be met, clause by clause. -/
theorem witness_SamplesAndTrips :
    (∃ (s : State) (r : RailId) (c : RailCfg) (vpin : Int), islandUp s = true ∧ railCfg s r = some c ∧ sampleDue s r c = true) ∧
    (∃ (s : State) (ch : ChanId) (v : Int), islandUp s = true ∧ isliceDue s ch = true) ∧
    (∃ (s : State) (ch : ChanId) (m : Smp) (r : RailId) (c : RailCfg) (q : Nat), islandUp s = true ∧ s.chans[ch].smp = some m ∧ owner s ch = some (r, c, q, false)) ∧
    (∃ (s : State) (r : RailId) (c : RailCfg) (q : Fin 32), isDue (.trimsat r q) s = true ∧ islandUp s = true ∧ railCfg s r = some c) ∧
    (∃ (s : State) (ch : ChanId) (r : RailId) (c : RailCfg) (q : Nat), islandUp s = true ∧ s.chans[ch].rawTrip = false ∧ owner s ch = some (r, c, q, false) ∧ s.rails[r].sh.bypass.getLsbD q = false ∧ latched s.rails[r] = false ∧ c.acc.nph ≤ 8) ∧
    (∃ (s : State) (ch : ChanId) (r : RailId) (c : RailCfg) (q : Nat), islandUp s = true ∧ s.chans[ch].rawTrip = false ∧ owner s ch = some (r, c, q, false) ∧ s.rails[r].sh.bypass.getLsbD q = false ∧ latched s.rails[r] = false ∧ s.rails[r].trip.inPeriod = false ∧ 8 < c.acc.nph ∧ s.chans[ch].st = .switching) ∧
    (∃ (s : State) (r : RailId) (ch : ChanId) (c : RailCfg) (q : Nat), isDue (.tripCountReached r ch) s = true ∧ islandUp s = true ∧ railCfg s r = some c ∧ chanPos c ch.val = some q ∧ latched s.rails[r] = false) ∧
    (∃ (s : State) (b : BankId), islandUp s = true ∧ isSealed s = true ∧ s.banks[b].btsfRaw = false) ∧
    (∃ (s : State) (b : BankId), islandUp s = true ∧ bankUsed s b = true ∧ s.banks[b].brefWin = false ∧ s.banks[b].brefMark = false) ∧
    (∃ (s : State) (b : BankId), isDue (.brefDisturbanceEnd b) s = true) :=
  ⟨⟨onRail 0 (fun x => { x with seq := { x.seq with started := true } }) run, 0, railC, 800000, by decide⟩,
   ⟨run, 8, 20000, by decide⟩,
   ⟨onChan 8 (fun k => { k with smp := some ⟨40, .none, 0, 0, 0⟩ }) run, 8, ⟨40, .none, 0, 0, 0⟩, 0, railC, 1, by decide⟩,
   ⟨armed (.trimsat 0 2) run, 0, railC, 2, by decide⟩,
   ⟨run, 8, 0, railC, 1, by decide⟩,
   ⟨onChan 8 (fun k => { k with rawTrip := false, out := .on }) tripping, 8, 0, bigC, 1, by decide⟩,
   ⟨armed (.tripCountReached 0 8) run, 0, 8, railC, 1, by decide⟩,
   ⟨run, 0, by decide⟩,
   ⟨run, 3, by decide⟩,
   ⟨armed (.brefDisturbanceEnd 3) run, 3, by decide⟩⟩

/-- The hypotheses of `PwmPadLevels` can be met, clause by clause. -/
theorem witness_PwmPadLevels :
    (∃ (s : State) (ch : ChanId) (t : Nat), s.tap.ir = .highz) ∧
    (∃ (s : State) (ch : ChanId) (t : Nat), groupUp s (pwmGroup ch) = false) ∧
    (∃ (s : State) (ch : ChanId) (t : Nat), groupUp s (pwmGroup ch) = true ∧ s.tap.ir = .idcode ∧ islandUp s = false ∧ s.pwr.padsUntil ≤ s.now) ∧
    (∃ (s : State) (ch : ChanId) (r : RailId) (c : RailCfg) (q : Nat) (t : Nat), groupUp s (pwmGroup ch) = true ∧ s.tap.ir = .idcode ∧ islandUp s = true ∧ s.pwr.padsUntil ≤ s.now ∧ probing s ch = false ∧ owner s ch = some (r, c, q, false) ∧ c.acc.phase.getD q 0 = ch.val ∧ c.acc.pair = false ∧ s.chans[ch].out = .safe) ∧
    (∃ (s : State) (ch : ChanId) (r : RailId) (c : RailCfg) (q : Nat) (t : Nat), groupUp s (pwmGroup ch) = true ∧ s.tap.ir = .idcode ∧ islandUp s = true ∧ s.pwr.padsUntil ≤ s.now ∧ probing s ch = false ∧ owner s ch = some (r, c, q, false) ∧ c.acc.phase.getD q 0 = ch.val ∧ c.acc.pair = true ∧ s.chans[ch].out = .safe) ∧
    (∃ (s : State) (ch : ChanId) (r : RailId) (c : RailCfg) (q : Nat) (t : Nat), groupUp s (pwmGroup ch) = true ∧ s.tap.ir = .idcode ∧ islandUp s = true ∧ s.pwr.padsUntil ≤ s.now ∧ probing s ch = false ∧ owner s ch = some (r, c, q, false) ∧ c.acc.phase.getD q 0 = ch.val ∧ c.acc.pair = false ∧ s.chans[ch].out = .on ∧ s.chans[ch].onAt ≤ t ∧ bistHolds s ch s.chans[ch] = false) ∧
    (∃ (s : State) (ch : ChanId) (b : BankId) (t : Nat), groupUp s (pwmGroup ch) = true ∧ s.tap.ir = .idcode ∧ islandUp s = true ∧ s.pwr.padsUntil ≤ s.now ∧ probing s ch = false ∧ owner s ch = none ∧ ch.val / 8 = b.val ∧ s.banks[b].bistRun = true ∧ s.chans[ch].out = .weak) :=
  ⟨⟨{ ready with tap := { ready.tap with ir := .highz } }, 5, 0, by decide⟩,
   ⟨{ ready with pwr := { ready.pwr with ioUp := [true, false, true, true] } }, 96, 0, by decide⟩,
   ⟨off, 5, 0, by decide⟩,
   ⟨onChan 8 (fun k => { k with st := .safe, out := .safe }) run, 8, 0, railC, 1, 0, by decide⟩,
   ⟨onChan 8 (fun k => { k with st := .safe, out := .safe }) { run with sealed := { img := some { image with rails := some { railC with acc := { railC.acc with pair := true, safe := [1, 1, 1, 1] } } :: List.replicate 23 none } } }, 8, 0, { railC with acc := { railC.acc with pair := true, safe := [1, 1, 1, 1] } }, 1, 0, by decide⟩,
   ⟨onChan 8 (fun k => { k with st := .switching, out := .on, onAt := 64 }) run, 8, 0, railC, 1, 64, by decide⟩,
   ⟨onBank 5 (fun k => { k with bistRun := true }) ready, 40, 5, 0, by decide⟩⟩

/-- The hypotheses of `ProtectionTripsAndClears` can be met, clause by clause. -/
theorem witness_ProtectionTripsAndClears :
    (∃ (s : State) (r : RailId) (c : RailCfg), islandUp s = true ∧ railCfg s r = some c ∧ s.rails[r].prot.ovRaw = false ∧ s.rails[r].prot.ovArm = true ∧ latched s.rails[r] = false) ∧
    (∃ (s : State) (r : RailId) (c : RailCfg), islandUp s = true ∧ railCfg s r = some c ∧ s.rails[r].prot.uvRaw = false ∧ s.rails[r].prot.uvArm = true ∧ latched s.rails[r] = false) ∧
    (∃ (s : State) (r : RailId), s.rails[r].prot.uvArm = false) ∧
    (∃ (s : State) (r : RailId) (c : RailCfg) (neg : Bool), islandUp s = true ∧ railCfg s r = some c ∧ s.rails[r].prot.snsP = false ∧ s.rails[r].prot.snsN = false ∧ (railState s.rails[r] = 1 ∨ railState s.rails[r] = 2 ∨ railState s.rails[r] = 3)) ∧
    (∃ (s : State) (r : RailId) (c : RailCfg), isDue (.backdrivePersist r) s = true ∧ islandUp s = true ∧ railCfg s r = some c ∧ s.rails[r].prot.bdAct = true ∧ latched s.rails[r] = false) ∧
    (∃ (s : State) (r : RailId) (c : RailCfg) (w : Word), hostUp s = true ∧ railCfg s r = some c ∧ bitw w 30 = true ∧ s.rails[r].trip.latched = true ∧ s.rails[r].prot.latched = false ∧ tripClear s c s.rails[r] = true) ∧
    (∃ (s : State) (r : RailId) (c : RailCfg), hostUp s = true ∧ railCfg s r = some c ∧ tripClear s c s.rails[r] = false) ∧
    (∃ (s : State) (r : RailId) (c : RailCfg), hostUp s = true ∧ railCfg s r = some c ∧ s.rails[r].prot.latched = true ∧ s.rails[r].trip.latched = false ∧ s.rails[r].prot.ovRaw = false ∧ s.rails[r].prot.snsP = false ∧ s.rails[r].prot.snsN = false ∧ ((∀ ch : ChanId, ch.val ∈ c.acc.phase → s.chans[ch].rawTrip = false))) ∧
    (∃ (s : State) (r : RailId) (c : RailCfg), hostUp s = true ∧ railCfg s r = some c ∧ s.rails[r].prot.ovRaw = true) :=
  ⟨⟨onRail 0 (fun x => { x with prot := { x.prot with ovArm := true } }) run, 0, railC, by decide⟩,
   ⟨onRail 0 (fun x => { x with prot := { x.prot with uvArm := true } }) run, 0, railC, by decide⟩,
   ⟨run, 3, by decide⟩,
   ⟨onRail 0 (fun x => { x with seq := { x.seq with st := .on } }) run, 0, railC, false, by decide⟩,
   ⟨armed (.backdrivePersist 0) (onRail 0 (fun x => { x with prot := { x.prot with bdAct := true } }) run), 0, railC, by decide⟩,
   ⟨onRail 0 (fun x => { x with trip := { x.trip with latched := true, cause := 1 } }) run, 0, railC, 0x40000000#32, by decide⟩,
   ⟨onChan 8 (fun k => { k with rawTrip := true }) run, 0, railC, by decide⟩,
   ⟨onRail 0 (fun x => { x with prot := { x.prot with latched := true, cause := 1 } }) run, 0, railC, by decide +kernel⟩,
   ⟨onRail 0 (fun x => { x with prot := { x.prot with ovRaw := true } }) run, 0, railC, by decide⟩⟩

/-- The hypotheses of `PowerGoodAndTransitions` can be met, clause by clause. -/
theorem witness_PowerGoodAndTransitions :
    (∃ (s : State) (r : RailId) (c : RailCfg), islandUp s = true ∧ railCfg s r = some c ∧ s.rails[r].seq.pgComp = true ∧ s.rails[r].seq.pgArm = true ∧ s.rails[r].seq.pgPin = true ∧ latched s.rails[r] = false) ∧
    (∃ (s : State) (r : RailId) (c : RailCfg), isDue (.pgoodRelease r) s = true ∧ islandUp s = true ∧ railCfg s r = some c ∧ s.rails[r].seq.pgArm = true ∧ s.rails[r].seq.pgComp = true ∧ latched s.rails[r] = false) ∧
    (∃ (s : State) (r : RailId) (c : RailCfg), isDue (.pgoodFall r) s = true ∧ islandUp s = true ∧ railCfg s r = some c ∧ s.rails[r].seq.pgComp = false) ∧
    (∃ (s : State) (r : RailId) (c : RailCfg), isDue (.durationElapsed r) s = true ∧ islandUp s = true ∧ railCfg s r = some c) ∧
    (∃ (s : State) (r : RailId) (c : RailCfg), isDue (.targetReached r) s = true ∧ islandUp s = true ∧ railCfg s r = some c ∧ s.rails[r].seq.ramp = none) ∧
    (∃ (s : State) (r : RailId) (c : RailCfg), isDue (.prebiasMeasured r) s = true ∧ islandUp s = true ∧ railCfg s r = some c ∧ s.rails[r].seq.measuring = true ∧ (curState c s.rails[r]).duration ≠ 0) ∧
    (∃ (s : State) (r : RailId) (c : RailCfg) (i : Nat), isDue (.rampDelayEnd r) s = true ∧ islandUp s = true ∧ railCfg s r = some c ∧ s.rails[r].seq.ramp = some (i, true) ∧ s.rails[r].prot.bdAct = false ∧ (c.seq.ramps.getD i ⟨0, 1, false⟩).fromPrebias = false) ∧
    (∃ (s : State) (r : RailId) (c : RailCfg) (sums : List Int) (q : Nat) (ch : ChanId), islandUp s = true ∧ railCfg s r = some c ∧ s.rails[r].seq.cal = true ∧ railState s.rails[r] = 1 ∧ calReady r s = true ∧ sums ≠ [] ∧ c.acc.phase.Pairwise (· ≠ ·) ∧ q ∈ avail c s.rails[r] ∧ c.acc.phase[q]? = some ch.val) ∧
    (∃ (s : State) (r : RailId) (c : RailCfg) (i : Bool) (n : Nat), islandUp s = true ∧ railCfg s r = some c ∧ nextState (seqInput r i s) r c = some n ∧ (curTable c s.rails[r])[n]?.map (·.action) = some .regulate) ∧
    (∃ (s : State) (r : RailId) (c : RailCfg) (i : Bool) (n : Nat), islandUp s = true ∧ railCfg s r = some c ∧ nextState (seqInput r i s) r c = some n ∧ (curTable c s.rails[r])[n]?.map (·.action) = some .holdOff) ∧
    (∃ (s : State) (r : RailId) (c : RailCfg) (i : Bool) (n : Nat), islandUp s = true ∧ railCfg s r = some c ∧ nextState (seqInput r i s) r c = some n ∧ (curTable c s.rails[r])[n]?.map (·.action) = some .measurePrebias) ∧
    (∃ (s : State) (r : RailId) (c : RailCfg) (i : Bool) (n : Nat), islandUp s = true ∧ railCfg s r = some c ∧ nextState (seqInput r i s) r c = some n ∧ (curTable c s.rails[r])[n]?.map (·.action) = some .rampUp ∧ (c.seq.ramps.getD (((curTable c s.rails[r])[n]?.map (·.ramp)).getD 0) ⟨0, 1, false⟩).delay ≠ 0) ∧
    (∃ (s : State) (r : RailId) (c : RailCfg) (i : Bool) (n : Nat), islandUp s = true ∧ railCfg s r = some c ∧ nextState (seqInput r i s) r c = some n ∧ (curTable c s.rails[r])[n]?.map (·.action) = some .rampDown ∧ (c.seq.ramps.getD (((curTable c s.rails[r])[n]?.map (·.ramp)).getD 0) ⟨0, 1, false⟩).delay ≠ 0 ∧ posNow s s.rails[r] ≠ 0) ∧
    (∃ (s : State) (r : RailId) (c : RailCfg) (i : Bool) (n : Nat), islandUp s = true ∧ railCfg s r = some c ∧ nextState (seqInput r i s) r c = some n ∧ (curTable c s.rails[r])[n]?.map (·.action) = some .discharge) ∧
    (∃ (s : State) (r : RailId) (c : RailCfg) (i : Bool) (n : Nat), islandUp s = true ∧ railCfg s r = some c ∧ s.rails[r].prot.uvRaw = false ∧ nextState (seqInput r i s) r c = some n ∧ (curTable c s.rails[r])[n]?.map (·.action) = some .assertPg ∧ n ≠ 0) ∧
    (∃ (s : State) (r : RailId) (c : RailCfg) (i : Bool) (n : Nat), islandUp s = true ∧ railCfg s r = some c ∧ nextState (seqInput r i s) r c = some n ∧ (curTable c s.rails[r])[n]?.map (·.action) = some .deassertPg) ∧
    (∃ (s : State) (r : RailId) (c : RailCfg) (i : Bool) (n : Nat), islandUp s = true ∧ railCfg s r = some c ∧ nextState (seqInput r i s) r c = some n ∧ (curTable c s.rails[r])[n]?.map (·.action) = some .terminalOn ∧ vselTarget s r = none ∧ raiseFrozen s = false) ∧
    (∃ (s : State) (r : RailId) (c : RailCfg) (i : Bool) (n : Nat), islandUp s = true ∧ railCfg s r = some c ∧ nextState (seqInput r i s) r c = some n ∧ (curTable c s.rails[r])[n]?.map (·.action) = some .terminalOff) :=
  ⟨⟨onRail 0 (fun x => { x with seq := { x.seq with pgComp := true, pgArm := true, pgPin := true } }) run, 0, railC, by decide⟩,
   ⟨armed (.pgoodRelease 0) (onRail 0 (fun x => { x with seq := { x.seq with pgComp := true, pgArm := true } }) run), 0, railC, by decide⟩,
   ⟨armed (.pgoodFall 0) run, 0, railC, by decide⟩,
   ⟨armed (.durationElapsed 0) run, 0, railC, by decide⟩,
   ⟨armed (.targetReached 0) run, 0, railC, by decide⟩,
   ⟨armed (.prebiasMeasured 0) (onRail 0 (fun x => { x with seq := { x.seq with measuring := true } }) { run with sealed := { img := some { image with rails := some { railC with seq := { railC.seq with start := [⟨.measurePrebias, 0, 50, []⟩] } } :: List.replicate 23 none } } }), 0, { railC with seq := { railC.seq with start := [⟨.measurePrebias, 0, 50, []⟩] } }, by decide⟩,
   ⟨armed (.rampDelayEnd 0) (onRail 0 (fun x => { x with seq := { x.seq with ramp := some (0, true), delay := true } }) run), 0, railC, 0, by decide⟩,
   ⟨armed (.offsetCalDone 0 []) (onRail 0 (fun x => { x with seq := { x.seq with st := .start, cal := true } }) run), 0, railC, [16, 32, -48, 700], 3, 24, by decide⟩,
   ⟨onRail 0 (fun x => { x with seq := { x.seq with st := .start, acting := true, durOk := true } }) { run with sealed := { img := some { image with rails := some { railC with seq := { railC.seq with start := [⟨.holdOff, 0, 0, [(1, 1)]⟩, ⟨.regulate, 0, 0, []⟩] } } :: List.replicate 23 none } } }, 0, { railC with seq := { railC.seq with start := [⟨.holdOff, 0, 0, [(1, 1)]⟩, ⟨.regulate, 0, 0, []⟩] } }, false, 1, by decide⟩,
   ⟨between .holdOff, 0, tableC .holdOff, false, 1, by decide⟩,
   ⟨between .measurePrebias, 0, tableC .measurePrebias, false, 1, by decide⟩,
   ⟨between .rampUp, 0, tableC .rampUp, false, 1, by decide⟩,
   ⟨between .rampDown, 0, tableC .rampDown, false, 1, by decide⟩,
   ⟨between .discharge, 0, tableC .discharge, false, 1, by decide⟩,
   ⟨between .assertPg, 0, tableC .assertPg, false, 1, by decide⟩,
   ⟨between .deassertPg, 0, tableC .deassertPg, false, 1, by decide⟩,
   ⟨between .terminalOn, 0, tableC .terminalOn, false, 1, by decide⟩,
   ⟨onRail 0 (fun x => { x with seq := { x.seq with st := .stop, table := true, acting := true } }) run, 0, railC, false, 1, by decide⟩⟩

/-- The hypotheses of `StartStopTargetLimits` can be met, clause by clause. -/
theorem witness_StartStopTargetLimits :
    (∃ (s : State) (r : RailId) (c : RailCfg) (w : Word), hostUp s = true ∧ railCfg s r = some c ∧ bits w 24 8 = 0xA5 ∧ bits w 0 4 = 1 ∧ railState s.rails[r] = 0 ∧ s.pwr.dev = .run ∧ s.rails[r].seq.discHold = false ∧ s.rails[r].prot.snsP = false ∧ s.rails[r].prot.snsN = false) ∧
    (∃ (s : State) (r : RailId) (c : RailCfg), hostUp s = true ∧ railCfg s r = some c ∧ s.pwr.dev ≠ .run) ∧
    (∃ (s : State) (r : RailId) (c : RailCfg), hostUp s = true ∧ railCfg s r = some c ∧ railState s.rails[r] = 0) ∧
    (∃ (s : State) (r : RailId) (c : RailCfg) (w : Word), hostUp s = true ∧ railCfg s r = some c ∧ railState s.rails[r] = 2 ∧ bitw w 29 = false ∧ raiseFrozen s = false) ∧
    (∃ (s : State) (r : RailId) (c : RailCfg) (w : Word), hostUp s = true ∧ railCfg s r = some c ∧ railState s.rails[r] ≠ 2) ∧
    (∃ (s : State) (p : PortId) (w : Word), hostUp s = true) ∧
    (∃ (s : State) (p : PortId) (w : Word) (r : RailId) (c : RailCfg) (i : Nat) (sh : Nat), hostUp s = true ∧ (ownedRails s p).count r = 1 ∧ railCfg s r = some c ∧ portOf s r = some (p, i, sh) ∧ sh ≠ 0 ∧ s.rails[r].lim.stepping = false ∧ ilimEff c s.rails[r] ≤ shareOf (bits w 0 16) sh) ∧
    (∃ (s : State) (p : PortId) (w : Word) (r : RailId) (c : RailCfg) (i : Nat) (sh : Nat), hostUp s = true ∧ (ownedRails s p).count r = 1 ∧ railCfg s r = some c ∧ portOf s r = some (p, i, sh) ∧ sh ≠ 0 ∧ s.rails[r].lim.stepping = false ∧ shareOf (bits w 0 16) sh < ilimEff c s.rails[r]) ∧
    (∃ (s : State) (p : PortId) (w : Word) (r : RailId) (c : RailCfg) (i : Nat) (sh : Nat), hostUp s = true ∧ (ownedRails s p).count r = 1 ∧ railCfg s r = some c ∧ portOf s r = some (p, i, sh) ∧ sh ≠ 0 ∧ s.rails[r].lim.stepping = true ∧ shareOf (bits w 0 16) sh < s.rails[r].lim.bud) ∧
    (∃ (s : State) (p : PortId) (w : Word) (r : RailId) (c : RailCfg) (i : Nat) (sh : Nat), hostUp s = true ∧ (ownedRails s p).count r = 1 ∧ railCfg s r = some c ∧ portOf s r = some (p, i, sh) ∧ sh ≠ 0 ∧ s.rails[r].lim.stepping = true ∧ s.rails[r].lim.bud ≤ shareOf (bits w 0 16) sh) ∧
    (∃ (s : State) (r : RailId) (c : RailCfg), isDue (.budgetStep r) s = true ∧ islandUp s = true ∧ railCfg s r = some c ∧ answers s = true) ∧
    (∃ (s : State) (r : RailId) (c : RailCfg), isDue (.throttleStep r) s = true ∧ islandUp s = true ∧ railCfg s r = some c ∧ answers s = true ∧ s.rails[r].lim.throttled = true) ∧
    (∃ (s : State) (r : RailId) (c : RailCfg), isDue (.throttleStep r) s = true ∧ islandUp s = true ∧ railCfg s r = some c ∧ answers s = true ∧ s.rails[r].lim.throttled = false) :=
  ⟨⟨run, 0, railC, 0xA5000001#32, by decide⟩,
   ⟨ready, 0, railC, by decide⟩,
   ⟨run, 0, railC, by decide⟩,
   ⟨onRail 0 (fun x => { x with seq := { x.seq with st := .on } }) run, 0, railC, 0x00000320#32, by decide⟩,
   ⟨run, 0, railC, 0x00000320#32, by decide⟩,
   ⟨run, 0, 800, by decide⟩,
   ⟨run, 0, 1600, 0, railC, 0, 256, by decide⟩,
   ⟨onRail 0 (fun x => { x with lim := { x.lim with thr := 1600, bud := 1600, fold := 1600 } }) run, 0, 100, 0, railC, 0, 256, by decide⟩,
   ⟨onRail 0 (fun x => { x with lim := { x.lim with stepping := true, bud := 1200 } }) run, 0, 100, 0, railC, 0, 256, by decide⟩,
   ⟨onRail 0 (fun x => { x with lim := { x.lim with stepping := true, bud := 1200 } }) run, 0, 1600, 0, railC, 0, 256, by decide⟩,
   ⟨armed (.budgetStep 0) run, 0, railC, by decide⟩,
   ⟨armed (.throttleStep 0) (onRail 0 (fun x => { x with lim := { x.lim with throttled := true, thr := 1600 } }) run), 0, railC, by decide⟩,
   ⟨armed (.throttleStep 0) (onRail 0 (fun x => { x with lim := { x.lim with thr := 900 } }) run), 0, railC, by decide⟩⟩

/-- The hypotheses of `StopCommands` can be met, clause by clause. -/
theorem witness_StopCommands :
    (∃ (s : State) (r : RailId) (c : RailCfg) (w : Word) (a : SmAction), hostUp s = true ∧ railCfg s r = some c ∧ bits w 24 8 = 0xA5 ∧ bits w 0 4 = 2 ∧ (railState s.rails[r] = 1 ∨ railState s.rails[r] = 2) ∧ c.seq.stop[0]?.map (·.action) = some a ∧ a ≠ .terminalOff ∧ a ≠ .terminalOn ∧ ((a = .assertPg → s.rails[r].prot.uvRaw = false))) ∧
    (∃ (s : State) (r : RailId) (c : RailCfg) (w : Word), hostUp s = true ∧ railCfg s r = some c ∧ bits w 24 8 = 0xA5 ∧ bits w 0 4 = 2 ∧ (railState s.rails[r] = 1 ∨ railState s.rails[r] = 2) ∧ c.seq.stop[0]?.map (·.action) = some .terminalOff) ∧
    (∃ (s : State) (p : PortId) (f : BitVec 32) (r : RailId) (c : RailCfg) (a : SmAction), portSpeaks s p .vcmd2 = true ∧ f.getLsbD 31 = true ∧ f.getLsbD 30 = false ∧ v2crcOk f = true ∧ v2op f = 3 ∧ v2data f = 0 ∧ ownedRail s p (v2rail f) = some (r, c) ∧ (railState s.rails[r] = 1 ∨ railState s.rails[r] = 2) ∧ c.seq.stop[0]?.map (·.action) = some a ∧ a ≠ .terminalOff ∧ a ≠ .terminalOn ∧ ((a = .assertPg → s.rails[r].prot.uvRaw = false))) ∧
    (∃ (s : State) (p : PortId) (f : BitVec 32) (r : RailId) (c : RailCfg), portSpeaks s p .vcmd2 = true ∧ f.getLsbD 31 = true ∧ f.getLsbD 30 = false ∧ v2crcOk f = true ∧ v2op f = 3 ∧ v2data f = 0 ∧ ownedRail s p (v2rail f) = some (r, c) ∧ (railState s.rails[r] = 1 ∨ railState s.rails[r] = 2) ∧ c.seq.stop[0]?.map (·.action) = some .terminalOff) ∧
    (∃ (s : State) (p : PortId) (f : BitVec 16) (r : RailId) (c : RailCfg) (a : SmAction), portSpeaks s p .vcmd1 = true ∧ f.getLsbD 15 = true ∧ f.getLsbD 14 = false ∧ v1parOk f = true ∧ v1op f = 3 ∧ v1data f = 0 ∧ ownedRail s p (v1rail f) = some (r, c) ∧ (railState s.rails[r] = 1 ∨ railState s.rails[r] = 2) ∧ c.seq.stop[0]?.map (·.action) = some a ∧ a ≠ .terminalOff ∧ a ≠ .terminalOn ∧ ((a = .assertPg → s.rails[r].prot.uvRaw = false))) ∧
    (∃ (s : State) (p : PortId) (f : BitVec 16) (r : RailId) (c : RailCfg), portSpeaks s p .vcmd1 = true ∧ f.getLsbD 15 = true ∧ f.getLsbD 14 = false ∧ v1parOk f = true ∧ v1op f = 3 ∧ v1data f = 0 ∧ ownedRail s p (v1rail f) = some (r, c) ∧ (railState s.rails[r] = 1 ∨ railState s.rails[r] = 2) ∧ c.seq.stop[0]?.map (·.action) = some .terminalOff) :=
  ⟨⟨railOn, 0, railC, 0xA5000002#32, .rampDown, by decide⟩,
   ⟨portedOff .vcmd2, 0, offC, 0xA5000002#32, by decide⟩,
   ⟨railOn, 0, 2550136913#32, 0, railC, .rampDown, by decide +kernel⟩,
   ⟨portedOff .vcmd2, 0, 2550136913#32, 0, offC, by decide +kernel⟩,
   ⟨ported .vcmd1, 0, 45056#16, 0, railC, .rampDown, by decide⟩,
   ⟨portedOff .vcmd1, 0, 45056#16, 0, offC, by decide⟩⟩

/-- The hypotheses of `CoefficientsPositionsSelfTests` can be met, clause by clause. -/
theorem witness_CoefficientsPositionsSelfTests :
    (∃ (s : State) (r : RailId) (c : RailCfg) (w : Word), hostUp s = true ∧ railCfg s r = some c) ∧
    (∃ (s : State) (r : RailId) (c : RailCfg) (q : Fin 32), hostUp s = true ∧ railCfg s r = some c ∧ c.acc.bypass = true ∧ s.rails[r].ph.busy = false ∧ q.val < c.acc.nph ∧ s.rails[r].ph.bypDue = [] ∧ s.rails[r].ph.resDue = none ∧ s.rails[r].sh.bypass.getLsbD q.val = false ∧ c.acc.nmin + 1 ≤ navl c s.rails[r] ∧ railState s.rails[r] = 0) ∧
    (∃ (s : State) (r : RailId) (c : RailCfg) (q : Fin 32), hostUp s = true ∧ railCfg s r = some c ∧ c.acc.bypass = true ∧ s.rails[r].ph.busy = false ∧ q.val < c.acc.nph ∧ s.rails[r].ph.bypDue = [] ∧ s.rails[r].ph.resDue = none ∧ s.rails[r].sh.bypass.getLsbD q.val = false ∧ c.acc.nmin + 1 ≤ navl c s.rails[r] ∧ railState s.rails[r] = 2) ∧
    (∃ (s : State) (r : RailId) (c : RailCfg) (q : Fin 32), hostUp s = true ∧ railCfg s r = some c ∧ s.rails[r].ph.busy = true) ∧
    (∃ (s : State) (r : RailId) (c : RailCfg) (q : Fin 32), hostUp s = true ∧ railCfg s r = some c ∧ s.rails[r].ph.busy = false ∧ q.val < c.acc.nph ∧ s.rails[r].sh.bypass.getLsbD q.val = true ∧ (railState s.rails[r] = 0 ∨ railState s.rails[r] = 2) ∧ bistFailed s c q.val = false) ∧
    (∃ (s : State) (r : RailId) (c : RailCfg) (q : Fin 32) (p : Probe) (cal : Int), hostUp s = true ∧ railCfg s r = some c ∧ s.rails[r].ph.resPos = some q.val ∧ s.rails[r].ph.resDue = none ∧ c.acc.pair = false ∧ ((∀ ch : ChanId, c.acc.phase.getD q.val 0 = ch.val → csReady s ch = true)) ∧ restorePasses s c (c.acc.phase.getD q.val 0) (classOf false (measuredProbe s (c.acc.phase.getD q.val 0) p)) = false) ∧
    (∃ (s : State) (r : RailId) (c : RailCfg) (q : Fin 32) (p : Probe) (cal : Int), hostUp s = true ∧ railCfg s r = some c ∧ s.rails[r].ph.resPos = some q.val ∧ s.rails[r].ph.resDue = none ∧ c.acc.pair = false ∧ s.rails[r].ph.bypDue = [] ∧ railState s.rails[r] = 0 ∧ ((∀ ch : ChanId, c.acc.phase.getD q.val 0 = ch.val → csReady s ch = true)) ∧ restorePasses s c (c.acc.phase.getD q.val 0) (classOf false (measuredProbe s (c.acc.phase.getD q.val 0) p)) = true) ∧
    (∃ (s : State) (r : RailId) (c : RailCfg), hostUp s = true ∧ railCfg s r = some c ∧ s.rails[r].ph.busy = false ∧ railState s.rails[r] = 0) ∧
    (∃ (s : State) (r : RailId) (c : RailCfg), hostUp s = true ∧ railCfg s r = some c ∧ s.rails[r].ph.busy = false ∧ railState s.rails[r] = 0) ∧
    (∃ (s : State) (b : BankId) (w : Word), hostUp s = true ∧ bits w 24 8 = 0xA5 ∧ bitw w 0 = true ∧ bitw w 20 = false ∧ bistLegal s b = true) ∧
    (∃ (s : State) (b : BankId) (map : Byte) (item : BitVec 4), hostUp s = true ∧ s.banks[b].bistRun = true) :=
  ⟨⟨ready, 0, railC, 0x81000000#32, by decide⟩,
   ⟨{ ready with sealed := { img := some { image with rails := some { railC with acc := { railC.acc with bypass := true } } :: List.replicate 23 none } } }, 0, { railC with acc := { railC.acc with bypass := true } }, 2, by decide⟩,
   ⟨onRail 0 (fun x => { x with seq := { x.seq with st := .on } }) { ready with sealed := { img := some { image with rails := some { railC with acc := { railC.acc with bypass := true } } :: List.replicate 23 none } } }, 0, { railC with acc := { railC.acc with bypass := true } }, 2, by decide⟩,
   ⟨onRail 0 (fun x => { x with ph := { x.ph with busy := true } }) ready, 0, railC, 2, by decide⟩,
   ⟨onRail 0 (fun x => { x with sh := { x.sh with bypass := 4 } }) ready, 0, railC, 2, by decide⟩,
   ⟨onRail 0 (fun x => { x with sh := { x.sh with bypass := 4 }, ph := { x.ph with busy := true, pos := 2, resPos := some 2 } }) ready, 0, railC, 2, { up := 900, down := 900, oUp := 500, oDown := 500, v0 := 0, v1 := 0 }, 5, by decide +kernel⟩,
   ⟨onRail 0 (fun x => { x with sh := { x.sh with bypass := 4 }, ph := { x.ph with busy := true, pos := 2, resPos := some 2 } }) (onBank 2 (fun k => { k with discClass := 0 }) ready), 0, railC, 2, { up := 500, down := 500, oUp := 500, oDown := 500, v0 := 0, v1 := 0 }, 50, by decide +kernel⟩,
   ⟨ready, 0, railC, by decide⟩,
   ⟨ready, 0, railC, by decide⟩,
   ⟨ready, 5, 0xA5000001#32, by decide⟩,
   ⟨onBank 5 (fun k => { k with bistRun := true }) ready, 5, 0, 0, by decide⟩⟩

/-- The hypotheses of `SoundingsAndDiscovery` can be met, clause by clause. -/
theorem witness_SoundingsAndDiscovery :
    (∃ (s : State) (r : RailId) (c : RailCfg) (w : Word), hostUp s = true ∧ railCfg s r = some c ∧ bits w 24 8 = 0xA5 ∧ bitw w 23 = true ∧ railState s.rails[r] = 2 ∧ s.rails[r].snd.pend = false ∧ s.rails[r].snd.run = false) ∧
    (∃ (s : State) (r : RailId) (c : RailCfg), isDue (.soundingStart r) s = true ∧ islandUp s = true ∧ railCfg s r = some c ∧ sndReady s r s.rails[r] = true ∧ ((∀ q : RailId, q.val < r.val → isArmed (.soundingStart q) s = false))) ∧
    (∃ (s : State) (r : RailId) (c : RailCfg) (m : Nat), isDue (.soundingRepetition r m) s = true ∧ islandUp s = true ∧ railCfg s r = some c ∧ s.rails[r].snd.run = true ∧ s.rails[r].snd.capStage = false ∧ s.rails[r].snd.rep < 2 * s.rails[r].snd.n) ∧
    (∃ (s : State) (r : RailId) (c : RailCfg) (m : Nat), isDue (.soundingRepetition r m) s = true ∧ islandUp s = true ∧ railCfg s r = some c ∧ s.rails[r].snd.run = true ∧ s.rails[r].snd.capStage = true ∧ s.rails[r].snd.rep < 16) ∧
    (∃ (s : State) (r : RailId) (c : RailCfg), isDue (.soundingEnd r) s = true ∧ islandUp s = true ∧ railCfg s r = some c ∧ s.rails[r].snd.run = true ∧ s.rails[r].snd.capStage = true ∧ 16 ≤ s.rails[r].snd.rep) ∧
    (∃ (s : State) (banks : BitVec 24), hostUp s = true ∧ banks ≠ 0#24 ∧ s.hadc.mon.discRun = false ∧ ((∀ b : Fin 24, banks.getLsbD b = true → restoreIn s b = false))) ∧
    (∃ (s : State) (banks : BitVec 24), hostUp s = true ∧ banks ≠ 0#24 ∧ s.hadc.mon.discRun = true) ∧
    (∃ (s : State) (probes : List (ChanId × Probe)), hostUp s = true ∧ s.hadc.mon.discRun = true ∧ s.hadc.mon.discForRun = false ∧ discReady s = true) ∧
    (∃ (s : State) (probes : List (ChanId × Probe)), hostUp s = true ∧ s.hadc.mon.discRun = true ∧ discReady s = false) ∧
    (∃ (s : State) (probes : List (ChanId × Probe)), hostUp s = true ∧ s.hadc.mon.discRun = true ∧ s.hadc.mon.discForRun = true ∧ s.pwr.tgt = some .run ∧ discReady s = true) ∧
    (∃ (s : State) (probes : List (ChanId × Probe)) (b : BankId) (j : Fin 8) (p : Probe), hostUp s = true ∧ s.hadc.mon.discRun = true ∧ s.hadc.mon.discForRun = false ∧ discReady s = true ∧ s.hadc.mon.discMask.getLsbD b.val = true ∧ s.hadc.mon.doneMask.getLsbD b.val = false ∧ bankOf (pairOf s (8 * b.val + j.val)).2 = b.val ∧ mayProbe s (pairOf s (8 * b.val + j.val)).2 = true ∧ probeOf probes (pairOf s (8 * b.val + j.val)).2 = some p) ∧
    (∃ (s : State) (probes : List (ChanId × Probe)) (b : BankId) (j : Fin 8), hostUp s = true ∧ s.hadc.mon.discRun = true ∧ s.hadc.mon.discForRun = false ∧ discReady s = true ∧ s.hadc.mon.discMask.getLsbD b.val = true ∧ s.hadc.mon.doneMask.getLsbD b.val = false ∧ probeOf probes (pairOf s (8 * b.val + j.val)).2 = none) ∧
    (∃ (s : State) (probes : List (ChanId × Probe)) (b : BankId) (j : Fin 8), hostUp s = true ∧ s.hadc.mon.discRun = true ∧ s.hadc.mon.discForRun = true ∧ s.pwr.tgt = some .run ∧ discReady s = true ∧ s.hadc.mon.discMask.getLsbD b.val = true ∧ s.hadc.mon.doneMask.getLsbD b.val = false ∧ bankOf (pairOf s (8 * b.val + j.val)).2 = b.val) :=
  ⟨⟨onRail 0 (fun x => { x with seq := { x.seq with st := .on } }) run, 0, railC, 0xA5800800#32, by decide⟩,
   ⟨armed (.soundingStart 0) (onRail 0 (fun x => { x with seq := { x.seq with st := .on }, snd := { x.snd with pend := true } }) run), 0, railC, by decide⟩,
   ⟨armed (.soundingRepetition 0 9) (onRail 0 (fun x => { x with snd := { x.snd with run := true, n := 4 } }) run), 0, railC, 9, by decide⟩,
   ⟨armed (.soundingRepetition 0 9) (onRail 0 (fun x => { x with snd := { x.snd with run := true, capStage := true, n := 4 } }) run), 0, railC, 9, by decide⟩,
   ⟨armed (.soundingEnd 0) (onRail 0 (fun x => { x with snd := { x.snd with run := true, capStage := true, rep := 16, n := 4 } }) run), 0, railC, by decide⟩,
   ⟨ready, 6#24, by decide⟩,
   ⟨{ ready with hadc := { ready.hadc with mon := { ready.hadc.mon with discRun := true } } }, 6#24, by decide⟩,
   ⟨{ ready with hadc := { ready.hadc with mon := { ready.hadc.mon with discRun := true, discMask := 6 } } }, [], by decide⟩,
   ⟨monitored 57 0 (fun m => { m with discRun := true, discMask := 2 }), [], by decide⟩,
   ⟨{ ready with hadc := { ready.hadc with mon := { ready.hadc.mon with discRun := true, discForRun := true, discMask := 6 } }, pwr := { ready.pwr with tgt := some .run } }, [], by decide⟩,
   ⟨{ ready with hadc := { ready.hadc with mon := { ready.hadc.mon with discRun := true, discMask := 6 } } }, [(8, { up := 500, down := 500, oUp := 500, oDown := 500, v0 := 0, v1 := 50000 })], 1, 0, { up := 500, down := 500, oUp := 500, oDown := 500, v0 := 0, v1 := 50000 }, by decide⟩,
   ⟨{ ready with hadc := { ready.hadc with mon := { ready.hadc.mon with discRun := true, discMask := 6 } } }, [], 1, 3, by decide⟩,
   ⟨{ ready with hadc := { ready.hadc with mon := { ready.hadc.mon with discRun := true, discForRun := true, discMask := 6 } }, pwr := { ready.pwr with tgt := some .run } }, [(8, { up := 500, down := 500, oUp := 500, oDown := 500, v0 := 0, v1 := 50000 })], 1, 0, by decide⟩⟩

/-- The hypotheses of `HadcAndReferences` can be met, clause by clause. -/
theorem witness_HadcAndReferences :
    (∃ (s : State), hadcUp s = true) ∧
    (∃ (s : State) (c : Conv) (v : Int), hadcUp s = true ∧ s.hadc.conv = some c ∧ c.user = .host false ∧ s.hadc.urgent = [] ∧ s.pwr.runWait = false) ∧
    (∃ (s : State) (w : Word), hostUp s = true ∧ bitw w 31 = true ∧ bits w 0 7 < 56 ∧ inputRange (bits w 0 7) = some (bits w 22 2) ∧ ((∀ e ∈ hadcEntries s, e.chan ≠ bits w 0 7)) ∧ s.hadc.req.pendHost = false) ∧
    (∃ (s : State) (w : Word), hostUp s = true ∧ bitw w 31 = true ∧ bits w 8 7 < (hadcEntries s).length) ∧
    (∃ (s : State), isDue .refsw s = true) ∧
    (∃ (s : State), isDue .reffrz s = true) ∧
    (∃ (s : State) (w : Word), hostUp s = true ∧ bitw w 31 = true ∧ bitw w 30 = false ∧ s.hadc.mon.freeze = true ∧ s.hadc.mon.lastOk = true) ∧
    (∃ (s : State) (w : Word), hostUp s = true ∧ bitw w 31 = true ∧ bitw w 30 = false ∧ s.hadc.mon.freeze = true ∧ s.hadc.mon.lastOk = false) ∧
    (∃ (s : State) (w : Word), hostUp s = true ∧ bitw w 30 = true ∧ bitw w 31 = false ∧ s.hadc.mon.excl = 1 ∧ s.hadc.mon.lastRound.getD 0 false = false ∧ s.hadc.mon.lastRound.getD 1 false = false) ∧
    (∃ (s : State) (r : RailId), isDue (.macerationEnd (some r)) s = true) ∧
    (∃ (s : State), isDue (.macerationEnd none) s = true ∧ s.nvl.testDue = false) ∧
    (∃ (s : State) (tb : TbandCfg), isDue .thermalTick s = true ∧ tbandCfg s = some tb ∧ s.hadc.mon.macDev = false) :=
  ⟨⟨ready, by decide⟩,
   ⟨{ ready with hadc := { ready.hadc with conv := some ⟨3, 1, .host false, false, false, 0, 0⟩ } }, ⟨3, 1, .host false, false, false, 0, 0⟩, 1000000, by decide⟩,
   ⟨ready, 0x80400003#32, by decide⟩,
   ⟨ready, 0x80000002#32, by decide⟩,
   ⟨armed .refsw ready, by decide⟩,
   ⟨armed .reffrz ready, by decide⟩,
   ⟨{ ready with hadc := { ready.hadc with mon := { ready.hadc.mon with freeze := true, lastOk := true } } }, 0x80000000#32, by decide⟩,
   ⟨{ ready with hadc := { ready.hadc with mon := { ready.hadc.mon with freeze := true } } }, 0x80000000#32, by decide⟩,
   ⟨{ ready with hadc := { ready.hadc with mon := { ready.hadc.mon with excl := 1, lastRound := [false, false, true] } } }, 0x40000000#32, by decide⟩,
   ⟨armed (.macerationEnd (some 0)) ready, 0, by decide⟩,
   ⟨armed (.macerationEnd none) ready, by decide⟩,
   ⟨armed .thermalTick ready, image.tband, by decide⟩⟩

/-- The hypotheses of `HadcScheduledResults` can be met, clause by clause. -/
theorem witness_HadcScheduledResults :
    (∃ (s : State) (c : Conv) (v : Int) (i : Nat) (e : HadcEntry) (x : SchRes) (w : List Int), Delivers s c i e x .none ∧ w = filtered x (hadcCode c.range v)) ∧
    (∃ (s : State) (c : Conv) (v : Int) (i : Nat) (e : HadcEntry) (x : SchRes), Delivers s c i e x .macer ∧ s.hadc.urgent = [] ∧ s.pwr.runWait = false) ∧
    (∃ (s : State) (c : Conv) (v : Int) (i : Nat), hadcUp s = true ∧ s.hadc.conv = some c ∧ c.user = .entry i ∧ (convMark s c = .settling ∨ convMark s c = .rangeset) ∧ s.hadc.urgent = [] ∧ s.pwr.runWait = false) ∧
    (∃ (s : State) (c : Conv) (v : Int) (i : Nat) (e : HadcEntry) (x : SchRes) (k : Nat) (sc : Int) (lo : Int) (hi : Int) (u : Int), Delivers s c i e x .none ∧ e.chan = 80 + k ∧ u = hadcCode c.range v * 1200000 * sc ∧ ((k, sc, lo, hi) ∈ [(0, 1, 760000, 840000), (1, 2, 1710000, 1890000), (6, 4, 1700000, 3700000)] ∨ (2 ≤ k ∧ k < 6 ∧ sc = 4 ∧ (lo, hi) = if (s.hadc.mon.ioHigh.getD (k - 2) none).getD (decide (2500000 * 4096 ≤ u)) then (2970000, 3630000) else (1620000, 1980000))) ∧ (u < lo * 4096 ∨ hi * 4096 < u) ∧ s.hadc.mon.supOut.getD k 0 = 1) ∧
    (∃ (s : State) (c : Conv) (v : Int) (i : Nat) (e : HadcEntry) (x : SchRes) (k : Nat) (sc : Int) (lo : Int) (hi : Int) (u : Int), Delivers s c i e x .none ∧ e.chan = 80 + k ∧ u = hadcCode c.range v * 1200000 * sc ∧ ((k, sc, lo, hi) ∈ [(0, 1, 760000, 840000), (1, 2, 1710000, 1890000), (6, 4, 1700000, 3700000)] ∨ (2 ≤ k ∧ k < 6 ∧ sc = 4 ∧ (lo, hi) = if (s.hadc.mon.ioHigh.getD (k - 2) none).getD (decide (2500000 * 4096 ≤ u)) then (2970000, 3630000) else (1620000, 1980000))) ∧ (u < lo * 4096 ∨ hi * 4096 < u) ∧ s.hadc.mon.supOut.getD k 0 = 0 ∧ s.hadc.mon.supOut.length = 8) ∧
    (∃ (s : State) (c : Conv) (v : Int) (i : Nat) (e : HadcEntry) (x : SchRes) (k : Nat) (sc : Int) (lo : Int) (hi : Int) (u : Int), Delivers s c i e x .none ∧ e.chan = 80 + k ∧ u = hadcCode c.range v * 1200000 * sc ∧ ((k, sc, lo, hi) ∈ [(0, 1, 760000, 840000), (1, 2, 1710000, 1890000), (6, 4, 1700000, 3700000)] ∨ (2 ≤ k ∧ k < 6 ∧ sc = 4 ∧ (lo, hi) = if (s.hadc.mon.ioHigh.getD (k - 2) none).getD (decide (2500000 * 4096 ≤ u)) then (2970000, 3630000) else (1620000, 1980000))) ∧ lo * 4096 ≤ u ∧ u ≤ hi * 4096 ∧ s.hadc.mon.supIn.getD k 0 = 1) ∧
    (∃ (s : State) (c : Conv) (v : Int) (i : Nat) (e : HadcEntry) (x : SchRes) (k : Nat) (sc : Int) (lo : Int) (hi : Int) (u : Int), Delivers s c i e x .none ∧ e.chan = 80 + k ∧ u = hadcCode c.range v * 1200000 * sc ∧ ((k, sc, lo, hi) ∈ [(0, 1, 760000, 840000), (1, 2, 1710000, 1890000), (6, 4, 1700000, 3700000)] ∨ (2 ≤ k ∧ k < 6 ∧ sc = 4 ∧ (lo, hi) = if (s.hadc.mon.ioHigh.getD (k - 2) none).getD (decide (2500000 * 4096 ≤ u)) then (2970000, 3630000) else (1620000, 1980000))) ∧ lo * 4096 ≤ u ∧ u ≤ hi * 4096 ∧ s.hadc.mon.supIn.getD k 0 = 0 ∧ s.hadc.mon.supIn.length = 8) ∧
    (∃ (s : State) (c : Conv) (v : Int) (i : Nat) (e : HadcEntry) (x : SchRes) (k : Nat) (ab : Bool) (ax : Bool) (bx : Bool), Delivers s c i e x .none ∧ e.chan = 88 + k ∧ k < 3 ∧ xpres s = true ∧ s.hadc.mon.excl = 0 ∧ s.hadc.mon.twoWay = false ∧ modAt s.hadc.mon.round k (fun _ => some (decide (3600 * 4096 < hadcCode c.range v * 300000) || decide (3600 * 4096 < -hadcCode c.range v * 300000))) = [some ab, some ax, some bx] ∧ (ab, ax, bx) ∈ [(false, false, false), (true, false, false), (false, true, false), (false, false, true)]) ∧
    (∃ (s : State) (c : Conv) (v : Int) (i : Nat) (e : HadcEntry) (x : SchRes) (k : Nat) (ab : Bool) (ax : Bool) (bx : Bool) (o : BitVec 2) (a : Nat), Delivers s c i e x .none ∧ e.chan = 88 + k ∧ k < 3 ∧ xpres s = true ∧ s.hadc.mon.excl = 0 ∧ s.hadc.mon.twoWay = false ∧ modAt s.hadc.mon.round k (fun _ => some (decide (3600 * 4096 < hadcCode c.range v * 300000) || decide (3600 * 4096 < -hadcCode c.range v * 300000))) = [some ab, some ax, some bx] ∧ (o, ab, ax, bx) ∈ [(1, true, true, false), (2, true, false, true), (3, false, true, true)] ∧ a = (if s.hadc.mon.odd = o then s.hadc.mon.since.getD s.now else s.now)) ∧
    (∃ (s : State) (c : Conv) (v : Int) (i : Nat) (e : HadcEntry) (x : SchRes) (k : Nat) (ab : Bool) (ax : Bool) (bx : Bool) (a : Nat), Delivers s c i e x .none ∧ e.chan = 88 + k ∧ k < 3 ∧ xpres s = true ∧ s.hadc.mon.excl = 0 ∧ s.hadc.mon.twoWay = false ∧ modAt s.hadc.mon.round k (fun _ => some (decide (3600 * 4096 < hadcCode c.range v * 300000) || decide (3600 * 4096 < -hadcCode c.range v * 300000))) = [some ab, some ax, some bx] ∧ (ab && ax && bx) = true ∧ a = (if s.hadc.mon.nopair then s.hadc.mon.since.getD s.now else s.now)) ∧
    (∃ (s : State) (c : Conv) (v : Int) (i : Nat) (e : HadcEntry) (x : SchRes) (k : Nat) (bad : Bool), Delivers s c i e x .none ∧ e.chan = 88 + k ∧ isTwoWay s = true ∧ (s.hadc.mon.excl, k) ∈ [(0, 0), (1, 2), (2, 1), (3, 0)] ∧ s.hadc.mon.round.length = 3 ∧ ((∀ j : Fin 3, j.val ≠ k → (∃ q ∈ hadcEntries s, q.chan = 88 + j.val) → (s.hadc.mon.round.getD j.val none).isSome = true)) ∧ bad = (decide (3600 * 4096 < hadcCode c.range v * 300000) || decide (3600 * 4096 < -hadcCode c.range v * 300000))) ∧
    (∃ (s : State) (c : Conv) (v : Int) (i : Nat) (e : HadcEntry) (x : SchRes) (n : Nat) (m : Int) (tb : TbandCfg), Delivers s c i e x .none ∧ e.chan = 24 + n ∧ Averaged s x (hadcCode c.range v) ∧ m = roundDiv (16 * (filtered x (hadcCode c.range v)).sum) (filtered x (hadcCode c.range v)).length ∧ tbandCfg s = some tb ∧ s.thm.sens.length = 32 ∧ n < 8 ∧ -440 * 3072 ≤ 3 * (75 * m - 2400 * 1024) ∧ 3 * (75 * m - 2400 * 1024) ≤ 1400 * 3072) ∧
    (∃ (s : State) (c : Conv) (v : Int) (i : Nat) (e : HadcEntry) (x : SchRes) (n : Nat) (m : Int) (tb : TbandCfg), Delivers s c i e x .none ∧ e.chan = 24 + n ∧ Averaged s x (hadcCode c.range v) ∧ m = roundDiv (16 * (filtered x (hadcCode c.range v)).sum) (filtered x (hadcCode c.range v)).length ∧ tbandCfg s = some tb ∧ s.thm.sens.length = 32 ∧ n < 8 ∧ (3 * (75 * m - 2400 * 1024) < -440 * 3072 ∨ 1400 * 3072 < 3 * (75 * m - 2400 * 1024))) ∧
    (∃ (s : State) (c : Conv) (v : Int) (i : Nat) (e : HadcEntry) (x : SchRes) (n : Nat) (m : Int) (tb : TbandCfg), Delivers s c i e x .none ∧ e.chan = n ∧ Averaged s x (hadcCode c.range v) ∧ m = roundDiv (16 * (filtered x (hadcCode c.range v)).sum) (filtered x (hadcCode c.range v)).length ∧ tbandCfg s = some tb ∧ s.thm.sens.length = 32 ∧ n < 24) ∧
    (∃ (s : State) (c : Conv) (v : Int) (i : Nat) (e : HadcEntry) (x : SchRes) (n : Nat) (m : Int) (tb : TbandCfg), Delivers s c i e x .none ∧ e.chan = 24 + n ∧ Averaged s x (hadcCode c.range v) ∧ m = roundDiv (16 * (filtered x (hadcCode c.range v)).sum) (filtered x (hadcCode c.range v)).length ∧ tbandCfg s = some tb ∧ s.thm.sens.length = 32 ∧ n < 8 ∧ 1200 * 3072 ≤ 3 * (75 * m - 2400 * 1024) ∧ 3 * (75 * m - 2400 * 1024) ≤ 1400 * 3072 ∧ (s.thm.sens.getD n {}).shutCnt = 1 ∧ fatalArmed s = true ∧ s.glb.latched = false ∧ s.glb.clrAt ≠ some (cycle s)) :=
  ⟨⟨sched 84 0, schedC 84 0, 900000, 0, schedE 84 0, {}, [3072], by decide⟩,
   ⟨monitored 88 3 (fun m => { m with macDev := true }), schedC 88 3, 900000, 0, schedE 88 3, {}, by decide⟩,
   ⟨{ sched 84 0 with hadc := { (sched 84 0).hadc with conv := some { schedC 84 0 with settling := true } } }, { schedC 84 0 with settling := true }, 900000, 0, by decide⟩,
   ⟨monitored 80 0 (fun m => { m with supOut := [1, 0, 0, 0, 0, 0, 0, 0] }), schedC 80 0, 700000, 0, schedE 80 0, {}, 0, 1, 760000, 840000, 2389 * 1200000, by decide⟩,
   ⟨sched 82 0, schedC 82 0, 630000, 0, schedE 82 0, {}, 2, 4, 2970000, 3630000, 2150 * 1200000 * 4, by decide⟩,
   ⟨monitored 86 0 (fun m => { m with supIn := List.replicate 8 1, supLive := 0x40 }), schedC 86 0, 750000, 0, schedE 86 0, {}, 6, 4, 1700000, 3700000, 2560 * 1200000 * 4, by decide⟩,
   ⟨sched 81 0, schedC 81 0, 900000, 0, schedE 81 0, {}, 1, 2, 1710000, 1890000, 3072 * 1200000 * 2, by decide⟩,
   ⟨rounds 0 none (some false) (some true) id, ⟨88, 3, .entry 0, false, false, 0, 0⟩, 1000, 0, schedE 88 3, {}, 0, false, false, true, by decide⟩,
   ⟨{ rounds 1 (some true) none (some false) (fun m => { m with odd := 1, since := some 5 }) with now := 90000000 }, ⟨89, 3, .entry 1, false, false, 0, 0⟩, 5000, 1, schedE 89 3, {}, 1, true, true, false, 1, 5, by decide⟩,
   ⟨rounds 2 (some true) (some true) none id, ⟨90, 3, .entry 2, false, false, 0, 0⟩, -5000, 2, schedE 90 3, {}, 2, true, true, true, 0, by decide⟩,
   ⟨{ monitored 88 3 (fun m => { m with since := some 5 }) with now := 90000000 }, schedC 88 3, 5000, 0, schedE 88 3, {}, 0, true, by decide⟩,
   ⟨sched 27 0, schedC 27 0, 800000, 0, schedE 27 0, {}, 3, 43696, image.tband, by decide⟩,
   ⟨sched 24 0, schedC 24 0, 100000, 0, schedE 24 0, {}, 0, 5456, image.tband, by decide⟩,
   ⟨sched 5 1, schedC 5 1, 800000, 0, schedE 5 1, {}, 5, 10928, image.tband, by decide⟩,
   ⟨{ sched 25 0 with thm := { (sched 25 0).thm with sens := modAt (sched 25 0).thm.sens 1 fun k => { k with shutCnt := 1 } } }, schedC 25 0, 900000, 0, schedE 25 0, {}, 1, 49152, image.tband, by decide⟩⟩

/-- The hypotheses of `FaultPairAndSillage` can be met, clause by clause. -/
theorem witness_FaultPairAndSillage :
    (∃ (s : State) (ballN : Bool) (lvl : Bool), islandUp s = true ∧ lvl ≠ (if ballN then pairN s else pairP s)) ∧
    (∃ (s : State) (r : RailId) (c : RailCfg) (w : Word), hostUp s = true ∧ railCfg s r = some c ∧ bitw w 30 = true ∧ bitw w 29 = false ∧ bitw w 28 = false ∧ s.rails[r].sil.frozen = false ∧ s.rails[r].sil.causeAt ≠ some (cycle s) ∧ s.rails[r].sil.rearmed.all (fun p => p.1 != cycle s) = true) ∧
    (∃ (s : State) (r : RailId) (c : RailCfg) (w : Word) (l : List (BitVec 64)) (i : BitVec 12), hostUp s = true ∧ railCfg s r = some c ∧ bitw w 30 = true ∧ bitw w 29 = false ∧ bitw w 28 = false ∧ s.rails[r].sil.frozen = false ∧ s.rails[r].sil.causeAt ≠ some (cycle s) ∧ s.rails[r].sil.rearmed = some (cycle s, l, i)) ∧
    (∃ (s : State) (r : RailId) (c : RailCfg) (w : Word), hostUp s = true ∧ railCfg s r = some c ∧ bitw w 30 = false ∧ bitw w 29 = true ∧ bitw w 28 = false ∧ s.rails[r].sil.causeAt = some (cycle s)) ∧
    (∃ (s : State) (r : RailId) (c : RailCfg) (w : Word), hostUp s = true ∧ railCfg s r = some c ∧ bitw w 30 = false ∧ bitw w 29 = true ∧ s.rails[r].sil.causeAt ≠ some (cycle s)) ∧
    (∃ (s : State) (r : RailId) (c : RailCfg), hostUp s = true ∧ railCfg s r = some c ∧ s.rails[r].sil.frozen = true ∧ s.rails[r].sil.index.toNat < s.rails[r].sil.entries.length) ∧
    (∃ (s : State) (r : RailId) (c : RailCfg), hostUp s = true ∧ railCfg s r = some c ∧ s.rails[r].sil.frozen = true ∧ s.rails[r].sil.index.toNat < s.rails[r].sil.entries.length ∧ s.rails[r].sil.entries.length ≤ 4096) :=
  ⟨⟨ready, true, true, by decide +kernel⟩,
   ⟨ready, 0, railC, 0x40000000#32, by decide⟩,
   ⟨onRail 0 (fun x => { x with sil := { x.sil with rearmed := some (cycle ready, [5, 6], 1) } }) ready, 0, railC, 0x40000000#32, [5, 6], 1, by decide⟩,
   ⟨onRail 0 (fun x => { x with sil := { x.sil with frozen := true, event := 7, entries := [5], causeAt := some (cycle ready), causeEv := 61 } }) ready, 0, railC, 0x20000000#32, by decide⟩,
   ⟨ready, 0, railC, 0x20000000#32, by decide⟩,
   ⟨onRail 0 (fun x => { x with sil := { x.sil with frozen := true, entries := [5, 6] } }) ready, 0, railC, by decide⟩,
   ⟨onRail 0 (fun x => { x with sil := { x.sil with frozen := true, entries := [5, 6] } }) ready, 0, railC, by decide⟩⟩

/-- The hypotheses of `FullLoads` can be met, clause by clause. -/
theorem witness_FullLoads :
    (∃ (s : State), isDue .bootLoad s = true ∧ s.img.bootDue = true ∧ s.img.phase = .idle ∧ hostUp s = true) ∧
    (∃ (s : State), hostUp s = true ∧ s.img.phase = .idle ∧ fullLegal s = true) ∧
    (∃ (s : State), hostUp s = true ∧ s.img.phase = .idle ∧ fullLegal s = true) ∧
    (∃ (s : State), hostUp s = true ∧ s.img.phase = .idle ∧ fullLegal s = true) ∧
    (∃ (s : State), hostUp s = true ∧ s.img.phase = .idle ∧ fullLegal s = true) ∧
    (∃ (s : State), hostUp s = true ∧ s.img.phase = .idle ∧ fullLegal s = false) ∧
    (∃ (s : State) (w : Word), hostUp s = true ∧ s.img.isOpen = true ∧ s.img.op = .host ∧ s.img.need = none ∧ s.img.count + 4 ≠ 64) ∧
    (∃ (s : State) (w : Word) (n : Nat), hostUp s = true ∧ s.img.isOpen = true ∧ s.img.op = .host ∧ s.img.need = some n ∧ s.img.count + 4 ≠ 64 ∧ n ≤ s.img.count + 4) ∧
    (∃ (s : State) (w : Word), hostUp s = true ∧ s.img.isOpen = false) ∧
    (∃ (s : State) (f : Byte) (im : ImageCfg), hostUp s = true ∧ s.img.op = .host ∧ s.img.phase = .checking ∧ fullLegal s = true ∧ checkImage s.otp none s.img.buf = .ok im) ∧
    (∃ (s : State) (f : BitVec 8) (b : Bool) (im : ImageCfg), hostUp s = true ∧ s.img.op = (if b then .slotB else .slotA) ∧ slotCommitted s b = true ∧ f ≠ 0x00#8 ∧ f ≠ 0xFF#8 ∧ fullLegal s = true ∧ slotImage s b = .ok im) ∧
    (∃ (s : State) (f : BitVec 8) (b : Bool) (l : List Bool) (im : ImageCfg), hostUp s = true ∧ (s.img.op = .boot ∨ s.img.op = .auto) ∧ slotOrder s = b :: l ∧ f ≠ 0x00#8 ∧ f ≠ 0xFF#8 ∧ fullLegal s = true ∧ slotImage s b = .ok im) ∧
    (∃ (s : State) (f : BitVec 8) (b : Bool) (b2 : Bool) (e : LdErr) (im : ImageCfg), hostUp s = true ∧ (s.img.op = .boot ∨ s.img.op = .auto) ∧ slotOrder s = [b, b2] ∧ f ≠ 0x00#8 ∧ f ≠ 0xFF#8 ∧ fullLegal s = true ∧ slotImage s b = .error e ∧ slotImage s b2 = .ok im) ∧
    (∃ (s : State) (f : BitVec 8) (b : Bool) (l : List Bool) (e : LdErr), hostUp s = true ∧ (s.img.op = .boot ∨ s.img.op = .auto) ∧ slotOrder s = l ++ [b] ∧ f ≠ 0x00#8 ∧ f ≠ 0xFF#8 ∧ fullLegal s = true ∧ ((∀ x ∈ l, ∃ e', slotImage s x = .error e')) ∧ slotImage s b = .error e) ∧
    (∃ (s : State) (f : BitVec 8), hostUp s = true ∧ (s.img.op = .boot ∨ s.img.op = .auto) ∧ slotOrder s = [] ∧ f ≠ 0x00#8 ∧ f ≠ 0xFF#8 ∧ fullLegal s = true) ∧
    (∃ (s : State) (f : BitVec 8) (b : Bool), hostUp s = true ∧ s.img.op = (if b then .slotB else .slotA) ∧ slotCommitted s b = false ∧ f ≠ 0x00#8 ∧ f ≠ 0xFF#8) ∧
    (∃ (s : State), hostUp s = true ∧ s.img.op = .boot) ∧
    (∃ (s : State), hostUp s = true ∧ s.img.phase ≠ .idle) ∧
    (∃ (s : State), hostUp s = true ∧ s.img.phase = .idle) :=
  ⟨⟨armed .bootLoad bare, by decide⟩,
   ⟨bare, by decide⟩,
   ⟨bare, by decide⟩,
   ⟨ready, by decide⟩,
   ⟨bare, by decide⟩,
   ⟨run, by decide⟩,
   ⟨{ bare with img := { bare.img with op := .host, phase := .reading, isOpen := true } }, 7, by decide⟩,
   ⟨{ bare with img := { bare.img with op := .host, phase := .reading, isOpen := true, need := some 80, count := 76 } }, 7, 80, by decide⟩,
   ⟨bare, 7, by decide⟩,
   ⟨{ bare with img := { bare.img with op := .host, phase := .checking, buf := imgBytes } }, 0, _, by decide, rfl, rfl, by decide, test_image_loads⟩,
   ⟨loading .slotA flashA, 0x20, false, _, rfl, rfl, (flashA_facts _).2.1, by decide, by decide, rfl, (flashA_facts _).2.2⟩,
   ⟨loading .boot flashA, 0x20, false, [], _, rfl, .inl rfl, flashA_order _, by decide, by decide, rfl, (flashA_facts _).2.2⟩,
   (slotB_bad .auto).2.2.elim fun e he => ⟨loading .auto flashAB, 0x20, true, false, e, _, rfl, .inr rfl, flashAB_order _, by decide, by decide, rfl, he, (flashAB_facts _).2.2⟩,
   (flashB_bad .auto).2.2.elim fun e he => ⟨loading .auto flashB, 0x20, true, [], e, rfl, .inr rfl, flashB_order _, by decide, by decide, rfl, (fun _ h => absurd h (by simp)), he⟩,
   ⟨loading .auto [], 0x20, by decide⟩,
   ⟨loading .slotB [], 0x20, true, by decide⟩,
   ⟨{ bare with img := { bare.img with op := .boot, phase := .reading } }, by decide⟩,
   ⟨{ bare with img := { bare.img with op := .boot, phase := .reading } }, by decide⟩,
   ⟨bare, by decide⟩⟩

/-- The hypotheses of `FlaconSlots` can be met, clause by clause. -/
theorem witness_FlaconSlots :
    (∃ (s : State) (b : Bool), hostUp s = true ∧ s.img.phase = .idle) ∧
    (∃ (s : State) (k : BitVec 2), hostUp s = true ∧ 2 ≤ k.toNat) ∧
    (∃ (s : State) (f : BitVec 8) (b : Bool) (im : ImageCfg), hostUp s = true ∧ s.img.op = .check b ∧ f ≠ 0x00#8 ∧ f ≠ 0xFF#8 ∧ slotImage s b = .ok im) ∧
    (∃ (s : State) (b : Bool), hostUp s = true ∧ s.img.phase = .idle ∧ sourceSlot s b = false ∧ winOpen s = true) ∧
    (∃ (s : State) (b : Bool), hostUp s = true ∧ s.img.phase = .idle ∧ sourceSlot s b = true) ∧
    (∃ (s : State) (b : Bool), hostUp s = true ∧ s.img.phase = .idle ∧ sourceSlot s b = false ∧ winOpen s = false) ∧
    (∃ (s : State) (b : Bool), hostUp s = true ∧ s.img.op = .erase b ∧ winShut s = false) ∧
    (∃ (s : State) (b : Bool) (ok : Bool), hostUp s = true ∧ s.img.op = .erase b ∧ winShut s = true) ∧
    (∃ (s : State) (b : Bool), hostUp s = true ∧ s.img.op = .erase b ∧ winShut s = false) ∧
    (∃ (s : State) (b : Bool), hostUp s = true ∧ s.img.phase = .idle ∧ slotErased s b = true ∧ sourceSlot s b = false ∧ winOpen s = true) ∧
    (∃ (s : State) (w : Word) (b : Bool), hostUp s = true ∧ s.img.isOpen = true ∧ s.img.op = .write b ∧ s.img.count ≠ 60 ∧ s.img.need = none ∧ winShut s = false ∧ s.img.buf.length = 252) ∧
    (∃ (s : State) (b : Bool), hostUp s = true ∧ s.img.phase = .idle ∧ slotChecked s b = true ∧ sourceSlot s b = false ∧ winOpen s = true) ∧
    (∃ (s : State) (b : Bool), hostUp s = true ∧ s.img.phase = .idle ∧ slotChecked s b = false ∧ sourceSlot s b = false ∧ winOpen s = true) ∧
    (∃ (s : State) (b : Bool), hostUp s = true ∧ s.img.op = .commit b) ∧
    (∃ (s : State) (b : Bool), hostUp s = true ∧ s.img.op = .write b ∧ s.img.isOpen = false) ∧
    (∃ (s : State) (b : Bool), hostUp s = true ∧ s.img.op = .write b) ∧
    (∃ (s : State) (b : Bool), hostUp s = true ∧ s.img.op = .write b ∧ s.img.isOpen = false) ∧
    (∃ (s : State) (b : Bool), hostUp s = true ∧ winShut s = true ∧ s.img.op = .erase b) ∧
    (∃ (s : State) (b : Bool), hostUp s = true ∧ winShut s = true ∧ s.img.op = .write b ∧ s.img.isOpen = true) :=
  ⟨⟨bare, true, by decide⟩,
   ⟨bare, 2, by decide⟩,
   ⟨inSlotA imgBytes, 0x20, false, _, rfl, rfl, by decide, by decide, test_slot_checks⟩,
   ⟨{ bare with thm := { bare.thm with tjValid := true, tj := 200 } }, true, by decide⟩,
   ⟨{ ready with sealed := { ready.sealed with source := 2 } }, true, by decide⟩,
   ⟨bare, true, by decide⟩,
   ⟨{ bare with thm := { bare.thm with tjValid := true, tj := 200 }, img := { bare.img with op := .erase true, phase := .erasing } }, true, by decide⟩,
   ⟨{ bare with img := { bare.img with op := .erase true, phase := .erasing } }, true, true, by decide⟩,
   ⟨{ bare with thm := { bare.thm with tjValid := true, tj := 200 }, img := { bare.img with op := .erase true, phase := .erasing } }, true, by decide⟩,
   ⟨{ bare with thm := { bare.thm with tjValid := true, tj := 200 }, img := { bare.img with erasedB := true } }, true, by decide⟩,
   ⟨{ bare with thm := { bare.thm with tjValid := true, tj := 200 }, img := { bare.img with op := .write true, phase := .writing, isOpen := true, count := 252, buf := List.replicate 252 0 } }, 5, true, by decide +kernel⟩,
   ⟨{ bare with thm := { bare.thm with tjValid := true, tj := 200 }, img := { bare.img with checkedA := true } }, false, by decide⟩,
   ⟨{ bare with thm := { bare.thm with tjValid := true, tj := 200 } }, false, by decide⟩,
   ⟨{ bare with img := { bare.img with op := .commit true, phase := .writing } }, true, by decide⟩,
   ⟨{ bare with img := { bare.img with op := .write true, phase := .writing, isOpen := false } }, true, by decide⟩,
   ⟨{ bare with img := { bare.img with op := .write true, phase := .writing, isOpen := true } }, true, by decide⟩,
   ⟨{ bare with img := { bare.img with op := .write true, phase := .writing, isOpen := false } }, true, by decide⟩,
   ⟨{ bare with img := { bare.img with op := .erase true, phase := .erasing } }, true, by decide⟩,
   ⟨{ bare with img := { bare.img with op := .write true, phase := .writing, isOpen := true } }, true, by decide⟩⟩

/-- The hypotheses of `SlotCommandsComplete` can be met, clause by clause. -/
theorem witness_SlotCommandsComplete :
    (∃ (s : State) (k : BitVec 2), hostUp s = true ∧ s.img.phase = .idle ∧ k.toNat < 2) ∧
    (∃ (s : State) (f : BitVec 8) (b : Bool), hostUp s = true ∧ s.img.op = .check b ∧ f ≠ 0x00#8 ∧ f ≠ 0xFF#8) ∧
    (∃ (s : State) (k : BitVec 2), hostUp s = true ∧ s.img.phase = .idle ∧ k.toNat < 2 ∧ sourceSlot s (k.toNat == 1) = false ∧ winOpen s = true) ∧
    (∃ (s : State) (b : Bool), hostUp s = true ∧ s.img.op = .erase b ∧ winShut s = false) ∧
    (∃ (s : State) (k : BitVec 2), hostUp s = true ∧ s.img.phase = .idle ∧ k.toNat < 2 ∧ sourceSlot s (k.toNat == 1) = false ∧ winOpen s = true ∧ slotErased s (k.toNat == 1) = true) ∧
    (∃ (s : State) (k : BitVec 2), hostUp s = true ∧ s.img.phase = .idle ∧ k.toNat < 2 ∧ sourceSlot s (k.toNat == 1) = false ∧ winOpen s = true ∧ slotChecked s (k.toNat == 1) = true) ∧
    (∃ (s : State) (b : Bool), hostUp s = true ∧ s.img.op = .commit b) ∧
    (∃ (s : State) (b : Bool), hostUp s = true ∧ s.img.op = .commit b) ∧
    (∃ (s : State) (b : Bool), hostUp s = true ∧ winShut s = true ∧ ((s.img.op = .write b ∧ s.img.isOpen = true) ∨ s.img.op = .erase b)) :=
  ⟨⟨bare, 1, by decide⟩,
   ⟨{ bare with img := { bare.img with op := .check true, phase := .checkingSlot } }, 0x20, true, by decide⟩,
   ⟨{ bare with thm := { bare.thm with tjValid := true, tj := 200 } }, 1, by decide⟩,
   ⟨{ bare with thm := { bare.thm with tjValid := true, tj := 200 }, img := { bare.img with op := .erase true, phase := .erasing } }, true, by decide⟩,
   ⟨{ bare with thm := { bare.thm with tjValid := true, tj := 200 }, img := { bare.img with erasedB := true } }, 1, by decide⟩,
   ⟨{ bare with thm := { bare.thm with tjValid := true, tj := 200 }, img := { bare.img with checkedB := true } }, 1, by decide⟩,
   ⟨{ bare with img := { bare.img with op := .commit true, phase := .writing } }, true, by decide⟩,
   ⟨{ bare with img := { bare.img with op := .commit true, phase := .writing } }, true, by decide⟩,
   ⟨{ bare with img := { bare.img with op := .write true, phase := .writing, isOpen := true } }, true, by decide⟩⟩

/-- The hypotheses of `PatchesAndKeys` can be met, clause by clause. -/
theorem witness_PatchesAndKeys :
    (∃ (s : State) (r : RailId), hostUp s = true ∧ s.img.phase = .idle ∧ isSealed s = true) ∧
    (∃ (s : State) (r : RailId) (im : ImageCfg) (c : RailCfg), hostUp s = true ∧ s.img.phase = .idle ∧ s.img.ready = some r.val ∧ s.sealed.img = some im ∧ checkPatch s.otp s.sealed.auth (isStopped s.rails[r]) im r.val s.img.stag = .ok c) ∧
    (∃ (s : State) (n : BitVec 5), hostUp s = true ∧ s.img.phase = .idle ∧ n.toNat < 24 ∧ s.img.ready = none) ∧
    (∃ (s : State) (r : RailId) (c : RailCfg) (im : ImageCfg), hostUp s = true ∧ s.img.passed = some (r.val, c) ∧ isStopped s.rails[r] = true ∧ s.sealed.img = some im ∧ im.rails.length = 24) ∧
    (∃ (s : State) (r : RailId) (c : RailCfg), hostUp s = true ∧ s.img.passed = some (r.val, c) ∧ isStopped s.rails[r] = false) ∧
    (∃ (s : State) (k : BitVec 2), hostUp s = true ∧ s.img.phase = .idle ∧ ((∀ im ∈ s.sealed.img, im.keyidx ≠ k.toNat))) ∧
    (∃ (s : State) (k : BitVec 2) (im : ImageCfg), hostUp s = true ∧ s.img.phase = .idle ∧ s.sealed.img = some im ∧ im.keyidx = k.toNat) ∧
    (∃ (s : State) (im : ImageCfg), hostUp s = true ∧ s.img.phase = .idle ∧ s.sealed.img = some im ∧ s.otp.fuses < 64 ∧ s.otp.fuses + 1 ≤ im.epoch) :=
  ⟨⟨ready, 3, by decide⟩,
   test_patch_checks.elim fun c hc => ⟨{ ready with img := { ready.img with ready := some 0, stag := patBytes } }, 0, image, c, by decide, rfl, rfl, rfl, hc⟩,
   ⟨ready, 3, by decide⟩,
   ⟨{ ready with img := { ready.img with op := .apply 0, phase := .committing, passed := some (0, railC) } }, 0, railC, image, by decide +kernel⟩,
   ⟨onRail 0 (fun x => { x with seq := { x.seq with st := .on } }) { ready with img := { ready.img with op := .apply 0, phase := .committing, passed := some (0, railC) } }, 0, railC, by decide⟩,
   ⟨ready, 3, by decide⟩,
   ⟨ready, 0, image, by decide +kernel⟩,
   ⟨{ ready with sealed := { img := some { image with epoch := 1 } } }, { image with epoch := 1 }, by decide +kernel⟩⟩

/-- The hypotheses of `LogAndBlotter` can be met, clause by clause. -/
theorem witness_LogAndBlotter :
    (∃ (s : State), isDue .logScan s = true) ∧
    (∃ (s : State), s.nvl.scan = true) ∧
    (∃ (s : State), isDue .blotterTest s = true ∧ hadcUp s = true ∧ s.nvl.testRun = false ∧ s.nvl.busy = false ∧ s.hadc.mon.macDev = false) ∧
    (∃ (s : State), hostUp s = true ∧ s.nvl.testRun = false ∧ s.nvl.busy = false ∧ s.hadc.mon.macDev = false) ∧
    (∃ (s : State), hostUp s = true ∧ s.nvl.busy = true ∧ s.nvl.testRun = false) ∧
    (∃ (s : State) (vh : Int) (dv : Int) (dt : Nat) (c : Frac) (e : Frac), s.nvl.testRun = true ∧ s.nvl.testDue = false ∧ measured s.nvl vh dv dt = true ∧ testOut s.nvl vh dv dt = .pass c e) ∧
    (∃ (s : State) (vh : Int) (dv : Int) (dt : Nat), measured s.nvl vh dv dt = false) ∧
    (∃ (s : State) (vh : Int) (dv : Int) (dt : Nat), s.nvl.testRun = true ∧ s.nvl.testDue = false ∧ measured s.nvl vh dv dt = true ∧ dv ≤ 0) ∧
    (∃ (s : State) (q : LogRec) (qs : List LogRec) (v : Nat), isDue .logCommitStart s = true ∧ s.nvl.queue = q :: qs ∧ s.nvl.busy = false ∧ s.nvl.testDue = false ∧ loadReads s = false ∧ hadcUp s = true ∧ winOpen s = true ∧ s.nvl.scan = false ∧ s.hadc.mon.macDev = false ∧ s.nvl.v87 = some v ∧ tooLow (eVoltage s.nvl v) = false ∧ s.nvl.seen = true ∧ tooLow (eCounter s.nvl) = false ∧ s.nvl.testOk = true ∧ testYoung s = true ∧ s.nvl.voidDue = false ∧ s.nvl.eraseDue = [] ∧ slotState s.flash s.nvl.wslot = stFree) ∧
    (∃ (s : State), isDue .logCommitStart s = true ∧ s.nvl.queue ≠ [] ∧ s.nvl.busy = false ∧ s.nvl.testDue = false ∧ loadReads s = false ∧ hadcUp s = true ∧ winOpen s = false) ∧
    (∃ (s : State), s.nvl.busy = true ∧ s.nvl.testDue = false) ∧
    (∃ (s : State), s.nvl.busy = true ∧ s.nvl.retry = false ∧ slotState s.flash ((s.nvl.wslot + 1) % 256) = stFree) ∧
    (∃ (s : State), s.nvl.busy = true ∧ s.nvl.retry = true ∧ s.nvl.testDue = false) ∧
    (∃ (s : State) (k : Nat), isDue .logBlockErase s = true ∧ s.nvl.eraseDue = [k] ∧ logMayErase s = true) :=
  ⟨⟨armed .logScan bare, by decide⟩,
   ⟨{ bare with nvl := { bare.nvl with scan := true } }, by decide⟩,
   ⟨armed .blotterTest bare, by decide⟩,
   ⟨bare, by decide⟩,
   ⟨{ bare with nvl := { bare.nvl with busy := true } }, by decide⟩,
   ⟨{ bare with nvl := { bare.nvl with testRun := true, sampA := some (1200, 0), sampB := some (200, 16000) } }, 1200, 200, 8000, capFrac 8000 200, energyOf (capFrac 8000 200) (vhOf 1200) (vstopU 300), by decide⟩,
   ⟨{ bare with nvl := { bare.nvl with testRun := true, sampA := some (1200, 0), sampB := some (200, 16000) } }, 1200, 201, 8000, by decide⟩,
   ⟨{ bare with nvl := { bare.nvl with testRun := true, sampA := some (3500, 0), sampB := some (0, 40000) } }, 3500, 0, 20000, by decide⟩,
   ⟨armed .logCommitStart { bare with thm := { bare.thm with tjValid := true, tj := 200 }, nvl := { bare.nvl with queue := [⟨1, 2, 255, 0, 0, 0, false, true, [], []⟩], v87 := some 150400000, seen := true, cap := ⟨470000, 1⟩, q := ⟨25600000000000, 1⟩, testOk := true, testAt := some 0 } }, ⟨1, 2, 255, 0, 0, 0, false, true, [], []⟩, [], 150400000, by decide⟩,
   ⟨armed .logCommitStart { bare with nvl := { bare.nvl with queue := [⟨1, 2, 255, 0, 0, 0, false, true, [], []⟩] } }, by decide⟩,
   ⟨{ bare with nvl := { bare.nvl with busy := true, queue := [⟨1, 2, 255, 0, 0, 0, false, true, [], []⟩] } }, by decide⟩,
   ⟨{ bare with nvl := { bare.nvl with busy := true, queue := [⟨1, 2, 255, 0, 0, 0, false, true, [], []⟩] } }, by decide⟩,
   ⟨{ bare with nvl := { bare.nvl with busy := true, retry := true, queue := [⟨1, 2, 255, 0, 0, 0, false, true, [], []⟩] } }, by decide⟩,
   ⟨armed .logBlockErase { bare with thm := { bare.thm with tjValid := true, tj := 200 }, nvl := { bare.nvl with eraseDue := [3] } }, 3, by decide⟩⟩

/-- The hypotheses of `LogReadOutAndTime` can be met, clause by clause. -/
theorem witness_LogReadOutAndTime :
    (∃ (s : State) (w : Word) (i : Nat), hostUp s = true ∧ s.nvl.scan = false ∧ slotOfAge s.flash (committedSlots s.flash) (bits w 0 8) 256 = some i) ∧
    (∃ (s : State) (w : Word), hostUp s = true ∧ s.nvl.scan = true) ∧
    (∃ (s : State) (i : Nat), s.nrd.fetch = some i) ∧
    (∃ (s : State), hostUp s = true ∧ s.nrd.ready = true) ∧
    (∃ (s : State), isDue .nvlTimeTick s = true) :=
  ⟨⟨{ bare with flash := [(0x100002, 0), (0x100003, 0), (0x100000, 0xA5), (0x100001, 0xA5)] }, 0, 0, by decide⟩,
   ⟨{ bare with nvl := { bare.nvl with scan := true } }, 0, by decide⟩,
   ⟨{ bare with nrd := { bare.nrd with fetch := some 3 } }, 3, by decide⟩,
   ⟨{ bare with nrd := { bare.nrd with ready := true } }, by decide⟩,
   ⟨armed .nvlTimeTick bare, by decide⟩⟩

/-- The hypotheses of `TimerCommands` can be met, clause by clause. -/
theorem witness_TimerCommands :
    (∃ (s : State) (t : TimerId), hostUp s = true ∧ timerOwned s t = true ∧ (s.tmr.tmr[t].st = .idle ∨ s.tmr.tmr[t].st = .done) ∧ ((∀ j : TimerId, s.tmr.tmr[j].matched = false))) ∧
    (∃ (s : State) (t : TimerId), hostUp s = true ∧ timerOwned s t = true ∧ s.tmr.tmr[t].st = .running ∧ ((∀ j : TimerId, s.tmr.tmr[j].matched = false))) ∧
    (∃ (s : State) (t : TimerId), hostUp s = true ∧ timerOwned s t = true ∧ standing (cycle s) s.tmr.tmr[t] = .armed ∧ ((∀ j : TimerId, s.tmr.tmr[j].matched = false))) ∧
    (∃ (s : State) (t : TimerId), hostUp s = true ∧ timerOwned s t = true ∧ runsSince (cycle s) s.tmr.tmr[t] = true ∧ ((∀ j : TimerId, s.tmr.tmr[j].matched = false))) ∧
    (∃ (s : State) (t : TimerId), hostUp s = true ∧ timerOwned s t = true ∧ (standing (cycle s) s.tmr.tmr[t] = .armed ∨ s.tmr.tmr[t].st = .done) ∧ ((∀ j : TimerId, s.tmr.tmr[j].matched = false))) ∧
    (∃ (s : State) (t : TimerId), hostUp s = true ∧ timerOwned s t = true ∧ runsSince (cycle s) s.tmr.tmr[t] = true ∧ ((∀ j : TimerId, s.tmr.tmr[j].matched = false))) ∧
    (∃ (s : State) (t : TimerId), hostUp s = true ∧ timerOwned s t = true ∧ standing (cycle s) s.tmr.tmr[t] ≠ .armed ∧ ((∀ j : TimerId, s.tmr.tmr[j].matched = false))) ∧
    (∃ (s : State) (t : TimerId), hostUp s = true ∧ timerOwned s t = true ∧ runsSince (cycle s) s.tmr.tmr[t] = false ∧ ((∀ j : TimerId, s.tmr.tmr[j].matched = false))) ∧
    (∃ (s : State) (t : TimerId), hostUp s = true ∧ timerOwned s t = false) ∧
    (∃ (s : State) (m : Word), hostUp s = true ∧ ((∀ t : TimerId, m.getLsbD t.val = true → timerOwned s t = true ∧ s.tmr.tmr[t].st = .armed))) ∧
    (∃ (s : State) (m : Word), hostUp s = true ∧ ((∀ t : TimerId, m.getLsbD t.val = true → timerOwned s t = true ∧ s.tmr.tmr[t].st = .running ∧ (s.tmr.tmr[t].linkAt = some (cycle s) ∨ s.tmr.tmr[t].startAt = some (cycle s))))) ∧
    (∃ (s : State) (m : Word) (t : TimerId), hostUp s = true ∧ m.getLsbD t.val = true ∧ standing (cycle s) s.tmr.tmr[t] ≠ .armed) ∧
    (∃ (s : State) (i : Iface) (w : Word), hostUp s = true ∧ timerOwned s (selTimer i s) = true ∧ runsSince (cycle s) s.tmr.tmr[selTimer i s] = false) ∧
    (∃ (s : State) (t : TimerId) (w : Word), hostUp s = true ∧ runsSince (cycle s) s.tmr.tmr[t] = false) ∧
    (∃ (s : State) (t : TimerId) (w : Word), hostUp s = true ∧ runsSince (cycle s) s.tmr.tmr[t] = true ∧ s.tmr.tmr[t].stepAt ≠ some (cycle s) ∧ s.tmr.tmr[t].matched = false ∧ s.tmr.tmr[t].count < w.toNat) ∧
    (∃ (s : State) (t : TimerId) (w : Word), hostUp s = true ∧ runsSince (cycle s) s.tmr.tmr[t] = true ∧ s.tmr.tmr[t].stepAt ≠ some (cycle s) ∧ w.toNat ≤ s.tmr.tmr[t].count ∧ s.tmr.tmr[t].sact = 0 ∧ s.tmr.tmr[t].lact = 0 ∧ s.tmr.slowMode = false ∧ s.hadc.req.trigTmr = false ∧ ((∀ j : TimerId, j ≠ t → s.tmr.tmr[j].matched = false))) ∧
    (∃ (s : State) (i : Iface), hostUp s = true ∧ runsSince (cycle s) s.tmr.tmr[selTimer i s] = false) ∧
    (∃ (s : State) (i : Iface), hostUp s = true ∧ runsSince (cycle s) s.tmr.tmr[selTimer i s] = true) :=
  ⟨⟨timed, 3, by decide⟩,
   ⟨onTimer 3 (fun k => { k with st := .running }) timed, 3, by decide⟩,
   ⟨onTimer 3 (fun k => { k with st := .armed }) timed, 3, by decide⟩,
   ⟨onTimer 3 (fun k => { k with st := .running }) timed, 3, by decide⟩,
   ⟨onTimer 3 (fun k => { k with st := .done }) timed, 3, by decide⟩,
   ⟨onTimer 3 (fun k => { k with st := .running, half := some 4, count := 9 }) timed, 3, by decide⟩,
   ⟨timed, 3, by decide⟩,
   ⟨onTimer 3 (fun k => { k with st := .armed }) timed, 3, by decide⟩,
   ⟨ready, 3, by decide⟩,
   ⟨onTimer 3 (fun k => { k with st := .armed }) timed, 8, by decide⟩,
   ⟨onTimer 3 (fun k => { k with st := .running, linkAt := some (cycle timed) }) timed, 8, by decide⟩,
   ⟨timed, 8, 3, by decide⟩,
   ⟨{ timed with hif := { timed.hif with selS := 3 } }, .smb, 5, by decide⟩,
   ⟨timed, 3, 100, by decide⟩,
   ⟨onTimer 3 (fun k => { k with st := .running, count := 9, mtch := 50 }) timed, 3, 100, by decide⟩,
   ⟨onTimer 3 (fun k => { k with st := .running, count := 9, mtch := 50 }) timed, 3, 4, by decide⟩,
   ⟨timed, .smb, by decide⟩,
   ⟨onTimer 0 (fun k => { k with st := .running }) timed, .smb, by decide⟩⟩

/-- The hypotheses of `TimersMatchAndCapture` can be met, clause by clause. -/
theorem witness_TimersMatchAndCapture :
    (∃ (s : State) (t : TimerId), s.tmr.slowMode = false ∧ s.tmr.tmr[t].matched = true ∧ s.tmr.tmr[t].sact = 0 ∧ s.tmr.tmr[t].lact = 0 ∧ s.hadc.req.trigTmr = false ∧ ((∀ j : TimerId, j ≠ t → s.tmr.tmr[j].matched = false))) ∧
    (∃ (s : State) (t : TimerId) (j : TimerId), s.tmr.slowMode = false ∧ s.tmr.tmr[t].matched = true ∧ s.tmr.tmr[t].sact = 2 ∧ s.tmr.tmr[t].lact = 2 ∧ s.tmr.tmr[t].link.toNat = j.val ∧ j ≠ t ∧ s.hadc.req.trigTmr = false ∧ ((∀ k : TimerId, k ≠ t → s.tmr.tmr[k].matched = false)) ∧ s.tmr.tmr[j].st = .armed) ∧
    (∃ (s : State) (t : TimerId), s.tmr.tmr[t].matched = false) ∧
    (∃ (s : State) (t : TimerId) (g : Bool) (p : Nat), pinOf s 2 t.val = some p ∧ levelAt s p true = true ∧ pinOf s 3 t.val = none ∧ ((∀ j : TimerId, (pinOf s 2 j.val = some p → j = t) ∧ pinOf s 3 j.val ≠ some p)) ∧ ((∀ r : RailId, pinOf s 1 r.val ≠ some p)) ∧ s.tmr.slowMode = false ∧ s.tmr.tmr[t].st = .running ∧ s.tmr.tmr[t].capen = true ∧ s.tmr.tmr[t].cappol = false ∧ s.tmr.tmr[t].capIn = false ∧ s.tmr.tmr[t].half = none ∧ s.tmr.tmr[t].endHalf = none ∧ s.tmr.tmr[t].pairRdy = false) ∧
    (∃ (s : State) (t : TimerId) (g : Bool) (n : Nat) (p : Nat), pinOf s 2 t.val = some p ∧ levelAt s p false = false ∧ pinOf s 3 t.val = none ∧ ((∀ j : TimerId, (pinOf s 2 j.val = some p → j = t) ∧ pinOf s 3 j.val ≠ some p)) ∧ ((∀ r : RailId, pinOf s 1 r.val ≠ some p)) ∧ s.tmr.slowMode = false ∧ s.tmr.tmr[t].st = .running ∧ s.tmr.tmr[t].capen = true ∧ s.tmr.tmr[t].cappol = false ∧ s.tmr.tmr[t].capIn = true ∧ s.tmr.tmr[t].half = some n ∧ s.tmr.tmr[t].endHalf = none ∧ s.tmr.tmr[t].pairRdy = false ∧ fifoOf s 6 t.val = none) ∧
    (∃ (s : State) (t : TimerId) (cap : Bool) (g : Bool) (p : Nat), pinOf s 2 t.val = some p) ∧
    (∃ (s : State), coreStopped s = true ∧ ((∀ j : TimerId, s.tmr.tmr[j].matched = false ∧ (s.tmr.tmr[j].st ≠ .running ∨ s.tmr.tmr[j].count + 12208 < matchAt s.tmr.tmr[j])))) ∧
    (∃ (s : State), coreStopped s = false) ∧
    (∃ (s : State) (t : TimerId), coreStopped s = true ∧ s.tmr.tmr[t].st = .running ∧ s.tmr.tmr[t].gated = false ∧ s.tmr.tmr[t].matched = false ∧ matchAt s.tmr.tmr[t] ≤ s.tmr.tmr[t].count + 12207 ∧ s.tmr.tmr[t].sact = 0 ∧ s.tmr.tmr[t].lact = 0 ∧ ((∀ j : TimerId, j ≠ t → s.tmr.tmr[j].matched = false ∧ s.tmr.tmr[j].st ≠ .running))) ∧
    (∃ (s : State) (f : FifoId), hostUp s = true ∧ fifoVoid s s.fifo[f] = false ∧ s.fifo[f].lost.all (fun x => x.at_ != cycle s) = true) ∧
    (∃ (s : State) (f : FifoId), hostUp s = true ∧ fifoVoid s s.fifo[f] = true) ∧
    (∃ (s : State) (f : FifoId) (d : Lost), hostUp s = true ∧ fifoVoid s s.fifo[f] = false ∧ s.fifo[f].lost = some d ∧ d.at_ = cycle s) :=
  ⟨⟨onTimer 3 (fun k => { k with st := .running, mtch := 9, count := 9, matched := true }) timed, 3, by decide⟩,
   ⟨onTimer 4 (fun k => { k with st := .armed }) (onTimer 3 (fun k => { k with st := .running, sact := 2, lact := 2, link := 4, mtch := 9, count := 9, matched := true }) timed), 3, 4, by decide⟩,
   ⟨timed, 3, by decide⟩,
   ⟨onTimer 3 (fun k => { k with st := .running, count := 9, capen := true }) timed, 3, true, 0x600, by decide⟩,
   ⟨onTimer 3 (fun k => { k with st := .running, count := 9, capen := true, capIn := true, half := some 4 }) timed, 3, true, 4, 0x600, by decide⟩,
   ⟨timed, 3, true, false, 0x600, by decide⟩,
   ⟨onTimer 3 (fun k => { k with st := .running, mtch := 99999 }) { timed with pwr := { timed.pwr with dev := .standby } }, by decide⟩,
   ⟨timed, by decide⟩,
   ⟨onTimer 3 (fun k => { k with st := .running, mtch := 999 }) { timed with pwr := { timed.pwr with dev := .standby } }, 3, by decide⟩,
   ⟨onFifo 3 (fun x => { x with entries := [0x100000002#64] }) ready, 3, by decide⟩,
   ⟨onFifo 3 (fun x => { x with entries := [0x100000002#64], fresh := some (cycle ready, 1) }) ready, 3, by decide⟩,
   ⟨onFifo 3 (fun x => { x with entries := List.replicate 64 0, ovf := true, lost := some ⟨cycle ready, 7, false, some (2, false)⟩ }) ready, 3, ⟨cycle ready, 7, false, some (2, false)⟩, by decide⟩⟩

/-- The hypotheses of `PortsVcmd` can be met, clause by clause. -/
theorem witness_PortsVcmd :
    (∃ (s : State) (p : PortId) (j : Fin 8) (r : RailId) (v : Nat), portSpeaks s p .vsel = true ∧ vselEarly s p = false ∧ ownedRails s p = [r] ∧ railState s.rails[r] = 2 ∧ raiseFrozen s = false ∧ hostNow s s.rails[r] = false ∧ vselTarget (onPort p (fun x => { x with vselIdx := BitVec.ofNat 3 j.val }) s) r = some (p, v)) ∧
    (∃ (s : State) (p : PortId) (f : BitVec 32) (r : RailId) (c : RailCfg) (v : Nat), portSpeaks s p .vcmd2 = true ∧ f.getLsbD 31 = true ∧ f.getLsbD 30 = false ∧ v2crcOk f = true ∧ v2op f = 0 ∧ ownedRail s p (v2rail f) = some (r, c) ∧ legalTarget c (portStep s p) (v2data f) = some v ∧ railState s.rails[r] = 2 ∧ raiseFrozen s = false ∧ hostNow s s.rails[r] = false) ∧
    (∃ (s : State) (p : PortId) (f : BitVec 32) (o : Bool) (r : RailId) (c : RailCfg) (v : Nat), portSpeaks s p .vcmd2 = true ∧ f.getLsbD 31 = true ∧ f.getLsbD 30 = false ∧ v2crcOk f = true ∧ v2op f = 0 ∧ ownedRail s p (v2rail f) = some (r, c) ∧ legalTarget c (portStep s p) (v2data f) = some v ∧ railState s.rails[r] ≠ 2) ∧
    (∃ (s : State) (p : PortId) (f : BitVec 32) (o : Bool), portSpeaks s p .vcmd2 = true ∧ f.getLsbD 31 = true ∧ f.getLsbD 30 = false ∧ v2crcOk f = false) ∧
    (∃ (s : State) (p : PortId) (f : BitVec 32) (o : Bool), portSpeaks s p .vcmd2 = true ∧ f.getLsbD 31 = true ∧ f.getLsbD 30 = false ∧ v2crcOk f = true ∧ v2op f ≤ 5 ∧ v2op f ≠ 4 ∧ ownedRail s p (v2rail f) = none) ∧
    (∃ (s : State) (p : PortId) (f : BitVec 32), portSpeaks s p .vcmd2 = true ∧ f.getLsbD 31 = true ∧ f.getLsbD 30 = false ∧ v2crcOk f = true ∧ 6 ≤ v2op f) ∧
    (∃ (s : State) (p : PortId) (f : BitVec 32) (o : Bool) (r : RailId) (c : RailCfg), portSpeaks s p .vcmd2 = true ∧ f.getLsbD 31 = true ∧ f.getLsbD 30 = false ∧ v2crcOk f = true ∧ v2op f = 0 ∧ ownedRail s p (v2rail f) = some (r, c) ∧ legalTarget c (portStep s p) (v2data f) = none) ∧
    (∃ (s : State) (p : PortId) (f : BitVec 32) (o : Bool) (r : RailId) (c : RailCfg) (v : Nat), portSpeaks s p .vcmd2 = true ∧ f.getLsbD 31 = true ∧ f.getLsbD 30 = false ∧ v2crcOk f = true ∧ v2op f = 0 ∧ ownedRail s p (v2rail f) = some (r, c) ∧ legalTarget c (portStep s p) (v2data f) = some v ∧ railState s.rails[r] = 2 ∧ raiseFrozen s = true ∧ s.rails[r].pos.target.toNat < v ∧ s.rails[r].pos.tgtW < v) ∧
    (∃ (s : State) (p : PortId) (f : BitVec 32) (o : Bool) (r : RailId) (c : RailCfg) (v : Nat), portSpeaks s p .vcmd2 = true ∧ f.getLsbD 31 = true ∧ f.getLsbD 30 = false ∧ v2crcOk f = true ∧ v2op f = 0 ∧ ownedRail s p (v2rail f) = some (r, c) ∧ legalTarget c (portStep s p) (v2data f) = some v ∧ railState s.rails[r] = 2 ∧ raiseFrozen s = false ∧ (o = true ∨ hostNow s s.rails[r] = true)) ∧
    (∃ (s : State) (p : PortId) (f : BitVec 32) (r : RailId) (c : RailCfg), portSpeaks s p .vcmd2 = true ∧ f.getLsbD 31 = true ∧ f.getLsbD 30 = false ∧ v2crcOk f = true ∧ v2op f = 1 ∧ ownedRail s p (v2rail f) = some (r, c) ∧ 1 ≤ v2data f ∧ v2data f ≤ 320) ∧
    (∃ (s : State) (p : PortId) (f : BitVec 32) (r : RailId) (c : RailCfg), portSpeaks s p .vcmd2 = true ∧ f.getLsbD 31 = true ∧ f.getLsbD 30 = false ∧ v2crcOk f = true ∧ v2op f = 2 ∧ v2data f = 0 ∧ ownedRail s p (v2rail f) = some (r, c) ∧ railState s.rails[r] = 0 ∧ s.pwr.dev = .run ∧ s.rails[r].seq.discHold = false ∧ s.rails[r].prot.snsP = false ∧ s.rails[r].prot.snsN = false) ∧
    (∃ (s : State) (p : PortId) (f : BitVec 32) (r : RailId) (c : RailCfg), portSpeaks s p .vcmd2 = true ∧ f.getLsbD 31 = true ∧ f.getLsbD 30 = false ∧ v2crcOk f = true ∧ v2op f = 4 ∧ v2data f = 0 ∧ ownedRail s p (v2rail f) = some (r, c)) ∧
    (∃ (s : State) (p : PortId) (f : BitVec 32), portSpeaks s p .vcmd2 = true ∧ f.getLsbD 31 = true ∧ f.getLsbD 30 = false ∧ v2crcOk f = true ∧ v2op f = 4 ∧ v2data f = 4) ∧
    (∃ (s : State) (p : PortId) (f : BitVec 32) (r : RailId) (c : RailCfg), portSpeaks s p .vcmd2 = true ∧ f.getLsbD 31 = true ∧ f.getLsbD 30 = false ∧ v2crcOk f = true ∧ v2op f = 5 ∧ v2data f = 0 ∧ ownedRail s p (v2rail f) = some (r, c)) ∧
    (∃ (s : State) (p : PortId) (k : LinkCause), portSpeaks s p .vcmd2 = true) :=
  ⟨⟨ported .vsel, 0, 2, 0, 800, by decide⟩,
   ⟨railOn, 0, 2147509294#32, 0, railC, 596, by decide +kernel⟩,
   ⟨run, 0, 2147509294#32, true, 0, railC, 596, by decide +kernel⟩,
   ⟨run, 0, 0x80000001#32, true, by decide +kernel⟩,
   ⟨run, 0, 2231395451#32, false, by decide +kernel⟩,
   ⟨run, 0, 3087007849#32, by decide +kernel⟩,
   ⟨run, 0, 2147483648#32, false, 0, railC, by decide +kernel⟩,
   ⟨{ railOn with hadc := { railOn.hadc with mon := { railOn.hadc.mon with freeze := true } } }, 0, 2147509294#32, false, 0, railC, 596, by decide +kernel⟩,
   ⟨railOn, 0, 2147509294#32, true, 0, railC, 596, by decide +kernel⟩,
   ⟨run, 0, 2281722009#32, 0, railC, by decide +kernel⟩,
   ⟨run, 0, 2415919132#32, 0, railC, by decide +kernel⟩,
   ⟨run, 0, 2684354683#32, 0, railC, by decide +kernel⟩,
   ⟨run, 0, 2684355592#32, by decide +kernel⟩,
   ⟨run, 0, 2818572531#32, 0, railC, by decide +kernel⟩,
   ⟨run, 0, .frame, by decide⟩⟩

/-- The hypotheses of `PortsVcmd1AndAvsbus` can be met, clause by clause. -/
theorem witness_PortsVcmd1AndAvsbus :
    (∃ (s : State) (p : PortId) (f : BitVec 16) (r : RailId) (c : RailCfg) (v : Nat), portSpeaks s p .vcmd1 = true ∧ f.getLsbD 15 = true ∧ f.getLsbD 14 = false ∧ v1parOk f = true ∧ v1op f = 0 ∧ ownedRail s p (v1rail f) = some (r, c) ∧ legalTarget c (portStep s p) (v1data f) = some v ∧ railState s.rails[r] = 2 ∧ raiseFrozen s = false ∧ hostNow s s.rails[r] = false) ∧
    (∃ (s : State) (p : PortId) (f : BitVec 16) (r : RailId) (c : RailCfg), portSpeaks s p .vcmd1 = true ∧ f.getLsbD 15 = true ∧ f.getLsbD 14 = false ∧ v1parOk f = true ∧ v1op f = 1 ∧ ownedRail s p (v1rail f) = some (r, c) ∧ 1 ≤ v1data f ∧ v1data f ≤ 160) ∧
    (∃ (s : State) (p : PortId) (f : BitVec 16) (r : RailId) (c : RailCfg), portSpeaks s p .vcmd1 = true ∧ f.getLsbD 15 = true ∧ f.getLsbD 14 = false ∧ v1parOk f = true ∧ v1op f = 2 ∧ v1data f = 0 ∧ ownedRail s p (v1rail f) = some (r, c)) ∧
    (∃ (s : State) (p : PortId) (f : BitVec 16) (r : RailId) (c : RailCfg), portSpeaks s p .vcmd1 = true ∧ f.getLsbD 15 = true ∧ f.getLsbD 14 = false ∧ v1parOk f = true ∧ v1op f = 3 ∧ v1data f = 1 ∧ ownedRail s p (v1rail f) = some (r, c) ∧ railState s.rails[r] = 0 ∧ s.pwr.dev = .run ∧ s.rails[r].seq.discHold = false ∧ s.rails[r].prot.snsP = false ∧ s.rails[r].prot.snsN = false) ∧
    (∃ (s : State) (p : PortId) (k : LinkCause), portSpeaks s p .vcmd1 = true) ∧
    (∃ (s : State) (p : PortId) (f : BitVec 16) (o : Bool), portSpeaks s p .vcmd1 = true ∧ f.getLsbD 15 = true ∧ f.getLsbD 14 = false ∧ v1parOk f = false) ∧
    (∃ (s : State) (p : PortId) (f : BitVec 16) (o : Bool), portSpeaks s p .vcmd1 = true ∧ f.getLsbD 15 = true ∧ f.getLsbD 14 = false ∧ v1parOk f = true ∧ ownedRail s p (v1rail f) = none) ∧
    (∃ (s : State) (p : PortId) (f : BitVec 16) (o : Bool) (r : RailId) (c : RailCfg), portSpeaks s p .vcmd1 = true ∧ f.getLsbD 15 = true ∧ f.getLsbD 14 = false ∧ v1parOk f = true ∧ v1op f = 0 ∧ ownedRail s p (v1rail f) = some (r, c) ∧ legalTarget c (portStep s p) (v1data f) = none) ∧
    (∃ (s : State) (p : PortId) (f : BitVec 16) (o : Bool) (r : RailId) (c : RailCfg) (v : Nat), portSpeaks s p .vcmd1 = true ∧ f.getLsbD 15 = true ∧ f.getLsbD 14 = false ∧ v1parOk f = true ∧ v1op f = 0 ∧ ownedRail s p (v1rail f) = some (r, c) ∧ legalTarget c (portStep s p) (v1data f) = some v ∧ railState s.rails[r] ≠ 2) ∧
    (∃ (s : State) (p : PortId) (sel : BitVec 4) (d : BitVec 16) (r : RailId) (c : RailCfg), portSpeaks s p .avs = true ∧ avsRails s p sel = [(r, c)] ∧ s.ports[p].hold = [] ∧ (legalTarget c 0 (avsTarget d.toNat)).isSome = true ∧ railState s.rails[r] = 2 ∧ raiseFrozen s = false ∧ hostNow s s.rails[r] = false) ∧
    (∃ (s : State) (p : PortId) (sel : BitVec 4) (d : BitVec 16) (o : Bool) (r : RailId) (c : RailCfg), portSpeaks s p .avs = true ∧ avsRails s p sel = [(r, c)] ∧ (legalTarget c 0 (avsTarget d.toNat)).isSome = true ∧ railState s.rails[r] ≠ 2) ∧
    (∃ (s : State) (p : PortId) (sel : BitVec 4) (d : BitVec 16) (rc : RailId × RailCfg), portSpeaks s p .avs = true ∧ avsRails s p sel = [rc] ∧ (legalTarget rc.2 0 (avsTarget d.toNat)).isSome = true) ∧
    (∃ (s : State) (p : PortId) (sel : BitVec 4) (r : RailId) (c : RailCfg), portSpeaks s p .avs = true ∧ avsRails s p sel = [(r, c)]) ∧
    (∃ (s : State) (p : PortId) (sel : BitVec 4) (b : Byte) (r : RailId) (c : RailCfg), portSpeaks s p .avs = true ∧ avsRails s p sel = [(r, c)] ∧ s.ports[p].hold = [] ∧ 1 ≤ b.toNat ∧ b.toNat ≤ 80) ∧
    (∃ (s : State) (p : PortId) (sel : BitVec 4) (d : BitVec 16) (r : RailId) (c : RailCfg), portSpeaks s p .avs = true ∧ avsRails s p sel = [(r, c)] ∧ (d.toNat / 256 ≠ d.toNat % 256 ∨ d.toNat % 256 = 0 ∨ 80 < d.toNat % 256)) ∧
    (∃ (s : State) (p : PortId) (sel : BitVec 4) (r : RailId) (c : RailCfg), portSpeaks s p .avs = true ∧ avsRails s p sel = [(r, c)]) ∧
    (∃ (s : State) (p : PortId) (sel : BitVec 4) (r : RailId) (c : RailCfg), portSpeaks s p .avs = true ∧ avsRails s p sel = [(r, c)] ∧ s.ports[p].hold = [] ∧ railState s.rails[r] = 2 ∧ raiseFrozen s = false ∧ hostNow s s.rails[r] = false) ∧
    (∃ (s : State) (p : PortId) (sel : BitVec 4), portSpeaks s p .avs = true ∧ avsRails s p sel ≠ []) ∧
    (∃ (s : State) (p : PortId) (sel : BitVec 4) (d : BitVec 16), portSpeaks s p .avs = true ∧ avsRails s p sel ≠ [] ∧ s.ports[p].hold = [] ∧ 2048 ≤ d.toNat) ∧
    (∃ (s : State) (p : PortId) (sel : BitVec 4), portSpeaks s p .avs = true ∧ avsRails s p sel ≠ []) ∧
    (∃ (s : State) (p : PortId) (sel : BitVec 4), portSpeaks s p .avs = true) :=
  ⟨⟨ported .vcmd1, 0, 32969#16, 0, railC, 596, by decide⟩,
   ⟨ported .vcmd1, 0, 37025#16, 0, railC, by decide⟩,
   ⟨ported .vcmd1, 0, 40961#16, 0, railC, by decide⟩,
   ⟨onRail 0 (fun x => { x with seq := { x.seq with st := .stopped } }) (ported .vcmd1), 0, 45059#16, 0, railC, by decide⟩,
   ⟨ported .vcmd1, 0, .crc, by decide⟩,
   ⟨ported .vcmd1, 0, 0x8001#16, false, by decide⟩,
   ⟨ported .vcmd1, 0, 0x8A00#16, false, by decide⟩,
   ⟨ported .vcmd1, 0, 0x8000#16, false, 0, railC, by decide⟩,
   ⟨onRail 0 (fun x => { x with seq := { x.seq with st := .stopped } }) (ported .vcmd1), 0, 32969#16, false, 0, railC, 596, by decide⟩,
   ⟨ported .avs, 0, 0, 1000, 0, railC, by decide⟩,
   ⟨onRail 0 (fun x => { x with seq := { x.seq with st := .stopped } }) (ported .avs), 0, 0, 1000, false, 0, railC, by decide⟩,
   ⟨ported .avs, 0, 0, 1000, (0, railC), by decide⟩,
   ⟨ported .avs, 0, 0, 0, railC, by decide⟩,
   ⟨ported .avs, 0, 0, 10, 0, railC, by decide⟩,
   ⟨ported .avs, 0, 0, 0x0A0B, 0, railC, by decide⟩,
   ⟨ported .avs, 0, 0, 0, railC, by decide⟩,
   ⟨ported .avs, 0, 0, 0, railC, by decide⟩,
   ⟨ported .avs, 0, 0, by decide⟩,
   ⟨ported .avs, 0, 0, 0x8000, by decide⟩,
   ⟨ported .avs, 0, 0, by decide⟩,
   ⟨ported .avs, 0, 0, by decide⟩⟩

/-- The hypotheses of `HostRegisters` can be met, clause by clause. -/
theorem witness_HostRegisters :
    (∃ (s : State) (i : Iface) (a : BitVec 16) (w : Word), hostUp s = true ∧ s.pwr.softReq = false ∧ factoryHit s a = false ∧ regVal i s a = none) ∧
    (∃ (s : State) (i : Iface) (w : Word) (pg : Nat) (b : Nat) (n : Nat) (m : Nat) (k : Nat), hostUp s = true ∧ s.pwr.softReq = false ∧ (pg, b, n, m) ∈ [(0x60, 0, 12, 16), (0x6C, 192, 12, 8), (0x61, 288, 4, 16), (0x6D, 352, 4, 8), (0x62, 384, 12, 1), (0x63, 396, 2, 8), (0x6A, 412, 3, 1), (0x64, 415, 5, 1), (0x65, 420, 6, 1), (0x66, 426, 6, 1), (0x67, 432, 4, 1), (0x68, 436, 5, 1), (0x69, 441, 5, 1), (0x6B, 446, 2, 1)] ∧ k < m) ∧
    (∃ (s : State) (i : Iface) (w : Word), hostUp s = true ∧ s.pwr.softReq = false ∧ (s.raised.at_ ≠ cycle s ∨ s.raised.bits = [])) ∧
    (∃ (s : State) (i : Iface) (w : Word), hostUp s = true ∧ s.pwr.softReq = false ∧ s.raised.at_ = cycle s ∧ s.raised.bits = [384]) ∧
    (∃ (s : State) (i : Iface) (w : Word), hostUp s = true ∧ s.pwr.softReq = false) ∧
    (∃ (s : State), hostUp s = true) ∧
    (∃ (s : State), hostUp s = true ∧ alertLow s = true) ∧
    (∃ (s : State), alertLow s = false) ∧
    (∃ (s : State) (k : Byte), smbUp s = true ∧ knownCodes.contains k.toNat = false) :=
  ⟨⟨ready, .i3c, 0x0A00, 5, by decide⟩,
   ⟨ready, .smb, 5, 0x6D, 352, 4, 8, 3, by decide⟩,
   ⟨ready, .smb, 5, by decide⟩,
   ⟨{ ready with glb := { ready.glb with pllLock := true }, raised := ⟨cycle ready, [384], [], []⟩ }, .smb, 0xFFFFFFFF#32, by decide⟩,
   ⟨ready, .smb, 5, by decide⟩,
   ⟨ready, by decide⟩,
   ⟨{ ready with irqEn := BitVec.allOnes 448, glb := { ready.glb with pllLock := true }, sealed := { img := some { image with irq := List.replicate 448 2 } } }, by decide +kernel⟩,
   ⟨ready, by decide⟩,
   ⟨ready, 0x30, by decide⟩⟩

/-- The hypotheses of `PmbusReads` can be met, clause by clause. -/
theorem witness_PmbusReads :
    (∃ (s : State) (r : RailId) (c : RailCfg), smbUp s = true ∧ s.hif.page = BitVec.ofNat 8 r.val ∧ railCfg s r = some c) ∧
    (∃ (s : State) (r : RailId) (c : RailCfg), smbUp s = true ∧ s.hif.page = BitVec.ofNat 8 r.val ∧ railCfg s r = some c) ∧
    (∃ (s : State) (r : RailId) (c : RailCfg), smbUp s = true ∧ s.hif.page = BitVec.ofNat 8 r.val ∧ railCfg s r = some c) ∧
    (∃ (s : State) (r : RailId) (c : RailCfg), smbUp s = true ∧ s.hif.page = BitVec.ofNat 8 r.val ∧ railCfg s r = some c) ∧
    (∃ (s : State) (r : RailId) (c : RailCfg), smbUp s = true ∧ s.hif.page = BitVec.ofNat 8 r.val ∧ railCfg s r = some c) ∧
    (∃ (s : State) (r : RailId) (c : RailCfg), smbUp s = true ∧ s.hif.page = BitVec.ofNat 8 r.val ∧ railCfg s r = some c) ∧
    (∃ (s : State) (r : RailId) (c : RailCfg), smbUp s = true ∧ s.hif.page = BitVec.ofNat 8 r.val ∧ railCfg s r = some c) ∧
    (∃ (s : State) (r : RailId) (c : RailCfg), smbUp s = true ∧ s.hif.page = BitVec.ofNat 8 r.val ∧ railCfg s r = some c) ∧
    (∃ (s : State) (r : RailId) (c : RailCfg), smbUp s = true ∧ s.hif.page = BitVec.ofNat 8 r.val ∧ railCfg s r = some c) ∧
    (∃ (s : State) (r : RailId) (c : RailCfg), smbUp s = true ∧ s.hif.page = BitVec.ofNat 8 r.val ∧ railCfg s r = some c) ∧
    (∃ (s : State), smbUp s = true) ∧
    (∃ (s : State), smbUp s = true) ∧
    (∃ (s : State), smbUp s = true) ∧
    (∃ (s : State), smbUp s = true) ∧
    (∃ (s : State), smbUp s = true) ∧
    (∃ (s : State), smbUp s = true) ∧
    (∃ (s : State), smbUp s = true) ∧
    (∃ (s : State), smbUp s = true) :=
  ⟨⟨railOn, 0, railC, by decide⟩,
   ⟨railOn, 0, railC, by decide⟩,
   ⟨railOn, 0, railC, by decide⟩,
   ⟨railOn, 0, railC, by decide⟩,
   ⟨railOn, 0, railC, by decide⟩,
   ⟨railOn, 0, railC, by decide⟩,
   ⟨railOn, 0, railC, by decide⟩,
   ⟨railOn, 0, railC, by decide⟩,
   ⟨railOn, 0, railC, by decide⟩,
   ⟨railOn, 0, railC, by decide⟩,
   ⟨ready, by decide⟩,
   ⟨ready, by decide⟩,
   ⟨ready, by decide⟩,
   ⟨ready, by decide⟩,
   ⟨ready, by decide⟩,
   ⟨ready, by decide⟩,
   ⟨ready, by decide⟩,
   ⟨ready, by decide⟩⟩

/-- The hypotheses of `PmbusStatus` can be met, clause by clause. -/
theorem witness_PmbusStatus :
    (∃ (s : State) (r : RailId) (c : RailCfg), smbUp s = true ∧ s.hif.page = BitVec.ofNat 8 r.val ∧ railCfg s r = some c) ∧
    (∃ (s : State) (r : RailId) (c : RailCfg), smbUp s = true ∧ s.hif.page = BitVec.ofNat 8 r.val ∧ railCfg s r = some c) ∧
    (∃ (s : State) (r : RailId) (c : RailCfg), smbUp s = true ∧ s.hif.page = BitVec.ofNat 8 r.val ∧ railCfg s r = some c) ∧
    (∃ (s : State) (r : RailId) (c : RailCfg), smbUp s = true ∧ s.hif.page = BitVec.ofNat 8 r.val ∧ railCfg s r = some c) ∧
    (∃ (s : State) (r : RailId) (c : RailCfg), smbUp s = true ∧ s.hif.page = BitVec.ofNat 8 r.val ∧ railCfg s r = some c) ∧
    (∃ (s : State) (r : RailId) (c : RailCfg), smbUp s = true ∧ s.hif.page = BitVec.ofNat 8 r.val ∧ railCfg s r = some c) ∧
    (∃ (s : State), smbUp s = true) ∧
    (∃ (s : State), smbUp s = true ∧ s.hif.page = 0xFF#8) ∧
    (∃ (s : State), smbUp s = true ∧ s.hif.page = 0xFF#8) ∧
    (∃ (s : State), smbUp s = true ∧ s.hif.page = 0xFF#8) ∧
    (∃ (s : State), smbUp s = true ∧ s.hif.page = 0xFF#8) ∧
    (∃ (s : State), smbUp s = true ∧ s.hif.page = 0xFF#8) ∧
    (∃ (s : State), smbUp s = true ∧ s.hif.page = 0xFF#8) ∧
    (∃ (s : State), smbUp s = true ∧ s.hif.page = 0xFF#8 ∧ (s.raised.at_ ≠ cycle s ∨ s.raised.bits = [])) ∧
    (∃ (s : State) (r : RailId) (c : RailCfg), smbUp s = true ∧ s.hif.page = BitVec.ofNat 8 r.val ∧ railCfg s r = some c ∧ (s.raised.at_ ≠ cycle s ∨ s.raised.bits = [])) :=
  ⟨⟨railOn, 0, railC, by decide⟩,
   ⟨railOn, 0, railC, by decide⟩,
   ⟨railOn, 0, railC, by decide⟩,
   ⟨railOn, 0, railC, by decide⟩,
   ⟨railOn, 0, railC, by decide⟩,
   ⟨railOn, 0, railC, by decide⟩,
   ⟨ready, by decide⟩,
   ⟨{ railOn with hif := { railOn.hif with page := 0xFF#8 } }, by decide⟩,
   ⟨{ railOn with hif := { railOn.hif with page := 0xFF#8 } }, by decide⟩,
   ⟨{ railOn with hif := { railOn.hif with page := 0xFF#8 } }, by decide⟩,
   ⟨{ railOn with hif := { railOn.hif with page := 0xFF#8 } }, by decide⟩,
   ⟨{ railOn with hif := { railOn.hif with page := 0xFF#8 } }, by decide⟩,
   ⟨{ railOn with hif := { railOn.hif with page := 0xFF#8 } }, by decide⟩,
   ⟨{ railOn with hif := { railOn.hif with page := 0xFF#8 } }, by decide⟩,
   ⟨railOn, 0, railC, by decide⟩⟩

/-- The hypotheses of `PmbusWrites` can be met, clause by clause. -/
theorem witness_PmbusWrites :
    (∃ (s : State) (v : Byte), smbUp s = true ∧ (v.toNat < 24 ∨ v = 0xFF#8)) ∧
    (∃ (s : State) (v : Byte), smbUp s = true ∧ 24 ≤ v.toNat ∧ v ≠ 0xFF#8) ∧
    (∃ (s : State) (v : Byte), smbUp s = true) ∧
    (∃ (s : State) (p : Pec), smbUp s = true) ∧
    (∃ (s : State) (r : RailId) (c : RailCfg), smbUp s = true ∧ s.hif.page = BitVec.ofNat 8 r.val ∧ railCfg s r = some c ∧ railState s.rails[r] = 0 ∧ s.pwr.dev = .run ∧ s.rails[r].seq.discHold = false ∧ s.rails[r].prot.snsP = false ∧ s.rails[r].prot.snsN = false) ∧
    (∃ (s : State) (r : RailId) (c : RailCfg) (v : Byte) (a : SmAction), smbUp s = true ∧ s.hif.page = BitVec.ofNat 8 r.val ∧ railCfg s r = some c ∧ (v = 0x00#8 ∨ v = 0x40#8) ∧ (railState s.rails[r] = 1 ∨ railState s.rails[r] = 2) ∧ c.seq.stop[0]?.map (·.action) = some a ∧ a ≠ .terminalOff ∧ a ≠ .terminalOn ∧ ((a = .assertPg → s.rails[r].prot.uvRaw = false))) ∧
    (∃ (s : State) (r : RailId) (c : RailCfg) (v : Byte), smbUp s = true ∧ s.hif.page = BitVec.ofNat 8 r.val ∧ railCfg s r = some c ∧ (v = 0x00#8 ∨ v = 0x40#8) ∧ (railState s.rails[r] = 1 ∨ railState s.rails[r] = 2) ∧ c.seq.stop[0]?.map (·.action) = some .terminalOff) ∧
    (∃ (s : State) (p : Pec) (r : RailId) (c : RailCfg), smbUp s = true ∧ s.hif.page = BitVec.ofNat 8 r.val ∧ railCfg s r = some c) ∧
    (∃ (s : State) (v : BitVec 16) (r : RailId) (c : RailCfg), smbUp s = true ∧ s.hif.page = BitVec.ofNat 8 r.val ∧ railCfg s r = some c ∧ railState s.rails[r] = 2 ∧ raiseFrozen s = false) ∧
    (∃ (s : State) (p : Pec) (r : RailId) (c : RailCfg), smbUp s = true ∧ s.hif.page = BitVec.ofNat 8 r.val ∧ railCfg s r = some c) ∧
    (∃ (s : State) (v : BitVec 16) (r : RailId) (c : RailCfg), smbUp s = true ∧ s.hif.page = BitVec.ofNat 8 r.val ∧ railCfg s r = some c) ∧
    (∃ (s : State) (v : BitVec 16) (r : RailId) (c : RailCfg), smbUp s = true ∧ s.hif.page = BitVec.ofNat 8 r.val ∧ railCfg s r = some c ∧ railState s.rails[r] = 2 ∧ raiseFrozen s = false) ∧
    (∃ (s : State) (v : BitVec 16), smbUp s = true) ∧
    (∃ (s : State) (p : Pec), smbUp s = true ∧ factoryHit s s.hif.ptrS = false ∧ regVal .smb s s.hif.ptrS = none ∧ s.hif.ptrS.toNat % 256 + 4 ≤ 0xFF) ∧
    (∃ (s : State) (p : Pec) (w : Word), smbUp s = true ∧ s.hif.ptrS = 0x0508#16 ∧ regVal .smb s 0x0508#16 = some w) ∧
    (∃ (s : State), kaServes s = true) ∧
    (∃ (s : State), kaServes s = true ∧ s.pwr.dev = .standby ∧ s.pwr.tgt = none) ∧
    (∃ (s : State), kaServes s = false ∧ smbUp s = true) ∧
    (∃ (s : State), kaServes s = false ∧ smbUp s = true ∧ s.pwr.dev = .ready ∧ s.pwr.tgt = none ∧ isSealed s = true ∧ s.thm.bandSel = false) :=
  ⟨⟨ready, 3, by decide⟩,
   ⟨ready, 30, by decide⟩,
   ⟨ready, 3, by decide⟩,
   ⟨ready, .absent, by decide⟩,
   ⟨run, 0, railC, by decide⟩,
   ⟨railOn, 0, railC, 0x00, .rampDown, by decide⟩,
   ⟨portedOff .vcmd2, 0, offC, 0x40, by decide⟩,
   ⟨railOn, .good, 0, railC, by decide⟩,
   ⟨railOn, 4096, 0, railC, by decide⟩,
   ⟨railOn, .good, 0, railC, by decide⟩,
   ⟨railOn, 0xE019, 0, railC, by decide⟩,
   ⟨railOn, 800, 0, railC, by decide⟩,
   ⟨ready, 0x0504, by decide⟩,
   ⟨{ ready with hif := { ready.hif with ptrS := 0x0A00 } }, .good, by decide⟩,
   ⟨{ ready with hif := { ready.hif with ptrS := 0x0508 } }, .good, (regVal .smb ready 0x0508#16).getD 0, by decide⟩,
   ⟨{ off with pwr := { off.pwr with dev := .standby } }, by decide⟩,
   ⟨{ off with pwr := { off.pwr with dev := .standby } }, by decide⟩,
   ⟨ready, by decide⟩,
   ⟨ready, by decide⟩⟩

/-- The hypotheses of `I3cTarget` can be met, clause by clause. -/
theorem witness_I3cTarget :
    (∃ (s : State) (l : List Byte), s.hif.hdr = true) ∧
    (∃ (s : State), hostUp s = true) ∧
    (∃ (s : State), hostUp s = true ∧ s.hif.hdr = true) ∧
    (∃ (s : State) (lo : Byte) (hi : Byte), i3cUp s = true ∧ s.pwr.softReq = false ∧ 2 ≤ s.hif.mwl.toNat) ∧
    (∃ (s : State) (b0 : Byte) (b1 : Byte) (b2 : Byte) (b3 : Byte), i3cUp s = true ∧ s.pwr.softReq = false ∧ 6 ≤ s.hif.mwl.toNat) ∧
    (∃ (s : State) (w : Word), i3cUp s = true ∧ 4 ≤ s.hif.mrl.toNat ∧ s.hif.ptrI = 0x0508#16 ∧ regVal .i3c s 0x0508#16 = some w) ∧
    (∃ (s : State) (a : BitVec 7), i3cOpen s = true ∧ s.hif.dynAddr = none) ∧
    (∃ (s : State), i3cOpen s = true) ∧
    (∃ (s : State) (a : BitVec 7), i3cOpen s = true ∧ (hostif s).i3csa ≠ 0 ∧ s.hif.dynAddr = none) ∧
    (∃ (s : State) (a : BitVec 7), i3cUp s = true) ∧
    (∃ (s : State) (e : Byte), i3cOpen s = true) ∧
    (∃ (s : State) (e : Byte), i3cOpen s = true ∧ e.getLsbD 0 = true ∧ (hostif s).ibiEn = true ∧ ((∀ q ∈ s.hif.ibi, ∃ n ∈ pendList s, srcGroup n = q))) ∧
    (∃ (s : State) (e : Byte), i3cOpen s = true) ∧
    (∃ (s : State) (n : BitVec 16), i3cOpen s = true ∧ 4 ≤ n.toNat ∧ n.toNat ≤ 1024) ∧
    (∃ (s : State) (n : BitVec 16), i3cOpen s = true ∧ 4 ≤ n.toNat ∧ n.toNat ≤ 1024) ∧
    (∃ (s : State) (n : BitVec 16), i3cOpen s = true ∧ n.toNat < 4) ∧
    (∃ (s : State), i3cUp s = true) ∧
    (∃ (s : State), i3cUp s = true) ∧
    (∃ (s : State), i3cUp s = true) ∧
    (∃ (s : State), i3cUp s = true) ∧
    (∃ (s : State), i3cUp s = true) ∧
    (∃ (s : State), i3cUp s = true) ∧
    (∃ (s : State), i3cUp s = true) ∧
    (∃ (s : State), i3cOpen s = true) ∧
    (∃ (s : State) (pg : Nat) (g : Nat) (l : List (Nat × Nat)), i3cUp s = true ∧ s.hif.intEn = true ∧ s.hif.ibiFrom ≤ s.now ∧ s.hif.ibi = (pg, g) :: l) ∧
    (∃ (s : State) (pg : Nat) (g : Nat) (l : List (Nat × Nat)), i3cUp s = true ∧ s.hif.intEn = true ∧ s.hif.ibiFrom ≤ s.now ∧ s.hif.ibi = (pg, g) :: l ∧ (hostif s).ibiEn = true ∧ ((∀ q ∈ l, ∃ n ∈ pendList s, srcGroup n = q))) ∧
    (∃ (s : State), isDue .hotJoinRequest s = true ∧ i3cOpen s = true ∧ s.hif.dynAddr = none ∧ s.hif.hjEn = true ∧ (hostif s).hotjoin = true) :=
  ⟨⟨{ ready with hif := { ready.hif with dynAddr := some 9, hdr := true } }, [8, 5], by decide⟩,
   ⟨ready, by decide⟩,
   ⟨{ ready with hif := { ready.hif with hdr := true } }, by decide⟩,
   ⟨{ ready with hif := { ready.hif with dynAddr := some 9 } }, 8, 5, by decide⟩,
   ⟨{ ready with hif := { ready.hif with dynAddr := some 9 } }, 8, 5, 1, 2, by decide⟩,
   ⟨{ ready with hif := { ready.hif with dynAddr := some 9, ptrI := 0x0508 } }, (regVal .i3c ready 0x0508#16).getD 0, by decide⟩,
   ⟨ready, 9, by decide⟩,
   ⟨ready, by decide⟩,
   ⟨{ ready with sealed := { img := some { image with hostif := { image.hostif with i3csa := 9 } } } }, 9, by decide⟩,
   ⟨{ ready with hif := { ready.hif with dynAddr := some 9 } }, 8, by decide⟩,
   ⟨ready, 9, by decide⟩,
   ⟨pended, 9, by decide⟩,
   ⟨ready, 9, by decide⟩,
   ⟨ready, 64, by decide⟩,
   ⟨ready, 64, by decide⟩,
   ⟨ready, 3, by decide⟩,
   ⟨{ ready with hif := { ready.hif with dynAddr := some 9 } }, by decide⟩,
   ⟨{ ready with hif := { ready.hif with dynAddr := some 9 } }, by decide⟩,
   ⟨{ ready with hif := { ready.hif with dynAddr := some 9 } }, by decide⟩,
   ⟨{ ready with hif := { ready.hif with dynAddr := some 9 } }, by decide⟩,
   ⟨{ ready with hif := { ready.hif with dynAddr := some 9 } }, by decide⟩,
   ⟨{ ready with hif := { ready.hif with dynAddr := some 9 } }, by decide⟩,
   ⟨{ ready with hif := { ready.hif with dynAddr := some 9 } }, by decide⟩,
   ⟨ready, by decide⟩,
   ⟨{ ready with hif := { ready.hif with dynAddr := some 9, ibi := [(0x64, 0)] } }, 0x64, 0, [], by decide⟩,
   ⟨{ pended with hif := { pended.hif with dynAddr := some 9, ibi := [(0x64, 0), (0x62, 0)] } }, 0x64, 0, [(0x62, 0)], by decide +kernel⟩,
   ⟨armed .hotJoinRequest { ready with sealed := { img := some { image with hostif := { image.hostif with hotjoin := true } } } }, by decide⟩⟩

/-- The hypotheses of `TestPort` can be met, clause by clause. -/
theorem witness_TestPort :
    (∃ (s : State), hostUp s = true) ∧
    (∃ (s : State), hostUp s = true) ∧
    (∃ (s : State), hostUp s = true) ∧
    (∃ (s : State), hostUp s = true ∧ pinsFree s = true) ∧
    (∃ (s : State), hostUp s = true ∧ pinsFree s = false) ∧
    (∃ (s : State), hostUp s = true ∧ pinsFree s = true) ∧
    (∃ (s : State), hostUp s = true ∧ pinsFree s = true) ∧
    (∃ (s : State) (dr : BitVec 49), hostUp s = true ∧ isDue (.regacc dr) s = false) ∧
    (∃ (s : State) (a : BitVec 16) (x : Word) (w : Word), isDue (.regacc ((0#1 ++ a) ++ x)) s = true ∧ hostUp s = true ∧ a = 0x0508#16 ∧ regVal .tap s a = some w) ∧
    (∃ (s : State) (x : Word), isDue (.regacc ((1#1 ++ 0x0A00#16) ++ x)) s = true ∧ hostUp s = true ∧ s.pwr.softReq = false ∧ s.glb.accErr = false) ∧
    (∃ (s : State), hostUp s = true) ∧
    (∃ (s : State), hostUp s = true) ∧
    (∃ (s : State) (i : BitVec 2) (k : BitVec 128), hostUp s = true ∧ isSealed s = false ∧ s.otp.keys.getD i.toNat none = none) ∧
    (∃ (s : State) (d : BitVec 130), hostUp s = true ∧ isSealed s = true) ∧
    (∃ (s : State), hostUp s = true ∧ s.tap.ftmBlocked = false ∧ isSealed s = false) ∧
    (∃ (s : State), hostUp s = true ∧ s.tap.ftmBlocked = false ∧ isSealed s = true) ∧
    (∃ (s : State) (b : Bool) (k : BitVec 128), hostUp s = true ∧ s.tap.ftmBlocked = false ∧ k ≠ Config.deviceKey) ∧
    (∃ (s : State), s.tap.halted = false) :=
  ⟨⟨ready, by decide⟩,
   ⟨ready, by decide⟩,
   ⟨ready, by decide⟩,
   ⟨bare, by decide⟩,
   ⟨railOn, by decide⟩,
   ⟨bare, by decide⟩,
   ⟨bare, by decide⟩,
   ⟨ready, 0x12345, by decide⟩,
   ⟨armed (.regacc ((0#1 ++ 0x0508#16) ++ 0#32)) ready, 0x0508, 0, (regVal .tap ready 0x0508#16).getD 0, by decide⟩,
   ⟨armed (.regacc ((1#1 ++ 0x0A00#16) ++ 7#32)) ready, 7, by decide⟩,
   ⟨ready, by decide⟩,
   ⟨{ ready with tap := { ready.tap with halted := true } }, by decide⟩,
   ⟨bare, 1, 0x12345, by decide⟩,
   ⟨ready, 3, by decide⟩,
   ⟨bare, by decide⟩,
   ⟨railOn, by decide⟩,
   ⟨bare, true, Config.deviceKey + 1, by decide, rfl, by simp⟩,
   ⟨ready, by decide⟩⟩

/-- The hypotheses of `NelinkFrames` can be met, clause by clause. -/
theorem witness_NelinkFrames :
    (∃ (s : State) (id : BitVec 6) (pl : Word), nlHears s = true ∧ bits pl 16 16 = 0x6192 ∧ bits pl 0 14 = 0 ∧ id.toNat ≠ chainId s ∧ s.nl.mute = false ∧ s.nl.role ≠ .follower) ∧
    (∃ (s : State) (id : BitVec 6) (pl : Word) (b : Bool), nlHears s = true ∧ bits pl 16 16 = 0x6192 ∧ bits pl 0 14 = 0 ∧ id.toNat = chainId s) ∧
    (∃ (s : State) (id : BitVec 6), nlHears s = true ∧ s.nl.role = .follower ∧ s.nl.masterId = id ∧ s.nl.mute = false) ∧
    (∃ (s : State) (id : BitVec 6) (h : BitVec 20), nlHears s = true ∧ id.toNat ≠ chainId s ∧ s.nl.mute = false ∧ s.nl.role = .follower ∧ s.nl.masterId = id) ∧
    (∃ (s : State) (id : BitVec 6) (pl : Word), nlHears s = true ∧ bits pl 16 16 = 0x6192 ∧ id.toNat ≠ chainId s) ∧
    (∃ (s : State) (id : BitVec 6), nlHears s = true ∧ s.nl.role ≠ .follower) ∧
    (∃ (s : State), nlHears s = true) ∧
    (∃ (s : State), nlHears s = true) ∧
    (∃ (s : State), nlHears s = true) ∧
    (∃ (s : State), nlHears s = true) ∧
    (∃ (s : State), nlHears s = true ∧ s.nl.claiming = true) ∧
    (∃ (s : State), nlHears s = true ∧ s.nl.claiming = false) ∧
    (∃ (s : State) (b : Bool), isDue (.nlListenEnd true) s = true ∧ s.nl.claiming = false ∧ s.nl.listening = true ∧ nlRoleCfg s ≠ 0 ∧ s.nl.noClaim = false ∧ s.nl.mute = false ∧ (nelinkCfg s).isSome = true) ∧
    (∃ (s : State) (b : Bool), isDue (.nlListenEnd true) s = true ∧ s.nl.claiming = true ∧ s.nl.mute = false) ∧
    (∃ (s : State) (b : Bool), isDue (.nlListenEnd true) s = true ∧ s.nl.claiming = false ∧ s.nl.listening = true ∧ nlRoleCfg s = 0) ∧
    (∃ (s : State) (b : Bool), isDue (.nlHelloTimer true) s = true ∧ s.nl.mute = false ∧ (nelinkCfg s).isSome = true) ∧
    (∃ (s : State) (id : BitVec 6), isDue (.nlPeerTimeout id) s = true ∧ s.nl.peers.any (fun p => p.1 == id) = true) ∧
    (∃ (s : State), islandUp s = true ∧ s.nl.role = .follower ∧ s.nl.mute = false ∧ (nelinkCfg s).isSome = true) ∧
    (∃ (s : State), hostUp s = true ∧ (nelinkCfg s).isSome = true ∧ s.nl.role = .master ∧ s.nl.mute = false) ∧
    (∃ (s : State), hostUp s = true ∧ s.nl.role ≠ .master) ∧
    (∃ (s : State) (n : NelinkCfg), islandUp s = true ∧ nelinkCfg s = some n ∧ s.nl.role = .follower ∧ s.nl.tb = none) ∧
    (∃ (s : State) (n : NelinkCfg), islandUp s = true ∧ nelinkCfg s = some n ∧ n.epochofs = 0 ∧ s.nl.role = .follower ∧ pulseNow s.banks[(0 : Fin 24)] = false) ∧
    (∃ (s : State), islandUp s = true ∧ (nelinkCfg s).isSome = true ∧ s.nl.role ≠ .follower) :=
  ⟨⟨ready, 7, 0x61920000#32, by decide⟩,
   ⟨ready, 5, 0x61920000#32, true, by decide⟩,
   ⟨{ ready with nl := { ready.nl with role := .follower, masterId := 7 } }, 7, by decide⟩,
   ⟨{ ready with nl := { ready.nl with role := .follower, masterId := 7 } }, 7, 0x12345, by decide⟩,
   ⟨ready, 7, 0x61920000#32, by decide⟩,
   ⟨{ ready with nl := { ready.nl with peers := [(7, 3)] } }, 7, by decide⟩,
   ⟨ready, by decide⟩,
   ⟨ready, by decide⟩,
   ⟨ready, by decide⟩,
   ⟨ready, by decide⟩,
   ⟨{ ready with nl := { ready.nl with claiming := true } }, by decide⟩,
   ⟨ready, by decide⟩,
   ⟨armed (.nlListenEnd true) { ready with nl := { ready.nl with listening := true } }, true, by decide⟩,
   ⟨armed (.nlListenEnd true) { ready with nl := { ready.nl with claiming := true } }, true, by decide⟩,
   ⟨armed (.nlListenEnd true) { ready with nl := { ready.nl with listening := true }, sealed := { img := some { image with nelink := some { role := 0, chainid := 5, epochofs := 0 } } } }, true, by decide⟩,
   ⟨armed (.nlHelloTimer true) ready, false, by decide⟩,
   ⟨armed (.nlPeerTimeout 7) { ready with nl := { ready.nl with peers := [(7, 3)] } }, 7, by decide⟩,
   ⟨{ ready with nl := { ready.nl with role := .follower, masterId := 7 } }, by decide⟩,
   ⟨{ ready with nl := { ready.nl with role := .master } }, by decide⟩,
   ⟨ready, by decide⟩,
   ⟨{ ready with nl := { ready.nl with role := .follower, masterId := 7 } }, { role := 1, chainid := 5, epochofs := 0 }, by decide⟩,
   ⟨onBank 0 (fun k => { k with epoch := 5 }) { ready with nl := { ready.nl with role := .follower, masterId := 7 } }, { role := 1, chainid := 5, epochofs := 0 }, by decide⟩,
   ⟨ready, by decide⟩⟩

/-- The hypothesis of `StepRunsTheFrontCommand` can be met. -/
theorem witness_StepRunsTheFrontCommand : ∃ (c : Instr) (l : List Instr) (s : State), s.pending = c :: l :=
  ⟨.kick, [], { ready with pending := [.kick] }, rfl⟩

/-- The hypotheses of `CoreCycle` can be met, clause by clause. -/
theorem witness_CoreCycle :
    (∃ s : State, s.pending = [] ∧ fallen s ≠ []) ∧
    (∃ (s : State) (k : TimerId), s.pending = [] ∧ fallen s = [] ∧ s.pwr.tgt ≠ some .off ∧ s.tmr.tmr[k].st ≠ .running ∧ (s.now + 1) % 2 = 1) ∧
    (∃ (s : State) (b : BankId), s.pending = [] ∧ fallen s = [] ∧ clocksRun s = true ∧ (s.banks[b].epoch + 1).toNat % 4096 = 0) ∧
    (∃ (s : State) (k : TimerId), s.pending = [] ∧ fallen s = [] ∧ s.tmr.tmr[k].st = .running ∧ s.tmr.tmr[k].gated = false ∧
      clocksRun s = true ∧ coreStopped s = false ∧ s.tmr.slowMode = false ∧ (s.now + 1) % 2 = 0) ∧
    (∃ s : State, s.pending = [] ∧ fallen s = [] ∧ wdogCounts s = true ∧ clocksRun s = true ∧ s.pwr.wdog = 1 ∧ (s.now + 1) % 2 = 0) ∧
    (∃ (s : State) (r : RailId) (c : RailCfg), s.pending = [] ∧ fallen s = [] ∧ s.pwr.tgt ≠ some .off ∧ clocksRun s = true ∧
      (s.now + 1) % 2 = 0 ∧ railCfg s r = some c ∧ s.rails[r].eng.wordsDue = some 2) ∧
    (∃ (s : State) (n : Nat), s.pending = [] ∧ fallen s = [] ∧ clocksRun s = true ∧ s.pwr.tgt = some .off ∧ s.pwr.goAt = some n ∧
      n < (s.now + 1) / 2 ∧ (s.now + 1) % 2 = 0) :=
  ⟨⟨armed .refsw ready, by decide +kernel⟩, ⟨ready, 3, by decide +kernel⟩,
    ⟨onBank 5 (fun k => { k with epoch := 4095 }) ready, 5, by decide +kernel⟩,
    ⟨onTimer 3 (fun k => { k with st := .running }) { ready with now := 1 }, 3, by decide +kernel⟩,
    ⟨{ ready with now := 1, pwr := { ready.pwr with wdRun := true, wdog := 1 } }, by decide +kernel⟩,
    ⟨onRail 0 (fun x => { x with eng := { x.eng with wordsDue := some 2 } }) { ready with now := 1 }, 0, railC, by decide +kernel⟩,
    ⟨{ ready with now := 5, pwr := { ready.pwr with tgt := some .off, goAt := some 2 } }, 2, by decide +kernel⟩⟩

/-- The hypotheses of `DrivenPinsReachTheirObservers` can be met, clause by clause. -/
theorem witness_DrivenPinsReachTheirObservers :
    (∃ (s : State) (p : Nat) (l : Bool) (k j : TimerId) (r : RailId), (p, l) ∈ lagging s ∧ syncSince s p + 2 ≤ cycle s ∧
      pinOf s 2 k.val = some p ∧ pinOf s 3 j.val = some p ∧ pinOf s 1 r.val = some p) ∧
    (∃ (s : State) (p : Nat) (l : Bool), (p, l) ∈ lagging s ∧ cycle s < syncSince s p + 2) ∧
    (∃ s : State, lagging s ≠ [] ∧ ∀ x ∈ lagging s, cycle s < syncSince s x.1 + 2) ∧
    (∃ s v : State, v = { later s with banks := if dpwmRuns s then mapTab (fun _ => epochStep) s.banks else s.banks } ∧
      s.pending = [] ∧ fallen s = [] ∧ s.pwr.tgt ≠ some .off ∧ clocksRun s = true ∧ coreStopped s = false ∧
      wordsWait s = false ∧ s.nvl.testRun = false ∧ (s.now + 1) % 2 = 0) :=
  ⟨⟨{ pinned with now := 9, pins := { sync := [(0x202, 2)] } }, 0x202, true, 1, 2, 0, by decide +kernel⟩,
    ⟨{ pinned with now := 9 }, 0x202, true, by decide +kernel⟩, ⟨{ pinned with now := 9 }, by decide +kernel⟩,
    ⟨{ pinned with now := 9 }, _, rfl, by decide +kernel⟩⟩

/-- The hypothesis of `EveryCommandCompletes` can be met. -/
theorem witness_EveryCommandCompletes : ∃ (_ : Instr) (s : State), s.tap.ftm = false := ⟨.kick, ready, rfl⟩

/-- The hypothesis of `ExecKeepsTheQueue` can be met. -/
theorem witness_ExecKeepsTheQueue : ∃ (c : Instr) (s t : State), exec c s = .next t := ⟨.kick, ready, _, rfl⟩

/-- The hypotheses of `FlashStaysCanonical` can be met. -/
theorem witness_FlashStaysCanonical : ∃ s t : State, Memory.wf s.flash = true ∧ step s = .next t := ⟨ready, _, rfl, rfl⟩

/-- The hypotheses of `OtpNeverReverts` can be met, each of its clauses included. -/
theorem witness_OtpNeverReverts :
    ∃ (s t : State) (i : Fin 4) (n : Nat) (k : BitVec 128), step s = .next t ∧ s.otp.revoked.getLsbD i.val = true ∧
      s.otp.keys.getD n none = some k :=
  ⟨{ ready with otp := { revoked := 2, keys := [some 5] } }, _, 1, 0, 5, rfl, rfl, rfl⟩

/-- The hypotheses of `NoTransferStaysOpen` can be met. -/
theorem witness_NoTransferStaysOpen : ∃ s t : State, s.pwr.softReq = false ∧ step s = .next t := ⟨ready, _, rfl, rfl⟩

/-- The hypotheses of `FlashFrame` can be met. -/
theorem witness_FlashFrame : ∃ (c : Instr) (s t : State), mayWriteFlash c = false ∧ exec c s = .next t := ⟨.kick, ready, _, rfl, rfl⟩

/-- The hypotheses of `PortsKeepApart` can be met, each of its clauses included. -/
theorem witness_PortsKeepApart : ∃ (c : Instr) (p q : PortId) (s t : State) (r : RailId) (ch : ChanId),
    portCmd c = some p ∧ exec c s = .next t ∧ q ≠ p ∧ r ∉ ownedRails s p ∧
      ∀ (r : RailId) k, r ∈ ownedRails s p → railCfg s r = some k → ch.val ∉ accordChans k :=
  ⟨.vcmd2LinkError 0 .crc, 0, 1, off, _, 3, 5, rfl, rfl, by decide, by decide, fun _ _ h => by cases h⟩

/-- The hypotheses of `FatalHoldMakesSafe` can be met, clause by clause. -/
theorem witness_FatalHoldMakesSafe :
    (∃ (s : State), islandUp s = true ∧ fatalArmed s = true ∧ s.glb.latched = false) ∧
    (∃ (s : State), islandUp s = true ∧ fatalArmed s = true ∧ s.glb.latched = false) ∧
    (∃ (s : State), islandUp s = true ∧ fatalArmed s = true ∧ s.glb.latched = false ∧ s.pwr.vddBo = false) ∧
    (∃ (s : State), islandUp s = true ∧ fatalArmed s = true ∧ s.glb.latched = false ∧ s.pwr.dpwmBad = false) ∧
    (∃ (s : State), islandUp s = true ∧ fatalArmed s = true ∧ s.glb.latched = false ∧ s.pwr.vddaBo = false) ∧
    (∃ (s : State) (e : ScrubErr), islandUp s = true ∧ fatalArmed s = true ∧ s.glb.latched = false ∧ e.double = true ∧ e.inForce = true) ∧
    (∃ (s : State) (c : Conv) (v : Int) (i : Nat) (e : HadcEntry) (x : SchRes) (n : Nat) (m : Int) (tb : TbandCfg), Delivers s c i e x .none ∧ e.chan = 24 + n ∧ Averaged s x (hadcCode c.range v) ∧ m = roundDiv (16 * (filtered x (hadcCode c.range v)).sum) (filtered x (hadcCode c.range v)).length ∧ tbandCfg s = some tb ∧ s.thm.sens.length = 32 ∧ n < 8 ∧ 1200 * 3072 ≤ 3 * (75 * m - 2400 * 1024) ∧ 3 * (75 * m - 2400 * 1024) ≤ 1400 * 3072 ∧ (s.thm.sens.getD n {}).shutCnt = 1 ∧ fatalArmed s = true ∧ s.glb.latched = false) :=
  ⟨⟨railOn, by decide⟩,
   ⟨railOn, by decide⟩,
   ⟨railOn, by decide⟩,
   ⟨railOn, by decide⟩,
   ⟨railOn, by decide⟩,
   ⟨railOn, { inForce := true, part := 3, double := true }, by decide⟩,
   ⟨{ sched 25 0 with thm := { (sched 25 0).thm with sens := modAt (sched 25 0).thm.sens 1 fun k => { k with shutCnt := 1 } } }, schedC 25 0, 900000, 0, schedE 25 0, {}, 1, 49152, image.tband, by decide⟩⟩

/-- The hypotheses of `TimerGroupStart` can be met, clause by clause. -/
theorem witness_TimerGroupStart :
    (∃ (s : State) (m : Word) (k : TimerId), hostUp s = true ∧
      (∀ k : TimerId, m.getLsbD k.val = true → timerOwned s k = true ∧ s.tmr.tmr[k].st = .armed) ∧ m.getLsbD k.val = true ∧
      coreStopped s = false ∧ s.tmr.slowMode = false ∧ s.tmr.tmr[k].gated = false) ∧
    (∃ (s : State) (m : Word) (k : TimerId), hostUp s = true ∧ m.getLsbD k.val = true ∧
      (timerOwned s k = false ∨ standing (cycle s) s.tmr.tmr[k] ≠ .armed)) ∧ (∃ s : State, hostUp s = true) :=
  ⟨⟨onTimer 3 (fun k => { k with st := .armed }) timed, 8, 3, by decide⟩, ⟨ready, 8, 3, by decide⟩, ⟨ready, by decide⟩⟩

/-- The hypotheses of `TimerRegisterWrites` can be met, clause by clause. -/
theorem witness_TimerRegisterWrites :
    (∃ (s : State) (i : Iface), hostUp s = true ∧ timerOwned s (selTimer i s) = true ∧
      (s.tmr.tmr[selTimer i s].st = .idle ∨ s.tmr.tmr[selTimer i s].st = .armed ∨ s.tmr.tmr[selTimer i s].st = .done)) ∧
    (∃ (s : State) (i : Iface), hostUp s = true ∧
      (runsSince (cycle s) s.tmr.tmr[selTimer i s] = true ∨ timerOwned s (selTimer i s) = false)) ∧
    (∃ (s : State) (k j : TimerId), hostUp s = true ∧ j ≠ k) :=
  ⟨⟨{ timed with hif := { timed.hif with selS := 3 } }, .smb, by decide⟩, ⟨ready, .tap, by decide⟩, ⟨ready, 3, 4, by decide⟩⟩

/-- The hypotheses of `TraceFifoReads` can be met, clause by clause. -/
theorem witness_TraceFifoReads :
    (∃ (s : State) (f : FifoId) (e : BitVec 64) (l : List (BitVec 64)), s.fifo[f].entries = e :: l ∧
      fifoVoid s s.fifo[f] = false ∧ ∀ x, s.fifo[f].lost = some x → x.at_ ≠ cycle s) ∧
    (∃ (s : State) (f : FifoId) (e : BitVec 64) (l : List (BitVec 64)), s.fifo[f].entries = e :: l ∧ fifoVoid s s.fifo[f] = false ∧
      (s.fifo[f].lost.toList.filter fun x => x.at_ == cycle s) ≠ []) ∧
    (∃ (s : State) (f : FifoId), s.fifo[f].entries ≠ [] ∧ fifoVoid s s.fifo[f] = true) ∧
    (∃ (s : State) (f : FifoId), s.fifo[f].entries = []) ∧ (∃ (s : State) (f g : FifoId), hostUp s = true ∧ fifoVoid s s.fifo[f] = false ∧ (∀ x, s.fifo[f].lost = some x → x.at_ ≠ cycle s) ∧ g ≠ f) :=
  ⟨⟨onFifo 3 (fun x => { x with entries := [7] }) ready, 3, 7, [], rfl, by decide, fun _ h => (by cases h)⟩,
    ⟨onFifo 3 (fun x => { x with entries := [7], lost := some ⟨0, 9, false, none⟩ }) ready, 3, 7, [], by decide⟩,
    ⟨onFifo 3 (fun x => { x with entries := [7], fresh := some (0, 1) }) ready, 3, by decide⟩, ⟨ready, 3, by decide⟩,
    ⟨onFifo 3 (fun x => { x with entries := [7] }) ready, 3, 4, by decide, by decide, fun _ h => (by cases h), by decide⟩⟩

/-- The hypotheses of `HostTargetWrites` can be met, clause by clause. -/
theorem witness_HostTargetWrites :
    (∃ (s : State) (r : RailId) (c : RailCfg) (w : Word), hostUp s = true ∧ railCfg s r = some c ∧ bitw w 29 = false ∧
      railState s.rails[r] = 2 ∧
      (raiseFrozen s = false ∨
        clampN c.eng.vmin c.eng.vmax (bits w 0 16) ≤ s.rails[r].pos.target.toNat ∧ clampN c.eng.vmin c.eng.vmax (bits w 0 16) ≤ s.rails[r].pos.tgtW)) ∧
    (∃ (s : State) (r : RailId) (c : RailCfg) (w : Word), hostUp s = true ∧ railCfg s r = some c ∧
      (railState s.rails[r] ≠ 2 ∨
        raiseFrozen s = true ∧ s.rails[r].pos.target.toNat < clampN c.eng.vmin c.eng.vmax (bits w 0 16) ∧
          s.rails[r].pos.tgtW < clampN c.eng.vmin c.eng.vmax (bits w 0 16))) ∧
    (∃ (s : State) (r : RailId) (c : RailCfg), hostUp s = true ∧ s.pwr.softReq = false ∧ railCfg s r = some c) :=
  ⟨⟨railOn, 0, railC, 800, by decide⟩,
    ⟨{ railOn with hadc := { railOn.hadc with mon := { railOn.hadc.mon with freeze := true } } }, 0, railC, 800, by decide⟩,
    ⟨run, 0, railC, by decide⟩⟩

/-- The hypotheses of `SlowClockLossEndsTimers` can be met, by a running timer and a stopped one. -/
theorem witness_SlowClockLossEndsTimers :
    ∃ (s : State) (k j : TimerId), s.tmr.slowMode = true ∧ (∀ e, s.tmr.slowWas = some e → e.at_ ≠ s.now) ∧
      s.tmr.tmr[k].st = .running ∧ s.tmr.tmr[j].st ≠ .running :=
  ⟨onTimer 3 (fun k => { k with st := .running }) { timed with tmr := { timed.tmr with slowMode := true } }, 3, 4,
    rfl, fun _ h => (by cases h), by decide, by decide⟩

/-! ## Ill-formed terms -/

/-- One ill-formed command for each check of `Instr.wf`, each refused. -/
theorem test_wf_refuses : [
    .registerWrite .smb 0x0002#16 0,
    .glbFatalClr 0,
    .railTripClr 0 0,
    .railProtClr 0 0,
    .railSeqStart 0 2,
    .railSeqStop 0 1,
    .coefApply 0 0,
    .bankBistStart 0 0,
    .soundingRequest 0 0,
    .unfreeze 0,
    .readmit 0,
    .hadcGo 0,
    .hadcAvgsetApply 0,
    .railSilFreeze 0 0,
    .rearm 0 0,
    .offsetCalDone 0 [],
    .vcmd2SetTarget 0 0xC0000000#32 false,
    .vcmd2SetSlew 0 0x80000000#32,
    .vcmd2Start 0 0x80000000#32,
    .vcmd2Stop 0 0x80000000#32,
    .vcmd2Read 0 0x80000000#32,
    .vcmd2Nop 0 0x80000000#32,
    .vcmd2LinkError 0 .crc,
    .setVid 0 0xC000#16 false,
    .vcmd1SetSlew 0 0x8000#16,
    .readVid 0 0x8000#16,
    .vcmd1On 0 0xB000#16,
    .vcmd1Off 0 0xB002#16,
    .vcmd1LinkError 0 .crc,
    .mfrRegData (some (List.replicate 256 0)) .good,
    .pmbusUnsupported 0x21].all (fun c : Instr => !c.wf) = true := by decide +kernel

/-- Well-formed commands of the same rows. -/
theorem test_wf_accepts : [
    .registerWrite .smb 0x0004#16 0, .railSeqStart 0 0xA5000001#32, .vcmd2SetTarget 2 0x8102A875#32 false, .setVid 0 0x80C9#16 false,
    .pmbusUnsupported 0x30].all (fun c : Instr => c.wf) = true := by decide +kernel

/-! ## The worked examples of the spec -/

/-- The frame to rail 5 of chapter 6 and its response. -/
theorem test_vcmd2_example : v2crcOk 0x8102A875#32 = true ∧ v2op 0x8102A875#32 = 0 ∧ v2rail 0x8102A875#32 = 1 ∧
    v2data 0x8102A875#32 = 680 ∧ v2seq 0x8102A875#32 = 1 ∧ v2resp .ok 1 0 = 0x0400035#28 := by decide +kernel

/-- VOUT_COMMAND 0x0D9A of chapter 14 is 680, and reads back as it was written. -/
theorem test_linear16_example : ofLinear16 0x0D9A = 680 ∧ toLinear16 680 = 0x0D9A := by decide +kernel

/-- The Blotter test of chapter 12: 220 µF and 158 units of 10 µJ. -/
theorem test_blotter_example : (match testOut {} 1066 461 18600 with
    | .pass c e => c.num / (1000 * c.den) == 220 && e.num / (e.den * tenMicroJ) == 158
    | _ => false) = true := by decide +kernel

/-- The check value of the CRC of IEEE 802.3 over the digits 1 to 9 (R56). -/
theorem test_crc32 : crc32 [0x31, 0x32, 0x33, 0x34, 0x35, 0x36, 0x37, 0x38, 0x39] = 0xCBF43926 := by decide +kernel

/-! ## Single steps -/

/-- A START in READY is refused and counted (R220). -/
theorem test_start_refused : (match exec (.railSeqStart 0 0xA5000001#32) ready with
    | .next t => t.rails[(0 : Fin 24)].seq.seqRej && t.rails[(0 : Fin 24)].seq.rejCnt == 1 && railState t.rails[(0 : Fin 24)] == 0
    | _ => false) = true := by decide +kernel

/-- A START in RUN begins the start table (R222). -/
theorem test_start_runs : (match exec (.railSeqStart 0 0xA5000001#32) run with
    | .next t => railState t.rails[(0 : Fin 24)] == 1
    | _ => false) = true := by decide +kernel

end Sys2Proof.Tests
end

section
/-! PROOF. A write to a register with W1C bits: the bits of the present core cycle touch neither its low half word nor the
core of the state (R314, R432). -/

namespace Sys2Proof.Machine

theorem tailLoc_bit_ge {n : Nat} (h : n < 36) : 16 ≤ (tailLoc n).2.2 := by
  unfold tailLoc
  split_ifs <;> dsimp only <;> omega

/-- Every status bit stands in the high half of its register (R429 to R431). -/
theorem bitLoc_bit_ge (n : Nat) : 16 ≤ (bitLoc n).2.2 := by
  have hrail : ∀ k < 12, 16 ≤ (railLoc k).2 := by decide
  have hbank : ∀ k < 4, 16 ≤ ([(0x80, 31), (0x80, 30), (0x80, 29), (0x84, 31)].getD k (0, 0)).2 := by decide
  have hmore : ∀ k < 6, 16 ≤ (moreLoc k).2 := by decide
  unfold bitLoc
  split_ifs
  · exact hrail _ (Nat.mod_lt n (by decide))
  · exact hbank _ (Nat.mod_lt n (by decide))
  · dsimp only; omega
  · dsimp only; omega
  · exact tailLoc_bit_ge (by omega)
  · dsimp only; exact hmore _ (Nat.mod_lt _ (by decide))

/-- A bit outside a one-bit mask stays. -/
theorem getLsbD_and_not_bit (w : Word) {i k : Nat} (h : i ≠ k) : (w &&& ~~~(1#32 <<< k)).getLsbD i = w.getLsbD i := by
  by_cases hi : i < 32
  · have hmask : (1#32 <<< k).getLsbD i = false := by
      rw [BitVec.getLsbD_shiftLeft, BitVec.getLsbD_one]
      simp only [Bool.and_eq_false_iff, Bool.not_eq_false', decide_eq_true_eq, decide_eq_false_iff_not]
      omega
    rw [BitVec.getLsbD_and, BitVec.getLsbD_not, hmask]
    simp [hi]
  · simp [BitVec.getLsbD_of_ge _ _ (Nat.le_of_not_lt hi)]

/-- The bits of the present core cycle leave the low half word of a written word. -/
theorem w1cWord_getLsbD_low (s : State) (page off : Nat) (w : Word) {i : Nat} (hi : i < 16) :
    (w1cWord s page off w).getLsbD i = w.getLsbD i := by
  unfold w1cWord
  split
  · rfl
  · generalize s.raised.bits = l
    induction l generalizing w with
    | nil => rfl
    | cons n l ih =>
      rw [List.foldl_cons, ih]
      dsimp only
      split
      · exact getLsbD_and_not_bit w (by have := bitLoc_bit_ge n; omega)
      · rfl

/-- They set no bit. -/
theorem bitw_w1cWord_of_not {s : State} {page off : Nat} {w : Word} {i : Nat} (h : bitw w i = false) :
    bitw (w1cWord s page off w) i = false := by
  unfold w1cWord
  split
  · exact h
  · generalize s.raised.bits = l
    induction l generalizing w with
    | nil => exact h
    | cons n l ih =>
      rw [List.foldl_cons]
      apply ih
      dsimp only
      split
      · simp only [bitw, BitVec.getLsbD_and] at h ⊢; simp [h]
      · exact h

theorem testBit_bits_zero (w : Word) (n i : Nat) : (bits w 0 n).testBit i = (decide (i < n) && w.getLsbD i) := by
  simp [bits, Nat.testBit_mod_two_pow, BitVec.getLsbD]

/-- A field of the low half word is written as the word has it. -/
theorem bits_w1cWord (s : State) (page off : Nat) (w : Word) {n : Nat} (hn : n ≤ 16) :
    bits (w1cWord s page off w) 0 n = bits w 0 n := by
  apply Nat.eq_of_testBit_eq
  intro i
  rw [testBit_bits_zero, testBit_bits_zero]
  by_cases hi : i < n
  · rw [w1cWord_getLsbD_low s page off w (by omega)]
  · simp [hi]

/-- The note of the bits that count as raised anew changes the record of the core cycle alone. -/
theorem w1cRenew_eq (page off : Nat) (w : Word) (s : State) :
    w1cRenew page off w s = { s with raised := (w1cRenew page off w s).raised } := by
  unfold w1cRenew; dsimp only; split <;> rfl

@[simp] theorem w1cRenew_rails (page off : Nat) (w : Word) (s : State) : (w1cRenew page off w s).rails = s.rails := by
  rw [w1cRenew_eq]

@[simp] theorem w1cRenew_chans (page off : Nat) (w : Word) (s : State) : (w1cRenew page off w s).chans = s.chans := by
  rw [w1cRenew_eq]

@[simp] theorem w1cRenew_sealed (page off : Nat) (w : Word) (s : State) : (w1cRenew page off w s).sealed = s.sealed := by
  rw [w1cRenew_eq]

@[simp] theorem w1cRenew_pwr (page off : Nat) (w : Word) (s : State) : (w1cRenew page off w s).pwr = s.pwr := by
  rw [w1cRenew_eq]

@[simp] theorem railCfg_w1cRenew (page off : Nat) (w : Word) (s : State) (r : RailId) :
    railCfg (w1cRenew page off w s) r = railCfg s r := by
  simp only [railCfg, w1cRenew_sealed]

@[simp] theorem raiseFrozen_w1cRenew (page off : Nat) (w : Word) (s : State) :
    raiseFrozen (w1cRenew page off w s) = raiseFrozen s := by
  rw [w1cRenew_eq]; rfl

/-- An update of a rail after that note is the update, in the core. -/
theorem core_onRail_w1cRenew (r : RailId) (f : Rail → Rail) (page off : Nat) (w : Word) (s : State) :
    SameCore (onRail r f s) (onRail r f (w1cRenew page off w s)) := by
  rw [w1cRenew_eq]
  constructor <;> intros <;> rfl

/-- A command that writes a register of a configured rail's page, while the host interfaces answer. -/
theorem onRailReg_configured {s : State} {r : RailId} {c : RailCfg} (off : Nat) (w : Word) (f : RailCfg → Word → State → State)
    (hup : hostUp s = true) (hc : railCfg s r = some c) :
    onRailReg r off w f s = f c (w1cWord s (0x10 + r.val) off w) (w1cRenew (0x10 + r.val) off w s) := by
  simp only [onRailReg, onRailPage, hup, hc, if_true, w1cDo]

end Sys2Proof.Machine
end

section
/-! PROOF. RAIL_TARGET (R186, R194, R195). -/

namespace Sys2Proof.Machine

theorem onRail_onRail (r : RailId) (f g : Rail → Rail) (s : State) : onRail r f (onRail r g s) = onRail r (f ∘ g) s := by
  simp [onRail, upd, Vector.set_set]

@[simp] theorem sndAbortRail_pos (x : Rail) : (sndAbortRail x).pos = x.pos := by
  unfold sndAbortRail; split <;> rfl

@[simp] theorem sndAbortRail_seq (x : Rail) : (sndAbortRail x).seq = x.seq := by
  unfold sndAbortRail; split <;> rfl

@[simp] theorem putTarget_hrej (src : BitVec 2) (t : Nat) (x : Rail) : (putTarget src t x).pos.hrej = x.pos.hrej := by
  unfold putTarget; dsimp only; split <;> simp

@[simp] theorem putTarget_seq (src : BitVec 2) (t : Nat) (x : Rail) : (putTarget src t x).seq = x.seq := by
  unfold putTarget; dsimp only; split <;> simp

@[simp] theorem putHost_target (s : State) (t : Nat) (x : Rail) : (putHost s t x).pos.target = BitVec.ofNat 16 t := rfl

@[simp] theorem putHost_hrej (s : State) (t : Nat) (x : Rail) : (putHost s t x).pos.hrej = x.pos.hrej := putTarget_hrej 1 t x

@[simp] theorem putHost_seq (s : State) (t : Nat) (x : Rail) : (putHost s t x).seq = x.seq := putTarget_seq 1 t x

/-- A raise freeze refuses exactly the values above TARGET (R194). -/
theorem raiseRefused_iff (s : State) (x : Rail) (t : Nat) :
    raiseRefused s x t = true ↔ raiseFrozen s = true ∧ x.pos.target.toNat < t := by
  simp [raiseRefused]

theorem hostTarget_of_taken {s : State} {r : RailId} {c : RailCfg} {v : Nat} (hon : railState s.rails[r] = 2)
    (hfree : raiseRefused s s.rails[r] (clampN c.eng.vmin c.eng.vmax v) = false) :
    hostTarget r c v s = onRail r (putHost s (clampN c.eng.vmin c.eng.vmax v)) s := by
  simp only [hostTarget, hon, hfree, Bool.not_false, and_self, if_true]

theorem hostTarget_of_refused {s : State} {r : RailId} {c : RailCfg} {v : Nat}
    (h : railState s.rails[r] ≠ 2 ∨ raiseRefused s s.rails[r] (clampN c.eng.vmin c.eng.vmax v) = true) :
    hostTarget r c v s = onRail r (fun x => { x with pos := { x.pos with hrej := true } }) s := by
  unfold hostTarget
  rw [if_neg]
  rintro ⟨hon, hfree⟩
  rcases h with h | h
  · exact h hon
  · simp only [h, Bool.not_true, Bool.false_eq_true] at hfree

/-- A refused write leaves HREJ at 1, whether or not its word clears the bit first. -/
theorem targetWrite_of_refused {s : State} {r : RailId} {c : RailCfg} {w : Word}
    (h : railState s.rails[r] ≠ 2 ∨ raiseRefused s s.rails[r] (clampN c.eng.vmin c.eng.vmax (bits w 0 16)) = true) :
    targetWrite r c w s = onRail r (fun x => { x with pos := { x.pos with hrej := true } }) s := by
  unfold targetWrite
  split
  · dsimp only
    rw [hostTarget_of_refused, onRail_onRail]
    · rfl
    · rw [onRail_get, if_pos rfl]; exact h
  · exact hostTarget_of_refused h

theorem targetWrite_of_not_clear {w : Word} (r : RailId) (c : RailCfg) (s : State) (h : bitw w 29 = false) :
    targetWrite r c w s = hostTarget r c (bits w 0 16) s := by
  simp [targetWrite, h]

/-- RAIL_TARGET_WRITE is a write to the register at offset 0x60 of the rail's page. -/
theorem exec_railTargetWrite (r : RailId) (w : Word) (s : State) :
    exec (.railTargetWrite r w) s = act (onRailReg r 0x60 w (targetWrite r)) s := rfl

/-- A write that TARGET takes (R195). -/
theorem gives_railTargetWrite_taken {s : State} {r : RailId} {c : RailCfg} {w : Word} (hup : hostUp s = true)
    (hc : railCfg s r = some c) (hw : bitw w 29 = false) (hon : railState s.rails[r] = 2)
    (hfree : raiseRefused s s.rails[r] (clampN c.eng.vmin c.eng.vmax (bits w 0 16)) = false) :
    Gives (.railTargetWrite r w) s fun t =>
      t.rails[r].pos.target = BitVec.ofNat 16 (clampN c.eng.vmin c.eng.vmax (bits w 0 16)) ∧
      t.rails[r].pos.hrej = s.rails[r].pos.hrej ∧ t.rails[r].seq = s.rails[r].seq ∧ t.chans = s.chans ∧ t.sealed = s.sealed ∧
      ∀ j : RailId, j ≠ r → { t.rails[j] with sil := {} } = { s.rails[j] with sil := {} } := by
  refine gives_act (exec_railTargetWrite r w s) ?_
  have heffect : onRailReg r 0x60 w (targetWrite r) s =
      onRail r (putHost (w1cRenew (0x10 + r.val) 0x60 w s) (clampN c.eng.vmin c.eng.vmax (bits w 0 16)))
        (w1cRenew (0x10 + r.val) 0x60 w s) := by
    rw [onRailReg_configured _ _ _ hup hc, targetWrite_of_not_clear _ _ _ (bitw_w1cWord_of_not hw),
      bits_w1cWord _ _ _ _ (Nat.le_refl 16), hostTarget_of_taken]
    · rwa [w1cRenew_rails]
    · rwa [raiseRefused, raiseFrozen_w1cRenew, w1cRenew_rails]
  rw [heffect]
  rw [settleBy_rail_pos, settleBy_rail_seq, settleBy_chans, settleBy_sealed, onRail_get, if_pos rfl, onRail_chans,
    onRail_sealed, putHost_target, putHost_hrej, putHost_seq, w1cRenew_rails, w1cRenew_chans, w1cRenew_sealed]
  refine ⟨rfl, rfl, rfl, rfl, rfl, fun j hj => ?_⟩
  rw [(settleBy_core _ _ _ _).rails j, onRail_get, if_neg hj, w1cRenew_rails]

/-- A write that is refused: HREJ, and nothing else (R195). -/
theorem becomes_railTargetWrite_refused {s : State} {r : RailId} {c : RailCfg} {w : Word} (hup : hostUp s = true)
    (hc : railCfg s r = some c)
    (h : railState s.rails[r] ≠ 2 ∨ raiseRefused s s.rails[r] (clampN c.eng.vmin c.eng.vmax (bits w 0 16)) = true) :
    Becomes (.railTargetWrite r w) s (onRail r (fun x => { x with pos := { x.pos with hrej := true } }) s) := by
  refine becomes_act (exec_railTargetWrite r w s) ?_
  rw [onRailReg_configured _ _ _ hup hc, targetWrite_of_refused]
  · exact core_onRail_w1cRenew _ _ _ _ _ _
  · rwa [bits_w1cWord _ _ _ _ (Nat.le_refl 16), raiseRefused, raiseFrozen_w1cRenew, w1cRenew_rails]

end Sys2Proof.Machine
end

section
/-! PROOF. RAIL_SLEW, a register of a rail's page that a host writes by its address (R9, R195, R423). -/

namespace Sys2Proof.Machine

theorem pageOf_railAddr (r : RailId) {off : Nat} (h : off < 256) : pageOf (railAddr r off) = 0x10 + r.val := by
  simp only [pageOf, railAddr, BitVec.toNat_ofNat]; omega

theorem offOf_railAddr (r : RailId) {off : Nat} (h : off < 256) : offOf (railAddr r off) = off := by
  simp only [offOf, railAddr, BitVec.toNat_ofNat]; omega

theorem toFin_railPage (r : RailId) : toFin 24 (0x10 + r.val - 0x10) = some r := by
  rw [Nat.add_sub_cancel_left, toFin_val]

/-- No register of a rail is a factory register (R13). -/
theorem factoryHit_railAddr (s : State) (r : RailId) {off : Nat} (h : off < 256) : factoryHit s (railAddr r off) = false := by
  have hpage : 0x10 + r.val ≠ 0xF0 := by omega
  simp [factoryHit, pageOf_railAddr r h, hpage]

/-- What an address of a configured rail's page reads. -/
theorem regVal_railAddr (i : Iface) {s : State} {r : RailId} {c : RailCfg} {off : Nat} (h : off < 256)
    (hc : railCfg s r = some c) : regVal i s (railAddr r off) = railWord s r c off := by
  have hpage : 0x10 + r.val < 0x28 := by omega
  have hlow : ∀ k < 0x10, 0x10 + r.val ≠ k := by omega
  simp [regVal, pageOf_railAddr r h, offOf_railAddr r h, hpage, hlow, hc]

/-- A write to a page of a configured rail. -/
theorem pageWrite_rail (i : Iface) {s : State} {r : RailId} {c : RailCfg} (off : Nat) (w : Word) (hc : railCfg s r = some c) :
    pageWrite i (0x10 + r.val) off w s = railWrite r c off w s := by
  have hhi : 0x10 + r.val < 0x28 := by omega
  simp [pageWrite, blockWrite, railPageWrite, pageRail, hhi, hc]

/-- A write to an occupied address of a configured rail's page (R10). -/
theorem regWrite_railAddr (i : Iface) {s : State} {r : RailId} {c : RailCfg} {off : Nat} (w : Word) (h : off < 256)
    (hc : railCfg s r = some c) (hocc : (railWord s r c off).isSome = true) :
    regWrite i (railAddr r off) w s =
      railWrite r c off (w1cWord s (0x10 + r.val) off w) (w1cRenew (0x10 + r.val) off w s) := by
  have hnone : (railWord s r c off).isNone = false := by simpa using hocc
  rw [regWrite, regVal_railAddr i h hc, hnone, if_neg (by decide), pageOf_railAddr r h, offOf_railAddr r h, w1cDo,
    pageWrite_rail]
  rwa [railCfg_w1cRenew]

theorem xferEnd_of_no_request {s : State} (h : s.pwr.softReq = false) : xferEnd s = s := by
  simp [xferEnd, h]

/-- REGISTER_WRITE outside the factory page. -/
theorem exec_registerWrite (i : Iface) {a : BitVec 16} (w : Word) {s : State} (h : factoryHit s a = false) :
    exec (.registerWrite i a w) s = act (onHost fun s => xferEnd (regWrite i a w s)) s := by
  show execRegisterWrite i a w s = _
  simp [execRegisterWrite, h]

/-- The effect of a write to RAIL_SLEW (R195). -/
theorem regWrite_railSlew (i : Iface) {s : State} {r : RailId} {c : RailCfg} (w : Word) (hc : railCfg s r = some c) :
    regWrite i (railAddr r 0x64) w s =
      onRail r (fun x => { x with pos := { x.pos with slew := BitVec.ofNat 9 (bits w 0 9) } })
        (w1cRenew (0x10 + r.val) 0x64 w s) := by
  rw [regWrite_railAddr i w (by decide) hc rfl]
  rw [← bits_w1cWord s (0x10 + r.val) 0x64 w (show 9 ≤ 16 by decide)]
  rfl

/-- RAIL_SLEW takes a host write in every state of its rail (R195). -/
theorem becomes_railSlewWrite (i : Iface) {s : State} {r : RailId} {c : RailCfg} (w : Word) (hup : hostUp s = true)
    (hreq : s.pwr.softReq = false) (hc : railCfg s r = some c) :
    Becomes (.registerWrite i (railAddr r 0x64) w) s
      (onRail r (fun x => { x with pos := { x.pos with slew := BitVec.ofNat 9 (bits w 0 9) } }) s) := by
  refine becomes_act (exec_registerWrite i w (factoryHit_railAddr s r (by decide))) ?_
  rw [onHost, if_pos hup, regWrite_railSlew i w hc, xferEnd_of_no_request]
  · exact core_onRail_w1cRenew _ _ _ _ _ _
  · rwa [onRail_pwr, w1cRenew_pwr]

/-- Settles O51: a taken write, a refused write and a write of RAIL_SLEW, each by its own lemma. -/
theorem hostTargetWrites : Obligations.HostTargetWrites := by
  unfold Obligations.HostTargetWrites
  refine ⟨fun s r c w hup hc hw hon hfree => ?taken, fun s r c w hup hc href => ?refused,
    fun s i r c w hup hreq hc => becomes_railSlewWrite i w hup hreq hc⟩
  case taken =>
    refine gives_railTargetWrite_taken hup hc hw hon ?_
    rw [← Bool.not_eq_true, raiseRefused_iff]
    rintro ⟨hfrozen, hlt⟩
    rcases hfree with hfree | ⟨hle, _⟩
    · simp [hfree] at hfrozen
    · omega
  case refused =>
    refine becomes_railTargetWrite_refused hup hc ?_
    rcases href with hoff | ⟨hfrozen, hlt, _⟩
    · exact .inl hoff
    · exact .inr ((raiseRefused_iff _ _ _).2 ⟨hfrozen, hlt⟩)

end Sys2Proof.Machine
end

section
/-! PROOF. The loss of the slow clock in slow-clock mode (R28, R373, R375). -/

namespace Sys2Proof.Machine

/-- What the loss of the slow clock makes of one timer (R373): `slowLost` applies it to every timer of the bank
(`slowLost_of_slowMode`). -/
def endOnSlowLoss (k : Timer) : Timer :=
  if k.st == .running then { k with st := .done, slow := true, stopped := false, half := none, matched := false } else k

theorem endOnSlowLoss_of_running {k : Timer} (h : k.st = .running) :
    endOnSlowLoss k = { k with st := .done, slow := true, stopped := false, half := none, matched := false } := by
  simp [endOnSlowLoss, h]

theorem endOnSlowLoss_of_not_running {k : Timer} (h : k.st ≠ .running) : endOnSlowLoss k = k := by
  simp [endOnSlowLoss, h]

/-- Without matches of a slow-clock edge at this instant there is nothing to take back (R375). -/
theorem slowUndo_of_no_match_now {s : State} (h : ∀ e, s.tmr.slowWas = some e → e.at_ ≠ s.now) : slowUndo s = s := by
  unfold slowUndo
  split
  · next e he => exact if_neg (h e he)
  · rfl

theorem slowLost_of_slowMode {s : State} (hmode : s.tmr.slowMode = true)
    (hmatch : ∀ e, s.tmr.slowWas = some e → e.at_ ≠ s.now) :
    slowLost s = { s with tmr := { s.tmr with slowErr := true, tmr := mapTab (fun _ => endOnSlowLoss) s.tmr.tmr } } := by
  simp only [slowLost, hmode, if_true, slowUndo_of_no_match_now hmatch]
  rfl

/-- Before the timers end, the loss touches the global status alone (R28). -/
theorem slowClkLost_eq_slowLost (s : State) : ∃ g : Glb, slowClkLost s = slowLost { s with glb := g } := by
  unfold slowClkLost
  split
  · exact ⟨_, rfl⟩
  · exact ⟨s.glb, rfl⟩

/-- SLOW_CLOCK_LOST in slow-clock mode: the global status, SLOWERR and the timers are all that changes. -/
theorem slowClkLost_of_slowMode {s : State} (hmode : s.tmr.slowMode = true)
    (hmatch : ∀ e, s.tmr.slowWas = some e → e.at_ ≠ s.now) :
    ∃ g : Glb, slowClkLost s =
      { s with glb := g, tmr := { s.tmr with slowErr := true, tmr := mapTab (fun _ => endOnSlowLoss) s.tmr.tmr } } := by
  obtain ⟨g, hg⟩ := slowClkLost_eq_slowLost s
  exact ⟨g, hg.trans (slowLost_of_slowMode hmode hmatch)⟩

theorem exec_slowClockLost (s : State) : exec .slowClockLost s = act slowClkLost s := rfl

/-- Settles O52: the bank after the command is the old one with SLOWERR set and `endOnSlowLoss` on every timer. -/
theorem slowClockLossEndsTimers : Obligations.SlowClockLossEndsTimers := by
  unfold Obligations.SlowClockLossEndsTimers
  intro s hmode hmatch
  refine gives_act (exec_slowClockLost s) ?_
  obtain ⟨g, heffect⟩ := slowClkLost_of_slowMode hmode hmatch
  rw [settleBy_tmr, settleBy_fifo, settleBy_sealed, settleBy_hadc, heffect]
  refine ⟨rfl, hmode, rfl, rfl, rfl, rfl, rfl, fun k => ?_⟩
  rw [mapTab_get]
  constructor
  case left =>
    intro hrun
    rw [endOnSlowLoss_of_running hrun]
    exact ⟨rfl, rfl, rfl, rfl⟩
  case right => exact endOnSlowLoss_of_not_running

end Sys2Proof.Machine
end

section
/-! PROOF. The reads of a trace FIFO, on page 0x00 (R380, R421, R432). -/

namespace Sys2Proof.Machine

theorem pageOf_ofNat_of_lt {n : Nat} (h : n < 256) : pageOf (BitVec.ofNat 16 n) = 0 := by
  simp only [pageOf, BitVec.toNat_ofNat]; omega

theorem offOf_ofNat_of_lt {n : Nat} (h : n < 256) : offOf (BitVec.ofNat 16 n) = n := by
  simp only [offOf, BitVec.toNat_ofNat]; omega

/-- What an address of page 0x00 reads, on every interface. -/
theorem regVal_page_zero (i : Iface) (s : State) {n : Nat} (h : n < 256) :
    regVal i s (BitVec.ofNat 16 n) = glbWord s n := by
  simp only [regVal, pageOf_ofNat_of_lt h, offOf_ofNat_of_lt h, if_true]

/-- The FIFO to which the register at an offset of page 0x00 belongs. -/
theorem toFin_tfifo {f : FifoId} {n : Nat} (h : n / 8 = 8 + f.val) : toFin 16 ((n - 0x40) / 8) = some f := by
  rw [show (n - 0x40) / 8 = f.val by omega, toFin_val]

/-- The two registers of a trace FIFO: the halves of its head. -/
theorem glbWord_tfifo (s : State) {f : FifoId} {n : Nat} (h : n / 8 = 8 + f.val) (haligned : n % 4 = 0) :
    glbWord s n = some (if n % 8 = 0 then (fifoHead s f).setWidth 32 else (fifoHead s f >>> 32).setWidth 32) := by
  have hrange : 0x40 ≤ n ∧ n < 0xC0 := by omega
  unfold glbWord
  rw [if_neg (not_not_intro haligned), if_pos hrange, toFin_tfifo h, Option.map_some]

theorem glbWord_tfifoLo (s : State) (f : FifoId) : glbWord s (0x40 + 8 * f.val) = some ((fifoHead s f).setWidth 32) := by
  rw [glbWord_tfifo s (f := f) (by omega) (by omega), if_pos (by omega)]

theorem glbWord_tfifoHi (s : State) (f : FifoId) :
    glbWord s (0x44 + 8 * f.val) = some ((fifoHead s f >>> 32).setWidth 32) := by
  rw [glbWord_tfifo s (f := f) (by omega) (by omega), if_neg (by omega)]

/-- A read of an occupied register of page 0x00 acts on a trace FIFO or not at all. -/
theorem readEffect_page_zero (i : Iface) {s : State} {n : Nat} (h : n < 256) (hocc : (glbWord s n).isSome = true) :
    readEffect i (BitVec.ofNat 16 n) s =
      if 0x40 ≤ n ∧ n < 0xC0 ∧ n % 8 = 4 then (toFin 16 ((n - 0x40) / 8)).elim s (fifoPop · s) else s := by
  have hnone : (glbWord s n).isNone = false := by simpa using hocc
  have hrail : pageRail s 0 = none := rfl
  simp only [readEffect, regVal_page_zero i s h, hnone, pageOf_ofNat_of_lt h, offOf_ofNat_of_lt h, hrail, true_and]
  cases toFin 16 ((n - 0x40) / 8) <;> simp

/-- A read of TFIFOf_LO returns the low half of the head and has no effect (R421). -/
theorem regRead_tfifoLo (i : Iface) (f : FifoId) (s : State) :
    regRead i (BitVec.ofNat 16 (0x40 + 8 * f.val)) s = ((fifoHead s f).setWidth 32, s) := by
  have hword := glbWord_tfifoLo s f
  rw [regRead, regVal_page_zero i s (by omega), readEffect_page_zero i (by omega) (by rw [hword]; rfl), hword,
    if_neg (by omega), Option.getD_some]

/-- A read of TFIFOf_HI returns the high half of the head and takes the head out (R421). -/
theorem regRead_tfifoHi (i : Iface) (f : FifoId) (s : State) :
    regRead i (BitVec.ofNat 16 (0x44 + 8 * f.val)) s = ((fifoHead s f >>> 32).setWidth 32, fifoPop f s) := by
  have hword := glbWord_tfifoHi s f
  rw [regRead, regVal_page_zero i s (by omega), readEffect_page_zero i (by omega) (by rw [hword]; rfl), hword,
    if_pos (by omega), toFin_tfifo (f := f) (by omega), Option.getD_some, Option.elim_some]

/-! ## The head and its removal -/

theorem fifoVoid_of_nil {s : State} {x : Tfifo} (h : x.entries = []) : fifoVoid s x = true := by
  simp [fifoVoid, h]

theorem fifoHead_of_void {s : State} {f : FifoId} (h : fifoVoid s s.fifo[f] = true) : fifoHead s f = 0 := by
  rw [fifoHead, if_pos h]

theorem fifoHead_of_not_void {s : State} {f : FifoId} (h : fifoVoid s s.fifo[f] = false) :
    fifoHead s f = s.fifo[f].entries.headD 0 := by
  rw [fifoHead, h, if_neg Bool.false_ne_true]

theorem fifoPop_of_void {s : State} {f : FifoId} (h : fifoVoid s s.fifo[f] = true) : fifoPop f s = s := by
  simp only [fifoPop, h, if_true]

/-- A FIFO has discarded nothing in this core cycle, or one discard is on record (R432). -/
theorem no_discard_or_discard (s : State) (x : Tfifo) :
    (∀ d, x.lost = some d → d.at_ ≠ cycle s) ∨ ∃ d, x.lost = some d ∧ d.at_ = cycle s := by
  by_cases h : ∃ d, x.lost = some d ∧ d.at_ = cycle s
  · exact .inr h
  · exact .inl fun d hd hnow => h ⟨d, hd, hnow⟩

/-- Nothing was discarded in this core cycle: the head goes, and nothing else changes (R421). -/
theorem fifoPop_of_no_discard {s : State} {f : FifoId} (h : fifoVoid s s.fifo[f] = false)
    (hlost : ∀ d, s.fifo[f].lost = some d → d.at_ ≠ cycle s) :
    fifoPop f s = onFifo f (fun x => { x with entries := s.fifo[f].entries.drop 1 }) s := by
  simp only [fifoPop, h, Bool.false_eq_true, if_false]
  split
  · next d hd => rw [if_neg (hlost d hd)]
  · rfl

/-- An entry was discarded in this core cycle: it stands last once the head is gone, and the pair it was part of is kept (R432). -/
theorem fifoPop_of_discard {s : State} {f : FifoId} {d : Lost} (h : fifoVoid s s.fifo[f] = false)
    (hd : s.fifo[f].lost = some d) (hnow : d.at_ = cycle s) :
    fifoPop f s = pairKept d (onFifo f (fun _ => {
      entries := s.fifo[f].entries.drop 1 ++ [d.entry], ovf := d.ovf, seq := (s.fifo[f].seq + 1) % 65536, lost := none
      fresh := some (cycle s, freshNow s s.fifo[f] + 1) }) s) := by
  simp only [fifoPop, h, Bool.false_eq_true, if_false, hd, hnow, if_true]
  rfl

@[simp] theorem pairKept_fifo (d : Lost) (s : State) : (pairKept d s).fifo = s.fifo := by
  unfold pairKept
  split
  · dsimp only
    split
    · split <;> simp
    · simp
  · rfl

/-- The entries that a read of HI leaves: those behind the head, and one discarded in this core cycle (R421, R432). -/
theorem fifoPop_entries {s : State} {f : FifoId} (h : fifoVoid s s.fifo[f] = false) :
    (fifoPop f s).fifo[f].entries =
      s.fifo[f].entries.drop 1 ++ (s.fifo[f].lost.toList.filter fun d => d.at_ == cycle s).map (·.entry) := by
  rcases no_discard_or_discard s s.fifo[f] with hlost | ⟨d, hd, hnow⟩
  · have hnil : (s.fifo[f].lost.toList.filter fun d => d.at_ == cycle s) = [] := by
      simpa [List.filter_eq_nil_iff] using hlost
    rw [fifoPop_of_no_discard h hlost, onFifo_get, if_pos rfl, hnil, List.map_nil, List.append_nil]
  · rw [fifoPop_of_discard h hd hnow, pairKept_fifo, onFifo_get, if_pos rfl, hd]
    simp [hnow]

/-- A read of HI leaves every other FIFO as it is. -/
theorem fifoPop_get_of_ne {s : State} {f g : FifoId} (hne : g ≠ f) : (fifoPop f s).fifo[g] = s.fifo[g] := by
  cases hvoid : fifoVoid s s.fifo[f]
  case true => rw [fifoPop_of_void hvoid]
  case false =>
    rcases no_discard_or_discard s s.fifo[f] with hlost | ⟨d, hd, hnow⟩
    · rw [fifoPop_of_no_discard hvoid hlost, onFifo_get, if_neg hne]
    · rw [fifoPop_of_discard hvoid hd hnow, pairKept_fifo, onFifo_get, if_neg hne]

/-! ## The 8-byte read -/

/-- Four bytes of a register word, as a number in little-endian order. -/
theorem leBytes_eq_natLe (w : Word) : leBytes w = natLe 4 w.toNat := by
  simp only [leBytes, natLe, bits, Nat.div_div_eq_div_mul]
  simp [BitVec.ofNat, Fin.ofNat]

/-- The bytes of a number in two parts. -/
theorem natLe_add (m n v : Nat) : natLe (m + n) v = natLe m v ++ natLe n (v / 256 ^ m) := by
  induction m generalizing v with
  | zero => simp [natLe]
  | succ m ih => rw [Nat.succ_add, natLe, natLe, ih, List.cons_append, Nat.div_div_eq_div_mul, Nat.pow_succ']

/-- Only the low `n` bytes count. -/
theorem natLe_mod (n v : Nat) : natLe n (v % 256 ^ n) = natLe n v := by
  induction n generalizing v with
  | zero => rfl
  | succ n ih =>
    rw [natLe, natLe, Nat.pow_succ', Nat.mod_mul_right_div_self, ih]
    congr 1
    apply BitVec.eq_of_toNat_eq
    simp

/-- LO and HI together are one whole entry (R421). -/
theorem leBytes_halves (e : BitVec 64) :
    leBytes (e.setWidth 32) ++ leBytes ((e >>> 32).setWidth 32) = natLe 8 e.toNat := by
  have hlo : leBytes (e.setWidth 32) = natLe 4 e.toNat := by
    rw [leBytes_eq_natLe, BitVec.toNat_setWidth]
    exact natLe_mod 4 _
  have hhi : leBytes ((e >>> 32).setWidth 32) = natLe 4 (e.toNat / 256 ^ 4) := by
    rw [leBytes_eq_natLe, BitVec.toNat_setWidth, BitVec.toNat_ushiftRight, Nat.shiftRight_eq_div_pow]
    exact natLe_mod 4 _
  rw [hlo, hhi]
  exact (natLe_add 4 4 _).symm

/-- Within a page and off the stream registers the address advances by one register (R380). -/
theorem nextAddr_page_zero {n : Nat} (h : n + 4 < 256) : nextAddr (BitVec.ofNat 16 n) = some (BitVec.ofNat 16 (n + 4)) := by
  have hstream : streamReg (BitVec.ofNat 16 n) = false := by
    simp only [streamReg, Bool.or_eq_false_iff, beq_eq_false_iff_ne, ne_eq, ← BitVec.toNat_inj, BitVec.toNat_ofNat]
    omega
  have hoff : offOf (BitVec.ofNat 16 n) + 4 ≤ 0xFF := by rw [offOf_ofNat_of_lt (by omega)]; omega
  simp only [nextAddr, hstream, hoff, Bool.false_eq_true, if_false, if_true, BitVec.ofNat_add]
  rfl

/-- A transfer of one register's bytes or more: the register's word, then the rest from the next address (R380). -/
theorem readBytes_register (i : Iface) (a : BitVec 16) (fuel n : Nat) (s : State) :
    readBytes i (some a) (fuel + 1) (n + 4) s =
      (leBytes (regRead i a s).1 ++ (readBytes i (nextAddr a) fuel n (regRead i a s).2).1,
        (readBytes i (nextAddr a) fuel n (regRead i a s).2).2) := by
  have htake : (leBytes (regRead i a s).1).take (n + 4) = leBytes (regRead i a s).1 :=
    List.take_of_length_le (Nat.le_add_left 4 n)
  rw [readBytes, if_neg (by omega)]
  simp only [Nat.add_sub_cancel, htake]

theorem readBytes_zero (i : Iface) (a : Option (BitVec 16)) (fuel : Nat) (s : State) :
    readBytes i a fuel 0 s = ([], a, s) := by
  cases fuel <;> rfl

/-- An 8-byte read from LO: the head, and what the read of HI does (R380, R421). -/
theorem readBytes_tfifo (i : Iface) (f : FifoId) (s : State) :
    readBytes i (some (BitVec.ofNat 16 (0x40 + 8 * f.val))) 8 8 s =
      (natLe 8 (fifoHead s f).toNat, some (BitVec.ofNat 16 (0x48 + 8 * f.val)), fifoPop f s) := by
  have hhi : nextAddr (BitVec.ofNat 16 (0x40 + 8 * f.val)) = some (BitVec.ofNat 16 (0x44 + 8 * f.val)) := by
    rw [nextAddr_page_zero (by omega), show 0x40 + 8 * f.val + 4 = 0x44 + 8 * f.val by omega]
  have hend : nextAddr (BitVec.ofNat 16 (0x44 + 8 * f.val)) = some (BitVec.ofNat 16 (0x48 + 8 * f.val)) := by
    rw [nextAddr_page_zero (by omega), show 0x44 + 8 * f.val + 4 = 0x48 + 8 * f.val by omega]
  rw [readBytes_register i _ 7 4, regRead_tfifoLo, hhi, readBytes_register i _ 6 0, regRead_tfifoHi, hend, readBytes_zero,
    List.append_nil, leBytes_halves]

/-! ## TFIFO_HI_READ -/

theorem exec_tfifoHiRead (f : FifoId) (s : State) :
    exec (.tfifoHiRead f) s = act (hostRead .smb (BitVec.ofNat 16 (0x44 + 8 * f.val))) s := rfl

/-- The effect of TFIFO_HI_READ while the host interfaces serve. -/
theorem hostRead_tfifoHi {s : State} (i : Iface) (f : FifoId) (hup : hostUp s = true) :
    hostRead i (BitVec.ofNat 16 (0x44 + 8 * f.val)) s = reply (.word ((fifoHead s f >>> 32).setWidth 32)) (fifoPop f s) := by
  rw [hostRead, if_pos hup, regRead_tfifoHi]

/-- TFIFO_HI_READ of a FIFO that holds an entry and has discarded none in this core cycle (R421). -/
theorem gives_tfifoHiRead {s : State} {f : FifoId} (hup : hostUp s = true) (hvoid : fifoVoid s s.fifo[f] = false)
    (hlost : ∀ d, s.fifo[f].lost = some d → d.at_ ≠ cycle s) :
    Gives (.tfifoHiRead f) s fun t =>
      t.resp = .word ((s.fifo[f].entries.headD 0 >>> 32).setWidth 32) ∧ t.fifo[f].entries = s.fifo[f].entries.drop 1 ∧
      t.fifo[f].ovf = s.fifo[f].ovf ∧ ∀ g : FifoId, g ≠ f → t.fifo[g] = s.fifo[g] := by
  refine gives_act (exec_tfifoHiRead f s) ?_
  rw [settleBy_resp, settleBy_fifo, hostRead_tfifoHi .smb f hup, fifoHead_of_not_void hvoid]
  have hfifo : ∀ r, (reply r (fifoPop f s)).fifo = (fifoPop f s).fifo := fun _ => rfl
  rw [hfifo, fifoPop_of_no_discard hvoid hlost, onFifo_get, if_pos rfl]
  exact ⟨rfl, rfl, rfl, fun g hne => by rw [onFifo_get, if_neg hne]⟩

/-- Settles O50: what LO, HI and an 8-byte read give is said by `regRead_tfifoLo`, `regRead_tfifoHi` and `readBytes_tfifo`;
the clauses are the cases of the head and of its removal. -/
theorem traceFifoReads : Obligations.TraceFifoReads := by
  unfold Obligations.TraceFifoReads
  have hempty (s : State) (i : Iface) (f : FifoId) (hvoid : fifoVoid s s.fifo[f] = true) :
      regRead i (BitVec.ofNat 16 (0x40 + 8 * f.val)) s = (0, s) ∧
      regRead i (BitVec.ofNat 16 (0x44 + 8 * f.val)) s = (0, s) := by
    rw [regRead_tfifoLo, regRead_tfifoHi, fifoHead_of_void hvoid, fifoPop_of_void hvoid]
    exact ⟨rfl, rfl⟩
  refine ⟨fun s i f e l he hvoid hlost => ?plain, fun s i f e l he hvoid => ?any, hempty,
    fun s i f hnil => hempty s i f (fifoVoid_of_nil hnil), fun s f hup hvoid hlost => gives_tfifoHiRead hup hvoid hlost⟩
  case plain =>
    have hhead : fifoHead s f = e := by rw [fifoHead_of_not_void hvoid, he, List.headD_cons]
    rw [regRead_tfifoLo, regRead_tfifoHi, readBytes_tfifo, hhead, fifoPop_of_no_discard hvoid hlost, he]
    exact ⟨rfl, rfl, rfl⟩
  case any =>
    have hhead : fifoHead s f = e := by rw [fifoHead_of_not_void hvoid, he, List.headD_cons]
    rw [regRead_tfifoLo, regRead_tfifoHi, hhead, fifoPop_entries hvoid, he]
    exact ⟨rfl, rfl, rfl, fun _ hne => fifoPop_get_of_ne hne⟩

end Sys2Proof.Machine
end

section
/-! PROOF. What a command and a step leave of the queue, the flash and the one-time-programmable controls: the inversion of
`exec` at the kept part, and the statements about queue and flash (R77, R82, R339, R399). -/

namespace Sys2Proof.Machine

/-- What follows from a command's effect leaves the kept part. -/
theorem kept_of_next {p : Option PortId} {o : List Nat} {s u t : State}
    (h : (.next (settleBy p o s u) : Out) = .next t) (hu : kept u = kept s) : kept t = kept s := by
  cases h
  rw [kept_settleBy, hu]

/-- What follows from a command's effect grows no further. -/
theorem grows_of_next {p : Option PortId} {o : List Nat} {s u t : State}
    (h : (.next (settleBy p o s u) : Out) = .next t) (hu : Grows s u) : Grows s t := by
  cases h
  exact hu.upto (kept_settleBy _ _ _ _)

/-- A command that may be refused answers a next state where it is not. -/
theorem next_of_ite {b : Bool} {r : Refusal} {o : Out} {t : State}
    (h : (if b = true then .refused r else o) = .next t) : o = .next t := by
  cases b
  · exact h
  · cases h

/-! ## The fields of IMG_CTRL (R87) -/

/-- A word of IMG_CTRL carries the fields that it was made of. -/
theorem imgWordOf_toNat {cmd slot rail : Nat} (hc : cmd < 16) (hs : slot < 4) (hr : rail < 32) :
    (imgWordOf cmd slot rail).toNat = 165 * 2 ^ 24 + slot * 2 ^ 16 + rail * 2 ^ 8 + cmd := by
  simp only [imgWordOf, mkWord, fld, List.sum_cons, List.sum_nil, BitVec.toNat_ofNat]
  omega

theorem imgWordOf_key {cmd slot rail : Nat} (hc : cmd < 16) (hs : slot < 4) (hr : rail < 32) :
    bits (imgWordOf cmd slot rail) 24 8 = 0xA5 := by
  simp only [bits, imgWordOf_toNat hc hs hr]; omega

theorem imgWordOf_cmd {cmd slot rail : Nat} (hc : cmd < 16) (hs : slot < 4) (hr : rail < 32) :
    bits (imgWordOf cmd slot rail) 0 4 = cmd := by
  simp only [bits, imgWordOf_toNat hc hs hr]; omega

theorem imgWordOf_slot {cmd slot rail : Nat} (hc : cmd < 16) (hs : slot < 4) (hr : rail < 32) :
    bits (imgWordOf cmd slot rail) 16 2 = slot := by
  simp only [bits, imgWordOf_toNat hc hs hr]; omega

theorem imgWordOf_rail {cmd slot rail : Nat} (hc : cmd < 16) (hs : slot < 4) (hr : rail < 32) :
    bits (imgWordOf cmd slot rail) 8 5 = rail := by
  simp only [bits, imgWordOf_toNat hc hs hr]; omega

/-- A command of IMG_CTRL by its fields. -/
theorem imgCmd_eq {cmd slot rail : Nat} (hc : cmd < 16) (hs : slot < 4) (hr : rail < 32) (s : State) :
    imgCmd cmd slot rail s = onHost (fun s =>
      if imgFields cmd slot rail = false then imgIgnore s
      else if cmd = 8 then imgAbort s
      else if s.img.phase ≠ .idle then imgReject s
      else imgRun cmd slot rail s) s := by
  have hw : imgCtrl (imgWordOf cmd slot rail) = fun s =>
      if imgFields cmd slot rail = false then imgIgnore s
      else if cmd = 8 then imgAbort s
      else if s.img.phase ≠ .idle then imgReject s
      else imgRun cmd slot rail s := by
    funext s
    simp only [imgCtrl, imgWordOf_key hc hs hr, imgWordOf_cmd hc hs hr, imgWordOf_slot hc hs hr, imgWordOf_rail hc hs hr,
      ne_eq, not_true_eq_false, Bool.not_eq_true', false_or]
  rw [imgCmd, hw]

/-- The commands of IMG_CTRL that neither erase nor blow a fuse when they are given (R82, R86). -/
theorem kept_imgCmd {cmd : Nat} (h : cmd ∈ [1, 2, 3, 4, 5, 6, 7, 8, 10, 11]) {slot rail : Nat} (hs : slot < 4) (hr : rail < 32)
    (s : State) : kept (imgCmd cmd slot rail s) = kept s := by
  have hcmd : cmd < 16 := by
    have hall : ∀ n ∈ [1, 2, 3, 4, 5, 6, 7, 8, 10, 11], n < 16 := by decide
    exact hall cmd h
  rw [imgCmd_eq hcmd hs hr]
  refine kept_onHost _ (fun s => ?_) s
  split
  · exact kept_imgIgnore s
  · split
    · exact kept_imgAbort s
    · next hne =>
      split
      · exact kept_imgReject s
      · simp only [List.mem_cons, List.not_mem_nil, or_false] at h
        rcases h with h | h | h | h | h | h | h | h | h | h <;> subst h <;> simp only [imgRun, slotGuard] <;>
          (repeat' split) <;> simp at hne ⊢

/-- Outside SLOT_ERASE a command of IMG_CTRL leaves the flash as it is when it is given. -/
theorem flash_imgCmd_otp {cmd slot : Nat} (h : cmd = 12 ∨ cmd = 13) (hs : slot < 4) (s : State) :
    (imgCmd cmd slot 0 s).flash = s.flash := by
  have hreject : ∀ s, (imgReject s).flash = s.flash := fun s => (kept_fields (kept_imgReject s)).2.1
  have hrun : ∀ s, (imgRun cmd slot 0 s).flash = s.flash := by
    intro s
    rcases h with h | h <;> subst h
    · simp only [imgRun, revokeKey]
      (repeat' split) <;> rfl
    · simp only [imgRun, epochNext]
      (repeat' split) <;> rfl
  have hcmd : cmd < 16 := by omega
  rw [imgCmd_eq hcmd hs (by decide), onHost]
  split
  · split
    · exact (kept_fields (kept_imgIgnore s)).2.1
    · split
      · exact (kept_fields (kept_imgAbort s)).2.1
      · split
        · exact hreject s
        · exact hrun s
  · rfl

/-! ## Commands -/

/-- The commands that program a one-time-programmable control (R77, R399). -/
def writesOtp : Instr → Bool
  | .revoke _ | .epochAdvance | .keyprog _ => true
  | _ => false

/-- Every command but those that write the flash or program a fuse leaves queue, flash and one-time-programmable controls. -/
theorem kept_exec {c : Instr} {s t : State} (hf : mayWriteFlash c = false) (ho : writesOtp c = false)
    (h : exec c s = .next t) : kept t = kept s := by
  cases c
  case i3cPrivateRead n => exact kept_of_next (next_of_ite h) (kept_i3cRead n s)
  case loadAuto => exact kept_of_next h (kept_imgCmd (by decide) (by decide) (by decide) s)
  case loadA => exact kept_of_next h (kept_imgCmd (by decide) (by decide) (by decide) s)
  case loadB => exact kept_of_next h (kept_imgCmd (by decide) (by decide) (by decide) s)
  case loadHost => exact kept_of_next h (kept_imgCmd (by decide) (by decide) (by decide) s)
  case abort => exact kept_of_next h (kept_imgCmd (by decide) (by decide) (by decide) s)
  case slotCheck slot => exact kept_of_next h (kept_imgCmd (by decide) slot.isLt (by decide) s)
  case slotWrite slot => exact kept_of_next h (kept_imgCmd (by decide) slot.isLt (by decide) s)
  case slotCommit slot => exact kept_of_next h (kept_imgCmd (by decide) slot.isLt (by decide) s)
  case patchBegin n => exact kept_of_next h (kept_imgCmd (by decide) (by decide) n.isLt s)
  case patchApply n => exact kept_of_next h (kept_imgCmd (by decide) (by decide) n.isLt s)
  all_goals first
    | exact Bool.noConfusion hf
    | exact Bool.noConfusion ho
    | exact kept_of_next h (by simp)

end Sys2Proof.Machine
end

section
/-! PROOF. The soft-reset request and AUTHREQ: `still s` is that part of the state, and one lemma per operation says that the
operation leaves it as it is (R334, R399). -/

namespace Sys2Proof.Machine

/-- The soft-reset request of the present transfer (R334) and AUTHREQ (R399). -/
def still (s : State) : Bool × Bool := (s.pwr.softReq, s.otp.authReq)

@[simp ↓] theorem still_mk (pending now agenda free resp respPec chans banks rails ports hadc thm nvl nrd tmr fifo pwr ka glb img sealed otp
    hif tap pins nl irqEn raised flash) :
    still (State.mk pending now agenda free resp respPec chans banks rails ports hadc thm nvl nrd tmr fifo pwr ka glb img sealed otp
      hif tap pins nl irqEn raised flash) = (pwr.softReq, otp.authReq) := rfl

@[simp] theorem still_fold (s : State) : (s.pwr.softReq, s.otp.authReq) = still s := rfl

@[simp] theorem still_ite (c : Prop) [Decidable c] (a b : State) : still (if c then a else b) = if c then still a else still b := by
  split <;> rfl

theorem still_fields {s t : State} (h : still t = still s) : t.pwr.softReq = s.pwr.softReq ∧ t.otp.authReq = s.otp.authReq := by
  simpa only [still, Prod.mk.injEq] using h

@[simp] theorem still_forEach {α : Type} (l : List α) (f : α → State → State) (h : ∀ a s, still (f a s) = still s) (s : State) :
    still (forEach l f s) = still s := forEach_keeps still l f h s

@[simp] theorem still_onRail (r : RailId) (f : Rail → Rail) (s : State) : still (onRail r f s) = still s := by
  unfold onRail; rfl

@[simp] theorem still_onBank (b : BankId) (f : Bank → Bank) (s : State) : still (onBank b f s) = still s := by
  unfold onBank; rfl

@[simp] theorem still_onChan (ch : ChanId) (f : Chan → Chan) (s : State) : still (onChan ch f s) = still s := by
  unfold onChan; rfl

@[simp] theorem still_onPort (p : PortId) (f : Port → Port) (s : State) : still (onPort p f s) = still s := by
  unfold onPort; rfl

@[simp] theorem still_onTimer (t : TimerId) (f : Timer → Timer) (s : State) : still (onTimer t f s) = still s := by
  unfold onTimer; rfl

@[simp] theorem still_onFifo (i : FifoId) (f : Tfifo → Tfifo) (s : State) : still (onFifo i f s) = still s := by
  unfold onFifo; rfl

@[simp] theorem still_onChans (l : List Nat) (f : Nat → Chan → Chan) (s : State) : still (onChans l f s) = still s := by
  unfold onChans; rfl

@[simp] theorem still_onBanks (l : List Nat) (f : Bank → Bank) (s : State) : still (onBanks l f s) = still s := by
  unfold onBanks; rfl

@[simp] theorem still_probeBegin (l : List Nat) (s : State) : still (probeBegin l s) = still s := by unfold probeBegin; rfl

@[simp] theorem still_onCfgRails (f : RailId → RailCfg → Rail → Rail) (s : State) : still (onCfgRails f s) = still s := by
  unfold onCfgRails; rfl

@[simp] theorem still_reply (r : Resp) (s : State) : still (reply r s) = still s := by unfold reply; rfl

@[simp] theorem still_arm (dt : Nat) (e : Instr) (s : State) : still (arm dt e s) = still s := by unfold arm; rfl

@[simp] theorem still_disarm (p : Instr → Bool) (s : State) : still (disarm p s) = still s := by unfold disarm; rfl

@[simp] theorem still_rearm (dt : Nat) (e : Instr) (s : State) : still (rearm dt e s) = still s := by unfold rearm; rfl

@[simp] theorem still_onFire (e : Instr) (f : State → State) (h : ∀ s, still (f s) = still s) (s : State) :
    still (onFire e f s) = still s := by
  unfold onFire fire
  by_cases hc : isDue e s
  · simp [hc, h]
  · simp [hc]

@[simp] theorem still_disarmSeq (r : RailId) (s : State) : still (disarmSeq r s) = still s := by unfold disarmSeq; rfl

@[simp] theorem still_drawFree (s : State) : still (drawFree s).2 = still s := rfl

@[simp] theorem still_pinInputs (s : State) : still (pinInputs s) = still s := by unfold pinInputs; rfl

@[simp] theorem still_wiped (s : State) : still (wiped s) = still s := by unfold wiped; rfl

@[simp] theorem still_w1cRenew (page off : Nat) (w : Word) (s : State) : still (w1cRenew page off w s) = still s := by
  unfold w1cRenew; simp

@[simp] theorem still_w1cDo (page off : Nat) (w : Word) (f : Word → State → State)
    (h : ∀ w s, still (f w s) = still s) (s : State) : still (w1cDo page off w f s) = still s := by
  unfold w1cDo
  simp [h]

@[simp] theorem still_roundSpoil (b : BankId) (s : State) : still (roundSpoil b s) = still s := by unfold roundSpoil; rfl

@[simp] theorem still_brefEvent (b : BankId) (s : State) : still (brefEvent b s) = still s := by unfold brefEvent; simp

@[simp] theorem still_brefEvents (l : List Nat) (s : State) : still (brefEvents l s) = still s := by
  unfold brefEvents
  exact still_forEach _ _ (fun a s => by split <;> simp) _

@[simp] theorem still_brefRelease (b : BankId) (s : State) : still (brefRelease b s) = still s := by unfold brefRelease; simp

@[simp] theorem still_lateBack (l : List Nat) (s : State) : still (lateBack l s) = still s := by unfold lateBack; rfl

@[simp] theorem still_safeChans (l : List Nat) (s : State) : still (safeChans l s) = still s := by unfold safeChans; simp

@[simp] theorem still_freeChans (r : RailId) (c : RailCfg) (s : State) : still (freeChans r c s) = still s := by
  unfold freeChans; simp

@[simp] theorem still_stopCarriers (r : RailId) (c : RailCfg) (s : State) : still (stopCarriers r c s) = still s := by
  unfold stopCarriers; rfl

@[simp] theorem still_offAccord (r : RailId) (c : RailCfg) (s : State) : still (offAccord r c s) = still s := by
  unfold offAccord; rfl

@[simp] theorem still_pgLow (r : RailId) (s : State) : still (pgLow r s) = still s := by unfold pgLow; rfl

@[simp] theorem still_sndAbort (r : RailId) (s : State) : still (sndAbort r s) = still s := by unfold sndAbort; rfl

@[simp] theorem still_sndDrop (r : RailId) (s : State) : still (sndDrop r s) = still s := by unfold sndDrop; rfl

@[simp] theorem still_railHalt (r : RailId) (s : State) : still (railHalt r s) = still s := by unfold railHalt; rfl

@[simp] theorem still_latchTrip (r : RailId) (c : RailCfg) (cause : BitVec 2) (wh : Nat) (s : State) :
    still (latchTrip r c cause wh s) = still s := by
  unfold latchTrip; simp

@[simp] theorem still_btsfLatch (r : RailId) (c : RailCfg) (b : Nat) (s : State) : still (btsfLatch r c b s) = still s := by
  unfold btsfLatch; simp

@[simp] theorem still_latchProt (r : RailId) (c : RailCfg) (cause : BitVec 3) (s : State) :
    still (latchProt r c cause s) = still s := by
  unfold latchProt; simp

@[simp] theorem still_macerRail (r : RailId) (s : State) : still (macerRail r s) = still s := by
  unfold macerRail; (repeat' split) <;> simp

@[simp] theorem still_blotBreak (s : State) : still (blotBreak s) = still s := by unfold blotBreak; simp

@[simp] theorem still_macerDev (s : State) : still (macerDev s) = still s := by unfold macerDev; (repeat' split) <;> simp

@[simp] theorem still_releaseRail (r : RailId) (c : RailCfg) (s : State) : still (releaseRail r c s) = still s := by
  unfold releaseRail; simp

@[simp] theorem still_bdLatch (r : RailId) (c : RailCfg) (s : State) : still (bdLatch r c s) = still s := by
  unfold bdLatch; simp

@[simp] theorem still_fatalRail (rc : RailId × RailCfg) (s : State) : still (fatalRail rc s) = still s := by
  unfold fatalRail; simp

@[simp] theorem still_fatalEnter (cause : BitVec 3) (s : State) : still (fatalEnter cause s) = still s := by
  unfold fatalEnter; simp

@[simp] theorem still_pwrReject (s : State) : still (pwrReject s) = still s := by unfold pwrReject; rfl

@[simp] theorem still_fatalFirst (s : State) : still (fatalFirst s) = still s := by unfold fatalFirst; simp

@[simp] theorem still_fatalRaise (cause : BitVec 3) (mark : Glb → Glb) (s : State) :
    still (fatalRaise cause mark s) = still s := by
  unfold fatalRaise; simp

@[simp] theorem still_urgentReq (user : ConvUser) (input : Nat) (s : State) : still (urgentReq user input s) = still s := by
  unfold urgentReq; rfl

@[simp] theorem still_freezeAll (l : List Nat) (s : State) : still (freezeAll l s) = still s := by unfold freezeAll; simp

@[simp] theorem still_queueOne (old : State) (n : Nat) (s : State) : still (queueOne old n s) = still s := by
  unfold queueOne; simp

@[simp] theorem still_queueAll (old : State) (l : List Nat) (s : State) : still (queueAll old l s) = still s := by
  unfold queueAll; simp

@[simp] theorem still_ibiSettle (oldPend : List Nat) (s : State) : still (ibiSettle oldPend s) = still s := by
  unfold ibiSettle; rfl

@[simp] theorem still_alertSettle (by_ : Option PortId) (old s : State) : still (alertSettle by_ old s) = still s := by
  unfold alertSettle; rfl

@[simp] theorem still_raisedPut (was : List Bool) (l : List Nat) (s : State) : still (raisedPut was l s) = still s := by
  unfold raisedPut; simp

@[simp] theorem still_settleBy (by_ : Option PortId) (occ : List Nat) (old s : State) : still (settleBy by_ occ old s) = still s := by
  unfold settleBy; simp

@[simp] theorem still_settle (occ : List Nat) (old s : State) : still (settle occ old s) = still s := by unfold settle; simp

@[simp] theorem still_moveTo (r : RailId) (p0 sl dest : Nat) (s : State) : still (moveTo r p0 sl dest s) = still s := by
  unfold moveTo; simp

@[simp] theorem still_moveStop (r : RailId) (s : State) : still (moveStop r s) = still s := by unfold moveStop; rfl

@[simp] theorem still_vselWrite (r : RailId) (p : PortId) (t : Nat) (s : State) : still (vselWrite r p t s) = still s := by
  unfold vselWrite; simp

@[simp] theorem still_terminalTarget (r : RailId) (c : RailCfg) (s : State) : still (terminalTarget r c s) = still s := by
  unfold terminalTarget
  dsimp only
  (repeat' split) <;> simp

@[simp] theorem still_hostTarget (r : RailId) (c : RailCfg) (v : Nat) (s : State) : still (hostTarget r c v s) = still s := by
  unfold hostTarget; simp

@[simp] theorem still_swOn (r : RailId) (c : RailCfg) (s : State) : still (swOn r c s) = still s := by unfold swOn; rfl

@[simp] theorem still_swOff (r : RailId) (c : RailCfg) (s : State) : still (swOff r c s) = still s := by unfold swOff; rfl

@[simp] theorem still_swDischarge (r : RailId) (c : RailCfg) (s : State) : still (swDischarge r c s) = still s := by
  unfold swDischarge; rfl

@[simp] theorem still_ovLatch (r : RailId) (c : RailCfg) (s : State) : still (ovLatch r c s) = still s := by
  unfold ovLatch; simp

@[simp] theorem still_uvLatch (r : RailId) (c : RailCfg) (s : State) : still (uvLatch r c s) = still s := by
  unfold uvLatch; simp

@[simp] theorem still_snsLatch (r : RailId) (c : RailCfg) (neg : Bool) (s : State) : still (snsLatch r c neg s) = still s := by
  unfold snsLatch; simp

@[simp] theorem still_pgStart (r : RailId) (c : RailCfg) (s : State) : still (pgStart r c s) = still s := by unfold pgStart; rfl

@[simp] theorem still_pgArm (r : RailId) (c : RailCfg) (s : State) : still (pgArm r c s) = still s := by unfold pgArm; simp

@[simp] theorem still_pgDisarm (r : RailId) (s : State) : still (pgDisarm r s) = still s := by unfold pgDisarm; rfl

@[simp] theorem still_disarmState (r : RailId) (s : State) : still (disarmState r s) = still s := by unfold disarmState; rfl

@[simp] theorem still_startDuration (r : RailId) (d : Nat) (s : State) : still (startDuration r d s) = still s := by
  unfold startDuration; simp

@[simp] theorem still_rampBegin (r : RailId) (c : RailCfg) (s : State) : still (rampBegin r c s) = still s := by
  unfold rampBegin
  dsimp only
  (repeat' split) <;> simp

@[simp] theorem still_beginAction (r : RailId) (c : RailCfg) (s : State) : still (beginAction r c s) = still s := by
  unfold beginAction
  dsimp only
  (repeat' split) <;> simp

@[simp] theorem still_enterState (r : RailId) (c : RailCfg) (i : Nat) (s : State) : still (enterState r c i s) = still s := by
  unfold enterState; simp

@[simp] theorem still_startRail (r : RailId) (c : RailCfg) (s : State) : still (startRail r c s) = still s := by
  unfold startRail
  extract_lets f t x
  have ht : still t = still s := by simp [t]
  (repeat' split) <;> simp [ht]

@[simp] theorem still_stopRail (r : RailId) (c : RailCfg) (s : State) : still (stopRail r c s) = still s := by
  unfold stopRail; simp

@[simp] theorem still_seqCmd (r : RailId) (c : RailCfg) (cmd : Nat) (s : State) : still (seqCmd r c cmd s) = still s := by
  unfold seqCmd; (repeat' split) <;> simp

@[simp] theorem still_seqWrite (r : RailId) (c : RailCfg) (w : Word) (s : State) : still (seqWrite r c w s) = still s := by
  unfold seqWrite; simp

@[simp] theorem still_tripRelease (r : RailId) (c : RailCfg) (s : State) : still (tripRelease r c s) = still s := by
  unfold tripRelease; simp

@[simp] theorem still_tripWrite (r : RailId) (c : RailCfg) (w : Word) (s : State) : still (tripWrite r c w s) = still s := by
  unfold tripWrite; simp

@[simp] theorem still_protRelease (r : RailId) (c : RailCfg) (s : State) : still (protRelease r c s) = still s := by
  unfold protRelease; simp

@[simp] theorem still_protWrite (r : RailId) (c : RailCfg) (w : Word) (s : State) : still (protWrite r c w s) = still s := by
  unfold protWrite; simp

@[simp] theorem still_countTrip (r : RailId) (c : RailCfg) (ch : ChanId) (s : State) :
    still (countTrip r c ch s) = still s := by
  unfold countTrip; simp

@[simp] theorem still_phaseTrip (ch : ChanId) (s : State) : still (phaseTrip ch s) = still s := by
  unfold phaseTrip; (repeat' split) <;> simp

@[simp] theorem still_startTrip (r : RailId) (c : RailCfg) (ch : ChanId) (odd : Bool) (s : State) :
    still (startTrip r c ch odd s) = still s := by
  unfold startTrip; simp

@[simp] theorem still_padHold (old s : State) : still (padHold old s) = still s := by unfold padHold; simp

@[simp] theorem still_throttleOn (r : RailId) (c : RailCfg) (s : State) : still (throttleOn r c s) = still s := by
  unfold throttleOn
  dsimp only
  split <;> simp

@[simp] theorem still_throttleOff (r : RailId) (c : RailCfg) (s : State) : still (throttleOff r c s) = still s := by
  unfold throttleOff; simp

@[simp] theorem still_throttleRail (rc : RailId × RailCfg) (s : State) : still (throttleRail rc s) = still s := by
  unfold throttleRail; simp

@[simp] theorem still_throttleAll (s : State) : still (throttleAll s) = still s := by unfold throttleAll; simp

@[simp] theorem still_throttleStepped (r : RailId) (c : RailCfg) (s : State) : still (throttleStepped r c s) = still s := by
  unfold throttleStepped; simp

@[simp] theorem still_budgetRail (r : RailId) (c : RailCfg) (b : Nat) (s : State) : still (budgetRail r c b s) = still s := by
  unfold budgetRail; simp

@[simp] theorem still_budgetWrite (p : PortId) (w : Word) (s : State) : still (budgetWrite p w s) = still s := by
  unfold budgetWrite
  exact (still_forEach _ _ (fun a s => by (repeat' split) <;> simp) _).trans rfl

@[simp] theorem still_budgetStepped (r : RailId) (c : RailCfg) (s : State) : still (budgetStepped r c s) = still s := by
  unfold budgetStepped; simp

@[simp] theorem still_distribute (r : RailId) (c : RailCfg) (s : State) : still (distribute r c s) = still s := by
  unfold distribute; rfl

@[simp] theorem still_coriPut (c : RailCfg) (q : Nat) (s : State) : still (coriPut c q s) = still s := by
  unfold coriPut
  split
  · exact still_onChan _ _ _
  · rfl

@[simp] theorem still_wordsPut (r : RailId) (t : Nat) (s : State) : still (wordsPut r t s) = still s := by unfold wordsPut; simp

@[simp] theorem still_coriSample (r : RailId) (c : RailCfg) (ef c5 : Int) (s : State) : still (coriSample r c ef c5 s) = still s := by
  unfold coriSample
  dsimp only
  (repeat' split) <;> simp

@[simp] theorem still_wordsTake (rc : RailId × RailCfg) (s : State) : still (wordsTake rc s) = still s := by
  unfold wordsTake
  dsimp only
  (repeat' split) <;> simp

@[simp] theorem still_silRecord (r : RailId) (c : RailCfg) (s : State) : still (silRecord r c s) = still s := by
  unfold silRecord; rfl

@[simp] theorem still_prebSample (r : RailId) (c : RailCfg) (code : Int) (s : State) :
    still (prebSample r c code s) = still s := by
  unfold prebSample; simp

@[simp] theorem still_silAgain (r : RailId) (w : BitVec 64) (s : State) : still (silAgain r w s) = still s := by
  unfold silAgain; rfl

@[simp] theorem still_remark (e : Nat) (rc : RailId × RailCfg) (s : State) : still (remark e rc s) = still s := by
  unfold remark
  dsimp only
  (repeat' split) <;> simp

@[simp] theorem still_loopSample (r : RailId) (c : RailCfg) (ef : Int) (acts : Bool) (s : State) :
    still (loopSample r c ef acts s) = still s := by
  unfold loopSample; simp

@[simp] theorem still_eadcSample (r : RailId) (c : RailCfg) (vpin : Int) (s : State) :
    still (eadcSample r c vpin s) = still s := by
  unfold eadcSample; simp

@[simp] theorem still_coefWrite (r : RailId) (w : Word) (s : State) : still (coefWrite r w s) = still s := by
  unfold coefWrite; rfl

@[simp] theorem still_sndWrite (r : RailId) (w : Word) (s : State) : still (sndWrite r w s) = still s := by
  unfold sndWrite; simp

@[simp] theorem still_sndStart (r : RailId) (c : RailCfg) (s : State) : still (sndStart r c s) = still s := by
  unfold sndStart; simp

@[simp] theorem still_sndRep (r : RailId) (m : Nat) (c : RailCfg) (s : State) : still (sndRep r m c s) = still s := by
  unfold sndRep; rfl

@[simp] theorem still_sndSample (r : RailId) (k : Nat) (s : State) : still (sndSample r k s) = still s := by
  unfold sndSample; rfl

@[simp] theorem still_sndTick (r : RailId) (c : RailCfg) (s : State) : still (sndTick r c s) = still s := by
  unfold sndTick; simp

@[simp] theorem still_sndVolt (r : RailId) (c : RailCfg) (v1 : Int) (late : Bool) (s : State) :
    still (sndVolt r c v1 late s) = still s := by
  unfold sndVolt; simp

@[simp] theorem still_sndTaken (r : RailId) (c : RailCfg) (k : Nat) (code : Int) (wait : Nat) (s : State) :
    still (sndTaken r c k code wait s) = still s := by
  unfold sndTaken; simp

@[simp] theorem still_sndFinish (r : RailId) (c : RailCfg) (s : State) : still (sndFinish r c s) = still s := by
  unfold sndFinish; simp

@[simp] theorem still_thrRenew (r : RailId) (c : RailCfg) (l : List Nat) (s : State) : still (thrRenew r c l s) = still s := by
  unfold thrRenew; rfl

@[simp] theorem still_thrLoad (r : RailId) (c : RailCfg) (s : State) : still (thrLoad r c s) = still s := by unfold thrLoad; rfl

@[simp] theorem still_stepSet (r : RailId) (c : RailCfg) (n : Nat) (mask : Word) (d : Option StepDec) (s : State) :
    still (stepSet r c n mask d s) = still s := by
  unfold stepSet; rfl

@[simp] theorem still_applyDue (r : RailId) (c : RailCfg) (s : State) : still (applyDue r c s) = still s := by
  unfold applyDue
  dsimp only
  (repeat' split) <;> simp

@[simp] theorem still_applyStep (r : RailId) (c : RailCfg) (s : State) : still (applyStep r c s) = still s := by
  unfold applyStep
  dsimp only
  (repeat' split) <;> simp

@[simp] theorem still_loadTarget (r : RailId) (c : RailCfg) (s : State) : still (loadTarget r c s) = still s := by
  unfold loadTarget
  dsimp only
  (repeat' split) <;> simp

@[simp] theorem still_loadRest (r : RailId) (c : RailCfg) (s : State) : still (loadRest r c s) = still s := by
  unfold loadRest; rfl

@[simp] theorem still_bdStart (r : RailId) (c : RailCfg) (s : State) : still (bdStart r c s) = still s := by
  unfold bdStart
  dsimp only
  (repeat' split) <;> simp

@[simp] theorem still_bdEnd (r : RailId) (c : RailCfg) (s : State) : still (bdEnd r c s) = still s := by
  unfold bdEnd
  dsimp only
  (repeat' split) <;> simp

@[simp] theorem still_bdPeriod (r : RailId) (c : RailCfg) (s : State) : still (bdPeriod r c s) = still s := by
  unfold bdPeriod; simp

@[simp] theorem still_fifoPush (f : FifoId) (e : Nat → BitVec 64) (s : State) : still (fifoPush f e s).1 = still s := by
  unfold fifoPush
  dsimp only
  (repeat' split) <;> simp

@[simp] theorem still_telPush (r : RailId) (s : State) : still (telPush r s) = still s := by
  unfold telPush; (repeat' split) <;> simp

@[simp] theorem still_rotateStep (r : RailId) (c : RailCfg) (s : State) : still (rotateStep r c s) = still s := by
  unfold rotateStep; simp

@[simp] theorem still_rotateCount (r : RailId) (s : State) : still (rotateCount r s) = still s := by unfold rotateCount; simp

@[simp] theorem still_carriersBegin (r : RailId) (c : RailCfg) (s : State) : still (carriersBegin r c s) = still s := by
  unfold carriersBegin; rfl

@[simp] theorem still_mcsStep (r : RailId) (c : RailCfg) (s : State) : still (mcsStep r c s) = still s := by
  unfold mcsStep; simp

@[simp] theorem still_masterStart (r : RailId) (c : RailCfg) (s : State) : still (masterStart r c s) = still s := by
  unfold masterStart; simp

@[simp] theorem still_phBypass (r : RailId) (c : RailCfg) (q : Nat) (s : State) : still (phBypass r c q s) = still s := by
  unfold phBypass; simp

@[simp] theorem still_phRestore (r : RailId) (c : RailCfg) (q : Nat) (s : State) : still (phRestore r c q s) = still s := by
  unfold phRestore; simp

@[simp] theorem still_phBalance (r : RailId) (rot : Bool) (q : Nat) (s : State) : still (phBalance r rot q s) = still s := by
  unfold phBalance; simp

@[simp] theorem still_phcmdWrite (r : RailId) (c : RailCfg) (w : Word) (s : State) : still (phcmdWrite r c w s) = still s := by
  unfold phcmdWrite; (repeat' split) <;> simp

@[simp] theorem still_isliceTake (ch : ChanId) (v : Int) (s : State) : still (isliceTake ch v s) = still s := by
  unfold isliceTake; simp

@[simp] theorem still_roundApply (r : RailId) (c : RailCfg) (s : State) : still (roundApply r c s) = still s := by
  unfold roundApply
  exact (still_forEach _ _ (fun a s => by split <;> simp) _).trans rfl

@[simp] theorem still_roundAdd (r : RailId) (c : RailCfg) (q : Nat) (m : Smp) (v : Int) (s : State) :
    still (roundAdd r c q m v s) = still s := by
  unfold roundAdd; simp

@[simp] theorem still_negLimit (r : RailId) (c : RailCfg) (ch : ChanId) (q : Nat) (amps : Int) (s : State) :
    still (negLimit r c ch q amps s) = still s := by
  unfold negLimit; simp

@[simp] theorem still_isliceDone (ch : ChanId) (s : State) : still (isliceDone ch s) = still s := by
  unfold isliceDone
  dsimp only
  (repeat' split) <;> simp

@[simp] theorem still_ofsSet (r : RailId) (c : RailCfg) (q : Nat) (sum : Int) (s : State) :
    still (ofsSet r c q sum s) = still s := by
  unfold ofsSet; (repeat' split) <;> simp

@[simp] theorem still_calDone (r : RailId) (c : RailCfg) (sums : List Int) (s : State) :
    still (calDone r c sums s) = still s := by
  unfold calDone; simp

@[simp] theorem still_brefWindow (b : BankId) (up : Bool) (s : State) : still (brefWindow b up s) = still s := by
  unfold brefWindow; simp

@[simp] theorem still_btsfAct (b : BankId) (s : State) : still (btsfAct b s) = still s := by unfold btsfAct; simp

@[simp] theorem still_btsfChange (b : BankId) (up : Bool) (s : State) : still (btsfChange b up s) = still s := by
  unfold btsfChange; simp

@[simp] theorem still_setTj (s : State) : still (setTj s) = still s := by
  unfold setTj
  dsimp only
  (repeat' split) <;> simp

@[simp] theorem still_bandDecide (t : TbandCfg) (s : State) : still (bandDecide t s) = still s := by unfold bandDecide; simp

@[simp] theorem still_thermalReading (i : Fin 32) (mean : Int) (s : State) : still (thermalReading i mean s) = still s := by
  unfold thermalReading; (repeat' split) <;> simp

@[simp] theorem still_thermalEval (s : State) : still (thermalEval s) = still s := by
  unfold thermalEval; (repeat' split) <;> simp

@[simp] theorem still_slotOpen (s : State) : still (slotOpen s) = still s := by unfold slotOpen; simp

@[simp] theorem still_hostTrigger (tmr : Bool) (s : State) : still (hostTrigger tmr s) = still s := by unfold hostTrigger; rfl

@[simp] theorem still_reqWrite (w : Word) (s : State) : still (reqWrite w s) = still s := by unfold reqWrite; simp

@[simp] theorem still_avgWrite (w : Word) (s : State) : still (avgWrite w s) = still s := by unfold avgWrite; rfl

@[simp] theorem still_supplyResult (i : Nat) (code : Int) (s : State) : still (supplyResult i code s) = still s := by
  unfold supplyResult; rfl

@[simp] theorem still_roundEnd (d : List Bool) (s : State) : still (roundEnd d s) = still s := by unfold roundEnd; simp

@[simp] theorem still_refResult (i : Nat) (code : Int) (s : State) : still (refResult i code s) = still s := by
  unfold refResult; simp

@[simp] theorem still_excludeOdd (s : State) : still (excludeOdd s) = still s := by unfold excludeOdd; simp

@[simp] theorem still_refWrite (w : Word) (s : State) : still (refWrite w s) = still s := by
  unfold refWrite
  extract_lets m m1 ok m2 t
  split
  · exact still_mk ..
  · exact (still_forEach _ _ (fun a s => by
      split
      · dsimp only
        split <;> simp
      · rfl) _).trans rfl

@[simp] theorem still_holdResult (mean : Int) (s : State) : still (holdResult mean s) = still s := by
  unfold holdResult
  dsimp only
  split <;> simp

@[simp] theorem still_discBegin (s : State) : still (discBegin s) = still s := by unfold discBegin; rfl

@[simp] theorem still_csResult (b : Nat) (code : Int) (at_ : Nat) (s : State) : still (csResult b code at_ s) = still s := by
  unfold csResult
  split
  · rfl
  · dsimp only
    (repeat' split) <;> simp

@[simp] theorem still_entryFeed (i : Nat) (e : HadcEntry) (code : Int) (at_ : Nat) (s : State) :
    still (entryFeed i e code at_ s) = still s := by
  unfold entryFeed; (repeat' split) <;> simp

@[simp] theorem still_entryResult (i : Nat) (code : Int) (mark : HMark) (at_ : Nat) (s : State) :
    still (entryResult i code mark at_ s) = still s := by
  unfold entryResult; (repeat' split) <;> simp

@[simp] theorem still_selfTestResult (code : Int) (mark : HMark) (s : State) :
    still (selfTestResult code mark s) = still s := by
  unfold selfTestResult; simp

@[simp] theorem still_convDone (v : Int) (s : State) : still (convDone v s) = still s := by
  unfold convDone
  dsimp only
  (repeat' split) <;> simp

@[simp] theorem still_discWrite (w : Word) (s : State) : still (discWrite w s) = still s := by unfold discWrite; simp

@[simp] theorem still_writeClasses (forRun : Bool) (mask : BitVec 24) (probes : List (ChanId × Probe)) (s : State) :
    still (writeClasses forRun mask probes s) = still s := by
  unfold writeClasses; simp

@[simp] theorem still_discRail (forRun : Bool) (rc : RailId × RailCfg) (s : State) :
    still (discRail forRun rc s) = still s := by
  unfold discRail; simp

@[simp] theorem still_banksMarked (mask : BitVec 24) (s : State) : still (banksMarked mask s) = still s := by
  unfold banksMarked; rfl

@[simp] theorem still_discPart (probes : List (ChanId × Probe)) (s : State) : still (discPart probes s) = still s := by
  unfold discPart; simp

@[simp] theorem still_discFinish (probes : List (ChanId × Probe)) (s : State) : still (discFinish probes s) = still s := by
  unfold discFinish; simp

@[simp] theorem still_writeLast (ch k : Nat) (s : State) : still (writeLast ch k s) = still s := by
  unfold writeLast; (repeat' split) <;> simp

@[simp] theorem still_discOne (b : Nat) (flt : Bool) (s : State) : still (discOne b flt s) = still s := by unfold discOne; rfl

@[simp] theorem still_restoreDone (r : RailId) (c : RailCfg) (p : Probe) (cal : Int) (s : State) :
    still (restoreDone r c p cal s) = still s := by
  unfold restoreDone
  dsimp only
  (repeat' split) <;> simp

@[simp] theorem still_media (cause : BitVec 4) (s : State) : still (media cause s) = still s := by unfold media; rfl

@[simp] theorem still_eraseLater (wait k : Nat) (s : State) : still (eraseLater wait k s) = still s := by unfold eraseLater; rfl

@[simp] theorem still_gateArm (s : State) : still (gateArm s) = still s := by unfold gateArm; simp

@[simp] theorem still_scanRead (s : State) : still (scanRead s) = still s := by unfold scanRead; rfl

@[simp] theorem still_endurance (s : State) : still (endurance s) = still s := by unfold endurance; rfl

@[simp] theorem still_scanStart (s : State) : still (scanStart s) = still s := by unfold scanStart; rfl

@[simp] theorem still_testStart (s : State) : still (testStart s) = still s := by unfold testStart; simp

@[simp] theorem still_blotSample (s : State) : still (blotSample s) = still s := by unfold blotSample; (repeat' split) <;> simp

@[simp] theorem still_testWaiting (s : State) : still (testWaiting s) = still s := by unfold testWaiting; simp

@[simp] theorem still_testEnd (vh dv : Int) (dt : Nat) (s : State) : still (testEnd vh dv dt s) = still s := by
  unfold testEnd; simp

@[simp] theorem still_dropHead (s : State) : still (dropHead s) = still s := by unfold dropHead; simp

@[simp] theorem still_gateHold (s : State) : still (gateHold s) = still s := by unfold gateHold; rfl

@[simp] theorem still_gateTest (s : State) : still (gateTest s) = still s := by unfold gateTest; simp

@[simp] theorem still_advance (s : State) : still (advance s) = still s := by unfold advance; simp

@[simp] theorem still_erasePending (s : State) : still (erasePending s) = still s := by unfold erasePending; simp

@[simp] theorem still_rdctrlWrite (w : Word) (s : State) : still (rdctrlWrite w s) = still s := by
  unfold rdctrlWrite
  dsimp only
  (repeat' split) <;> simp

@[simp] theorem still_fetchDone (s : State) : still (fetchDone s) = still s := by unfold fetchDone; (repeat' split) <;> simp

@[simp] theorem still_rddataNext (s : State) : still (rddataNext s) = still s := by unfold rddataNext; simp

@[simp] theorem still_timeTick (s : State) : still (timeTick s) = still s := by unfold timeTick; rfl

@[simp] theorem still_timeWrite (w : Word) (s : State) : still (timeWrite w s) = still s := by unfold timeWrite; rfl

@[simp] theorem still_nvlCfgWrite (w : Word) (s : State) : still (nvlCfgWrite w s) = still s := by unfold nvlCfgWrite; rfl

@[simp] theorem still_blotWrite (w : Word) (s : State) : still (blotWrite w s) = still s := by unfold blotWrite; simp

@[simp] theorem still_tmrRefuse (s : State) : still (tmrRefuse s) = still s := by unfold tmrRefuse; rfl

@[simp] theorem still_tmrErr (s : State) : still (tmrErr s) = still s := by unfold tmrErr; rfl

@[simp] theorem still_matchThese (l : List (Nat × Timer)) (s : State) : still (matchThese l s) = still s := by
  unfold matchThese; simp

@[simp] theorem still_matchGroup (t : TimerId) (s : State) : still (matchGroup t s) = still s := by unfold matchGroup; simp

@[simp] theorem still_tmrCmd (t : TimerId) (cmd : Nat) (s : State) : still (tmrCmd t cmd s) = still s := by
  unfold tmrCmd
  dsimp only
  (repeat' split) <;> simp

@[simp] theorem still_tmrCmdWrite (w : Word) (s : State) : still (tmrCmdWrite w s) = still s := by
  unfold tmrCmdWrite; (repeat' split) <;> simp

@[simp] theorem still_gstart (mask : Word) (s : State) : still (gstart mask s) = still s := by unfold gstart; simp

@[simp] theorem still_tmrCfg (i : Iface) (w : Word) (s : State) : still (tmrCfg i w s) = still s := by unfold tmrCfg; simp

@[simp] theorem still_matchWrite (t : TimerId) (w : Word) (s : State) : still (matchWrite t w s) = still s := by
  unfold matchWrite; simp

@[simp] theorem still_pairLost (t : TimerId) (f : FifoId) (old s : State) : still (pairLost t f old s) = still s := by
  unfold pairLost; simp

@[simp] theorem still_pairDone (t : TimerId) (first n : Nat) (rising : Bool) (s : State) :
    still (pairDone t first n rising s) = still s := by
  unfold pairDone
  dsimp only
  (repeat' split) <;> simp

@[simp] theorem still_captureEdge (t : TimerId) (rising : Bool) (s : State) : still (captureEdge t rising s) = still s := by
  unfold captureEdge
  dsimp only
  (repeat' split) <;> simp

@[simp] theorem still_slowTick (s : State) : still (slowTick s) = still s := by unfold slowTick; simp

@[simp] theorem still_slowLeave (s : State) : still (slowLeave s) = still s := by unfold slowLeave; rfl

@[simp] theorem still_slowUndo (s : State) : still (slowUndo s) = still s := by
  unfold slowUndo
  dsimp only
  (repeat' split) <;> simp

@[simp] theorem still_slowLost (s : State) : still (slowLost s) = still s := by unfold slowLost; simp

@[simp] theorem still_tmrReset (s : State) : still (tmrReset s) = still s := by unfold tmrReset; rfl

@[simp] theorem still_nlSend (ty : BitVec 4) (pl : Word) (s : State) : still (nlSend ty pl s) = still s := by
  unfold nlSend; simp

@[simp] theorem still_nlHello (s : State) : still (nlHello s) = still s := by unfold nlHello; simp

@[simp] theorem still_nlDisarm (s : State) : still (nlDisarm s) = still s := by unfold nlDisarm; rfl

@[simp] theorem still_nlSetRole (r : NlRole) (mid : BitVec 6) (s : State) : still (nlSetRole r mid s) = still s := by
  unfold nlSetRole; rfl

@[simp] theorem still_nlStepDown (s : State) : still (nlStepDown s) = still s := by unfold nlStepDown; simp

@[simp] theorem still_nlListen (s : State) : still (nlListen s) = still s := by unfold nlListen; simp

@[simp] theorem still_nlWatch (s : State) : still (nlWatch s) = still s := by unfold nlWatch; rfl

@[simp] theorem still_nlFollow (id : BitVec 6) (s : State) : still (nlFollow id s) = still s := by unfold nlFollow; simp

@[simp] theorem still_nlSent (acked : Bool) (s : State) : still (nlSent acked s) = still s := by unfold nlSent; simp

@[simp] theorem still_nlClaimSend (wait : Nat) (s : State) : still (nlClaimSend wait s) = still s := by unfold nlClaimSend; simp

@[simp] theorem still_nlListenDone (acked : Bool) (s : State) : still (nlListenDone acked s) = still s := by
  unfold nlListenDone; simp

@[simp] theorem still_nlHelloDue (acked : Bool) (s : State) : still (nlHelloDue acked s) = still s := by unfold nlHelloDue; simp

@[simp] theorem still_nlLost (s : State) : still (nlLost s) = still s := by unfold nlLost; simp

@[simp] theorem still_nlRenegotiate (s : State) : still (nlRenegotiate s) = still s := by unfold nlRenegotiate; simp

@[simp] theorem still_nlCmdWrite (w : Word) (s : State) : still (nlCmdWrite w s) = still s := by unfold nlCmdWrite; simp

@[simp] theorem still_nlArb (lost : Bool) (s : State) : still (nlArb lost s) = still s := by unfold nlArb; simp

@[simp] theorem still_nlRetry (lost : Bool) (s : State) : still (nlRetry lost s) = still s := by unfold nlRetry; simp

@[simp] theorem still_nlDup (s : State) : still (nlDup s) = still s := by unfold nlDup; rfl

@[simp] theorem still_nlClaim (id : BitVec 6) (pl : Word) (s : State) : still (nlClaim id pl s) = still s := by
  unfold nlClaim; simp

@[simp] theorem still_nlMasterGone (id : BitVec 6) (s : State) : still (nlMasterGone id s) = still s := by
  unfold nlMasterGone; simp

@[simp] theorem still_nlYield (id : BitVec 6) (pl : Word) (s : State) : still (nlYield id pl s) = still s := by
  unfold nlYield; simp

@[simp] theorem still_nlTimebase (id : BitVec 6) (pl : Word) (s : State) : still (nlTimebase id pl s) = still s := by
  unfold nlTimebase; simp

@[simp] theorem still_nlHelloIn (id : BitVec 6) (pl : Word) (s : State) : still (nlHelloIn id pl s) = still s := by
  unfold nlHelloIn; simp

@[simp] theorem still_nlDropPeer (id : BitVec 6) (s : State) : still (nlDropPeer id s) = still s := by unfold nlDropPeer; simp

@[simp] theorem still_nlLeave (id : BitVec 6) (pl : Word) (s : State) : still (nlLeave id pl s) = still s := by
  unfold nlLeave; simp

@[simp] theorem still_nlCrcErr (s : State) : still (nlCrcErr s) = still s := by unfold nlCrcErr; rfl

@[simp] theorem still_nlBitErr (s : State) : still (nlBitErr s) = still s := by unfold nlBitErr; rfl

@[simp] theorem still_nlBad (k : NlFault) (s : State) : still (nlBad k s) = still s := by unfold nlBad; (repeat' split) <;> simp

@[simp] theorem still_boundaryLoad (hi : BitVec 20) (s : State) : still (boundaryLoad hi s) = still s := by
  unfold boundaryLoad; simp

@[simp] theorem still_pulseSet (b : BankId) (old : Bank) (s : State) : still (pulseSet b old s) = still s := by
  unfold pulseSet; simp

@[simp] theorem still_nlSyncIn (s : State) : still (nlSyncIn s) = still s := by
  unfold nlSyncIn
  dsimp only
  (repeat' split) <;> simp

@[simp] theorem still_nlMasterPulse (b : BankId) (s : State) : still (nlMasterPulse b s) = still s := by
  unfold nlMasterPulse; simp

@[simp] theorem still_syncPulse (b : BankId) (s : State) : still (syncPulse b s) = still s := by
  unfold syncPulse; (repeat' split) <;> simp

@[simp] theorem still_onIsland (r : RailId) (f : RailCfg → State → State) (h : ∀ c s, still (f c s) = still s) (s : State) :
    still (onIsland r f s) = still s := by
  unfold onIsland
  (repeat' split) <;> simp [h]

@[simp] theorem still_onGrid (e : Instr) (r : RailId) (f : RailCfg → State → State) (h : ∀ c s, still (f c s) = still s) (s : State) :
    still (onGrid e r f s) = still s := by
  unfold onGrid
  apply still_onFire
  intro s
  split <;> simp [h]

@[simp] theorem still_onDue (e : Instr) (r : RailId) (f : RailCfg → State → State) (h : ∀ c s, still (f c s) = still s) (s : State) :
    still (onDue e r f s) = still s := by
  unfold onDue
  simp [h]

@[simp] theorem still_tripLatch (r : RailId) (ch : ChanId) (c : RailCfg) (s : State) :
    still (tripLatch r ch c s) = still s := by
  unfold tripLatch; (repeat' split) <;> simp

@[simp] theorem still_masterDue (r : RailId) (c : RailCfg) (s : State) : still (masterDue r c s) = still s := by
  unfold masterDue; simp

@[simp] theorem still_carrierZero (ch : ChanId) (s : State) : still (carrierZero ch s) = still s := by
  unfold carrierZero; (repeat' split) <;> simp

@[simp] theorem still_edgeAct (ch : ChanId) (on : Bool) (s : State) : still (edgeAct ch on s) = still s := by
  unfold edgeAct; (repeat' split) <;> simp

@[simp] theorem still_eadcDue (vpin : Int) (r : RailId) (c : RailCfg) (s : State) : still (eadcDue vpin r c s) = still s := by
  unfold eadcDue; simp

@[simp] theorem still_trimSatSet (r : RailId) (q : Nat) (s : State) : still (trimSatSet r q s) = still s := by
  unfold trimSatSet; rfl

@[simp] theorem still_phaseLimit (ch : ChanId) (up : Bool) (s : State) : still (phaseLimit ch up s) = still s := by
  unfold phaseLimit; simp

@[simp] theorem still_brefClose (b : BankId) (s : State) : still (brefClose b s) = still s := by unfold brefClose; rfl

@[simp] theorem still_rawTrips (c : RailCfg) (s : State) : still (rawTrips c s) = still s := by
  unfold rawTrips
  exact still_forEach _ _ (fun a s => by (repeat' split) <;> simp) _

@[simp] theorem still_rawBtsf (l : List Nat) (s : State) : still (rawBtsf l s) = still s := by unfold rawBtsf; simp

@[simp] theorem still_holdSafe (c : RailCfg) (s : State) : still (holdSafe c s) = still s := by unfold holdSafe; simp

@[simp] theorem still_brefMoved (old s : State) : still (brefMoved old s) = still s := by unfold brefMoved; simp

@[simp] theorem still_wdogStart (s : State) : still (wdogStart s) = still s := by unfold wdogStart; rfl

@[simp] theorem still_sealNelink (s : State) : still (sealNelink s) = still s := by unfold sealNelink; simp

@[simp] theorem still_vselAgain (s : State) : still (vselAgain s) = still s := by
  unfold vselAgain
  exact still_forEach _ _ (fun a s => by dsimp only; (repeat' split) <;> simp) _

@[simp] theorem still_sealImage (im : ImageCfg) (src : BitVec 2) (s : State) : still (sealImage im src s) = still s := by
  unfold sealImage; simp

@[simp] theorem still_patchChans (n : RailId) (old : List Nat) (s : State) : still (patchChans n old s) = still s := by
  unfold patchChans; rfl

@[simp] theorem still_commitPatch (n : RailId) (c : RailCfg) (s : State) : still (commitPatch n c s) = still s := by
  unfold commitPatch; simp

@[simp] theorem still_readGens (s : State) : still (readGens s) = still s := by unfold readGens; rfl

@[simp] theorem still_imgIgnore (s : State) : still (imgIgnore s) = still s := by unfold imgIgnore; rfl

@[simp] theorem still_imgIdle (s : State) : still (imgIdle s) = still s := by unfold imgIdle; simp

@[simp] theorem still_putErr (e : LdErr) (s : State) : still (putErr e s) = still s := by unfold putErr; rfl

@[simp] theorem still_imgReject (s : State) : still (imgReject s) = still s := by unfold imgReject; rfl

@[simp] theorem still_imgErr (e : LdErr) (s : State) : still (imgErr e s) = still s := by unfold imgErr; rfl

@[simp] theorem still_imgFail (e : LdErr) (s : State) : still (imgFail e s) = still s := by unfold imgFail; simp

@[simp] theorem still_imgDone (s : State) : still (imgDone s) = still s := by unfold imgDone; simp

@[simp] theorem still_imgBegin (op : ImgOp) (ph : ImgPhase) (s : State) : still (imgBegin op ph s) = still s := by
  unfold imgBegin; rfl

@[simp] theorem still_imgOpen (op : ImgOp) (ph : ImgPhase) (s : State) : still (imgOpen op ph s) = still s := by
  unfold imgOpen; rfl

@[simp] theorem still_winRefuse (s : State) : still (winRefuse s) = still s := by unfold winRefuse; rfl

@[simp] theorem still_qspiBegin (op : ImgOp) (s : State) : still (qspiBegin op s) = still s := by unfold qspiBegin; rfl

@[simp] theorem still_bootStart (s : State) : still (bootStart s) = still s := by unfold bootStart; simp

@[simp] theorem still_qspiSeal (im : ImageCfg) (b fb : Bool) (s : State) : still (qspiSeal im b fb s) = still s := by
  unfold qspiSeal; simp

@[simp] theorem still_qspiDone (l : List Bool) (flashId : Byte) (s : State) : still (qspiDone l flashId s) = still s := by
  unfold qspiDone
  dsimp only
  (repeat' split) <;> simp

@[simp] theorem still_oneSlot (b : Bool) (flashId : Byte) (s : State) : still (oneSlot b flashId s) = still s := by
  unfold oneSlot; simp

@[simp] theorem still_hostDone (s : State) : still (hostDone s) = still s := by unfold hostDone; (repeat' split) <;> simp

@[simp] theorem still_fullDone (flashId : Byte) (s : State) : still (fullDone flashId s) = still s := by
  unfold fullDone; (repeat' split) <;> simp

@[simp] theorem still_streamEnd (s : State) : still (streamEnd s) = still s := by
  unfold streamEnd
  dsimp only
  (repeat' split) <;> simp

@[simp] theorem still_streamFail (e : LdErr) (s : State) : still (streamFail e s) = still s := by unfold streamFail; simp

@[simp] theorem still_streamHeader (s : State) : still (streamHeader s) = still s := by
  unfold streamHeader; (repeat' split) <;> simp

@[simp] theorem still_slotGuard (b : Bool) (f : State → State) (h : ∀ s, still (f s) = still s) (s : State) :
    still (slotGuard b f s) = still s := by
  unfold slotGuard
  simp [h]

@[simp] theorem still_putErased (b v : Bool) (s : State) : still (putErased b v s) = still s := by unfold putErased; rfl

@[simp] theorem still_putChecked (b v : Bool) (s : State) : still (putChecked b v s) = still s := by unfold putChecked; rfl

@[simp] theorem still_writeBegin (b : Bool) (s : State) : still (writeBegin b s) = still s := by unfold writeBegin; rfl

@[simp] theorem still_commitBegin (b : Bool) (s : State) : still (commitBegin b s) = still s := by unfold commitBegin; simp

@[simp] theorem still_slotCheckEnd (flashId : Byte) (s : State) : still (slotCheckEnd flashId s) = still s := by
  unfold slotCheckEnd; (repeat' split) <;> simp

@[simp] theorem still_writeStopped (s : State) : still (writeStopped s) = still s := by
  unfold writeStopped; (repeat' split) <;> simp

@[simp] theorem still_applyBegin (n : Nat) (s : State) : still (applyBegin n s) = still s := by
  unfold applyBegin; (repeat' split) <;> simp

@[simp] theorem still_patchDone (s : State) : still (patchDone s) = still s := by unfold patchDone; (repeat' split) <;> simp

@[simp] theorem still_imgAbort (s : State) : still (imgAbort s) = still s := by unfold imgAbort; simp

@[simp] theorem still_ctlSound (r : RailId) (s : State) : still (ctlSound r s) = still s := by unfold ctlSound; rfl

@[simp] theorem still_ctlDisc (s : State) : still (ctlDisc s) = still s := by
  have e : ∀ d l, still (writeClasses false d l s) = still s := fun d l => still_writeClasses false d l s
  unfold ctlDisc
  simp only [still_ite, still_mk, (still_fields (e _ _)).1, (still_fields (e _ _)).2]
  simp only [still_fold, ite_self]

@[simp] theorem still_ctlFields (s : State) : still (ctlFields s) = still s := by unfold ctlFields; simp

@[simp] theorem still_islandReset (s : State) : still (islandReset s) = still s := by unfold islandReset; rfl

@[simp] theorem still_strapRead (s : State) : still (strapRead s) = still s := by unfold strapRead; rfl

@[simp] theorem still_ibiAgain (s : State) : still (ibiAgain s) = still s := by unfold ibiAgain; simp

@[simp] theorem still_hadcBegin (s : State) : still (hadcBegin s) = still s := by unfold hadcBegin; rfl

@[simp] theorem still_ctlStart (s : State) : still (ctlStart s) = still s := by
  unfold ctlStart
  dsimp only
  (repeat' split) <;> simp

@[simp] theorem still_ctlReset (kind : BitVec 3) (s : State) : still (ctlReset kind s) = still s := by unfold ctlReset; simp

@[simp] theorem still_epochZero (s : State) : still (epochZero s) = still s := by unfold epochZero; rfl

@[simp] theorem still_ctlRelease (s : State) : still (ctlRelease s) = still s := by unfold ctlRelease; simp

@[simp] theorem still_wakeStart (src : BitVec 2) (s : State) : still (wakeStart src s) = still s := by unfold wakeStart; simp

@[simp] theorem still_wakeFail (s : State) : still (wakeFail s) = still s := by unfold wakeFail; rfl

@[simp] theorem still_wakeSupplies (s : State) : still (wakeSupplies s) = still s := by unfold wakeSupplies; simp

@[simp] theorem still_wakeSupFail (s : State) : still (wakeSupFail s) = still s := by unfold wakeSupFail; simp

@[simp] theorem still_pllStart (s : State) : still (pllStart s) = still s := by unfold pllStart; rfl

@[simp] theorem still_dllStart (s : State) : still (dllStart s) = still s := by unfold dllStart; rfl

@[simp] theorem still_wakeRef (rc : Bool) (s : State) : still (wakeRef rc s) = still s := by unfold wakeRef; simp

@[simp] theorem still_wakePll (s : State) : still (wakePll s) = still s := by unfold wakePll; simp

@[simp] theorem still_wakePllFail (s : State) : still (wakePllFail s) = still s := by unfold wakePllFail; simp

@[simp] theorem still_wakeDllFail (s : State) : still (wakeDllFail s) = still s := by unfold wakeDllFail; simp

@[simp] theorem still_rawAll (s : State) : still (rawAll s) = still s := by unfold rawAll; simp

@[simp] theorem still_brownoutStands (s : State) : still (brownoutStands s) = still s := by unfold brownoutStands; simp

@[simp] theorem still_enterReady (s : State) : still (enterReady s) = still s := by unfold enterReady; simp

@[simp] theorem still_wakeDll (s : State) : still (wakeDll s) = still s := by
  unfold wakeDll
  dsimp only
  (repeat' split) <;> simp

@[simp] theorem still_wakeRestore (ok : Bool) (s : State) : still (wakeRestore ok s) = still s := by
  unfold wakeRestore
  dsimp only
  (repeat' split) <;> simp

@[simp] theorem still_startUndo (s : State) : still (startUndo s) = still s := by unfold startUndo; simp

@[simp] theorem still_offStart (s : State) : still (offStart s) = still s := by unfold offStart; simp

@[simp] theorem still_leaveReady (s : State) : still (leaveReady s) = still s := by unfold leaveReady; simp

@[simp] theorem still_offStandby (s : State) : still (offStandby s) = still s := by unfold offStandby; simp

@[simp] theorem still_runDiscover (s : State) : still (runDiscover s) = still s := by unfold runDiscover; rfl

@[simp] theorem still_runStart (s : State) : still (runStart s) = still s := by unfold runStart; simp

@[simp] theorem still_runBand (s : State) : still (runBand s) = still s := by unfold runBand; simp

@[simp] theorem still_runExpire (s : State) : still (runExpire s) = still s := by unfold runExpire; simp

@[simp] theorem still_enterRun (s : State) : still (enterRun s) = still s := by unfold enterRun; simp

@[simp] theorem still_discEnd (probes : List (ChanId × Probe)) (s : State) : still (discEnd probes s) = still s := by
  unfold discEnd; simp

@[simp] theorem still_wakeYield (s : State) : still (wakeYield s) = still s := by unfold wakeYield; (repeat' split) <;> simp

@[simp] theorem still_tookGo (n : Nat) (s : State) : still (tookGo n s) = still s := by unfold tookGo; rfl

@[simp] theorem still_enterStandby (s : State) : still (enterStandby s) = still s := by unfold enterStandby; simp

@[simp] theorem still_wakePulse (ns : Nat) (s : State) : still (wakePulse ns s) = still s := by unfold wakePulse; simp

@[simp] theorem still_softReset (s : State) : still (softReset s) = still s := by unfold softReset; simp

@[simp] theorem still_wdogExpire (s : State) : still (wdogExpire s) = still s := by unfold wdogExpire; simp

@[simp] theorem still_wdogKick (s : State) : still (wdogKick s) = still s := by unfold wdogKick; simp

@[simp] theorem still_pwrWdogWrite (w : Word) (s : State) : still (pwrWdogWrite w s) = still s := by unfold pwrWdogWrite; simp

@[simp] theorem still_vddStep (up : Bool) (s : State) : still (vddStep up s) = still s := by unfold vddStep; simp

@[simp] theorem still_vddaStep (up : Bool) (s : State) : still (vddaStep up s) = still s := by unfold vddaStep; simp

@[simp] theorem still_dpwmStep (lost : Bool) (s : State) : still (dpwmStep lost s) = still s := by unfold dpwmStep; simp

@[simp] theorem still_pllDrop (s : State) : still (pllDrop s) = still s := by unfold pllDrop; simp

@[simp] theorem still_dllDrop (s : State) : still (dllDrop s) = still s := by unfold dllDrop; simp

@[simp] theorem still_pllGain (s : State) : still (pllGain s) = still s := by unfold pllGain; simp

@[simp] theorem still_dllGain (s : State) : still (dllGain s) = still s := by unfold dllGain; simp

@[simp] theorem still_refLost (s : State) : still (refLost s) = still s := by unfold refLost; simp

@[simp] theorem still_slowClkLost (s : State) : still (slowClkLost s) = still s := by unfold slowClkLost; simp

@[simp] theorem still_fatalRelease (s : State) : still (fatalRelease s) = still s := by unfold fatalRelease; simp

@[simp] theorem still_fatalWrite (w : Word) (s : State) : still (fatalWrite w s) = still s := by unfold fatalWrite; simp

@[simp] theorem still_scrubOne (e : ScrubErr) (s : State) : still (scrubOne e s) = still s := by unfold scrubOne; simp

@[simp] theorem still_scrubPass (errs : List ScrubErr) (s : State) : still (scrubPass errs s) = still s := by
  unfold scrubPass; simp

@[simp] theorem still_portTarget (r : RailId) (t : Nat) (s : State) : still (portTarget r t s) = still s := by
  unfold portTarget; rfl

@[simp] theorem still_portSlew (r : RailId) (v : Nat) (s : State) : still (portSlew r v s) = still s := by unfold portSlew; rfl

@[simp] theorem still_linkFail (p : PortId) (cause : LinkCause) (s : State) : still (linkFail p cause s) = still s := by
  unfold linkFail; rfl

@[simp] theorem still_vselTake (p : PortId) (j : Nat) (s : State) : still (vselTake p j s) = still s := by
  unfold vselTake
  exact (still_forEach _ _ (fun a s => by (repeat' split) <;> simp) _).trans (by simp)

@[simp] theorem still_vselStep (p : PortId) (j : Fin 8) (s : State) : still (vselStep p j s) = still s := by
  unfold vselStep; simp

@[simp] theorem still_v2answer (p : PortId) (f : BitVec 32) (a : Ack) (data : Nat) (s : State) :
    still (v2answer p f a data s) = still s := by
  unfold v2answer; rfl

@[simp] theorem still_v2read (p : PortId) (f : BitVec 32) (s : State) : still (v2read p f s) = still s := by
  unfold v2read
  dsimp only
  (repeat' split) <;> simp

@[simp] theorem still_v2rail' (p : PortId) (f : BitVec 32) (ovr : Bool) (r : RailId) (c : RailCfg) (s : State) :
    still (v2rail' p f ovr r c s) = still s := by
  unfold v2rail'
  dsimp only
  (repeat' split) <;> simp

@[simp] theorem still_v2frame (p : PortId) (f : BitVec 32) (ovr : Bool) (s : State) : still (v2frame p f ovr s) = still s := by
  unfold v2frame; (repeat' split) <;> simp

@[simp] theorem still_v1answer (p : PortId) (a : Ack) (data : Nat) (s : State) : still (v1answer p a data s) = still s := by
  unfold v1answer; rfl

@[simp] theorem still_v1rail' (p : PortId) (f : BitVec 16) (ovr : Bool) (r : RailId) (c : RailCfg) (s : State) :
    still (v1rail' p f ovr r c s) = still s := by
  unfold v1rail'
  dsimp only
  (repeat' split) <;> simp

@[simp] theorem still_v1frame (p : PortId) (f : BitVec 16) (ovr : Bool) (s : State) : still (v1frame p f ovr s) = still s := by
  unfold v1frame; (repeat' split) <;> simp

@[simp] theorem still_avsAnswer (p : PortId) (sel : BitVec 4) (a : Ack) (data : Option (BitVec 16)) (s : State) :
    still (avsAnswer p sel a data s) = still s := by
  unfold avsAnswer
  dsimp only
  (repeat' split) <;> simp

@[simp] theorem still_avsReply (p : PortId) (sel : BitVec 4) (b : Ack) (data : Option (BitVec 16)) (s : State) :
    still (avsReply p sel b data s) = still s := by
  unfold avsReply; simp

@[simp] theorem still_avsDo (ty : BitVec 4) (d : BitVec 16) (rc : RailId × RailCfg) (s : State) :
    still (avsDo ty d rc s) = still s := by
  unfold avsDo; simp

@[simp] theorem still_avsCommit (p : PortId) (ty sel : BitVec 4) (d : BitVec 16) (s : State) :
    still (avsCommit p ty sel d s) = still s := by
  unfold avsCommit; simp

@[simp] theorem still_avsHeldOne (p : PortId) (ovr : Bool) (h : BitVec 4 × BitVec 4 × BitVec 16) (s : State) :
    still (avsHeldOne p ovr h s) = still s := by
  unfold avsHeldOne; (repeat' split) <;> simp

@[simp] theorem still_avsHeld (p : PortId) (ovr : Bool) (s : State) : still (avsHeld p ovr s) = still s := by
  unfold avsHeld; simp

@[simp] theorem still_avsWrite (p : PortId) (ty sel : BitVec 4) (d : BitVec 16) (ovr : Bool) (s : State) :
    still (avsWrite p ty sel d ovr s) = still s := by
  unfold avsWrite; simp

@[simp] theorem still_avsHold (p : PortId) (ty sel : BitVec 4) (d : BitVec 16) (s : State) :
    still (avsHold p ty sel d s) = still s := by
  unfold avsHold; simp

@[simp] theorem still_avsRead (p : PortId) (sel : BitVec 4) (v : Rail → Nat) (s : State) :
    still (avsRead p sel v s) = still s := by
  unfold avsRead; (repeat' split) <;> simp

@[simp] theorem still_avsStatRead (p : PortId) (sel : BitVec 4) (s : State) : still (avsStatRead p sel s) = still s := by
  unfold avsStatRead; simp

@[simp] theorem still_avsVersRead (p : PortId) (sel : BitVec 4) (s : State) : still (avsVersRead p sel s) = still s := by
  unfold avsVersRead; simp

@[simp] theorem still_avsNothing (p : PortId) (sel : BitVec 4) (why : AvsBad) (s : State) :
    still (avsNothing p sel why s) = still s := by
  unfold avsNothing; (repeat' split) <;> simp

@[simp] theorem still_accErr (s : State) : still (accErr s) = still s := by unfold accErr; rfl

@[simp] theorem still_bistStart (b : BankId) (s : State) : still (bistStart b s) = still s := by unfold bistStart; simp

@[simp] theorem still_bistWrite (b : BankId) (w : Word) (s : State) : still (bistWrite b w s) = still s := by
  unfold bistWrite; simp

@[simp] theorem still_bistEnd (b : BankId) (map : Byte) (item : BitVec 4) (s : State) :
    still (bistEnd b map item s) = still s := by
  unfold bistEnd; simp

@[simp] theorem still_silFreeze (r : RailId) (s : State) : still (silFreeze r s) = still s := by unfold silFreeze; simp

@[simp] theorem still_silRearm (r : RailId) (s : State) : still (silRearm r s) = still s := by
  unfold silRearm
  dsimp only
  split <;> rfl

@[simp] theorem still_silWrite (r : RailId) (w : Word) (s : State) : still (silWrite r w s) = still s := by
  unfold silWrite; simp

@[simp] theorem still_silErr (r : RailId) (s : State) : still (silErr r s) = still s := by unfold silErr; rfl

@[simp] theorem still_silReadLo (r : RailId) (s : State) : still (silReadLo r s) = still s := by unfold silReadLo; simp

@[simp] theorem still_silReadHi (r : RailId) (s : State) : still (silReadHi r s) = still s := by unfold silReadHi; simp

@[simp] theorem still_countRead (i : Iface) (s : State) : still (countRead i s) = still s := by unfold countRead; simp

@[simp] theorem still_pairKept (l : Lost) (s : State) : still (pairKept l s) = still s := by
  unfold pairKept
  dsimp only
  (repeat' split) <;> simp

@[simp] theorem still_fifoPop (f : FifoId) (s : State) : still (fifoPop f s) = still s := by
  unfold fifoPop
  dsimp only
  (repeat' split) <;> simp

@[simp] theorem still_readEffect (i : Iface) (a : BitVec 16) (s : State) : still (readEffect i a s) = still s := by
  unfold readEffect
  dsimp only
  (repeat' split) <;> simp

@[simp] theorem still_regRead (i : Iface) (a : BitVec 16) (s : State) : still (regRead i a s).2 = still s := by
  unfold regRead; simp

@[simp] theorem still_glbWrite (off : Nat) (w : Word) (s : State) : still (glbWrite off w s) = still s := by
  unfold glbWrite; (repeat' split) <;> simp

@[simp] theorem still_hadcWrite (off : Nat) (w : Word) (s : State) : still (hadcWrite off w s) = still s := by
  unfold hadcWrite; (repeat' split) <;> simp

@[simp] theorem still_thmWrite (off : Nat) (w : Word) (s : State) : still (thmWrite off w s) = still s := by
  unfold thmWrite; (repeat' split) <;> simp

@[simp] theorem still_nvlWrite (off : Nat) (w : Word) (s : State) : still (nvlWrite off w s) = still s := by
  unfold nvlWrite; (repeat' split) <;> simp

@[simp] theorem still_selWrite (i : Iface) (w : Word) (s : State) : still (selWrite i w s) = still s := by
  unfold selWrite; (repeat' split) <;> simp

@[simp] theorem still_tmrWrite (i : Iface) (off : Nat) (w : Word) (s : State) : still (tmrWrite i off w s) = still s := by
  unfold tmrWrite; (repeat' split) <;> simp

@[simp] theorem still_hifWrite (off : Nat) (w : Word) (s : State) : still (hifWrite off w s) = still s := by
  unfold hifWrite; (repeat' split) <;> simp

@[simp] theorem still_nlWrite (off : Nat) (w : Word) (s : State) : still (nlWrite off w s) = still s := by
  unfold nlWrite; (repeat' split) <;> simp

@[simp] theorem still_targetWrite (r : RailId) (c : RailCfg) (w : Word) (s : State) :
    still (targetWrite r c w s) = still s := by
  unfold targetWrite; simp

@[simp] theorem still_protClear (r : RailId) (c : RailCfg) (w : Word) (s : State) : still (protClear r c w s) = still s := by
  unfold protClear; simp

@[simp] theorem still_railWrite (r : RailId) (c : RailCfg) (off : Nat) (w : Word) (s : State) :
    still (railWrite r c off w s) = still s := by
  unfold railWrite; (repeat' split) <;> simp

@[simp] theorem still_portWrite (p : PortId) (off : Nat) (w : Word) (s : State) : still (portWrite p off w s) = still s := by
  unfold portWrite; (repeat' split) <;> simp

@[simp] theorem still_bankWrite (b : BankId) (off : Nat) (w : Word) (s : State) : still (bankWrite b off w s) = still s := by
  unfold bankWrite; (repeat' split) <;> simp

@[simp] theorem still_irqWrite (page off : Nat) (w : Word) (s : State) : still (irqWrite page off w s) = still s := by
  unfold irqWrite; (repeat' split) <;> simp

@[simp] theorem still_bareWrite (page off : Nat) (w : Word) (s : State) : still (bareWrite page off w s) = still s := by
  unfold bareWrite; (repeat' split) <;> simp

@[simp] theorem still_railPageWrite (page off : Nat) (w : Word) (s : State) : still (railPageWrite page off w s) = still s := by
  unfold railPageWrite; (repeat' split) <;> simp

@[simp] theorem still_blockWrite (page off : Nat) (w : Word) (s : State) : still (blockWrite page off w s) = still s := by
  unfold blockWrite; (repeat' split) <;> simp

@[simp] theorem still_onRailPage (r : RailId) (f : RailCfg → State → State) (h : ∀ c s, still (f c s) = still s) (s : State) :
    still (onRailPage r f s) = still s := by
  unfold onRailPage
  (repeat' split) <;> simp [h]

@[simp] theorem still_onRailReg (r : RailId) (off : Nat) (w : Word) (f : RailCfg → Word → State → State)
    (h : ∀ c w s, still (f c w s) = still s) (s : State) : still (onRailReg r off w f s) = still s := by
  unfold onRailReg
  exact still_onRailPage _ _ (fun c s => still_w1cDo _ _ _ _ (fun w s => h c w s) s) _

@[simp] theorem still_onRailSeq (r : RailId) (w : Word) (s : State) : still (onRailSeq r w s) = still s := by
  unfold onRailSeq; (repeat' split) <;> simp

@[simp] theorem still_onHost (f : State → State) (h : ∀ s, still (f s) = still s) (s : State) : still (onHost f s) = still s := by
  unfold onHost
  simp [h]

@[simp] theorem still_readBytes (i : Iface) (a : Option (BitVec 16)) (fuel n : Nat) (s : State) :
    still (readBytes i a fuel n s).2.2 = still s := by
  induction fuel generalizing a n s with
  | zero => rfl
  | succ k ih =>
    unfold readBytes
    split
    · rfl
    · split
      · simp
      · exact (ih _ _ _).trans (by simp)

@[simp] theorem still_ptrAfter (a : Option (BitVec 16)) (s : State) : still (ptrAfter a s).2 = still s := by
  unfold ptrAfter; (repeat' split) <;> simp

@[simp] theorem still_restoreEnd (r : RailId) (p : Probe) (cal : Int) (s : State) : still (restoreEnd r p cal s) = still s := by
  unfold restoreEnd; simp

@[simp] theorem still_freezeRaises (s : State) : still (freezeRaises s) = still s := by unfold freezeRaises; rfl

@[simp] theorem still_macerClose (win : Option RailId) (s : State) : still (macerClose win s) = still s := by
  unfold macerClose; (repeat' split) <;> simp

@[simp] theorem still_hadcResult (v : Int) (s : State) : still (hadcResult v s) = still s := by unfold hadcResult; simp

@[simp] theorem still_pairRead (ballN lvl : Bool) (s : State) : still (pairRead ballN lvl s) = still s := by
  unfold pairRead; simp

@[simp] theorem still_hostRead (i : Iface) (a : BitVec 16) (s : State) : still (hostRead i a s) = still s := by
  unfold hostRead; simp

@[simp] theorem still_pecFail (s : State) : still (pecFail s) = still s := by unfold pecFail; rfl

@[simp] theorem still_badData (s : State) : still (badData s) = still s := by unfold badData; rfl

@[simp] theorem still_badCode (s : State) : still (badCode s) = still s := by unfold badCode; rfl

@[simp] theorem still_smbWrite (pec : Pec) (f : State → State) (h : ∀ s, still (f s) = still s) (s : State) :
    still (smbWrite pec f s) = still s := by
  unfold smbWrite
  (repeat' split) <;> simp [h]

@[simp] theorem still_smbRead (f : State → State) (h : ∀ s, still (f s) = still s) (s : State) :
    still (smbRead f s) = still s := by
  unfold smbRead
  simp [h]

@[simp] theorem still_withPec (code : Nat) (f : State → State) (h : ∀ s, still (f s) = still s) (s : State) :
    still (withPec code f s) = still s := by
  unfold withPec
  dsimp only
  (repeat' split) <;> simp [h]

@[simp] theorem still_pagedWrite (f : RailId → RailCfg → State → State) (h : ∀ r c s, still (f r c s) = still s) (s : State) :
    still (pagedWrite f s) = still s := by
  unfold pagedWrite
  (repeat' split) <;> simp [h]

@[simp] theorem still_pagedRead (n : Nat) (f : RailId → RailCfg → Nat) (s : State) : still (pagedRead n f s) = still s := by
  unfold pagedRead; (repeat' split) <;> simp

@[simp] theorem still_plainRead (n v : Nat) (s : State) : still (plainRead n v s) = still s := by unfold plainRead; rfl

@[simp] theorem still_blockRead (l : List Byte) (s : State) : still (blockRead l s) = still s := by unfold blockRead; rfl

@[simp] theorem still_pageCmd (d : Option Byte) (pec : Pec) (s : State) : still (pageCmd d pec s) = still s := by
  unfold pageCmd
  split
  · simp
  · exact still_smbWrite _ _ (fun s => by split <;> simp) _

@[simp] theorem still_operationCmd (d : Option Byte) (pec : Pec) (s : State) : still (operationCmd d pec s) = still s := by
  unfold operationCmd; (repeat' split) <;> simp

@[simp] theorem still_clearRail (r : RailId) (_c : RailCfg) (s : State) : still (clearRail r _c s) = still s := by
  unfold clearRail; simp

@[simp] theorem still_clearCmd (pec : Pec) (s : State) : still (clearCmd pec s) = still s := by
  unfold clearCmd
  refine still_smbWrite _ _ (fun s => ?_) _
  split
  · simp
  · exact (still_pagedWrite _ (fun r c s => by simp) _).trans (by simp)

@[simp] theorem still_voutCmd (d : Option (BitVec 16)) (pec : Pec) (s : State) : still (voutCmd d pec s) = still s := by
  unfold voutCmd; (repeat' split) <;> simp

@[simp] theorem still_rateCmd (d : Option (BitVec 16)) (pec : Pec) (s : State) : still (rateCmd d pec s) = still s := by
  unfold rateCmd; (repeat' split) <;> simp

@[simp] theorem still_rawTargetCmd (d : Option (BitVec 16)) (pec : Pec) (s : State) :
    still (rawTargetCmd d pec s) = still s := by
  unfold rawTargetCmd; (repeat' split) <;> simp

@[simp] theorem still_readPaged (n : Nat) (f : State → RailId → RailCfg → Nat) (s : State) :
    still (readPaged n f s) = still s := by
  unfold readPaged; simp

@[simp] theorem still_kaWordRead (s : State) : still (kaWordRead s) = still s := by unfold kaWordRead; simp

@[simp] theorem still_regAddrCmd (d : Option (BitVec 16)) (pec : Pec) (s : State) : still (regAddrCmd d pec s) = still s := by
  unfold regAddrCmd
  split
  · simp
  · exact still_smbWrite _ _ (fun s => by simp) _

@[simp] theorem still_ptrStep (s : State) : still (ptrStep s) = still s := by unfold ptrStep; simp

@[simp] theorem still_unknownCmd (code : Byte) (s : State) : still (unknownCmd code s) = still s := by unfold unknownCmd; simp

@[simp] theorem still_smbTimeout (s : State) : still (smbTimeout s) = still s := by
  unfold smbTimeout
  exact still_onHost _ (fun s => by simp) _

@[simp] theorem still_alertAnswer (s : State) : still (alertAnswer s) = still s := by unfold alertAnswer; simp

@[simp] theorem still_i3cDirect (f : State → State) (h : ∀ s, still (f s) = still s) (s : State) :
    still (i3cDirect f s) = still s := by
  unfold i3cDirect
  simp [h]

@[simp] theorem still_mwlCut (data : List Byte) (s : State) : still (mwlCut data s).2 = still s := by
  unfold mwlCut; (repeat' split) <;> simp

@[simp] theorem still_i3cRead (n : Nat) (s : State) : still (i3cRead n s) = still s := by
  unfold i3cRead
  refine still_i3cDirect _ (fun s => ?_) _
  simp [still_readBytes]

@[simp] theorem still_setDyn (a : Option (BitVec 7)) (s : State) : still (setDyn a s) = still s := by unfold setDyn; rfl

@[simp] theorem still_takeAddr (a : BitVec 7) (s : State) : still (takeAddr a s) = still s := by unfold takeAddr; rfl

@[simp] theorem still_entdaaCmd (a : BitVec 7) (s : State) : still (entdaaCmd a s) = still s := by unfold entdaaCmd; simp

@[simp] theorem still_rstdaaCmd (s : State) : still (rstdaaCmd s) = still s := by unfold rstdaaCmd; simp

@[simp] theorem still_setdasaCmd (a : BitVec 7) (s : State) : still (setdasaCmd a s) = still s := by unfold setdasaCmd; simp

@[simp] theorem still_setnewdaCmd (a : BitVec 7) (s : State) : still (setnewdaCmd a s) = still s := by unfold setnewdaCmd; simp

@[simp] theorem still_enecCmd (ev : Byte) (s : State) : still (enecCmd ev s) = still s := by unfold enecCmd; simp

@[simp] theorem still_disecCmd (ev : Byte) (s : State) : still (disecCmd ev s) = still s := by unfold disecCmd; simp

@[simp] theorem still_setmwlCmd (n : BitVec 16) (s : State) : still (setmwlCmd n s) = still s := by unfold setmwlCmd; simp

@[simp] theorem still_setmrlCmd (n : BitVec 16) (s : State) : still (setmrlCmd n s) = still s := by unfold setmrlCmd; simp

@[simp] theorem still_cccRead (f : State → List Byte) (s : State) : still (cccRead f s) = still s := by unfold cccRead; simp

@[simp] theorem still_getstatusCmd (s : State) : still (getstatusCmd s) = still s := by unfold getstatusCmd; simp

@[simp] theorem still_i3cFault (s : State) : still (i3cFault s) = still s := by unfold i3cFault; rfl

@[simp] theorem still_hdrSet (v : Bool) (s : State) : still (hdrSet v s) = still s := by unfold hdrSet; rfl

@[simp] theorem still_cccOther (k : CccKind) (s : State) : still (cccOther k s) = still s := by
  unfold cccOther; (repeat' split) <;> simp

@[simp] theorem still_ibiDeliver (ack : Bool) (s : State) : still (ibiDeliver ack s) = still s := by
  unfold ibiDeliver; (repeat' split) <;> simp

@[simp] theorem still_hotJoin (s : State) : still (hotJoin s) = still s := by unfold hotJoin; simp

@[simp] theorem still_onLoader (f : State → State) (h : ∀ s, still (f s) = still s) (s : State) :
    still (onLoader f s) = still s := by
  unfold onLoader
  simp [h]

@[simp] theorem still_blotterDue (s : State) : still (blotterDue s) = still s := by unfold blotterDue; simp

@[simp] theorem still_heard (lost : Bool) (f : State → State) (h : ∀ s, still (f s) = still s) (s : State) :
    still (heard lost f s) = still s := by
  unfold heard
  simp [h]

@[simp] theorem still_badFrame (pr : Proto) (p : PortId) (cause : LinkCause) (s : State) :
    still (badFrame pr p cause s) = still s := by
  unfold badFrame; simp

@[simp] theorem still_toldPin (pin : Nat) (lvl : Bool) (s : State) : still (toldPin pin lvl s) = still s := by
  unfold toldPin; simp

@[simp] theorem still_capPut (t : TimerId) (lvl : Bool) (s : State) : still (capPut t lvl s) = still s := by unfold capPut; simp

@[simp] theorem still_gatePut (t : TimerId) (lvl : Bool) (s : State) : still (gatePut t lvl s) = still s := by
  unfold gatePut; rfl

@[simp] theorem still_seqPut (r : RailId) (lvl : Bool) (s : State) : still (seqPut r lvl s) = still s := by unfold seqPut; rfl

@[simp] theorem still_pinPut (pin : Nat) (lvl : Bool) (s : State) : still (pinPut pin lvl s) = still s := by unfold pinPut; simp

@[simp] theorem still_pinTold (pin : Nat) (was lvl : Bool) (s : State) : still (pinTold pin was lvl s) = still s := by
  unfold pinTold; simp

@[simp] theorem still_timerInputs (t : TimerId) (cap gate : Bool) (s : State) : still (timerInputs t cap gate s) = still s := by
  unfold timerInputs
  dsimp only
  (repeat' split) <;> simp

@[simp] theorem still_seqInput (r : RailId) (lvl : Bool) (s : State) : still (seqInput r lvl s) = still s := by
  unfold seqInput; split <;> simp

@[simp] theorem still_syncPins (s : State) : still (syncPins s) = still s := by unfold syncPins; simp

@[simp] theorem still_ovChange (r : RailId) (up : Bool) (s : State) : still (ovChange r up s) = still s := by
  unfold ovChange; simp

@[simp] theorem still_uvChange (r : RailId) (up : Bool) (s : State) : still (uvChange r up s) = still s := by
  unfold uvChange; simp

@[simp] theorem still_snsTrip (r : RailId) (neg : Bool) (c : RailCfg) (s : State) : still (snsTrip r neg c s) = still s := by
  unfold snsTrip; simp

@[simp] theorem still_snsChange (r : RailId) (neg up : Bool) (s : State) : still (snsChange r neg up s) = still s := by
  unfold snsChange; simp

@[simp] theorem still_pgEdge (r : RailId) (up : Bool) (c : RailCfg) (s : State) : still (pgEdge r up c s) = still s := by
  unfold pgEdge; simp

@[simp] theorem still_pgChange (r : RailId) (up : Bool) (s : State) : still (pgChange r up s) = still s := by
  unfold pgChange; simp

@[simp] theorem still_pgRise (r : RailId) (s : State) : still (pgRise r s) = still s := by unfold pgRise; simp

@[simp] theorem still_pgFall (r : RailId) (s : State) : still (pgFall r s) = still s := by unfold pgFall; simp

@[simp] theorem still_seqStep (r : RailId) (i : Bool) (c : RailCfg) (s : State) : still (seqStep r i c s) = still s := by
  unfold seqStep
  dsimp only
  (repeat' split) <;> simp

@[simp] theorem still_durDone (r : RailId) (s : State) : still (durDone r s) = still s := by unfold durDone; rfl

@[simp] theorem still_prebDone (r : RailId) (c : RailCfg) (s : State) : still (prebDone r c s) = still s := by
  unfold prebDone; simp

@[simp] theorem still_moveDone (r : RailId) (c : RailCfg) (s : State) : still (moveDone r c s) = still s := by
  unfold moveDone
  dsimp only
  (repeat' split) <;> simp

@[simp] theorem still_tapLoad (i : TapIr) (s : State) : still (tapLoad i s) = still s := by unfold tapLoad; simp

@[simp] theorem still_tapPins (i : TapIr) (s : State) : still (tapPins i s) = still s := by unfold tapPins; simp

@[simp] theorem still_tapHalt (s : State) : still (tapHalt s) = still s := by unfold tapHalt; simp

@[simp] theorem still_tapRelease (s : State) : still (tapRelease s) = still s := by unfold tapRelease; simp

@[simp] theorem still_tapReset (s : State) : still (tapReset s) = still s := by unfold tapReset; simp

@[simp] theorem still_drOpen (s : State) : still (drOpen s).2 = still s := rfl

@[simp] theorem still_ftmkeyCmd (testen : Bool) (key : BitVec 128) (s : State) : still (ftmkeyCmd testen key s) = still s := by
  unfold ftmkeyCmd; simp

@[simp] theorem still_idOut (s : State) : still (idOut s) = still s := by unfold idOut; simp

@[simp] theorem still_matchNow (t : TimerId) (s : State) : still (matchNow t s) = still s := by unfold matchNow; simp

@[simp] theorem still_coreEdge (s : State) : still (coreEdge s) = still s := by unfold coreEdge; rfl

@[simp] theorem still_wordsEdge (s : State) : still (wordsEdge s) = still s := by unfold wordsEdge; simp

@[simp] theorem still_pinsEdge (s : State) : still (pinsEdge s) = still s := by unfold pinsEdge; simp

@[simp] theorem still_later (s : State) : still (later s) = still s := by unfold later; rfl

end Sys2Proof.Machine
end

section
/-! PROOF. The operations that write the flash or program a one-time-programmable control leave the soft-reset request and
AUTHREQ, too; a reset ends the request (R334, R399). -/

namespace Sys2Proof.Machine

/-! ## The log and the loader -/

@[simp] theorem still_putState (v i : Nat) (s : State) : still (putState v i s) = still s := rfl

@[simp] theorem still_eraseBlock (k : Nat) (s : State) : still (eraseBlock k s) = still s := rfl

@[simp] theorem still_voidOpen (s : State) : still (voidOpen s) = still s := by
  unfold voidOpen
  extract_lets l u
  have h : still u = still s := still_forEach l _ (still_putState 0) s
  simpa only [still_mk, still_fold] using h

@[simp] theorem still_openSlot (s : State) : still (openSlot s) = still s := by
  unfold openSlot
  split
  · rfl
  · rw [still_mk]; rfl

@[simp] theorem still_openFree (s : State) : still (openFree s) = still s := by
  unfold openFree
  split
  · exact still_openSlot s
  · simp

@[simp] theorem still_scanErase (s : State) : still (scanErase s) = still s := by
  unfold scanErase
  dsimp only
  (repeat' split) <;> simp

@[simp] theorem still_scanDone (s : State) : still (scanDone s) = still s := by
  unfold scanDone
  dsimp only
  (repeat' split) <;> simp

@[simp] theorem still_eraseAll (s : State) : still (eraseAll s) = still s := by
  unfold eraseAll
  split
  · exact still_forEach _ _ still_eraseBlock s
  · rfl

@[simp] theorem still_commitStart (s : State) : still (commitStart s) = still s := by
  unfold commitStart
  rw [still_openFree, still_mk]
  split <;> simp

@[simp] theorem still_gate (s : State) : still (gate s) = still s := by
  unfold gate
  dsimp only
  (repeat' split) <;> simp

@[simp] theorem still_gateTurn (s : State) : still (gateTurn s) = still s := by unfold gateTurn; simp

@[simp] theorem still_commitDone (s : State) : still (commitDone s) = still s := by unfold commitDone; split <;> simp

@[simp] theorem still_programTimeout (s : State) : still (programTimeout s) = still s := by
  unfold programTimeout
  dsimp only
  (repeat' split) <;> simp

@[simp] theorem still_blockErase (s : State) : still (blockErase s) = still s := by
  unfold blockErase; (repeat' split) <;> simp

@[simp] theorem still_writePage (b : Bool) (s : State) : still (writePage b s) = still s := by
  unfold writePage
  dsimp only
  split
  · simp
  · rfl

@[simp] theorem still_pageStep (fin : Bool) (s : State) : still (pageStep fin s) = still s := by
  unfold pageStep; (repeat' split) <;> simp

@[simp] theorem still_dataWrite (w : Word) (s : State) : still (dataWrite w s) = still s := by
  unfold dataWrite
  dsimp only
  (repeat' split) <;> simp

@[simp] theorem still_eraseBegin (b : Bool) (s : State) : still (eraseBegin b s) = still s := by unfold eraseBegin; simp

@[simp] theorem still_eraseDone (ok : Bool) (s : State) : still (eraseDone ok s) = still s := by
  unfold eraseDone; (repeat' split) <;> simp

@[simp] theorem still_slotCommitEnd (ok : Bool) (s : State) : still (slotCommitEnd ok s) = still s := by
  unfold slotCommitEnd
  dsimp only
  (repeat' split) <;> simp

@[simp] theorem still_revokeKey (k : BitVec 2) (s : State) : still (revokeKey k s) = still s := by
  unfold revokeKey
  dsimp only
  (repeat' split) <;> simp

@[simp] theorem still_epochNext (s : State) : still (epochNext s) = still s := by
  unfold epochNext; (repeat' split) <;> simp

@[simp] theorem still_imgRun (cmd slot rail : Nat) (s : State) : still (imgRun cmd slot rail s) = still s := by
  unfold imgRun
  dsimp only
  split
  case h_9 => exact still_slotGuard _ _ (fun s => by split <;> simp) s
  all_goals (repeat' split) <;> simp

@[simp] theorem still_imgCtrl (w : Word) (s : State) : still (imgCtrl w s) = still s := by
  unfold imgCtrl; (repeat' split) <;> simp

@[simp] theorem still_imgCmd (cmd slot rail : Nat) (s : State) : still (imgCmd cmd slot rail s) = still s :=
  still_onHost _ (still_imgCtrl _) s

@[simp] theorem still_imgWrite (off : Nat) (w : Word) (s : State) : still (imgWrite off w s) = still s := by
  unfold imgWrite
  dsimp only
  split <;> simp

@[simp] theorem still_keyprogCmd (dr : BitVec 130) (s : State) : still (keyprogCmd dr s) = still s := by
  unfold keyprogCmd
  dsimp only
  split <;> simp

/-! ## Resets and state commands -/

/-- From `s` to `t` no soft-reset request is opened and AUTHREQ stays. -/
structure Hushed (s t : State) : Prop where
  request : s.pwr.softReq = false → t.pwr.softReq = false
  authReq : t.otp.authReq = s.otp.authReq

theorem Hushed.of_still {s t : State} (h : still t = still s) : Hushed s t :=
  ⟨fun hs => (still_fields h).1.trans hs, (still_fields h).2⟩

theorem Hushed.refl (s : State) : Hushed s s := .of_still rfl

theorem Hushed.trans {s t u : State} (a : Hushed s t) (b : Hushed t u) : Hushed s u :=
  ⟨fun h => b.request (a.request h), b.authReq.trans a.authReq⟩

/-- What is hushed up to `t` is so up to every state with the same request and AUTHREQ. -/
theorem Hushed.upto {s t u : State} (a : Hushed s t) (h : still u = still t) : Hushed s u := a.trans (.of_still h)

theorem otp_authReq_of_kept {s t : State} (h : kept t = kept s) : t.otp.authReq = s.otp.authReq := by
  rw [(kept_fields h).2.2]

theorem hushed_coreReset (s : State) : Hushed s (coreReset s) :=
  ⟨fun _ => (still_fields (still_padHold _ _)).1, otp_authReq_of_kept (kept_coreReset s)⟩

theorem hushed_powerOn (s : State) : Hushed s (powerOn s) :=
  ⟨fun _ => (still_fields (still_padHold _ _)).1, otp_authReq_of_kept (kept_powerOn s)⟩

theorem hushed_enterOff (s : State) : Hushed s (enterOff s) := ⟨fun _ => rfl, otp_authReq_of_kept (kept_enterOff s)⟩

theorem hushed_offEnter (s : State) : Hushed s (offEnter s) := by
  unfold offEnter
  split
  · exact hushed_enterOff s
  · exact .refl s

theorem hushed_gotoDo (src : BitVec 2) (g : Nat) (s : State) : Hushed s (gotoDo src g s) := by
  unfold gotoDo
  split
  · split
    · exact .of_still (still_offStart s)
    · exact hushed_enterOff s
  all_goals exact .of_still (by (repeat' split) <;> simp)

theorem hushed_pwrGoto (g : Nat) (s : State) : Hushed s (pwrGoto g s) := by
  unfold pwrGoto
  split
  · exact .refl s
  · split
    · exact hushed_gotoDo 0 g s
    · exact .of_still (still_pwrReject s)

theorem hushed_kaTake (g : Nat) (s : State) : Hushed s (kaTake g s) := by
  unfold kaTake
  split
  · exact (hushed_gotoDo 2 g s).upto (by simp)
  · exact .of_still (by simp)

theorem hushed_kaGoto (g : Nat) (s : State) : Hushed s (kaGoto g s) := by
  unfold kaGoto
  split
  · exact .of_still (still_reply .ack s)
  · exact (Hushed.of_still (still_wakeYield s)).trans (hushed_kaTake g _)

theorem hushed_kaStateWrite (d : Byte) (pec : Pec) (s : State) : Hushed s (kaStateWrite d pec s) := by
  unfold kaStateWrite
  split
  · exact .of_still (still_reply .nack s)
  · exact hushed_kaGoto _ s

theorem hushed_gotoAny (g : Nat) (s : State) : Hushed s (gotoAny g s) := by
  unfold gotoAny
  split
  · exact hushed_kaGoto g s
  · split
    · exact hushed_pwrGoto g s
    · exact .refl s

theorem hushed_resetCore (low : Nat) (s : State) : Hushed s (resetCore low s) :=
  (hushed_coreReset s).upto (by simp [resetCore])

theorem hushed_dropRetained (s : State) : Hushed s (dropRetained s) :=
  (hushed_coreReset s).upto (by simp [dropRetained])

theorem hushed_resetAct (low : Nat) (s : State) : Hushed s (resetAct low s) := by
  unfold resetAct
  split
  · exact hushed_resetCore low s
  · split
    · exact hushed_dropRetained s
    · split
      · exact .refl s
      · exact hushed_dropRetained s
      · exact hushed_resetCore low s

theorem hushed_resetPulse (ns : Nat) (s : State) : Hushed s (resetPulse ns s) := by
  unfold resetPulse
  split
  · exact .refl s
  · split
    · exact hushed_resetAct _ s
    · dsimp only
      have hfree : Hushed s { s with free := s.free + 1 } := .of_still rfl
      split
      · exact hfree.trans (hushed_resetAct _ _)
      · exact hfree

/-! ## Register access -/

theorem authReq_pageWrite (i : Iface) (page off : Nat) (w : Word) (s : State) :
    (pageWrite i page off w s).otp.authReq = s.otp.authReq := by
  unfold pageWrite
  split
  · exact otp_authReq_of_kept (kept_blockWrite _ _ _ _)
  · split
    case h_3 => exact (still_fields (still_imgWrite off w s)).2
    all_goals exact otp_authReq_of_kept (by simp)

theorem authReq_regWrite (i : Iface) (a : BitVec 16) (w : Word) (s : State) :
    (regWrite i a w s).otp.authReq = s.otp.authReq := by
  unfold regWrite
  split
  · exact otp_authReq_of_kept (kept_accErr s)
  · exact (authReq_pageWrite _ _ _ _ _).trans (otp_authReq_of_kept (kept_w1cRenew _ _ _ s))

theorem authReq_writeBytes (i : Iface) (l : List Byte) (a : Option (BitVec 16)) (s : State) :
    (writeBytes i a l s).2.otp.authReq = s.otp.authReq := by
  fun_induction writeBytes i a l s with
  | case1 => rfl
  | case2 => exact otp_authReq_of_kept (kept_accErr _)
  | case3 _ _ _ _ _ _ _ ih => exact ih.trans (authReq_regWrite _ _ _ _)
  | case4 => exact otp_authReq_of_kept (kept_accErr _)

/-- No request is open behind the end of a transfer (R334). -/
theorem xferEnd_softReq (s : State) : (xferEnd s).pwr.softReq = false := by
  unfold xferEnd
  split
  · rw [(still_fields (still_ctlReset 3 _)).1]
  · next h => exact Bool.not_eq_true _ ▸ h

/-- A transfer that ends leaves no request and AUTHREQ, whatever it has requested. -/
theorem hushed_xferEnd {s t : State} (h : t.otp.authReq = s.otp.authReq) : Hushed s (xferEnd t) :=
  ⟨fun _ => xferEnd_softReq t, (otp_authReq_of_kept (kept_xferEnd t)).trans h⟩

theorem hushed_onHost (f : State → State) (h : ∀ s, Hushed s (f s)) (s : State) : Hushed s (onHost f s) := by
  unfold onHost
  split
  · exact h s
  · exact .refl s

theorem hushed_smbWrite (pec : Pec) (f : State → State) (h : ∀ s, Hushed s (f s)) (s : State) : Hushed s (smbWrite pec f s) := by
  unfold smbWrite
  split
  · exact .of_still (by simp)
  · split
    · exact .of_still (by simp)
    · split
      · exact .of_still (by simp)
      · exact (Hushed.of_still (still_reply .ack s)).trans (h _)
    · exact (Hushed.of_still (still_reply .ack s)).trans (h _)

theorem hushed_withPec (code : Nat) (f : State → State) (h : ∀ s, Hushed s (f s)) (s : State) : Hushed s (withPec code f s) := by
  unfold withPec
  refine (h s).upto ?_
  dsimp only
  split <;> rfl

theorem hushed_stateCmd (d : Byte) (pec : Pec) (s : State) : Hushed s (stateCmd d pec s) := by
  unfold stateCmd
  split
  · exact hushed_kaStateWrite d pec s
  · refine hushed_smbWrite _ _ (fun s => ?_) s
    split
    · exact .of_still (still_badData s)
    · exact hushed_pwrGoto _ s

theorem hushed_regDataCmd (d : Option (List Byte)) (pec : Pec) (s : State) : Hushed s (regDataCmd d pec s) := by
  unfold regDataCmd
  split
  · exact .of_still (still_smbRead _ (fun s => by simp) s)
  · refine hushed_smbWrite _ _ (fun s => ?_) s
    split
    · exact hushed_xferEnd ((otp_authReq_of_kept (kept_ptrStep _)).trans (authReq_regWrite _ _ _ s))
    · exact .of_still (still_badData s)

theorem hushed_i3cWrite (data : List Byte) (s : State) : Hushed s (i3cWrite data s) := by
  unfold i3cWrite i3cDirect
  split
  · dsimp only
    have hcut : still (mwlCut data (reply .ack s)).2 = still s := by simp
    split
    · refine hushed_xferEnd ?_
      exact (otp_authReq_of_kept (kept_ptrAfter _ _)).trans ((authReq_writeBytes _ _ _ _).trans (still_fields hcut).2)
    · exact .of_still hcut
  · exact .of_still (by simp)

theorem hushed_regaccAct (dr : BitVec 49) (s : State) : Hushed s (regaccAct dr s) := by
  unfold regaccAct
  extract_lets a _ u o put
  have hu : still u = still s := by
    simp only [u]
    split <;> rfl
  have ho : still o.2 = still s := (still_drOpen u).trans hu
  split
  · exact .of_still ho
  · split
    · exact hushed_xferEnd ((authReq_regWrite .tap a _ o.2).trans (still_fields ho).2)
    · exact .of_still ((still_regRead .tap a o.2).trans ho)

theorem still_fire {e : Instr} {s t : State} (h : fire e s = some t) : still t = still s := by
  unfold fire at h
  split at h
  · cases h
    rfl
  · cases h

theorem hushed_regaccCmd (dr : BitVec 49) (s : State) : Hushed s (regaccCmd dr s) := by
  unfold regaccCmd
  split
  · next u h => exact (Hushed.of_still (still_fire h)).trans (hushed_regaccAct dr u)
  · split <;> exact .of_still (by simp)

end Sys2Proof.Machine
end

section
/-! PROOF. Every command and every step: the queue, the canonical flash, the one-time-programmable controls, the soft-reset
request (R77, R334, R339, R399), and that every command completes (R13). -/

namespace Sys2Proof.Machine

/-! ## Commands -/

theorem hushed_of_next {p : Option PortId} {o : List Nat} {s u t : State}
    (h : (.next (settleBy p o s u) : Out) = .next t) (hu : Hushed s u) : Hushed s t := by
  cases h
  exact hu.upto (still_settleBy _ _ _ _)

theorem flash_of_next {p : Option PortId} {o : List Nat} {s u t : State}
    (h : (.next (settleBy p o s u) : Out) = .next t) (hu : u.flash = s.flash) : t.flash = s.flash := by
  cases h
  rw [settleBy_flash, hu]

theorem grows_onLoader (f : State → State) (h : ∀ s, Grows s (f s)) (s : State) : Grows s (onLoader f s) := by
  unfold onLoader
  split
  · exact h s
  · exact .refl s

theorem grows_withPec (code : Nat) (f : State → State) (h : ∀ s, Grows s (f s)) (s : State) : Grows s (withPec code f s) := by
  unfold withPec
  refine (h s).upto ?_
  dsimp only
  split <;> rfl

/-- KEYPROG leaves the flash (R399). -/
theorem flash_keyprogCmd (dr : BitVec 130) (s : State) : (keyprogCmd dr s).flash = s.flash := by
  have hload : (tapLoad .keyprog s).flash = s.flash := (kept_fields (kept_tapLoad .keyprog s)).2.1
  unfold keyprogCmd
  dsimp only
  split <;> exact hload

/-- Every command keeps the queue and the canonical flash, and its one-time-programmable controls only grow. -/
theorem grows_exec {c : Instr} {s t : State} (h : exec c s = .next t) : Grows s t := by
  cases hc : mayWriteFlash c || writesOtp c
  case false =>
    rw [Bool.or_eq_false_iff] at hc
    exact .of_kept (kept_exec hc.1 hc.2 h)
  case true =>
    cases c
    case imgDataWrite w => exact grows_of_next h (grows_onHost _ (grows_dataWrite w) s)
    case slotErase slot => exact grows_of_next h (grows_imgCmd _ _ _ s)
    case revoke slot => exact grows_of_next h (grows_imgCmd _ _ _ s)
    case epochAdvance => exact grows_of_next h (grows_imgCmd _ _ _ s)
    case slotEraseDone ok => exact grows_of_next h (grows_onLoader _ (grows_eraseDone ok) s)
    case slotCommitDone ok => exact grows_of_next h (grows_onLoader _ (grows_slotCommitEnd ok) s)
    case logScanDone => exact grows_of_next h (grows_scanDone s)
    case logCommitStart => exact grows_of_next h (grows_onFire _ _ grows_gateTurn s)
    case logged => exact grows_of_next h (grows_commitDone s)
    case logProgramTimeout => exact grows_of_next h (grows_programTimeout s)
    case logBlockErase => exact grows_of_next h (grows_onFire _ _ grows_blockErase s)
    case registerWrite i a w =>
      exact grows_of_next (next_of_ite h)
        (grows_onHost _ (fun s => (grows_regWrite i a w s).upto (kept_xferEnd _)) s)
    case mfrRegData d pec => exact grows_of_next (next_of_ite h) (grows_withPec _ _ (grows_regDataCmd d pec) s)
    case i3cPrivateWrite data => exact grows_of_next (next_of_ite h) (grows_i3cWrite data s)
    case regacc dr => exact grows_of_next (next_of_ite h) (grows_regaccCmd dr s)
    case keyprog dr => exact grows_of_next h (grows_keyprogCmd dr s)
    all_goals exact Bool.noConfusion hc

/-- No command opens a soft-reset request that outlives it, and none changes AUTHREQ. -/
theorem hushed_exec {c : Instr} {s t : State} (h : exec c s = .next t) : Hushed s t := by
  cases c
  case powerOnReset => exact hushed_of_next h (hushed_powerOn s)
  case resetN ns => exact hushed_of_next h (hushed_resetPulse ns s)
  case gotoOff => exact hushed_of_next h (hushed_gotoAny 0 s)
  case gotoStandby => exact hushed_of_next h (hushed_gotoAny 1 s)
  case gotoReady => exact hushed_of_next h (hushed_gotoAny 2 s)
  case gotoRun => exact hushed_of_next h (hushed_gotoAny 3 s)
  case kaStateCmd d pec => exact hushed_of_next h (hushed_withPec _ _ (hushed_stateCmd d pec) s)
  case mfrStateCmd d pec => exact hushed_of_next h (hushed_withPec _ _ (hushed_stateCmd d pec) s)
  case registerWrite i a w =>
    exact hushed_of_next (next_of_ite h) (hushed_onHost _ (fun s => hushed_xferEnd (authReq_regWrite i a w s)) s)
  case mfrRegData d pec => exact hushed_of_next (next_of_ite h) (hushed_withPec _ _ (hushed_regDataCmd d pec) s)
  case i3cPrivateWrite data => exact hushed_of_next (next_of_ite h) (hushed_i3cWrite data s)
  case i3cPrivateRead n => exact hushed_of_next (next_of_ite h) (.of_still (still_i3cRead n s))
  case regacc dr => exact hushed_of_next (next_of_ite h) (hushed_regaccCmd dr s)
  all_goals exact hushed_of_next h (.of_still (by simp))

/-! ## A step on an empty queue -/

/-- A tick up to the core clock edge: time and the epochs of the banks. -/
def epochTick (s : State) : State :=
  if dpwmRuns (later s) then { later s with banks := mapTab (fun _ => epochStep) (later s).banks } else later s

/-- What a tick with running clocks makes of the state behind `epochTick`, but for the commands that it brings. -/
def edgeTick (s : State) : State := if onCoreEdge s then pinsEdge (coreEdge (wordsEdge s)) else s

/-- A DPWM tick, by its cases: without clocks, the core clock edge that enters OFF, or an ordinary one. -/
theorem tick_eq (s : State) : tick s =
    if !clocksRun (epochTick s) then epochTick s
    else if onCoreEdge (epochTick s) && (epochTick s).pwr.tgt == some .off then offEnter (epochTick s)
    else { edgeTick (blotSample (epochTick s)) with
      pending := (edgeTick (blotSample (epochTick s))).pending ++ pulses (edgeTick (blotSample (epochTick s))) ++
        if onCoreEdge (blotSample (epochTick s)) then coreEvents (blotSample (epochTick s)) (edgeTick (blotSample (epochTick s)))
        else [] } := rfl

theorem kept_epochTick (s : State) : kept (epochTick s) = kept s := by
  unfold epochTick; split <;> rfl

theorem still_epochTick (s : State) : still (epochTick s) = still s := by
  unfold epochTick; split <;> rfl

theorem kept_edgeTick (s : State) : kept (edgeTick s) = kept s := by
  unfold edgeTick; split <;> simp

theorem still_edgeTick (s : State) : still (edgeTick s) = still s := by
  unfold edgeTick; split <;> simp

/-- A tick leaves the flash and the one-time-programmable controls. -/
theorem tick_flash_otp (s : State) : (tick s).flash = s.flash ∧ (tick s).otp = s.otp := by
  have hepoch := kept_fields (kept_epochTick s)
  rw [tick_eq]
  split
  · exact hepoch.2
  · split
    · exact (kept_fields ((kept_offEnter _).trans (kept_epochTick s))).2
    · exact (kept_fields ((kept_edgeTick _).trans ((kept_blotSample _).trans (kept_epochTick s)))).2

theorem hushed_tick (s : State) : Hushed s (tick s) := by
  have hepoch : Hushed s (epochTick s) := .of_still (still_epochTick s)
  rw [tick_eq]
  split
  · exact hepoch
  · split
    · exact hepoch.trans (hushed_offEnter _)
    · exact (hepoch.upto ((still_edgeTick _).trans (still_blotSample _))).trans (.of_still rfl)

/-- A step on an empty queue leaves the flash and the one-time-programmable controls. -/
theorem idle_flash_otp (s : State) : (idle s).flash = s.flash ∧ (idle s).otp = s.otp := by
  unfold idle
  split
  · exact tick_flash_otp s
  · exact ⟨rfl, rfl⟩

theorem hushed_idle (s : State) : Hushed s (idle s) := by
  unfold idle
  split
  · exact hushed_tick s
  · exact .of_still rfl

/-! ## A step -/

theorem step_nil {s : State} (h : s.pending = []) : step s = .next (idle s) := by
  simp only [step, h]

theorem step_cons {c : Instr} {l : List Instr} {s : State} (h : s.pending = c :: l) :
    step s = exec c { s with pending := l } := by
  simp only [step, h]

/-- What an empty queue and every command keep, a step keeps; `P` does not read the queue. -/
theorem step_induct {P : State → State → Prop} {s t : State} (hidle : P s (idle s))
    (hexec : ∀ c l, exec c { s with pending := l } = .next t → P s t) (h : step s = .next t) : P s t := by
  cases hp : s.pending with
  | nil =>
    rw [step_nil hp] at h
    cases h
    exact hidle
  | cons c l =>
    rw [step_cons hp] at h
    exact hexec c l h

/-- Settles O35: the definition of a step, on a queue with a front. -/
theorem stepRunsTheFrontCommand : Obligations.StepRunsTheFrontCommand := by
  unfold Obligations.StepRunsTheFrontCommand
  exact fun _ _ _ h => step_cons h

/-- Settles O40, by what every command keeps (`grows_exec`). -/
theorem execKeepsTheQueue : Obligations.ExecKeepsTheQueue := by
  unfold Obligations.ExecKeepsTheQueue
  exact fun _ _ _ h => (grows_exec h).pending

/-- Settles O41: the flash after reset lists no byte. -/
theorem flashCanonicalAtReset : Obligations.FlashCanonicalAtReset := by
  unfold Obligations.FlashCanonicalAtReset
  exact wf_reset

/-- Settles O42: every command keeps the canonical form (`grows_exec`), and an empty queue leaves the flash. -/
theorem flashStaysCanonical : Obligations.FlashStaysCanonical := by
  unfold Obligations.FlashStaysCanonical
  intro s t hwf
  refine step_induct (P := fun _ t => Memory.wf t.flash = true) ?_ (fun c l h => ?_)
  · rw [(idle_flash_otp s).1]; exact hwf
  · exact (grows_exec h).flash hwf

/-- Settles O43: every command lets the one-time-programmable controls grow (`grows_exec`) and leaves AUTHREQ
(`hushed_exec`); an empty queue leaves them all. -/
theorem otpNeverReverts : Obligations.OtpNeverReverts := by
  unfold Obligations.OtpNeverReverts
  intro s t hstep
  obtain ⟨hgrows, hauth⟩ : OtpGrows s.otp t.otp ∧ t.otp.authReq = s.otp.authReq := by
    refine step_induct (P := fun s t => OtpGrows s.otp t.otp ∧ t.otp.authReq = s.otp.authReq) ?_ (fun c l h => ?_) hstep
    · rw [(idle_flash_otp s).2]; exact ⟨.refl _, rfl⟩
    · exact ⟨(grows_exec h).otp, (hushed_exec h).authReq⟩
  exact ⟨hgrows.fuses, hauth, fun i => hgrows.revoked i.val, hgrows.keys⟩

/-- Settles O44: no command leaves a request open (`hushed_exec`), and an empty queue opens none. -/
theorem noTransferStaysOpen : Obligations.NoTransferStaysOpen := by
  unfold Obligations.NoTransferStaysOpen
  refine ⟨rfl, fun s t hs => ?_⟩
  refine step_induct (P := fun _ t => t.pwr.softReq = false) ?_ (fun c l h => ?_)
  · exact (hushed_idle s).request hs
  · exact (hushed_exec h).request hs

/-- Settles O45: a command outside `mayWriteFlash` leaves the whole kept part, or blows fuses alone. -/
theorem flashFrame : Obligations.FlashFrame := by
  unfold Obligations.FlashFrame
  intro c s t hc h a
  suffices hflash : t.flash = s.flash by rw [hflash]
  cases ho : writesOtp c
  case false => exact (kept_fields (kept_exec hc ho h)).2.1
  case true =>
    cases c
    case revoke slot => exact flash_of_next h (flash_imgCmd_otp (.inl rfl) slot.isLt s)
    case epochAdvance => exact flash_of_next h (flash_imgCmd_otp (.inr rfl) (by decide) s)
    case keyprog dr => exact flash_of_next h (flash_keyprogCmd dr s)
    all_goals exact Bool.noConfusion ho

/-- Settles O39: the meaning of a command answers a next state, but for an access to a factory register. -/
theorem everyCommandCompletes : Obligations.EveryCommandCompletes := by
  unfold Obligations.EveryCommandCompletes
  intro c s hftm
  have hfactory : ∀ a, factoryHit s a = false := fun a => by simp [factoryHit, hftm]
  cases c
  case registerWrite i a w => exact ⟨_, if_neg (by simp [hfactory])⟩
  case mfrRegData d pec => exact ⟨_, if_neg (by simp [hfactory])⟩
  case i3cPrivateWrite data =>
    have hdata : writeFactory data s = false := by
      unfold writeFactory
      split
      · simp [i3cFactory, hfactory]
      · rfl
    exact ⟨_, if_neg (by simp [hdata])⟩
  case i3cPrivateRead n => exact ⟨_, if_neg (by simp [i3cFactory, hfactory])⟩
  case regacc dr => exact ⟨_, if_neg (by simp [hfactory])⟩
  all_goals exact ⟨_, rfl⟩

end Sys2Proof.Machine
end

section
/-! PROOF. A load port's START reaches a rail of another port: where the START finds a sense line open (R236, R238), the latch
takes the accord to its safe levels (R112), which disturbs its banks (R157) and spoils the open balance round of every rail with
an active phase there (R161). -/

namespace Sys2Proof.Machine

/-- A rail of four phases, one in each of four banks, from channel `n` on. -/
def spreadRail (n : Nat) : RailCfg where
  acc := { nph := 4, nmin := 1, bypass := false, pair := false, phase := [n, n + 8, n + 16, n + 24], safe := [0, 0, 0, 0],
           irated := 480, peak := 1600, spoint := 0 }
  eng := { integ := true, zeros := 1, poles := 1, llEn := true, fixed := false, fixset := 0, divk := 0, lline := 0,
           spacing := 0, soffset := 0, vmax := 1200, vmin := 200, vboot := 640, slew := 40 }
  coef := { nl := 1, nc := 1, ledge := [], cedge := [], sets := [⟨1, 1, 0, 0, 0, 0, 0, 12⟩] }
  md := { mode := .ffvm, toCori := false, corin := 0, period := 1600, dmax := 60000, dmin := 0, toncl := 0, tonco := 0,
          ripg := 0, corout := 0 }
  cur := { rotate := true, tripn := 8, fbLinear := false, ilim := 1600, tfloor := 160, tperiod := 10, dwell := 4,
           trimmax := 0, ovth := 120, uvth := 120, ineg := 80, bdtime := 20, fold := [], shed := [] }
  seq := { pgrise := 60, pgfall := 80, pgdelay := 10, ramps := [],
           start := [⟨.terminalOn, 0, 0, []⟩], stop := [⟨.terminalOff, 0, 0, []⟩] }
  rev := 0

/-- An image of two rails on the same four banks; port 0 owns rail 0 alone. -/
def sharedBanks : ImageCfg where
  gen := 1
  auth := false
  epoch := 0
  keyidx := 0
  rails := some (spreadRail 0) :: some (spreadRail 1) :: List.replicate 22 none
  pins := []
  ports := [{ proto := .vcmd2, nrail := 1, step := 1, budget := 800, rails := [0], share := [256], vsel := [] }]
  tband := { edges := [400, 600], hyst := 16, ror := List.replicate 32 0, bands := [] }
  hadc := { maceration := 5, entries := [] }
  irq := List.replicate 448 0
  hostif := { strapmode := 0, smbaddr := 0x20, pecreq := false, i3csa := 0, hotjoin := false, ibiEn := true, wdog := 100 }
  nelink := none

/-- RUN with that image: rail 0 stopped with its positive sense line open, rail 1 with one active phase. -/
def openSenseBesideNeighbour : State :=
  onRail 0 (fun x => { x with prot := { x.prot with snsP := true } })
    (onRail 1 (fun x => { x with sh := { x.sh with nact := 1 } })
      { State.reset with pwr := { State.reset.pwr with dev := .run }, sealed := { img := some sharedBanks } })

/-- The VCMD-2 frame that starts rail 0: START bits, OP 2, LRAIL 0, DATA 0 and its CRC (R199). -/
def startFrame : BitVec 32 := 0x9000001C#32

/-- A balance round of rail `r` is spoilt in the state that a command answers. -/
def spoils (r : RailId) : Out → Bool
  | .next t => t.rails[r].sh.roundBad
  | _ => false

theorem start_spoils_neighbour : spoils 1 (exec (.vcmd2Start 0 startFrame) openSenseBesideNeighbour) = true := by
  decide +kernel

/-- Refutes O46: the START of rail 0 through port 0 sets `roundBad` of rail 1, which port 0 does not own. -/
theorem not_portsKeepApart : ¬ Obligations.PortsKeepApart := by
  unfold Obligations.PortsKeepApart
  intro h
  obtain ⟨t, ht⟩ := everyCommandCompletes (.vcmd2Start 0 startFrame) openSenseBesideNeighbour rfl
  obtain ⟨_, _, _, _, _, hrails, _⟩ := h _ 0 _ t rfl ht
  have hsame : t.rails[(1 : RailId)].sh.roundBad = openSenseBesideNeighbour.rails[(1 : RailId)].sh.roundBad :=
    (congrArg (fun x : Rail => x.sh.roundBad) (hrails 1 (by decide)) :)
  have hspoilt : t.rails[(1 : RailId)].sh.roundBad = true := by
    have h := start_spoils_neighbour
    rwa [ht] at h
  rw [hspoilt] at hsame
  exact Bool.noConfusion hsame

end Sys2Proof.Machine
end

section
/-! PROOF. What the operations on rails, channels and banks leave of the rest of the state: `outer s` is that rest, and one lemma
per operation says that the operation leaves it as it is. -/

namespace Sys2Proof.Machine

/-- What an operation on rails, channels and banks leaves: the state but for these, the ports, the agenda
and the HADC. -/
def outer (s : State) : State :=
  { s with agenda := [], chans := State.reset.chans, banks := State.reset.banks, rails := State.reset.rails
           ports := State.reset.ports, hadc := {} }

@[simp] theorem outer_ite (c : Prop) [Decidable c] (a b : State) : outer (if c then a else b) = if c then outer a else outer b := by
  split <;> rfl

@[simp] theorem outer_forEach {α : Type} (l : List α) (f : α → State → State) (h : ∀ a s, outer (f a s) = outer s) (s : State) :
    outer (forEach l f s) = outer s := forEach_keeps outer l f h s

@[simp] theorem outer_onRail (r : RailId) (f : Rail → Rail) (s : State) : outer (onRail r f s) = outer s := by
  unfold onRail; rfl

@[simp] theorem outer_onBank (b : BankId) (f : Bank → Bank) (s : State) : outer (onBank b f s) = outer s := by
  unfold onBank; rfl

@[simp] theorem outer_onChan (ch : ChanId) (f : Chan → Chan) (s : State) : outer (onChan ch f s) = outer s := by
  unfold onChan; rfl

@[simp] theorem outer_onPort (p : PortId) (f : Port → Port) (s : State) : outer (onPort p f s) = outer s := by
  unfold onPort; rfl

@[simp] theorem outer_onChans (l : List Nat) (f : Nat → Chan → Chan) (s : State) : outer (onChans l f s) = outer s := by
  unfold onChans; rfl

@[simp] theorem outer_onBanks (l : List Nat) (f : Bank → Bank) (s : State) : outer (onBanks l f s) = outer s := by
  unfold onBanks; rfl

@[simp] theorem outer_probeBegin (l : List Nat) (s : State) : outer (probeBegin l s) = outer s := by unfold probeBegin; rfl

@[simp] theorem outer_onCfgRails (f : RailId → RailCfg → Rail → Rail) (s : State) : outer (onCfgRails f s) = outer s := by
  unfold onCfgRails; rfl

@[simp] theorem outer_arm (dt : Nat) (e : Instr) (s : State) : outer (arm dt e s) = outer s := by unfold arm; rfl

@[simp] theorem outer_disarm (p : Instr → Bool) (s : State) : outer (disarm p s) = outer s := by unfold disarm; rfl

@[simp] theorem outer_rearm (dt : Nat) (e : Instr) (s : State) : outer (rearm dt e s) = outer s := by unfold rearm; rfl

@[simp] theorem outer_onFire (e : Instr) (f : State → State) (h : ∀ s, outer (f s) = outer s) (s : State) :
    outer (onFire e f s) = outer s := by
  unfold onFire fire
  by_cases hc : isDue e s
  · simp [hc, h]
  · simp [hc]

@[simp] theorem outer_disarmSeq (r : RailId) (s : State) : outer (disarmSeq r s) = outer s := by unfold disarmSeq; rfl

@[simp] theorem outer_roundSpoil (b : BankId) (s : State) : outer (roundSpoil b s) = outer s := by unfold roundSpoil; rfl

@[simp] theorem outer_brefEvent (b : BankId) (s : State) : outer (brefEvent b s) = outer s := by unfold brefEvent; simp

@[simp] theorem outer_brefEvents (l : List Nat) (s : State) : outer (brefEvents l s) = outer s := by
  unfold brefEvents
  exact outer_forEach _ _ (fun a s => by split <;> simp) _

@[simp] theorem outer_brefRelease (b : BankId) (s : State) : outer (brefRelease b s) = outer s := by unfold brefRelease; simp

@[simp] theorem outer_lateBack (l : List Nat) (s : State) : outer (lateBack l s) = outer s := by unfold lateBack; rfl

@[simp] theorem outer_safeChans (l : List Nat) (s : State) : outer (safeChans l s) = outer s := by unfold safeChans; simp

@[simp] theorem outer_freeChans (r : RailId) (c : RailCfg) (s : State) : outer (freeChans r c s) = outer s := by
  unfold freeChans; simp

@[simp] theorem outer_stopCarriers (r : RailId) (c : RailCfg) (s : State) : outer (stopCarriers r c s) = outer s := by
  unfold stopCarriers; rfl

@[simp] theorem outer_offAccord (r : RailId) (c : RailCfg) (s : State) : outer (offAccord r c s) = outer s := by
  unfold offAccord; rfl

@[simp] theorem outer_pgLow (r : RailId) (s : State) : outer (pgLow r s) = outer s := by unfold pgLow; rfl

@[simp] theorem outer_sndAbort (r : RailId) (s : State) : outer (sndAbort r s) = outer s := by unfold sndAbort; rfl

@[simp] theorem outer_sndDrop (r : RailId) (s : State) : outer (sndDrop r s) = outer s := by unfold sndDrop; rfl

@[simp] theorem outer_railHalt (r : RailId) (s : State) : outer (railHalt r s) = outer s := by
  unfold railHalt; simp

@[simp] theorem outer_latchTrip (r : RailId) (c : RailCfg) (cause : BitVec 2) (wh : Nat) (s : State) :
    outer (latchTrip r c cause wh s) = outer s := by
  unfold latchTrip; simp

@[simp] theorem outer_btsfLatch (r : RailId) (c : RailCfg) (b : Nat) (s : State) : outer (btsfLatch r c b s) = outer s := by
  unfold btsfLatch; simp

@[simp] theorem outer_latchProt (r : RailId) (c : RailCfg) (cause : BitVec 3) (s : State) :
    outer (latchProt r c cause s) = outer s := by
  unfold latchProt; simp

@[simp] theorem outer_macerRail (r : RailId) (s : State) : outer (macerRail r s) = outer s := by
  unfold macerRail
  split
  · rfl
  · split
    · rfl
    · exact outer_rearm ..

@[simp] theorem outer_releaseRail (r : RailId) (c : RailCfg) (s : State) : outer (releaseRail r c s) = outer s := by
  unfold releaseRail; simp

@[simp] theorem outer_bdLatch (r : RailId) (c : RailCfg) (s : State) : outer (bdLatch r c s) = outer s := by
  unfold bdLatch; simp

@[simp] theorem outer_fatalRail (rc : RailId × RailCfg) (s : State) : outer (fatalRail rc s) = outer s := by
  unfold fatalRail; simp

@[simp] theorem outer_urgentReq (user : ConvUser) (input : Nat) (s : State) : outer (urgentReq user input s) = outer s := by
  unfold urgentReq; rfl

@[simp] theorem outer_moveTo (r : RailId) (p0 sl dest : Nat) (s : State) : outer (moveTo r p0 sl dest s) = outer s := by
  unfold moveTo; simp

@[simp] theorem outer_moveStop (r : RailId) (s : State) : outer (moveStop r s) = outer s := by unfold moveStop; rfl

@[simp] theorem outer_vselWrite (r : RailId) (p : PortId) (t : Nat) (s : State) : outer (vselWrite r p t s) = outer s := by
  unfold vselWrite; simp

@[simp] theorem outer_terminalTarget (r : RailId) (c : RailCfg) (s : State) : outer (terminalTarget r c s) = outer s := by
  unfold terminalTarget
  dsimp only
  (repeat' split) <;> simp

@[simp] theorem outer_hostTarget (r : RailId) (c : RailCfg) (v : Nat) (s : State) : outer (hostTarget r c v s) = outer s := by
  unfold hostTarget; simp

@[simp] theorem outer_swOn (r : RailId) (c : RailCfg) (s : State) : outer (swOn r c s) = outer s := by unfold swOn; rfl

@[simp] theorem outer_swOff (r : RailId) (c : RailCfg) (s : State) : outer (swOff r c s) = outer s := by unfold swOff; rfl

@[simp] theorem outer_swDischarge (r : RailId) (c : RailCfg) (s : State) : outer (swDischarge r c s) = outer s := by
  unfold swDischarge; rfl

@[simp] theorem outer_ovLatch (r : RailId) (c : RailCfg) (s : State) : outer (ovLatch r c s) = outer s := by
  unfold ovLatch; simp

@[simp] theorem outer_uvLatch (r : RailId) (c : RailCfg) (s : State) : outer (uvLatch r c s) = outer s := by
  unfold uvLatch; simp

@[simp] theorem outer_snsLatch (r : RailId) (c : RailCfg) (neg : Bool) (s : State) : outer (snsLatch r c neg s) = outer s := by
  unfold snsLatch; simp

@[simp] theorem outer_pgStart (r : RailId) (c : RailCfg) (s : State) : outer (pgStart r c s) = outer s := by unfold pgStart; rfl

@[simp] theorem outer_pgArm (r : RailId) (c : RailCfg) (s : State) : outer (pgArm r c s) = outer s := by unfold pgArm; simp

@[simp] theorem outer_pgDisarm (r : RailId) (s : State) : outer (pgDisarm r s) = outer s := by unfold pgDisarm; rfl

@[simp] theorem outer_disarmState (r : RailId) (s : State) : outer (disarmState r s) = outer s := by unfold disarmState; rfl

@[simp] theorem outer_startDuration (r : RailId) (d : Nat) (s : State) : outer (startDuration r d s) = outer s := by
  unfold startDuration; simp

@[simp] theorem outer_rampBegin (r : RailId) (c : RailCfg) (s : State) : outer (rampBegin r c s) = outer s := by
  unfold rampBegin
  dsimp only
  (repeat' split) <;> simp

@[simp] theorem outer_beginAction (r : RailId) (c : RailCfg) (s : State) : outer (beginAction r c s) = outer s := by
  unfold beginAction
  dsimp only
  (repeat' split) <;> simp

@[simp] theorem outer_enterState (r : RailId) (c : RailCfg) (i : Nat) (s : State) : outer (enterState r c i s) = outer s := by
  unfold enterState; simp

@[simp] theorem outer_startRail (r : RailId) (c : RailCfg) (s : State) : outer (startRail r c s) = outer s := by
  unfold startRail
  extract_lets f t x
  have ht : outer t = outer s := by simp [t]
  (repeat' split) <;> simp [ht]

@[simp] theorem outer_stopRail (r : RailId) (c : RailCfg) (s : State) : outer (stopRail r c s) = outer s := by
  unfold stopRail; simp

@[simp] theorem outer_seqCmd (r : RailId) (c : RailCfg) (cmd : Nat) (s : State) : outer (seqCmd r c cmd s) = outer s := by
  unfold seqCmd; (repeat' split) <;> simp

@[simp] theorem outer_seqWrite (r : RailId) (c : RailCfg) (w : Word) (s : State) : outer (seqWrite r c w s) = outer s := by
  unfold seqWrite; simp

@[simp] theorem outer_tripRelease (r : RailId) (c : RailCfg) (s : State) : outer (tripRelease r c s) = outer s := by
  unfold tripRelease; simp

@[simp] theorem outer_tripWrite (r : RailId) (c : RailCfg) (w : Word) (s : State) : outer (tripWrite r c w s) = outer s := by
  unfold tripWrite; simp

@[simp] theorem outer_protRelease (r : RailId) (c : RailCfg) (s : State) : outer (protRelease r c s) = outer s := by
  unfold protRelease; simp

@[simp] theorem outer_protWrite (r : RailId) (c : RailCfg) (w : Word) (s : State) : outer (protWrite r c w s) = outer s := by
  unfold protWrite; simp

@[simp] theorem outer_countTrip (r : RailId) (c : RailCfg) (ch : ChanId) (s : State) :
    outer (countTrip r c ch s) = outer s := by
  unfold countTrip; simp

@[simp] theorem outer_phaseTrip (ch : ChanId) (s : State) : outer (phaseTrip ch s) = outer s := by
  unfold phaseTrip; (repeat' split) <;> simp

@[simp] theorem outer_startTrip (r : RailId) (c : RailCfg) (ch : ChanId) (odd : Bool) (s : State) :
    outer (startTrip r c ch odd s) = outer s := by
  unfold startTrip; simp

@[simp] theorem outer_brefWindow (b : BankId) (up : Bool) (s : State) : outer (brefWindow b up s) = outer s := by
  unfold brefWindow; simp

@[simp] theorem outer_btsfAct (b : BankId) (s : State) : outer (btsfAct b s) = outer s := by unfold btsfAct; simp

@[simp] theorem outer_btsfChange (b : BankId) (up : Bool) (s : State) : outer (btsfChange b up s) = outer s := by
  unfold btsfChange; simp

@[simp] theorem outer_rawTrips (c : RailCfg) (s : State) : outer (rawTrips c s) = outer s := by
  unfold rawTrips
  exact outer_forEach _ _ (fun a s => by (repeat' split) <;> simp) _

@[simp] theorem outer_rawBtsf (l : List Nat) (s : State) : outer (rawBtsf l s) = outer s := by unfold rawBtsf; simp

@[simp] theorem outer_rawAll (s : State) : outer (rawAll s) = outer s := by unfold rawAll; simp

end Sys2Proof.Machine
end
section
/-! PROOF. Channels at safe level (R90, R112, R297): what the latch operations make of a channel, and that the fatal hold takes
every channel of every configured rail there. -/

namespace Sys2Proof.Machine

/-- The channel stands at its safe level (R90). -/
def AtSafe (s : State) (ch : ChanId) : Prop := s.chans[ch].st = .safe ∧ s.chans[ch].out = .safe

theorem AtSafe.of_chans {s t : State} {ch : ChanId} (h : AtSafe s ch) (e : t.chans = s.chans) : AtSafe t ch := by
  unfold AtSafe at *
  rwa [e]

@[simp] theorem brefEvent_chans (b : BankId) (s : State) : (brefEvent b s).chans = s.chans := by
  unfold brefEvent
  dsimp only
  split <;> rfl

@[simp] theorem brefEvents_chans (l : List Nat) (s : State) : (brefEvents l s).chans = s.chans :=
  forEach_keeps State.chans l _ (fun b t => by split <;> simp) s

@[simp] theorem railHalt_chans (r : RailId) (s : State) : (railHalt r s).chans = s.chans := rfl

/-- The listed channels take their safe level, every other one stays. -/
@[simp] theorem safeChans_get (l : List Nat) (s : State) (ch : ChanId) :
    (safeChans l s).chans[ch] = if l.contains ch.val then toSafe s.now s.chans[ch] else s.chans[ch] := by
  unfold safeChans
  dsimp only
  rw [brefEvents_chans]
  exact onChans_get _ _ _ _

theorem atSafe_safeChans_of_mem {l : List Nat} {ch : ChanId} (h : ch.val ∈ l) (s : State) : AtSafe (safeChans l s) ch := by
  unfold AtSafe
  rw [safeChans_get, if_pos (by simpa using h)]
  exact ⟨rfl, rfl⟩

/-- Other channels going to safe level leave one that stands there. -/
theorem AtSafe.safeChans {s : State} {ch : ChanId} (h : AtSafe s ch) (l : List Nat) : AtSafe (safeChans l s) ch := by
  unfold AtSafe at *
  rw [safeChans_get]
  split
  · exact ⟨rfl, rfl⟩
  · exact h

theorem AtSafe.stopCarriers {s : State} {ch : ChanId} (h : AtSafe s ch) (r : RailId) (c : RailCfg) :
    AtSafe (stopCarriers r c s) ch := by
  have e : (Machine.stopCarriers r c s).chans[ch] =
      if (accordChans c).contains ch.val then { s.chans[ch] with nextCs := none } else s.chans[ch] := onChans_get _ _ _ _
  unfold AtSafe at *
  rw [e]
  split <;> exact h

theorem AtSafe.latchProt {s : State} {ch : ChanId} (h : AtSafe s ch) (r : RailId) (c : RailCfg) (cause : BitVec 3) :
    AtSafe (latchProt r c cause s) ch := by
  unfold Machine.latchProt
  dsimp only
  split
  · split
    · exact h.of_chans (onRail_chans r _ s)
    · exact h
  · have hhalt : AtSafe (railHalt r s) ch := h.of_chans (railHalt_chans r s)
    exact (hhalt.of_chans (onRail_chans r _ _)).safeChans _

theorem AtSafe.bdLatch {s : State} {ch : ChanId} (h : AtSafe s ch) (r : RailId) (c : RailCfg) : AtSafe (bdLatch r c s) ch := by
  unfold Machine.bdLatch
  dsimp only
  split
  · exact (h.of_chans (onRail_chans r _ s)).latchProt r c 5
  · exact h

/-- The fatal hold of one rail leaves every channel that stands at safe level. -/
theorem AtSafe.fatalRail {s : State} {ch : ChanId} (h : AtSafe s ch) (rc : RailId × RailCfg) : AtSafe (fatalRail rc s) ch := by
  unfold Machine.fatalRail
  dsimp only
  refine AtSafe.safeChans ?_ _
  split
  · exact h
  · split
    · exact h
    · split
      · exact (h.of_chans (disarm_chans _ s)).bdLatch rc.1 rc.2
      · have hstop : AtSafe (Machine.stopCarriers rc.1 rc.2 (railHalt rc.1 s)) ch :=
          (h.of_chans (railHalt_chans rc.1 s)).stopCarriers rc.1 rc.2
        exact hstop.of_chans (onRail_chans rc.1 _ _)

/-- The fatal hold takes every channel of the rail to safe level. -/
theorem atSafe_fatalRail_of_mem {rc : RailId × RailCfg} {ch : ChanId} (h : ch.val ∈ accordChans rc.2) (s : State) :
    AtSafe (fatalRail rc s) ch := atSafe_safeChans_of_mem h _

theorem AtSafe.forEach_fatalRail {s : State} {ch : ChanId} (h : AtSafe s ch) (l : List (RailId × RailCfg)) :
    AtSafe (forEach l Machine.fatalRail s) ch := by
  unfold forEach
  induction l generalizing s with
  | nil => exact h
  | cons rc l ih => exact ih (h.fatalRail rc)

/-- The fatal hold of a list of rails takes every channel of each to safe level. -/
theorem atSafe_forEach_fatalRail {l : List (RailId × RailCfg)} {rc : RailId × RailCfg} (hrc : rc ∈ l) {ch : ChanId}
    (hch : ch.val ∈ accordChans rc.2) (s : State) : AtSafe (forEach l fatalRail s) ch := by
  induction l generalizing s with
  | nil => cases hrc
  | cons rd l ih =>
    rcases List.mem_cons.mp hrc with h | h
    · subst h
      exact (atSafe_fatalRail_of_mem hch s).forEach_fatalRail l
    · exact ih h (fatalRail rd s)

/-! ## The entry to the fatal hold (R297) -/

/-- A class F source, while no hold stands, brings the device to SAFE. -/
theorem fatalEnter_dev {cause : BitVec 3} {s : State} (h : s.glb.latched = false) : (fatalEnter cause s).pwr.dev = .safe := by
  simp [fatalEnter, h]

/-- It takes every channel of every configured rail to safe level. -/
theorem atSafe_fatalEnter {cause : BitVec 3} {s : State} (h : s.glb.latched = false) {rc : RailId × RailCfg}
    (hrc : rc ∈ configured s) {ch : ChanId} (hch : ch.val ∈ accordChans rc.2) : AtSafe (fatalEnter cause s) ch := by
  unfold fatalEnter
  dsimp only
  rw [if_neg (by simp [h])]
  exact (atSafe_forEach_fatalRail (l := configured s) hrc hch _).of_chans rfl

end Sys2Proof.Machine
end

section
/-! PROOF. The monitors of clocks and supplies, the scrubber and the entry to the fatal hold (R28, R116, R296, R297, R331). -/

namespace Sys2Proof.Machine

/-! ## What `outer` tells -/

theorem pwr_of_outer {s t : State} (h : outer t = outer s) : t.pwr = s.pwr := (congrArg State.pwr h :)

theorem glb_of_outer {s t : State} (h : outer t = outer s) : t.glb = s.glb := (congrArg State.glb h :)

theorem sealed_of_outer {s t : State} (h : outer t = outer s) : t.sealed = s.sealed := (congrArg State.sealed h :)

theorem irqEn_of_outer {s t : State} (h : outer t = outer s) : t.irqEn = s.irqEn := (congrArg State.irqEn h :)

theorem hif_of_outer {s t : State} (h : outer t = outer s) : t.hif = s.hif := (congrArg State.hif h :)

theorem now_of_outer {s t : State} (h : outer t = outer s) : t.now = s.now := (congrArg State.now h :)

/-! ## The entry to the fatal hold -/

theorem outer_fatalRails (l : List (RailId × RailCfg)) (s : State) : outer (forEach l fatalRail s) = outer s :=
  outer_forEach l fatalRail outer_fatalRail s

/-- GLB_FATAL at the first source of a hold (R297). -/
def holdBegun (cause : BitVec 3) (s : State) : State :=
  { s with glb := { s.glb with latched := true, cause := cause, fatalAt := some (cycle s), fatalOcc := some (cycle s) } }

/-- The device stands in SAFE; a transition that ran is dropped (R297). -/
def toSafeState (s : State) : State := { s with pwr := { s.pwr with dev := .safe, tgt := none, runWait := false } }

/-- The rest of the state at the first source of a hold: GLB_FATAL records it, the device stands in SAFE (R297). -/
theorem outer_fatalEnter {cause : BitVec 3} {s : State} (hfree : s.glb.latched = false) (hclr : s.glb.clrAt ≠ some (cycle s)) :
    outer (fatalEnter cause s) = outer (toSafeState (holdBegun cause s)) := by
  have hback : (s.glb.clrAt == some (cycle s)) = false := by simpa using hclr
  have hrails : outer (fatalEnter cause s) = toSafeState (outer (forEach (configured s) fatalRail (holdBegun cause s))) := by
    unfold fatalEnter holdBegun
    simp only [hfree, hback, Bool.or_false]
    rfl
  rw [hrails, outer_fatalRails]
  rfl

/-- While class F is armed no transition of this core cycle has to be taken back (R319, R337). -/
theorem fatalFirst_of_armed {s : State} (h : fatalArmed s = true) : fatalFirst s = s := by
  simp only [fatalArmed, Bool.and_eq_true, bne_iff_ne, ne_eq] at h
  obtain ⟨⟨_, hstandby⟩, hoff⟩ := h
  simp [fatalFirst, hstandby, hoff]

/-- A class F source that is armed acts at once (R319). -/
theorem fatalRaise_of_armed {s : State} (h : fatalArmed s = true) (cause : BitVec 3) (mark : Glb → Glb) :
    fatalRaise cause mark s = fatalEnter cause { s with glb := mark s.glb } := by
  simp only [fatalRaise, fatalFirst_of_armed h, h, if_true]

/-- What an armed class F source makes of GLB_FATAL and of the power state, and what it leaves (R297). -/
theorem fatalRaise_spec {cause : BitVec 3} {mark : Glb → Glb} {s : State} (harmed : fatalArmed s = true)
    (hfree : (mark s.glb).latched = false) (hclr : (mark s.glb).clrAt ≠ some (cycle s)) :
    (fatalRaise cause mark s).glb =
        { mark s.glb with latched := true, cause := cause, fatalAt := some (cycle s), fatalOcc := some (cycle s) } ∧
      (fatalRaise cause mark s).pwr = { s.pwr with dev := .safe, tgt := none, runWait := false } ∧
      (fatalRaise cause mark s).sealed = s.sealed ∧ (fatalRaise cause mark s).irqEn = s.irqEn ∧
      (fatalRaise cause mark s).hif = s.hif := by
  have h := outer_fatalEnter (cause := cause) (s := { s with glb := mark s.glb }) hfree hclr
  rw [fatalRaise_of_armed harmed]
  exact ⟨(glb_of_outer h :), (pwr_of_outer h :), (sealed_of_outer h :), (irqEn_of_outer h :), (hif_of_outer h :)⟩

/-- A command that raises an armed class F source. -/
theorem gives_fatal {c : Instr} {s v : State} {f : State → State} {cause : BitVec 3} {mark : Glb → Glb} {P : State → Prop}
    (e : exec c s = act f s) (hf : f s = fatalRaise cause mark v) (harmed : fatalArmed v = true)
    (hfree : (mark v.glb).latched = false) (hclr : (mark v.glb).clrAt ≠ some (cycle v))
    (hP : ∀ t : State,
      { t.glb with silFrz := false } = { mark v.glb with
        latched := true, cause := cause, fatalAt := some (cycle v), fatalOcc := some (cycle v), silFrz := false } →
      t.pwr = { v.pwr with dev := .safe, tgt := none, runWait := false } → t.sealed = v.sealed → t.irqEn = v.irqEn →
      { t.hif with ibi := [] } = { v.hif with ibi := [] } → P t) : Gives c s P := by
  refine gives_act e ?_
  have hcore := settleBy_core none (occurs f s) s (f s)
  generalize settleBy none (occurs f s) s (f s) = t at hcore ⊢
  obtain ⟨hglb, hpwr, hsealed, hirq, hhif⟩ := fatalRaise_spec (cause := cause) harmed hfree hclr
  rw [hf] at hcore
  exact hP t (hcore.glb.trans (by rw [hglb])) (hcore.pwr.trans hpwr) (hcore.sealed.trans hsealed) (hcore.irqEn.trans hirq)
    (hcore.hif.trans (by rw [hhif]))

/-- It takes every channel of every configured rail to safe level (R112, R297). -/
theorem atSafe_fatalRaise {cause : BitVec 3} {mark : Glb → Glb} {s : State} (harmed : fatalArmed s = true)
    (hfree : (mark s.glb).latched = false) :
    (fatalRaise cause mark s).pwr.dev = .safe ∧
      ∀ rc ∈ configured s, ∀ ch : ChanId, ch.val ∈ accordChans rc.2 → AtSafe (fatalRaise cause mark s) ch := by
  rw [fatalRaise_of_armed harmed]
  refine ⟨fatalEnter_dev hfree, fun rc hrc ch hch => ?_⟩
  have hrc : rc ∈ configured { s with glb := mark s.glb } := hrc
  exact atSafe_fatalEnter hfree hrc hch

/-! ## The sources -/

theorem boArmed_of_islandUp {s : State} (h : islandUp s = true) : boArmed s = true := by simp [boArmed, h]

theorem exec_vddBrownout (up : Bool) (s : State) : exec (.vddBrownout up) s = act (vddStep up) s := rfl
theorem exec_vddaBrownout (up : Bool) (s : State) : exec (.vddaBrownout up) s = act (vddaStep up) s := rfl
theorem exec_dpwmClockLost (up : Bool) (s : State) : exec (.dpwmClockLost up) s = act (dpwmStep up) s := rfl
theorem exec_pllLossOfLock (s : State) : exec .pllLossOfLock s = act pllDrop s := rfl
theorem exec_dllLossOfLock (s : State) : exec .dllLossOfLock s = act dllDrop s := rfl
theorem exec_referenceLost (s : State) : exec .referenceLost s = act refLost s := rfl
theorem exec_configScrub (errs : List ScrubErr) (s : State) : exec (.configScrub errs) s = act (scrubPass errs) s := rfl

/-- The rise of the VDD brown-out detector. -/
theorem vddStep_rise {s : State} (hup : islandUp s = true) (hbo : s.pwr.vddBo = false) :
    vddStep true s = fatalRaise 4 (fun g => { g with vddBo := true }) { s with pwr := { s.pwr with vddBo := true } } := by
  simp [vddStep, boArmed_of_islandUp hup, hbo]

theorem vddaStep_rise {s : State} (hup : islandUp s = true) (hbo : s.pwr.vddaBo = false) :
    vddaStep true s = fatalRaise 5 (fun g => { g with vddaBo := true }) { s with pwr := { s.pwr with vddaBo := true } } := by
  simp [vddaStep, boArmed_of_islandUp hup, hbo]

theorem dpwmStep_loss {s : State} (hup : islandUp s = true) (hbad : s.pwr.dpwmBad = false) :
    dpwmStep true s = fatalRaise 3 (fun g => { g with dpwmClk := true }) { s with pwr := { s.pwr with dpwmBad := true } } := by
  simp [dpwmStep, hup, hbad]

theorem pllDrop_up {s : State} (hup : islandUp s = true) :
    pllDrop s = fatalRaise 1 (fun g => { g with pllLock := true }) { s with pwr := { s.pwr with pllLk := false } } := by
  simp [pllDrop, hup]

theorem dllDrop_up {s : State} (hup : islandUp s = true) :
    dllDrop s = fatalRaise 2 (fun g => { g with dllLock := true }) { s with pwr := { s.pwr with dllLk := false } } := by
  simp [dllDrop, hup]

/-- A pass of the scrubber that meets one error (R296). -/
theorem scrubPass_one {s : State} (hup : islandUp s = true) (e : ScrubErr) : scrubPass [e] s = scrubOne e s := by
  simp [scrubPass, hup, forEach]

/-- A double error of the configuration in force is a class F source (R296). -/
theorem scrubOne_double {s : State} {e : ScrubErr} (hd : e.double = true) (hf : e.inForce = true) :
    scrubOne e s = fatalRaise 6 id { s with glb := { s.glb with cfgUnc := true, cfgBad := true, part := e.part } } := by
  simp [scrubOne, hd, hf]

theorem satInc_eq_min (m n : Nat) : satInc m n = min m (n + 1) := by
  unfold satInc; split <;> omega

/-! ## The loss of the slow clock (R373) -/

/-- In slow-clock mode the timers end as `slowUndo` leaves them. -/
theorem slowLost_slowMode {s : State} (hmode : s.tmr.slowMode = true) :
    slowLost s = { slowUndo s with tmr := { (slowUndo s).tmr with
      slowErr := true, tmr := mapTab (fun _ => endOnSlowLoss) (slowUndo s).tmr.tmr } } := by
  simp only [slowLost, hmode, if_true]
  rfl

/-- Without slow-clock mode the loss touches no timer. -/
theorem slowLost_of_not_slowMode {s : State} (hmode : s.tmr.slowMode = false) : slowLost s = s := by
  simp [slowLost, hmode]

/-- What a loss of the slow clock takes back does not depend on GLB_STATUS and stays within the timers. -/
theorem slowUndo_glb (s : State) (g : Glb) : slowUndo { s with glb := g } = { slowUndo s with glb := g } := by
  simp only [slowUndo]
  split
  · split <;> rfl
  · rfl

theorem slowUndo_pwr (s : State) : (slowUndo s).pwr = s.pwr := by
  unfold slowUndo; (repeat' split) <;> rfl

theorem slowUndo_sealed (s : State) : (slowUndo s).sealed = s.sealed := by
  unfold slowUndo; (repeat' split) <;> rfl

theorem slowUndo_slowMode {s : State} (h : s.tmr.slowMode = true) : (slowUndo s).tmr.slowMode = true := by
  unfold slowUndo; (repeat' split) <;> exact h

/-- Settles O2: each source by its own equation, and by what an armed source makes of the state (`fatalRaise_spec`). -/
theorem monitorsRaiseTheirSources : Obligations.MonitorsRaiseTheirSources := by
  unfold Obligations.MonitorsRaiseTheirSources
  refine ⟨fun s hup harm hfree hclr hbo => ?vdd, fun s hup => ?vddDown, fun s hup harm hfree hclr hbo => ?vdda,
    fun s hup harm hfree hclr hbad => ?dpwm, fun s hup harm hfree hclr => ?pll, fun s hup harm hfree hclr => ?dll,
    fun s hup hrc => ?ref, fun s hup hmode => ?slowIdle, fun s hmode => ?slowMode, fun s hup hmode => ?slowDown⟩
  case vdd =>
    refine gives_fatal (exec_vddBrownout true s) (vddStep_rise hup hbo) harm hfree hclr fun t hglb hpwr hsealed hirq hhif => ?_
    exact ⟨(congrArg Glb.vddBo hglb :), (congrArg Glb.latched hglb :), (congrArg Glb.cause hglb :),
      (congrArg Power.dev hpwr :), hsealed, hirq, (congrArg Hif.dynAddr hhif :)⟩
  case vddDown =>
    refine becomes_act (exec_vddBrownout false s) ?_
    simp only [vddStep, boArmed_of_islandUp hup, Bool.not_true, Bool.false_eq_true, if_false, Bool.false_and]
    exact .refl _
  case vdda =>
    refine gives_fatal (exec_vddaBrownout true s) (vddaStep_rise hup hbo) harm hfree hclr fun t hglb hpwr hsealed hirq hhif => ?_
    exact ⟨(congrArg Glb.vddaBo hglb :), (congrArg Glb.latched hglb :), (congrArg Glb.cause hglb :),
      (congrArg Power.dev hpwr :), hsealed, hirq, (congrArg Hif.dynAddr hhif :)⟩
  case dpwm =>
    refine gives_fatal (exec_dpwmClockLost true s) (dpwmStep_loss hup hbad) harm hfree hclr fun t hglb hpwr hsealed hirq hhif => ?_
    exact ⟨(congrArg Glb.dpwmClk hglb :), (congrArg Glb.latched hglb :), (congrArg Glb.cause hglb :),
      (congrArg Power.dev hpwr :), hsealed, hirq, (congrArg Hif.dynAddr hhif :)⟩
  case pll =>
    refine gives_fatal (exec_pllLossOfLock s) (pllDrop_up hup) harm hfree hclr fun t hglb hpwr hsealed hirq _ => ?_
    exact ⟨(congrArg Glb.pllLock hglb :), (congrArg Power.pllLk hpwr :), (congrArg Glb.latched hglb :),
      (congrArg Glb.cause hglb :), (congrArg Power.dev hpwr :), hsealed, hirq⟩
  case dll =>
    refine gives_fatal (exec_dllLossOfLock s) (dllDrop_up hup) harm hfree hclr fun t hglb hpwr hsealed hirq _ => ?_
    exact ⟨(congrArg Glb.dllLock hglb :), (congrArg Power.dllLk hpwr :), (congrArg Glb.latched hglb :),
      (congrArg Glb.cause hglb :), (congrArg Power.dev hpwr :), hsealed, hirq⟩
  case ref =>
    refine becomes_act (exec_referenceLost s) ?_
    simp only [refLost, hup, hrc, Bool.not_false, Bool.and_self, if_true]
    exact .refl _
  case slowIdle =>
    refine becomes_act (exec_slowClockLost s) ?_
    rw [slowClkLost, if_pos hup, slowLost_of_not_slowMode (s := { s with glb := { s.glb with slowClk := true } }) hmode]
    exact .refl _
  case slowMode =>
    refine gives_act (exec_slowClockLost s) ?_
    obtain ⟨g, hg⟩ := slowClkLost_eq_slowLost s
    rw [hg, slowLost_slowMode (s := { s with glb := g }) hmode, slowUndo_glb]
    simp only [settleBy_tmr, settleBy_pwr, settleBy_sealed, mapTab_get, endOnSlowLoss, beq_iff_eq]
    exact ⟨trivial, slowUndo_slowMode hmode, trivial, trivial, slowUndo_pwr s, slowUndo_sealed s, fun _ => trivial⟩
  case slowDown =>
    refine becomes_act (exec_slowClockLost s) ?_
    rw [slowClkLost, if_neg (by simp [hup]), slowLost_of_not_slowMode hmode]
    exact .refl _

end Sys2Proof.Machine
end

section
/-! PROOF. Statements that a concrete state refutes: the state, what the model answers there, and the negation. -/

namespace Sys2Proof.Machine

/-- The state that a command answers passes a test. -/
def answersWith (test : State → Bool) : Out → Bool
  | .next t => test t
  | _ => false

/-- A command whose answer passes a test that `P` excludes does not give `P`. -/
theorem not_gives_of_answersWith {c : Instr} {s : State} {P : State → Prop} {test : State → Bool}
    (h : answersWith test (exec c s) = true) (hP : ∀ t, P t → test t = false) : ¬ Gives c s P := by
  rintro ⟨t, ht, hPt⟩
  rw [ht] at h
  exact Bool.noConfusion ((hP t hPt).symm.trans h)

/-! ## The states: two rails on the same banks, a supply's result while GOTO RUN waits, words due at the next core clock edge -/

/-- RUN with two rails on the same four banks, rail 1 with one active phase. -/
def besideNeighbour : State :=
  onRail 1 (fun x => { x with sh := { x.sh with nact := 1 } })
    { State.reset with pwr := { State.reset.pwr with dev := .run }, sealed := { img := some sharedBanks } }

/-- The balance round of rail 1 is spoilt. -/
def spoilt (t : State) : Bool := t.rails[(1 : RailId)].sh.roundBad

/-- A rail that is as it was in `s` but for its Sillage buffer has no newly spoilt round. -/
theorem spoilt_of_same {s t : State}
    (h : { t.rails[(1 : RailId)] with sil := {} } = { s.rails[(1 : RailId)] with sil := {} }) : spoilt t = spoilt s :=
  (congrArg (fun x : Rail => x.sh.roundBad) h :)

/-- The same rails, with the over-voltage comparator of rail 0 armed. -/
def armedBesideNeighbour : State := onRail 0 (fun x => { x with prot := { x.prot with ovArm := true } }) besideNeighbour

/-- RUN is awaited with the band selected and Tj valid; the second conversion of VDD in a row is in progress. -/
def supplyWhileRunWaits : State :=
  { State.reset with
    pwr := { State.reset.pwr with dev := .ready, tgt := some .run, runWait := true }
    thm := { State.reset.thm with bandSel := true, tjValid := true }
    hadc := { State.reset.hadc with
      conv := some { input := 80, range := 0, user := .entry 0, settling := false }
      res := [{}]
      mon := { State.reset.hadc.mon with supOut := [1] } }
    sealed := { img := some { sharedBanks with
      hadc := { maceration := 5, entries := [⟨80, 0, 0, 1, 0, true, 0⟩] } } } }

/-- Channel 0 is being probed. -/
def probed (t : State) : Bool := t.chans[(0 : ChanId)].probeAt.isSome

/-- Tick 1 of a debug halt, with the compare words of a sample of rail 0 due at tick 2. -/
def wordsAtNextEdge : State :=
  onRail 0 (fun x => { x with eng := { x.eng with wordsDue := some 2 } })
    { State.reset with
      now := 1, pwr := { State.reset.pwr with dev := .run }, tap := { State.reset.tap with halted := true }
      sealed := { img := some sharedBanks } }

/-- No words of rail 0 wait. -/
def wordsGone (t : State) : Bool := t.rails[(0 : RailId)].eng.wordsDue.isNone

/-- What the model answers in these states: the phase trip and the over-voltage trip of rail 0 spoil the round of rail 1, the supply's
result begins a discovery, and the words of rail 0 are gone after the idle step. -/
theorem concrete_answers : answersWith spoilt (exec (.phaseCurrentLimitTrip 0 true) besideNeighbour) = true ∧
    answersWith spoilt (exec (.ovTrip 0 true) armedBesideNeighbour) = true ∧
    answersWith probed (exec (.hadcConversionDone 0) supplyWhileRunWaits) = true ∧
    wordsGone (idle wordsAtNextEdge) = true := by
  decide +kernel

/-! ## A trip beside a rail on the same bank (R112, R157, R161) -/

/-- Refutes O7: the phase trip of rail 0 takes its channels to safe level, which disturbs their banks and sets `roundBad` of
rail 1, so a rail other than the tripping one changes. -/
theorem not_samplesAndTrips : ¬ Obligations.SamplesAndTrips := by
  unfold Obligations.SamplesAndTrips
  rintro ⟨_, _, _, _, hphase, _⟩
  refine not_gives_of_answersWith concrete_answers.1 ?_
    (hphase besideNeighbour 0 0 (spreadRail 0) 0 rfl rfl rfl (by decide) rfl (by decide))
  rintro t ⟨_, _, _, _, _, _, _, _, hrails⟩
  exact spoilt_of_same (hrails 1 (by decide))

/-- Refutes O9: the over-voltage trip of rail 0 sets `roundBad` of rail 1, which shares its banks. -/
theorem not_protectionTripsAndClears : ¬ Obligations.ProtectionTripsAndClears := by
  unfold Obligations.ProtectionTripsAndClears
  rintro ⟨hov, _⟩
  refine not_gives_of_answersWith concrete_answers.2.1 ?_
    (hov armedBesideNeighbour 0 (spreadRail 0) rfl rfl rfl rfl rfl)
  rintro t ⟨_, _, _, _, _, _, _, hrails⟩
  exact spoilt_of_same (hrails 1 (by decide))

/-! ## A result that lets a waiting GOTO RUN go on (R327) -/

/-- Refutes O16: a result of VDD completes while GOTO RUN waits and the band is selected; the discovery of READY to RUN begins and
marks the channels that it probes, so the channels do not stay as they were. -/
theorem not_hadcScheduledResults : ¬ Obligations.HadcScheduledResults := by
  unfold Obligations.HadcScheduledResults
  rintro ⟨_, _, _, hsupply, _⟩
  refine not_gives_of_answersWith concrete_answers.2.2.1 ?_
    (hsupply supplyWhileRunWaits { input := 80, range := 0, user := .entry 0, settling := false } 0 0
      ⟨80, 0, 0, 1, 0, true, 0⟩ {} 0 1 760000 840000 0 ⟨rfl, rfl, rfl, rfl, rfl, rfl⟩ rfl rfl
      (.inl (by decide)) (.inl (by decide)) rfl)
  rintro t ⟨_, _, _, hchans, _⟩
  have hkept : probed t = probed supplyWhileRunWaits := by rw [probed, probed, hchans]
  exact hkept

/-! ## Compare words that fall due at the very next core clock edge (R35, R94) -/

theorem pending_wordsAtNextEdge : wordsAtNextEdge.pending = [] := rfl

theorem fallen_wordsAtNextEdge : fallen wordsAtNextEdge = [] := rfl

theorem wordsWait_wordsAtNextEdge : wordsWait wordsAtNextEdge = false := rfl

/-- A rail that is as it was in `s` but for its Sillage buffer and its sequencing input has the same words waiting. -/
theorem wordsGone_of_same {s t : State}
    (h : { t.rails[(0 : RailId)] with sil := {}, seq := { t.rails[(0 : RailId)].seq with seqIn := false } } =
      { s.rails[(0 : RailId)] with sil := {}, seq := { s.rails[(0 : RailId)].seq with seqIn := false } }) :
    wordsGone t = wordsGone s := (congrArg (fun x : Rail => x.eng.wordsDue.isNone) h :)

theorem words_wait_before : wordsGone wordsAtNextEdge = false := rfl

/-- Refutes O36: no word waits at tick 1, yet the words that fall due at tick 2 take effect in the step, so a rail changes in more than
its sequencing input. -/
theorem not_coreCycle : ¬ Obligations.CoreCycle := by
  unfold Obligations.CoreCycle
  rintro ⟨_, htick, _⟩
  obtain ⟨t, ht, _, _, _, _, _, _, hrails, _⟩ := htick wordsAtNextEdge pending_wordsAtNextEdge fallen_wordsAtNextEdge (by decide)
    (.inl wordsWait_wordsAtNextEdge)
  rw [step_nil pending_wordsAtNextEdge] at ht
  have hstep : t = idle wordsAtNextEdge := (Host.Outcome.next.inj ht).symm
  have hsame := wordsGone_of_same (hrails 0)
  rw [hstep, concrete_answers.2.2.2, words_wait_before] at hsame
  exact Bool.noConfusion hsame

end Sys2Proof.Machine
end

section
/-! PROOF. The release of the fatal hold, the scrubber's counts and the watchdog's restart (R296, R298, R335). -/

namespace Sys2Proof.Machine

theorem exec_glbFatalClr (w : Word) (s : State) :
    exec (.glbFatalClr w) s = act (fun s => if hostUp s then fatalWrite w s else s) s := rfl

theorem exec_kick (s : State) : exec .kick s = act (fun s => if hostUp s then wdogKick s else s) s := rfl

/-- GLB_FATAL before a keyed CLR: CLRREJ, cleared by a one in its own bit. -/
def clearsRej (w : Word) (s : State) : State := if bitw w 21 then { s with glb := { s.glb with clrRej := false } } else s

/-- A keyed CLR of a standing hold (R298). -/
theorem fatalWrite_keyed {w : Word} {s : State} (hkey : bits w 24 8 = 0xA5) (hclr : bitw w 22 = true)
    (hheld : s.glb.latched = true) :
    fatalWrite w s =
      if fatalClearable s && s.glb.fatalOcc != some (cycle s) then fatalRelease (clearsRej w s)
      else { s with glb := { s.glb with clrRej := true } } := by
  unfold fatalWrite clearsRej
  cases bitw w 21
  · simp only [Bool.false_eq_true, if_false, hkey, hclr, hheld, true_and, if_true]
  · simp only [if_true, hkey, hclr, hheld, true_and]
    rfl

theorem outer_releaseLoop (l : List (RailId × RailCfg)) (s : State) :
    outer (forEach l (fun rc s => if latched s.rails[rc.1] then s else freeChans rc.1 rc.2 s) s) = outer s :=
  outer_forEach l _ (fun rc s => by simp) s

/-- The release touches GLB_FATAL and the power state alone of what `outer` reads. -/
theorem outer_fatalRelease (s : State) :
    outer (fatalRelease s) = outer { s with
      glb := { s.glb with latched := false, cause := 0, fatalAt := none, fatalOcc := none, clrAt := some (cycle s)
                          clrCause := s.glb.cause }
      pwr := { s.pwr with dev := .ready, tgt := none } } := by
  simp only [fatalRelease, outer_rawAll, outer_releaseLoop]

/-- What a release leaves (R298). -/
theorem fatalRelease_spec (s : State) :
    (fatalRelease s).glb.latched = false ∧ (fatalRelease s).glb.cause = 0 ∧ (fatalRelease s).pwr.dev = .ready ∧
      (fatalRelease s).sealed = s.sealed ∧ (fatalRelease s).irqEn = s.irqEn ∧ (fatalRelease s).thm = s.thm ∧
      (fatalRelease s).flash = s.flash := by
  have h := outer_fatalRelease s
  exact ⟨(congrArg (fun t : State => t.glb.latched) h :), (congrArg (fun t : State => t.glb.cause) h :),
    (congrArg (fun t : State => t.pwr.dev) h :), (congrArg State.sealed h :), (congrArg State.irqEn h :),
    (congrArg State.thm h :), (congrArg State.flash h :)⟩

theorem clearsRej_frame (w : Word) (s : State) :
    (clearsRej w s).sealed = s.sealed ∧ (clearsRej w s).irqEn = s.irqEn ∧ (clearsRej w s).thm = s.thm ∧
      (clearsRej w s).flash = s.flash := by
  unfold clearsRej
  split <;> exact ⟨rfl, rfl, rfl, rfl⟩

/-- A single error counts and changes nothing else (R296). -/
theorem scrubOne_single {s : State} {e : ScrubErr} (hd : e.double = false) :
    scrubOne e s = { s with glb := { s.glb with cfgCor := true, corCnt := min 65535 (s.glb.corCnt + 1) } } := by
  simp [scrubOne, hd, satInc_eq_min]

/-- KICK of a watchdog that runs restarts it from the full time-out (R335). -/
theorem wdogKick_running {s : State} (hrun : s.pwr.wdRun = true) (hsealed : isSealed s = true) (htime : 0 < (hostif s).wdog) :
    wdogKick s = { s with pwr := { s.pwr with wdog := (hostif s).wdog * msCycles } } := by
  simp only [wdogKick, hrun, if_true, wdogStart, hsealed, htime, decide_true, Bool.and_self]

/-- Settles O3: the release and its refusal are the two branches of a keyed CLR; the scrubber and KICK by their own equations. -/
theorem fatalClearScrubKick : Obligations.FatalClearScrubKick := by
  unfold Obligations.FatalClearScrubKick
  refine ⟨fun s w hup hkey hclr hheld hok hocc => ?release, fun s w hup hkey hclr hheld hbad => ?refused,
    fun s e hup hd => ?single, fun s e hup harm hfree hclr hd hf => ?double, fun s hup hrun hsealed htime => ?kick⟩
  case release =>
    refine gives_act (exec_glbFatalClr w s) ?_
    have hnow : (s.glb.fatalOcc != some (cycle s)) = true := by simpa using hocc
    rw [if_pos hup, fatalWrite_keyed hkey hclr hheld, hok, hnow, Bool.and_self, if_pos rfl]
    obtain ⟨hlatched, hcause, hdev, hsealed, hirq, hthm, hflash⟩ := fatalRelease_spec (clearsRej w s)
    obtain ⟨hsealed', hirq', hthm', hflash'⟩ := clearsRej_frame w s
    rw [settleBy_glb_latched, settleBy_glb_cause, settleBy_pwr, settleBy_sealed, settleBy_irqEn, settleBy_thm, settleBy_flash]
    exact ⟨hlatched, hcause, hdev, hsealed.trans hsealed', hirq.trans hirq', hthm.trans hthm', hflash.trans hflash'⟩
  case refused =>
    refine becomes_act (exec_glbFatalClr w s) ?_
    rw [if_pos hup, fatalWrite_keyed hkey hclr hheld, hbad, Bool.false_and, if_neg Bool.false_ne_true]
    exact .refl _
  case single =>
    refine becomes_act (exec_configScrub [e] s) ?_
    rw [scrubPass_one hup, scrubOne_single hd]
    exact .refl _
  case double =>
    refine gives_fatal (exec_configScrub [e] s) ((scrubPass_one hup e).trans (scrubOne_double hd hf)) harm hfree hclr
      fun t hglb hpwr hsealed _ _ => ?_
    exact ⟨(congrArg Glb.cfgUnc hglb :), (congrArg Glb.part hglb :), (congrArg Glb.latched hglb :),
      (congrArg Glb.cause hglb :), (congrArg Power.dev hpwr :), hsealed⟩
  case kick =>
    refine becomes_act (exec_kick s) ?_
    rw [if_pos hup, wdogKick_running hrun hsealed htime]
    exact .refl _

end Sys2Proof.Machine
end

section
/-! PROOF. Every class F source takes every channel of every configured rail to its safe level (R112, R297). -/

namespace Sys2Proof.Machine

/-- The device stands in SAFE and the channels of every rail that `s` configures are at safe level in `t`. -/
def HeldSafe (s t : State) : Prop :=
  t.pwr.dev = .safe ∧ ∀ rc ∈ configured s, ∀ ch : ChanId, ch.val ∈ accordChans rc.2 → AtSafe t ch

theorem HeldSafe.of_core {s t u : State} (h : HeldSafe s t) (e : SameCore t u) : HeldSafe s u :=
  ⟨by rw [e.pwr]; exact h.1, fun rc hrc ch hch => (h.2 rc hrc ch hch).of_chans e.chans⟩

theorem heldSafe_fatalEnter {cause : BitVec 3} {s u : State} (hfree : u.glb.latched = false)
    (hcfg : configured u = configured s) : HeldSafe s (fatalEnter cause u) :=
  ⟨fatalEnter_dev hfree, fun _ hrc _ hch => atSafe_fatalEnter hfree (by rwa [hcfg]) hch⟩

/-- A command whose effect raises an armed class F source holds every rail safe. -/
theorem gives_heldSafe {c : Instr} {s v : State} {f : State → State} {cause : BitVec 3} {mark : Glb → Glb}
    (e : exec c s = act f s) (hf : f s = fatalRaise cause mark v) (harmed : fatalArmed v = true)
    (hfree : (mark v.glb).latched = false) (hcfg : configured v = configured s) : Gives c s (HeldSafe s) := by
  refine gives_act e (HeldSafe.of_core ?_ (settleBy_core _ _ _ _))
  rw [hf, HeldSafe, ← hcfg]
  exact atSafe_fatalRaise harmed hfree

/-! ## A reading of an on-die sensor (R278 to R291) -/

/-- What the thermal block leaves until it shuts the device down: the tick, the power state, GLB_FATAL and the image. -/
def vitals (s : State) : Nat × Power × Glb × Seal := (s.now, s.pwr, s.glb, s.sealed)

theorem vitals_sndAbort (r : RailId) (s : State) : vitals (sndAbort r s) = vitals s := rfl

theorem thm_sndAbort (r : RailId) (s : State) : (sndAbort r s).thm = s.thm := rfl

theorem vitals_setTj (s : State) : vitals (setTj s) = vitals s := by
  unfold setTj; dsimp only; split <;> rfl

theorem setTj_thm (s : State) : (setTj s).thm = junction s.thm := by
  unfold setTj; dsimp only; split <;> rfl

theorem junction_sens (t : Thermal) : (junction t).sens = t.sens := by
  unfold junction; split <;> rfl

/-- The abort of every sounding at a band change. -/
theorem vitals_abortAll (s : State) : vitals (forEach (allFin 24) sndAbort s) = vitals s :=
  forEach_keeps vitals _ _ vitals_sndAbort s

theorem thm_abortAll (s : State) : (forEach (allFin 24) sndAbort s).thm = s.thm :=
  forEach_keeps State.thm _ _ thm_sndAbort s

theorem vitals_bandDecide (t : TbandCfg) (s : State) : vitals (bandDecide t s) = vitals s := by
  unfold bandDecide; dsimp only
  repeat' split
  · rfl
  · rfl
  · exact vitals_abortAll _
  · rfl

theorem bandDecide_sens (t : TbandCfg) (s : State) : (bandDecide t s).thm.sens = s.thm.sens := by
  unfold bandDecide; dsimp only
  repeat' split
  · rfl
  · rfl
  · rw [thm_abortAll]
  · rfl

theorem vitals_throttleRail (rc : RailId × RailCfg) (s : State) : vitals (throttleRail rc s) = vitals s := by
  unfold throttleRail throttleOn throttleOff; dsimp only
  repeat' split
  all_goals rfl

theorem throttleRail_sens (rc : RailId × RailCfg) (s : State) : (throttleRail rc s).thm.sens = s.thm.sens := by
  unfold throttleRail throttleOn throttleOff; dsimp only
  repeat' split
  all_goals rfl

theorem vitals_throttleAll (s : State) : vitals (throttleAll s) = vitals s :=
  forEach_keeps vitals _ _ vitals_throttleRail s

theorem throttleAll_sens (s : State) : (throttleAll s).thm.sens = s.thm.sens :=
  forEach_keeps (fun s => s.thm.sens) _ _ throttleRail_sens s

theorem modAt_getD {α : Type} {l : List α} {i : Nat} (h : i < l.length) (f : α → α) (d : α) :
    (modAt l i f).getD i d = f (l.getD i d) := by
  induction l generalizing i with
  | nil => exact absurd h (Nat.not_lt_zero i)
  | cons a l ih =>
    cases i with
    | zero => rfl
    | succ i => exact ih (Nat.lt_of_succ_lt_succ h)

/-- The thermal block until the shutdown decision: the reading, Tj, the band and the throttling. -/
def sensed (t : TbandCfg) (i : Fin 32) (mean : Int) (s : State) : State :=
  let f := if tempOk i mean then sensorGood (hotLevel s t i) t.hyst i mean else sensorBad
  let s := { s with thm := { s.thm with sens := modAt s.thm.sens i.val f, sensFlt := s.thm.sensFlt || !tempOk i mean } }
  throttleAll (if i.val < 8 then bandDecide t (setTj s) else s)

theorem thermalReading_eq {t : TbandCfg} {i : Fin 32} {mean : Int} {s : State} (htb : tbandCfg s = some t) :
    thermalReading i mean s =
      if ((sensed t i mean s).thm.sens.getD i.val {}).shutCnt = 2 ∧ tempOk i mean = true then
        if fatalArmed (fatalFirst (sensed t i mean s)) then
          fatalEnter 7 { fatalFirst (sensed t i mean s) with
            thm := { (fatalFirst (sensed t i mean s)).thm with tshut := true } }
        else fatalFirst (sensed t i mean s)
      else sensed t i mean s := by
  simp only [thermalReading, htb, sensed]

theorem vitals_sensed (t : TbandCfg) (i : Fin 32) (mean : Int) (s : State) : vitals (sensed t i mean s) = vitals s := by
  unfold sensed; dsimp only
  rw [vitals_throttleAll]
  split
  · rw [vitals_bandDecide, vitals_setTj]; rfl
  · rfl

theorem sensed_sens (t : TbandCfg) (i : Fin 32) (mean : Int) (s : State) :
    (sensed t i mean s).thm.sens =
      modAt s.thm.sens i.val (if tempOk i mean then sensorGood (hotLevel s t i) t.hyst i mean else sensorBad) := by
  unfold sensed; dsimp only
  rw [throttleAll_sens]
  split
  · rw [bandDecide_sens, setTj_thm, junction_sens]
  · rfl

theorem fatalArmed_of_vitals {s t : State} (h : vitals t = vitals s) : fatalArmed t = fatalArmed s := by
  have hpwr : t.pwr = s.pwr := (congrArg (fun v => v.2.1) h :)
  simp only [fatalArmed, islandUp, hpwr]

theorem configured_of_sealed {s t : State} (h : t.sealed = s.sealed) : configured t = configured s := by
  simp only [configured, railCfg, h]

/-- The second reading in a row of 150 °C or more of an on-die sensor enters the hold (R291). -/
theorem thermalReading_shut {t : TbandCfg} {i : Fin 32} {mean : Int} {s : State} (htb : tbandCfg s = some t) (hdie : i.val < 8)
    (hlen : s.thm.sens.length = 32) (hhot : 1200 * 3072 ≤ tempFull i mean) (hmax : tempFull i mean ≤ 1400 * 3072)
    (hcnt : (s.thm.sens.getD i.val {}).shutCnt = 1) (harmed : fatalArmed s = true) :
    ∃ u, thermalReading i mean s = fatalEnter 7 u ∧ vitals u = vitals s := by
  have hok : tempOk i mean = true := by
    rw [tempOk, if_pos hdie, Bool.and_eq_true, decide_eq_true_eq, decide_eq_true_eq]
    omega
  have hdeg : 1200 ≤ tempFull i mean / 3072 := by omega
  have hv := vitals_sensed t i mean s
  have harmed' : fatalArmed (sensed t i mean s) = true := (fatalArmed_of_vitals hv).trans harmed
  have hshut : ((sensed t i mean s).thm.sens.getD i.val {}).shutCnt = 2 := by
    rw [sensed_sens, modAt_getD (by omega), if_pos hok]
    simp only [sensorGood, hdie, hdeg, and_self, if_true, hcnt]
    rfl
  refine ⟨{ sensed t i mean s with thm := { (sensed t i mean s).thm with tshut := true } }, ?_, hv⟩
  rw [thermalReading_eq htb, if_pos ⟨hshut, hok⟩, fatalFirst_of_armed harmed', if_pos harmed']

/-! ## The delivery of an averaged result (R252, R255) -/

/-- A filter that is full, or becomes full with `code`, delivers its mean without a mark, unless its AVG changed in this core cycle. -/
theorem resTake_averaged {s : State} {x : SchRes} {code : Int} (h : Averaged s x code) :
    (resTake (cycle s) code x).mark = .none ∧
      (resTake (cycle s) code x).mean = roundDiv (16 * (filtered x code).sum) (filtered x code).length := by
  obtain ⟨hfull, hchg⟩ := h
  have hpos : max (filtered x code).length 1 = (filtered x code).length := by
    have : 0 < 2 ^ x.avg := Nat.pow_pos (by decide)
    simp only [filtered, List.length_take, List.length_cons]
    omega
  have hfull' : (x.full || decide ((filtered x code).length = 2 ^ x.avg)) = true := by simpa using hfull
  simp only [resTake, hchg, if_false, resPush]
  exact ⟨if_pos hfull', congrArg (fun n : Nat => roundDiv _ n) hpos⟩

theorem exec_hadcConversionDone (v : Int) (s : State) : exec (.hadcConversionDone v) s = act (hadcResult v) s := rfl

/-- The state in which an unmarked result of entry `i` feeds the monitors: the converter is free, the code has entered the filter. -/
def taken (i : Nat) (code : Int) (s : State) : State :=
  { s with hadc := { s.hadc with conv := none, res := modAt s.hadc.res i (resTake (cycle s) code) } }

/-- An unmarked result of a schedule entry: what it feeds, then the next urgent conversion and a GOTO RUN that waited. -/
theorem hadcResult_entry {s : State} {c : Conv} {v : Int} {i : Nat} {e : HadcEntry} {x : SchRes} (h : Delivers s c i e x .none) :
    ∃ hd, hadcResult v s =
      runBand { entryFeed i e (hadcCode c.range v) c.start (taken i (hadcCode c.range v) s) with hadc := hd } := by
  obtain ⟨hup, hconv, huser, hmark, hentry, -⟩ := h
  have hentry' : (hadcEntries { s with hadc := { s.hadc with conv := none } })[i]? = some e := hentry
  rw [hadcResult, if_pos hup]
  simp only [convDone, hconv, huser, hmark, entryResult, hentry']
  split
  · exact ⟨_, rfl⟩
  · exact ⟨_, rfl⟩

/-- The averaged result that the entry then shows. -/
theorem taken_res {s : State} {i : Nat} {x : SchRes} (code : Int) (hx : s.hadc.res[i]? = some x) :
    (taken i code s).hadc.res.getD i {} = resTake (cycle s) code x := by
  obtain ⟨hlt, hget⟩ := List.getElem?_eq_some_iff.1 hx
  have hgetD : s.hadc.res.getD i {} = x := by rw [List.getD_eq_getElem?_getD, hx, Option.getD_some]
  rw [← hgetD]
  exact modAt_getD hlt _ _

/-- An averaged result of an on-die sensor is a reading of that sensor. -/
theorem entryFeed_die {s : State} {i n : Nat} {e : HadcEntry} {x : SchRes} {code : Int} {k : Fin 32} (at_ : Nat)
    (hx : s.hadc.res[i]? = some x) (hch : e.chan = 24 + n) (hn : n < 8) (hk : k.val = n) (havg : Averaged s x code) :
    entryFeed i e code at_ (taken i code s) =
      thermalReading k (roundDiv (16 * (filtered x code).sum) (filtered x code).length) (taken i code s) := by
  obtain ⟨hmark, hmean⟩ := resTake_averaged havg
  have hsensor : sensorOf e.chan = some k := by
    rw [sensorOf, if_neg (by omega), if_pos (by omega), hch, Nat.add_sub_cancel_left, ← hk, toFin_val]
  simp only [entryFeed, hsensor, taken_res code hx, hmark, hmean, if_true, if_pos (show e.chan < 32 by omega)]

theorem fatalEnter_runWait {cause : BitVec 3} {s : State} (h : s.glb.latched = false) :
    (fatalEnter cause s).pwr.runWait = false := by
  simp [fatalEnter, h]

/-- Settles O47: a source enters the hold through `fatalRaise`, TSHUT through the second hot reading of a sensor; the hold takes
every configured rail to safe level. -/
theorem fatalHoldMakesSafe : Obligations.FatalHoldMakesSafe := by
  unfold Obligations.FatalHoldMakesSafe
  refine ⟨fun s hup harm hfree => gives_heldSafe (exec_pllLossOfLock s) (pllDrop_up hup) harm hfree rfl,
    fun s hup harm hfree => gives_heldSafe (exec_dllLossOfLock s) (dllDrop_up hup) harm hfree rfl,
    fun s hup harm hfree hbo => gives_heldSafe (exec_vddBrownout true s) (vddStep_rise hup hbo) harm hfree rfl,
    fun s hup harm hfree hbad => gives_heldSafe (exec_dpwmClockLost true s) (dpwmStep_loss hup hbad) harm hfree rfl,
    fun s hup harm hfree hbo => gives_heldSafe (exec_vddaBrownout true s) (vddaStep_rise hup hbo) harm hfree rfl,
    fun s e hup harm hfree hd hf =>
      gives_heldSafe (exec_configScrub [e] s) ((scrubPass_one hup e).trans (scrubOne_double hd hf)) harm hfree rfl,
    fun s c v i e x n m tb hdel hch havg hm htb hlen hn hhot hmax hcnt harm hfree => ?tshut⟩
  case tshut =>
    refine gives_act (exec_hadcConversionDone v s) (HeldSafe.of_core ?_ (settleBy_core _ _ _ _))
    have hx := hdel.2.2.2.2.2
    obtain ⟨hd, hresult⟩ := hadcResult_entry (v := v) hdel
    have hfull : tempFull ⟨n, by omega⟩ m = 3 * (75 * m - 2400 * 1024) := if_pos hn
    obtain ⟨u, hu, hvitals⟩ := thermalReading_shut (t := tb) (i := ⟨n, by omega⟩) (mean := m)
      (s := taken i (hadcCode c.range v) s) htb hn hlen (by rwa [hfull]) (by rwa [hfull]) hcnt harm
    have hfree' : u.glb.latched = false := (congrArg (fun q => q.2.2.1.latched) hvitals :).trans hfree
    have hcfg : configured u = configured s := configured_of_sealed (congrArg (fun q => q.2.2.2) hvitals :)
    rw [hresult, entryFeed_die (k := ⟨n, by omega⟩) c.start hx hch hn rfl havg, ← hm, hu]
    have hidle : runBand { fatalEnter 7 u with hadc := hd } = { fatalEnter 7 u with hadc := hd } := by
      simp [runBand, fatalEnter_runWait hfree']
    rw [hidle]
    exact heldSafe_fatalEnter hfree' hcfg

end Sys2Proof.Machine
end

section
/-! PROOF. What the resets leave (R29 to R32, R331 to R336). -/

namespace Sys2Proof.Machine

/-- A loop over distinct rails whose step changes its own rail alone. -/
theorem forEach_rails_get {f : RailId → State → State} {g : Rail → Rail}
    (hf : ∀ r s j, (f r s).rails[j] = if j = r then g s.rails[j] else s.rails[j]) (l : List RailId) (hl : l.Nodup) (s : State)
    (j : RailId) : (forEach l f s).rails[j] = if j ∈ l then g s.rails[j] else s.rails[j] := by
  unfold forEach
  induction l generalizing s with
  | nil => rfl
  | cons a l ih =>
    obtain ⟨ha, hl⟩ := List.nodup_cons.1 hl
    rw [List.foldl_cons, ih hl, hf]
    by_cases hja : j = a
    · subst hja; simp [ha]
    · simp [hja]

/-- A loop over every rail. -/
theorem forEach_allRails_get {f : RailId → State → State} {g : Rail → Rail}
    (hf : ∀ r s j, (f r s).rails[j] = if j = r then g s.rails[j] else s.rails[j]) (s : State) (j : RailId) :
    (forEach (allFin 24) f s).rails[j] = g s.rails[j] := by
  rw [forEach_rails_get hf (allFin 24) (List.nodup_finRange 24), if_pos (show j ∈ allFin 24 from List.mem_finRange j)]

/-! ## The control domain's fields (R336) -/

/-- A rail's sounding at a control-domain reset (R266). -/
def ctlSoundRail (x : Rail) : Rail :=
  { sndAbortRail x with snd := { (sndAbortRail x).snd with pend := (sndAbortRail x).snd.pend || (x.snd.run && x.snd.auto) } }

theorem ctlSound_rails_get (r : RailId) (s : State) (j : RailId) :
    (ctlSound r s).rails[j] = if j = r then ctlSoundRail s.rails[j] else s.rails[j] := by
  unfold ctlSound
  rw [onRail_get]
  have habort (i : RailId) : (sndAbort r s).rails[i] = if i = r then sndAbortRail s.rails[r] else s.rails[i] := onRail_get r i _ s
  rw [habort, habort]
  by_cases h : j = r
  · subst h
    simp only [if_true, ctlSoundRail]
  · rw [if_neg h, if_neg h, if_neg h]

/-- Every sounding ends. -/
def soundsEnded (s : State) : State := forEach (allFin 24) ctlSound (disarm ctlTimer s)

theorem outer_ctlSound (r : RailId) (s : State) : outer (ctlSound r s) = outer s := by simp [ctlSound]

theorem outer_soundsEnded (s : State) : outer (soundsEnded s) = outer s := by
  rw [soundsEnded, outer_forEach _ _ outer_ctlSound, outer_disarm]

theorem chans_soundsEnded (s : State) : (soundsEnded s).chans = s.chans := by
  rw [soundsEnded, forEach_keeps State.chans (allFin 24) ctlSound (fun _ _ => rfl) (disarm ctlTimer s), disarm_chans]

theorem banks_soundsEnded (s : State) : (soundsEnded s).banks = s.banks := by
  rw [soundsEnded, forEach_keeps State.banks (allFin 24) ctlSound (fun _ _ => rfl) (disarm ctlTimer s), disarm_banks]

theorem rails_soundsEnded (s : State) (j : RailId) : (soundsEnded s).rails[j] = ctlSoundRail s.rails[j] := by
  rw [soundsEnded, forEach_allRails_get ctlSound_rails_get, disarm_rails]

theorem ctlDisc_cases (s : State) : ctlDisc s = s ∨ ∃ f : Nat → Bank → Bank,
    ctlDisc s = { s with banks := mapTab f s.banks } ∧
      ∀ b k, { f b k with lastValid := false, lastUnattr := false, lastClass := 0 } =
        { k with lastValid := false, lastUnattr := false, lastClass := 0 } := by
  unfold ctlDisc
  dsimp only
  split
  · refine .inr ⟨_, rfl, fun b k => ?_⟩
    split <;> rfl
  · exact .inl rfl

theorem outer_withBanks (s : State) (v : Vector Bank 24) : outer { s with banks := v } = outer s := rfl

/-- The state from which the control domain's fields are reset. -/
def measuresEnded (s : State) : State := ctlDisc (soundsEnded s)

theorem outer_measuresEnded (s : State) : outer (measuresEnded s) = outer s := by
  rw [← outer_soundsEnded s, measuresEnded]
  rcases ctlDisc_cases (soundsEnded s) with h | ⟨f, h, -⟩ <;> rw [h]
  exact outer_withBanks _ _

theorem chans_measuresEnded (s : State) : (measuresEnded s).chans = s.chans := by
  rw [← chans_soundsEnded s, measuresEnded]
  rcases ctlDisc_cases (soundsEnded s) with h | ⟨f, h, -⟩ <;> rw [h]

theorem rails_measuresEnded (s : State) (j : RailId) : (measuresEnded s).rails[j] = ctlSoundRail s.rails[j] := by
  rw [← rails_soundsEnded s, measuresEnded]
  rcases ctlDisc_cases (soundsEnded s) with h | ⟨f, h, -⟩ <;> rw [h]

theorem banks_measuresEnded (s : State) (b : BankId) :
    { (measuresEnded s).banks[b] with lastValid := false, lastUnattr := false, lastClass := 0 } =
      { s.banks[b] with lastValid := false, lastUnattr := false, lastClass := 0 } := by
  rw [← banks_soundsEnded s, measuresEnded]
  rcases ctlDisc_cases (soundsEnded s) with h | ⟨f, h, hf⟩ <;> rw [h]
  rw [show ({ soundsEnded s with banks := mapTab f (soundsEnded s).banks } : State).banks = mapTab f (soundsEnded s).banks from rfl,
    mapTab_get]
  exact hf _ _

theorem ctlFields_chans (s : State) (ch : ChanId) : (ctlFields s).chans[ch] = bistFree s.chans[ch] := by
  have h : (ctlFields s).chans = mapTab (fun _ => bistFree) (measuresEnded s).chans := rfl
  rw [h, mapTab_get, chans_measuresEnded]

theorem ctlFields_rails (s : State) (r : RailId) : (ctlFields s).rails[r] = ctlRail (ctlSoundRail s.rails[r]) := by
  have h : (ctlFields s).rails = mapTab (fun _ => ctlRail) (measuresEnded s).rails := rfl
  rw [h, mapTab_get, rails_measuresEnded]

/-- The banks but for the self-test and the discovery results. -/
theorem ctlFields_banks (s : State) (b : BankId) :
    { (ctlFields s).banks[b] with
      bistRun := false, bistDone := false, bistPass := false, bistRej := false, bistRejCnt := 0,
      failMap := 0, failItem := 0, lastValid := false, lastUnattr := false, lastClass := 0 } =
    { s.banks[b] with
      bistRun := false, bistDone := false, bistPass := false, bistRej := false, bistRejCnt := 0,
      failMap := 0, failItem := 0, lastValid := false, lastUnattr := false, lastClass := 0 } := by
  have h : (ctlFields s).banks = mapTab (fun _ => ctlBank) (measuresEnded s).banks := rfl
  rw [h, mapTab_get]
  exact (congrArg (fun k : Bank => { k with
    bistRun := false, bistDone := false, bistPass := false, bistRej := false, bistRejCnt := 0,
    failMap := 0, failItem := 0, lastValid := false, lastUnattr := false, lastClass := 0 }) (banks_measuresEnded s b) :)

theorem ctlFields_now (s : State) : (ctlFields s).now = s.now := (congrArg State.now (outer_measuresEnded s) :)
theorem ctlFields_ka (s : State) : (ctlFields s).ka = s.ka := (congrArg State.ka (outer_measuresEnded s) :)
theorem ctlFields_fifo (s : State) : (ctlFields s).fifo = s.fifo := (congrArg State.fifo (outer_measuresEnded s) :)
theorem ctlFields_flash (s : State) : (ctlFields s).flash = s.flash := (congrArg State.flash (outer_measuresEnded s) :)
theorem ctlFields_otp (s : State) : (ctlFields s).otp = s.otp := (congrArg State.otp (outer_measuresEnded s) :)
theorem ctlFields_irqEn (s : State) : (ctlFields s).irqEn = s.irqEn := (congrArg State.irqEn (outer_measuresEnded s) :)
theorem ctlFields_thm (s : State) : (ctlFields s).thm = ctlThm s.thm :=
  (congrArg (fun t : State => ctlThm t.thm) (outer_measuresEnded s) :)
theorem ctlFields_sealedImg (s : State) : (ctlFields s).sealed.img = s.sealed.img :=
  (congrArg (fun t : State => t.sealed.img) (outer_measuresEnded s) :)
theorem ctlFields_nvl (s : State) : (ctlFields s).nvl = ctlNvl s.nvl :=
  (congrArg (fun t : State => ctlNvl t.nvl) (outer_measuresEnded s) :)
theorem ctlFields_pwr (s : State) : (ctlFields s).pwr = { s.pwr with
    cmdRej := false, runTo := false, retLost := false, stbyAbt := false, rejCnt := 0, wakeTime := 0, pllTry := 0, dllTry := 0
    wdRun := false } :=
  (congrArg (fun t : State => { t.pwr with
    cmdRej := false, runTo := false, retLost := false, stbyAbt := false, rejCnt := 0, wakeTime := 0, pllTry := 0, dllTry := 0
    wdRun := false }) (outer_measuresEnded s) :)
theorem ctlFields_glb (s : State) : (ctlFields s).glb = { s.glb with accErr := false, sealWr := false, clrRej := false } :=
  (congrArg (fun t : State => { t.glb with accErr := false, sealWr := false, clrRej := false }) (outer_measuresEnded s) :)

/-! ## The reset of the control domain (R29 to R32) -/

/-- The registers of a control-domain reset behind those of the control domain itself: without a seal the island's too. -/
def fieldsReset (hasSeal : Bool) (u : State) : State :=
  if hasSeal then tmrReset u else { islandReset (tmrReset u) with img := (tmrReset u).img }

/-- The registers of a control-domain reset. -/
def resetFields (s : State) : State := fieldsReset (isSealed s) (ctlFields s)

theorem ctlReset_eq (kind : BitVec 3) (s : State) :
    ctlReset kind s = arm 128 .controlDomainRelease { resetFields s with pwr := { (resetFields s).pwr with
      dev := if isSealed s then s.pwr.dev else .ready, tgt := if s.pwr.tgt == some .standby then none else (resetFields s).pwr.tgt
      refReg := (resetFields s).pwr.refReg && isSealed s, stbyAbt := s.pwr.tgt == some .standby, ctlHeld := true, rstKind := kind
      ifFrom := (resetFields s).now + 40 * usTicks } } := by
  unfold ctlReset resetFields fieldsReset
  cases isSealed s
  · simp only [Bool.not_false, Bool.not_true, Bool.false_eq_true, if_false, if_true]
  · rfl

/-- What the reset of the fields leaves, with and without a seal. -/
theorem fieldsReset_frame (b : Bool) (u : State) :
    (fieldsReset b u).now = u.now ∧ (fieldsReset b u).pwr = u.pwr ∧ (fieldsReset b u).ka = u.ka ∧
      (fieldsReset b u).fifo = u.fifo ∧ (fieldsReset b u).flash = u.flash ∧ (fieldsReset b u).otp = u.otp ∧
      (fieldsReset b u).nrd = u.nrd := by
  cases b <;> exact ⟨rfl, rfl, rfl, rfl, rfl, rfl, rfl⟩

theorem resetFields_now (s : State) : (resetFields s).now = s.now :=
  (fieldsReset_frame (isSealed s) (ctlFields s)).1.trans (ctlFields_now s)

theorem resetFields_pwr (s : State) : (resetFields s).pwr = (ctlFields s).pwr :=
  (fieldsReset_frame (isSealed s) (ctlFields s)).2.1

/-- With and without a seal, the image is what it was. -/
theorem fieldsReset_sealedImg {u : State} {b : Bool} (h : u.sealed.img.isSome = b) :
    (fieldsReset b u).sealed.img = u.sealed.img := by
  cases b
  · exact (Option.isNone_iff_eq_none.1 (by simpa using h)).symm
  · rfl

/-- What every reset of the control domain leaves, with and without a seal. -/
theorem ctlReset_frame (kind : BitVec 3) (s : State) :
    (ctlReset kind s).ka = s.ka ∧ (ctlReset kind s).fifo = s.fifo ∧ (ctlReset kind s).flash = s.flash ∧
      (ctlReset kind s).otp = s.otp ∧ (ctlReset kind s).sealed.img = s.sealed.img := by
  obtain ⟨-, -, hka, hfifo, hflash, hotp, -⟩ := fieldsReset_frame (isSealed s) (ctlFields s)
  have himg : (fieldsReset (isSealed s) (ctlFields s)).sealed.img = (ctlFields s).sealed.img :=
    fieldsReset_sealedImg (by rw [ctlFields_sealedImg, isSealed])
  rw [ctlReset_eq, arm_ka, arm_fifo, arm_flash, arm_otp, arm_sealed]
  exact ⟨hka.trans (ctlFields_ka s), hfifo.trans (ctlFields_fifo s), hflash.trans (ctlFields_flash s),
    hotp.trans (ctlFields_otp s), himg.trans (ctlFields_sealedImg s)⟩

/-- The power state of a control domain in reset. -/
theorem ctlReset_pwr (kind : BitVec 3) (s : State) :
    (ctlReset kind s).pwr.ctlHeld = true ∧ (ctlReset kind s).pwr.rstKind = kind ∧
      (ctlReset kind s).pwr.ifFrom = s.now + 40 * usTicks ∧ (ctlReset kind s).pwr.rejCnt = 0 ∧
      (ctlReset kind s).pwr.dev = (if isSealed s then s.pwr.dev else .ready) := by
  rw [ctlReset_eq, arm_pwr, resetFields_now, resetFields_pwr, ctlFields_pwr]
  exact ⟨rfl, rfl, rfl, rfl, rfl⟩

/-- The registers of the control domain that the statements name. -/
theorem ctlReset_ctl (kind : BitVec 3) (s : State) :
    (ctlReset kind s).hif.dynAddr = none ∧ (ctlReset kind s).hif.mwl = 0x0400#16 ∧ (ctlReset kind s).nvl.vstop = 0x12C#10 ∧
      (ctlReset kind s).nrd = {} ∧ (ctlReset kind s).glb.accErr = false := by
  rw [ctlReset_eq, resetFields]
  cases isSealed s
  · exact ⟨rfl, rfl, rfl, rfl, rfl⟩
  · exact ⟨rfl, rfl, rfl, rfl, rfl⟩

/-- With an image sealed the interrupt enables hold (R30). -/
theorem ctlReset_irqEn_of_sealed (kind : BitVec 3) {s : State} (h : isSealed s = true) : (ctlReset kind s).irqEn = s.irqEn := by
  rw [ctlReset_eq, resetFields, h, arm_irqEn]
  exact ctlFields_irqEn s

theorem islandReset_chans (s : State) (ch : ChanId) : (islandReset s).chans[ch] = rawChan s.chans[ch] := by
  have h : (islandReset s).chans = mapTab (fun _ => rawChan) s.chans := rfl
  rw [h, mapTab_get]

/-- Without a seal the island resets too (R29). -/
theorem fieldsReset_open (u : State) :
    (fieldsReset false u).sealed = {} ∧ (fieldsReset false u).irqEn = 0 ∧
      ∀ ch : ChanId, (fieldsReset false u).chans[ch] = rawChan u.chans[ch] :=
  ⟨rfl, rfl, fun ch => islandReset_chans (tmrReset u) ch⟩

theorem ctlReset_of_open (kind : BitVec 3) {s : State} (h : isSealed s = false) :
    (ctlReset kind s).sealed = {} ∧ (ctlReset kind s).irqEn = 0 ∧
      ∀ ch : ChanId, (ctlReset kind s).chans[ch].st = .noAccord ∧ (ctlReset kind s).chans[ch].out = .weak := by
  obtain ⟨hsealed, hirq, hchans⟩ := fieldsReset_open (ctlFields s)
  rw [ctlReset_eq, resetFields, h, arm_sealed, arm_irqEn, arm_chans]
  refine ⟨hsealed, hirq, fun ch => ?_⟩
  rw [hchans]
  exact ⟨rfl, rfl⟩

/-- With an image sealed the island is kept (R29, R30). -/
theorem islandKept_ctlReset (kind : BitVec 3) {s : State} (h : isSealed s = true) : IslandKept s (ctlReset kind s) := by
  have hchans : (ctlReset kind s).chans = (ctlFields s).chans := by rw [ctlReset_eq, resetFields, h]; rfl
  have hthm : (ctlReset kind s).thm = (ctlFields s).thm := by rw [ctlReset_eq, resetFields, h]; rfl
  have hbanks : (ctlReset kind s).banks = (ctlFields s).banks := by rw [ctlReset_eq, resetFields, h]; rfl
  have hrails : (ctlReset kind s).rails = (ctlFields s).rails := by rw [ctlReset_eq, resetFields, h]; rfl
  rw [IslandKept, hchans, hthm, hbanks, hrails, ctlFields_thm]
  refine ⟨fun ch => ?chan, rfl, rfl, rfl, ctlFields_banks s, fun r => ?rail⟩
  case chan => rw [ctlFields_chans]; rfl
  case rail =>
    rw [ctlFields_rails]
    unfold ctlRail ctlSoundRail sndAbortRail
    cases s.rails[r].snd.run <;> simp

end Sys2Proof.Machine
end

section
/-! PROOF. RESET_N, the power-on reset and the release of the control domain (R29 to R32, R331 to R336). -/

namespace Sys2Proof.Machine

/-! ## The pad latches (R333) -/

/-- The latches hold levels of their own; the channels stay as they are behind them. -/
theorem padHold_chans (old s : State) (ch : ChanId) :
    (padHold old s).chans[ch].st = s.chans[ch].st ∧ (padHold old s).chans[ch].out = s.chans[ch].out := by
  unfold padHold
  split
  · dsimp only
    rw [mapTab_get]
    exact ⟨rfl, rfl⟩
  · exact ⟨rfl, rfl⟩

/-- They touch the channels, the power state and the open values alone. -/
theorem padHold_frame (old s : State) :
    { padHold old s with chans := s.chans, pwr := s.pwr, free := s.free } = s := by
  unfold padHold; split <;> rfl

theorem padHold_pwr (old s : State) : { (padHold old s).pwr with padsUntil := 0 } = { s.pwr with padsUntil := 0 } := by
  unfold padHold; split <;> rfl

/-! ## RESET_N (R332) -/

/-- The reset of both domains behind the fields of the control domain, before the pad latches take over. -/
def bothReset (u : State) : State :=
  let t := pinInputs (tmrReset (islandReset u))
  { t with
    tap := { t.tap with ir := .idcode, halted := false }
    pwr := { ({} : Power) with
      dev := t.pwr.dev, vddBo := t.pwr.vddBo, vddaBo := t.pwr.vddaBo, io := t.pwr.io, ioUp := t.pwr.ioUp } }

theorem coreReset_eq (s : State) : coreReset s = padHold s (bothReset (ctlFields s)) := rfl

theorem bothReset_frame (u : State) :
    (bothReset u).sealed = {} ∧ (bothReset u).irqEn = 0 ∧ (bothReset u).nl = {} ∧ (bothReset u).flash = u.flash ∧
      (bothReset u).otp = u.otp ∧ (bothReset u).fifo = u.fifo ∧ (bothReset u).ka = u.ka ∧
      ∀ ch : ChanId, (bothReset u).chans[ch] = rawChan u.chans[ch] :=
  ⟨rfl, rfl, rfl, rfl, rfl, rfl, rfl, fun ch => islandReset_chans u ch⟩

theorem coreReset_frame (s : State) :
    (coreReset s).sealed = {} ∧ (coreReset s).irqEn = 0 ∧ (coreReset s).nl = {} ∧ (coreReset s).flash = s.flash ∧
      (coreReset s).otp = s.otp ∧ (coreReset s).fifo = s.fifo ∧ (coreReset s).ka = s.ka := by
  have h := padHold_frame s (bothReset (ctlFields s))
  obtain ⟨hsealed, hirq, hnl, hflash, hotp, hfifo, hka, -⟩ := bothReset_frame (ctlFields s)
  rw [coreReset_eq, ← ctlFields_flash s, ← ctlFields_otp s, ← ctlFields_fifo s, ← ctlFields_ka s]
  exact ⟨(congrArg State.sealed h :).trans hsealed, (congrArg State.irqEn h :).trans hirq, (congrArg State.nl h :).trans hnl,
    (congrArg State.flash h :).trans hflash, (congrArg State.otp h :).trans hotp, (congrArg State.fifo h :).trans hfifo,
    (congrArg State.ka h :).trans hka⟩

theorem coreReset_chans (s : State) (ch : ChanId) :
    (coreReset s).chans[ch].st = .noAccord ∧ (coreReset s).chans[ch].out = .weak := by
  obtain ⟨hst, hout⟩ := padHold_chans s (bothReset (ctlFields s)) ch
  obtain ⟨-, -, -, -, -, -, -, hraw⟩ := bothReset_frame (ctlFields s)
  rw [hraw] at hst hout
  exact ⟨hst, hout⟩

theorem exec_resetN (ns : Nat) (s : State) : exec (.resetN ns) s = act (resetPulse ns) s := rfl
theorem exec_powerOnReset (s : State) : exec .powerOnReset s = act powerOn s := rfl
theorem exec_hostSoftReset (s : State) : exec .hostSoftReset s = act softReset s := rfl
theorem exec_watchdogReset (s : State) : exec .watchdogReset s = act wdogExpire s := rfl
theorem exec_controlDomainRelease (s : State) :
    exec .controlDomainRelease s = act (onFire .controlDomainRelease ctlRelease) s := rfl

/-- A long pulse on RESET_N with the core powered. -/
theorem resetPulse_core {ns : Nat} {s : State} (hns : 200 ≤ ns) (hwake : s.pwr.wake = .none) (hrecov : s.pwr.recov = false)
    (hdev : s.pwr.dev = .ready ∨ s.pwr.dev = .run ∨ s.pwr.dev = .safe) : resetPulse ns s = resetCore (ns * 4 / 5) s := by
  have hlong : ¬ ns < 50 := by omega
  rw [resetPulse, if_neg hlong, if_pos hns, resetAct, hrecov, if_neg Bool.false_ne_true, if_neg (not_not_intro hwake)]
  rcases hdev with h | h | h <;> rw [h]

/-- A pulse too short to act. -/
theorem resetPulse_short {ns : Nat} {s : State} (hns : ns < 50) : resetPulse ns s = s := if_pos hns

/-! ## The power-on reset (R331) -/

theorem powerOn_frame (s : State) :
    (powerOn s).pwr.dev = .off ∧ (powerOn s).pwr.tgt = none ∧ (powerOn s).pwr.wake = .none ∧ (powerOn s).hif.strapValid = true ∧
      (powerOn s).ka = {} ∧ (powerOn s).sealed = {} ∧ (powerOn s).img = {} ∧ (powerOn s).tap = {} ∧ (powerOn s).nl = {} ∧
      (powerOn s).irqEn = 0 ∧ (powerOn s).nrd = {} ∧ (powerOn s).flash = s.flash ∧ (powerOn s).otp = s.otp := by
  unfold powerOn padHold strapRead
  split
  all_goals exact ⟨rfl, rfl, rfl, rfl, rfl, rfl, rfl, rfl, rfl, rfl, rfl, rfl, rfl⟩

theorem powerOn_chans (s : State) (ch : ChanId) :
    (powerOn s).chans[ch].st = .noAccord ∧ (powerOn s).chans[ch].out = .weak := by
  unfold powerOn strapRead
  dsimp only
  have h := fun v : State => padHold_chans s v ch
  refine ⟨(h _).1.trans ?_, (h _).2.trans ?_⟩ <;> rw [mapTab_get]

/-! ## The release (R32) -/

/-- The state without the fields that the start of the control domain writes. -/
def unstarted (s : State) : State := { s with agenda := [], pwr := {}, img := {}, hadc := {}, nvl := {}, hif := {} }

theorem unstarted_vselAgain (s : State) : unstarted (vselAgain s) = unstarted s := by
  refine forEach_keeps unstarted _ _ (fun p s => ?_) s
  dsimp only
  split
  · split <;> rfl
  · rfl

theorem unstarted_ibiAgain (s : State) : unstarted (ibiAgain s) = unstarted s := by
  unfold ibiAgain; split <;> rfl

theorem unstarted_hadcBegin (s : State) : unstarted (hadcBegin s) = unstarted s := by unfold unstarted hadcBegin; rfl
theorem unstarted_readGens (s : State) : unstarted (readGens s) = unstarted s := by unfold unstarted readGens; rfl
theorem unstarted_wdogStart (s : State) : unstarted (wdogStart s) = unstarted s := by unfold unstarted wdogStart; rfl
theorem unstarted_rearm (n : Nat) (e : Instr) (s : State) : unstarted (rearm n e s) = unstarted s := by
  unfold unstarted rearm; rfl
theorem unstarted_ite (b : Prop) [Decidable b] (s t : State) :
    unstarted (if b then s else t) = if b then unstarted s else unstarted t := by split <;> rfl
theorem unstarted_secAt (s : State) (n : Nat) : unstarted { s with nvl := { s.nvl with secAt := n } } = unstarted s := by
  unfold unstarted; rfl

/-- The start of the control domain writes the agenda, the watchdog, the slots' generations, the HADC filters, NVL_TIME and the
in-band requests alone. -/
theorem unstarted_ctlStart (s : State) : unstarted (ctlStart s) = unstarted s := by
  simp only [ctlStart, unstarted_ibiAgain, unstarted_ite, unstarted_rearm, unstarted_secAt, unstarted_vselAgain,
    unstarted_hadcBegin, unstarted_readGens, unstarted_wdogStart, ite_self]

/-- The power state but for the watchdog. -/
def offDog (p : Power) : Power := { p with wdRun := false, wdog := 0 }

theorem pwr_ite (b : Prop) [Decidable b] (s t : State) : (if b then s else t).pwr = if b then s.pwr else t.pwr := by
  split <;> rfl
theorem pwr_vselAgain (s : State) : (vselAgain s).pwr = s.pwr := by
  refine forEach_keeps State.pwr _ _ (fun p s => ?_) s
  dsimp only
  split
  · split <;> rfl
  · rfl
theorem pwr_ibiAgain (s : State) : (ibiAgain s).pwr = s.pwr := by unfold ibiAgain; split <;> rfl
theorem pwr_hadcBegin (s : State) : (hadcBegin s).pwr = s.pwr := by unfold hadcBegin; rfl
theorem pwr_readGens (s : State) : (readGens s).pwr = s.pwr := by unfold readGens; rfl

/-- The start of the control domain restarts the watchdog and leaves the rest of the power state. -/
theorem ctlStart_offDog (s : State) : offDog (ctlStart s).pwr = offDog s.pwr := by
  simp only [ctlStart, pwr_ibiAgain, pwr_ite, rearm_pwr, ite_self, pwr_vselAgain, pwr_hadcBegin, pwr_readGens]
  rfl

theorem ctlStart_ctlHeld (s : State) : (ctlStart s).pwr.ctlHeld = s.pwr.ctlHeld := (congrArg Power.ctlHeld (ctlStart_offDog s) :)

/-- A channel but for the marks of a probe. -/
def unprobed (k : Chan) : Chan := { k with probeAt := none, pv0 := none, pv1 := none }

theorem discBegin_chans (s : State) (ch : ChanId) : unprobed (discBegin s).chans[ch] = unprobed s.chans[ch] := by
  rw [discBegin, probeBegin, onChans_get]
  split <;> rfl

/-- The state at the release before the control domain starts. -/
def released (s : State) : State :=
  let s := if isSealed s then s else epochZero s
  let s := if s.hadc.mon.discRun then discBegin s else s
  { s with pwr := { s.pwr with ctlHeld := false }, ka := { s.ka with rstCause := s.pwr.rstKind } }

theorem ctlRelease_eq {s : State} (h : s.pwr.ctlHeld = true) : ctlRelease s = ctlStart (released s) := if_pos h

theorem released_frame (s : State) :
    (released s).pwr.ctlHeld = false ∧ (released s).ka = { s.ka with rstCause := s.pwr.rstKind } ∧ (released s).sealed = s.sealed ∧
      (released s).irqEn = s.irqEn ∧ (released s).fifo = s.fifo ∧ (released s).flash = s.flash ∧ (released s).otp = s.otp := by
  unfold released
  dsimp only
  split <;> split <;> exact ⟨rfl, rfl, rfl, rfl, rfl, rfl, rfl⟩

theorem released_chans (s : State) (ch : ChanId) : unprobed (released s).chans[ch] = unprobed s.chans[ch] := by
  unfold released
  dsimp only
  split <;> split
  · exact discBegin_chans s ch
  · rfl
  · exact discBegin_chans (epochZero s) ch
  · rfl

theorem hostUp_of_held {s : State} (h : s.pwr.ctlHeld = true) : hostUp s = false := by simp [hostUp, answers, h]

theorem softReset_up {s : State} (h : hostUp s = true) : softReset s = ctlReset 3 s := if_pos h

theorem wdogExpire_due {s : State} (hrun : s.pwr.wdRun = true) (hzero : s.pwr.wdog = 0) (hheld : s.pwr.ctlHeld = false) :
    wdogExpire s = { ctlReset 4 s with glb := { (ctlReset 4 s).glb with wdRst := true } } := by
  simp [wdogExpire, hrun, hzero, hheld]

/-- `IslandKept` reads the core of the state alone. -/
theorem IslandKept.of_core {s t u : State} (h : IslandKept s t) (e : SameCore t u) : IslandKept s u := by
  obtain ⟨hchans, hband, hsel, hthrot, hbanks, hrails⟩ := h
  refine ⟨by rwa [e.chans], by rwa [e.thm], by rwa [e.thm], by rwa [e.thm], by rwa [e.banks], fun r => ?_⟩
  rw [e.railsField Rail.tel (fun _ => rfl), e.railsField Rail.trip (fun _ => rfl), e.railsField Rail.prot (fun _ => rfl),
    e.railsField Rail.seq (fun _ => rfl), e.railsField Rail.sh (fun _ => rfl), e.railsField Rail.pos (fun _ => rfl),
    e.railsField Rail.lim (fun _ => rfl), e.railsField Rail.eng (fun _ => rfl), e.railsField Rail.coef (fun _ => rfl)]
  exact hrails r

/-- Settles O1: each reset by what it leaves of the state (`powerOn_frame`, `coreReset_frame`, `ctlReset_frame`,
`islandKept_ctlReset`, `released_frame`). -/
theorem resetsLeave : Obligations.ResetsLeave := by
  unfold Obligations.ResetsLeave
  refine ⟨fun s => ?powerOn, fun s ns hns hwake hrecov hdev => ?resetN, fun s ns hns => ?short, fun s hup => ?soft,
    fun s hup hsealed => ?softSealed, fun s hup hopen => ?softOpen, fun s hrun hzero hheld => ?wdog,
    fun s hrun hzero hheld hsealed => ?wdogSealed, fun s hrun hzero hheld hopen => ?wdogOpen, fun s hdue hheld => ?release⟩
  case powerOn =>
    refine gives_act (exec_powerOnReset s) ?_
    obtain ⟨hdev, htgt, hwake, hstrap, hka, hsealed, himg, htap, hnl, hirq, hnrd, hflash, hotp⟩ := powerOn_frame s
    simp only [settleBy_pwr, settleBy_hif_strapValid, settleBy_ka, settleBy_sealed, settleBy_img, settleBy_tap, settleBy_nl,
      settleBy_irqEn, settleBy_nrd, settleBy_flash, settleBy_otp, settleBy_chans]
    exact ⟨hdev, htgt, hwake, hstrap, hka, hsealed, himg, htap, hnl, hirq, hnrd, hflash, hotp, powerOn_chans s⟩
  case resetN =>
    refine gives_act (exec_resetN ns s) ?_
    rw [resetPulse_core hns hwake hrecov hdev]
    obtain ⟨hsealed, hirq, hnl, hflash, hotp, hfifo, -⟩ := coreReset_frame s
    rw [settleBy_pwr, settleBy_ka, settleBy_sealed, settleBy_irqEn, settleBy_nl, settleBy_flash, settleBy_otp, settleBy_fifo,
      settleBy_chans]
    exact ⟨rfl, rfl, hsealed, hirq, hnl, hflash, hotp, hfifo, coreReset_chans s⟩
  case short =>
    refine becomes_act (exec_resetN ns s) ?_
    rw [resetPulse_short hns]
    exact .refl s
  case soft =>
    refine gives_act (exec_hostSoftReset s) ?_
    rw [softReset_up hup]
    obtain ⟨hheld, hkind, hfrom, hrej, -⟩ := ctlReset_pwr 3 s
    obtain ⟨hdyn, hmwl, hvstop, hnrd, hacc⟩ := ctlReset_ctl 3 s
    obtain ⟨hka, hfifo, hflash, hotp, himg⟩ := ctlReset_frame 3 s
    rw [hostUp_of_held (by rw [settleBy_pwr]; exact hheld), settleBy_pwr, settleBy_hif_dynAddr, settleBy_hif_mwl,
      settleBy_nvl_vstop, settleBy_nrd, settleBy_glb_accErr, settleBy_sealed, settleBy_irqEn, settleBy_ka, settleBy_fifo,
      settleBy_flash, settleBy_otp]
    exact ⟨hheld, hkind, hfrom, rfl, hdyn, hmwl, hrej, hvstop, hnrd, hacc, himg, ctlReset_irqEn_of_sealed 3, hka, hfifo,
      hflash, hotp⟩
  case softSealed =>
    refine gives_act (exec_hostSoftReset s) ?_
    rw [softReset_up hup, settleBy_pwr]
    obtain ⟨-, -, -, -, hdev⟩ := ctlReset_pwr 3 s
    exact ⟨(islandKept_ctlReset 3 hsealed).of_core (settleBy_core _ _ _ _), hdev.trans (if_pos hsealed)⟩
  case softOpen =>
    refine gives_act (exec_hostSoftReset s) ?_
    obtain ⟨-, -, -, -, hdev⟩ := ctlReset_pwr 3 s
    obtain ⟨-, -, hflash, hotp, -⟩ := ctlReset_frame 3 s
    obtain ⟨hsealed, hirq, hchans⟩ := ctlReset_of_open 3 hopen
    rw [softReset_up hup, settleBy_pwr, settleBy_sealed, settleBy_irqEn, settleBy_flash, settleBy_otp, settleBy_chans]
    exact ⟨hdev.trans (if_neg (by simp [hopen])), hsealed, hirq, hflash, hotp, hchans⟩
  case wdog =>
    refine gives_act (exec_watchdogReset s) ?_
    obtain ⟨hheld', hkind, -, -, -⟩ := ctlReset_pwr 4 s
    obtain ⟨hdyn, -, -, -, -⟩ := ctlReset_ctl 4 s
    obtain ⟨hka, -, hflash, hotp, himg⟩ := ctlReset_frame 4 s
    rw [wdogExpire_due hrun hzero hheld, settleBy_glb_wdRst, settleBy_pwr, settleBy_hif_dynAddr, settleBy_sealed, settleBy_ka,
      settleBy_flash, settleBy_otp]
    exact ⟨rfl, hheld', hkind, hdyn, himg, hka, hflash, hotp⟩
  case wdogSealed =>
    refine gives_act (exec_watchdogReset s) ?_
    rw [wdogExpire_due hrun hzero hheld, settleBy_pwr]
    obtain ⟨-, -, -, -, hdev⟩ := ctlReset_pwr 4 s
    have hkept : IslandKept s { ctlReset 4 s with glb := { (ctlReset 4 s).glb with wdRst := true } } := islandKept_ctlReset 4 hsealed
    exact ⟨hkept.of_core (settleBy_core _ _ _ _), hdev.trans (if_pos hsealed)⟩
  case wdogOpen =>
    refine gives_act (exec_watchdogReset s) ?_
    obtain ⟨-, -, -, -, hdev⟩ := ctlReset_pwr 4 s
    obtain ⟨-, -, hflash, hotp, -⟩ := ctlReset_frame 4 s
    obtain ⟨hsealed, hirq, hchans⟩ := ctlReset_of_open 4 hopen
    rw [wdogExpire_due hrun hzero hheld, settleBy_pwr, settleBy_sealed, settleBy_irqEn, settleBy_flash, settleBy_otp,
      settleBy_chans]
    exact ⟨hdev.trans (if_neg (by simp [hopen])), hsealed, hirq, hflash, hotp, hchans⟩
  case release =>
    refine gives_act (exec_controlDomainRelease s) ?_
    have hstart : onFire .controlDomainRelease ctlRelease s = ctlStart (released (disarm (· == .controlDomainRelease) s)) := by
      rw [onFire_due _ hdue, ctlRelease_eq (by rwa [disarm_pwr])]
    rw [hstart]
    generalize hd : disarm (· == Instr.controlDomainRelease) s = d
    have hframe := unstarted_ctlStart (released d)
    obtain ⟨hheld', hka, hsealed, hirq, hfifo, hflash, hotp⟩ := released_frame d
    have hcore : SameCore s d := by rw [← hd]; exact core_disarm _ s
    rw [settleBy_pwr, ctlStart_ctlHeld, settleBy_ka, settleBy_sealed, settleBy_irqEn, settleBy_fifo, settleBy_flash, settleBy_otp,
      settleBy_chans]
    refine ⟨hheld', (congrArg State.ka hframe :).trans (hka.trans (by rw [hcore.ka, hcore.pwr])),
      (congrArg State.sealed hframe :).trans (hsealed.trans hcore.sealed),
      (congrArg State.irqEn hframe :).trans (hirq.trans hcore.irqEn), (congrArg State.fifo hframe :).trans (hfifo.trans hcore.fifo),
      (congrArg State.flash hframe :).trans (hflash.trans hcore.flash), (congrArg State.otp hframe :).trans (hotp.trans hcore.otp),
      fun ch => ?_⟩
    have hchans : (ctlStart (released d)).chans = (released d).chans := (congrArg State.chans hframe :)
    rw [hchans, ← hcore.chans]
    exact released_chans d ch

end Sys2Proof.Machine
end

section
/-! PROOF. The steps of a wake, their retries and their failures (R324, R325). -/

namespace Sys2Proof.Machine

/-! ## The epochs of the banks outlast every trip (R99) -/

/-- The epochs of the banks. -/
def epochs (s : State) (b : BankId) : BitVec 32 := s.banks[b].epoch

theorem epochs_of_banks {s t : State} (h : t.banks = s.banks) : epochs t = epochs s := by unfold epochs; rw [h]

theorem epochs_onBank (b : BankId) {f : Bank → Bank} (h : ∀ k, (f k).epoch = k.epoch) (s : State) :
    epochs (onBank b f s) = epochs s := by
  funext j
  rw [epochs, onBank_get]
  split
  next hj => rw [h, hj, epochs]
  · rfl

theorem epochs_forEach {α : Type} (l : List α) (f : α → State → State) (h : ∀ a s, epochs (f a s) = epochs s) (s : State) :
    epochs (forEach l f s) = epochs s := forEach_keeps epochs l f h s

theorem epochs_brefEvent (b : BankId) (s : State) : epochs (brefEvent b s) = epochs s := by
  have hopen : epochs (roundSpoil b (onBank b brefOpen s)) = epochs s :=
    (epochs_of_banks rfl).trans (epochs_onBank b (fun k => by unfold brefOpen; split <;> rfl) s)
  unfold brefEvent
  dsimp only
  split
  · exact (epochs_of_banks (disarm_banks _ _)).trans hopen
  · exact (epochs_of_banks (rearm_banks _ _ _)).trans hopen

theorem epochs_brefEvents (l : List Nat) (s : State) : epochs (brefEvents l s) = epochs s := by
  unfold brefEvents
  refine epochs_forEach _ _ (fun i s => ?_) s
  split
  · exact epochs_brefEvent _ s
  · rfl

theorem epochs_lateBack (l : List Nat) (s : State) : epochs (lateBack l s) = epochs s := by
  funext b
  unfold epochs lateBack
  dsimp only
  rw [mapTab_get]
  split
  · split <;> rfl
  · rfl

theorem epochs_safeChans (l : List Nat) (s : State) : epochs (safeChans l s) = epochs s := by
  unfold safeChans
  dsimp only
  rw [epochs_brefEvents, epochs_lateBack]
  exact epochs_of_banks (onChans_banks _ _ _)

theorem railHalt_banks (r : RailId) (s : State) : (railHalt r s).banks = s.banks := rfl

theorem epochs_latchTrip (r : RailId) (c : RailCfg) (cause : BitVec 2) (wh : Nat) (s : State) :
    epochs (latchTrip r c cause wh s) = epochs s := by
  unfold latchTrip
  dsimp only
  rw [epochs_safeChans]
  exact epochs_of_banks ((onRail_banks _ _ _).trans (railHalt_banks r s))

theorem epochs_btsfLatch (r : RailId) (c : RailCfg) (b : Nat) (s : State) : epochs (btsfLatch r c b s) = epochs s := by
  unfold btsfLatch
  dsimp only
  split
  · split <;> exact epochs_of_banks rfl
  · rw [epochs_latchTrip]; exact epochs_of_banks rfl

theorem epochs_btsfAct (b : BankId) (s : State) : epochs (btsfAct b s) = epochs s := by
  unfold btsfAct
  dsimp only
  rw [epochs_forEach _ _ (fun rc s => ?_), epochs_brefEvent]
  · exact epochs_onBank b (f := fun k => { k with btsfFlt := true }) (fun _ => rfl) s
  · split
    · exact epochs_btsfLatch _ _ _ s
    · rfl

theorem epochs_countTrip (r : RailId) (c : RailCfg) (ch : ChanId) (s : State) : epochs (countTrip r c ch s) = epochs s := by
  unfold countTrip
  dsimp only
  split
  · rfl
  · split <;> exact epochs_of_banks rfl

theorem epochs_phaseTrip (ch : ChanId) (s : State) : epochs (phaseTrip ch s) = epochs s := by
  unfold phaseTrip
  split
  · rfl
  · dsimp only
    split
    · rfl
    split
    · exact epochs_latchTrip _ _ _ _ s
    · rw [epochs_countTrip]
      split
      · rfl
      · rw [epochs_lateBack]; exact epochs_of_banks rfl

theorem epochs_rawAll (s : State) : epochs (rawAll s) = epochs s := by
  unfold rawAll rawTrips rawBtsf
  split
  · rw [epochs_forEach _ _ (fun rc s => ?_), epochs_forEach _ _ (fun b s => ?_)]
    · split
      · exact epochs_btsfAct _ s
      · rfl
    · refine epochs_forEach _ _ (fun i s => ?_) s
      split
      · split
        · exact epochs_phaseTrip _ s
        · rfl
      · rfl
  · rfl

/-! ## What the entry to READY leaves -/

/-- The state without Nelink and the agenda. -/
def unlinked (s : State) : State := { s with nl := {}, agenda := [] }

theorem unlinked_nlListen (s : State) : unlinked (nlListen s) = unlinked s := by
  unfold nlListen nlStepDown nlSend nlSetRole nlDisarm
  repeat' split
  all_goals (unfold unlinked; rfl)

/-- READY with its registers, before the control domain starts (R324 step 7). -/
def readyFields (s : State) : State :=
  let us := (s.now - s.pwr.wakeAt + usTicks / 2) / usTicks
  let s := slowLeave (disarm wakeTimer s)
  { s with
    pwr := { s.pwr with dev := .ready, tgt := none, wake := .none, recov := false, wakeTime := narrowU16 us
                        refReg := s.pwr.refRc, retained := false }
    glb := { s.glb with refFb := s.glb.refFb || s.pwr.refRc }
    chans := mapTab (fun _ => padOut) s.chans }

/-- READY with the control domain started. -/
def readyStarted (s : State) : State :=
  ctlStart (if (nelinkCfg (readyFields s)).isSome then nlListen (readyFields s) else readyFields s)

theorem enterReady_eq (s : State) : enterReady s = brownoutStands (rawAll (readyStarted s)) := rfl

/-- The start of the control domain and of Nelink leaves the seal, the interrupt enables, the channels and the banks. -/
theorem readyStarted_frame (s : State) :
    (readyStarted s).sealed = s.sealed ∧ (readyStarted s).irqEn = s.irqEn ∧ (readyStarted s).chans = (readyFields s).chans ∧
      (readyStarted s).banks = s.banks ∧
      offDog (readyStarted s).pwr = offDog (readyFields s).pwr := by
  have hstart (v : State) : unstarted (ctlStart v) = unstarted v := unstarted_ctlStart v
  unfold readyStarted
  split
  · have h := hstart (nlListen (readyFields s))
    have hnl := unlinked_nlListen (readyFields s)
    exact ⟨(congrArg State.sealed h :).trans (congrArg State.sealed hnl :), (congrArg State.irqEn h :).trans (congrArg State.irqEn hnl :),
      (congrArg State.chans h :).trans (congrArg State.chans hnl :), (congrArg State.banks h :).trans (congrArg State.banks hnl :),
      (ctlStart_offDog _).trans (congrArg (fun t : State => offDog t.pwr) hnl :)⟩
  · have h := hstart (readyFields s)
    exact ⟨(congrArg State.sealed h :), (congrArg State.irqEn h :), (congrArg State.chans h :), (congrArg State.banks h :),
      ctlStart_offDog _⟩

/-- Without a brown-out READY is entered for good. -/
theorem enterReady_of_supplied {s : State} (hvdd : s.pwr.vddBo = false) (hvdda : s.pwr.vddaBo = false) :
    enterReady s = rawAll (readyStarted s) := by
  have hpwr : (rawAll (readyStarted s)).pwr = (readyStarted s).pwr := pwr_of_outer (outer_rawAll _)
  obtain ⟨-, -, -, -, hdog⟩ := readyStarted_frame s
  have hvdd' : (rawAll (readyStarted s)).pwr.vddBo = false := by
    rw [hpwr]; exact ((congrArg Power.vddBo hdog :)).trans hvdd
  have hvdda' : (rawAll (readyStarted s)).pwr.vddaBo = false := by
    rw [hpwr]; exact ((congrArg Power.vddaBo hdog :)).trans hvdda
  simp [enterReady_eq, brownoutStands, hvdd', hvdda']

/-- What the entry to READY leaves (R324 step 7). -/
theorem enterReady_spec {s : State} (hvdd : s.pwr.vddBo = false) (hvdda : s.pwr.vddaBo = false) :
    (enterReady s).pwr.dev = .ready ∧ (enterReady s).pwr.tgt = none ∧ (enterReady s).pwr.wake = .none ∧
      (enterReady s).pwr.retained = false ∧ (enterReady s).pwr.retLost = s.pwr.retLost ∧ (enterReady s).sealed = s.sealed ∧
      (enterReady s).irqEn = s.irqEn ∧ ∀ b : BankId, (enterReady s).banks[b].epoch = s.banks[b].epoch := by
  rw [enterReady_of_supplied hvdd hvdda]
  have houter := outer_rawAll (readyStarted s)
  obtain ⟨hsealed, hirq, -, hbanks, hdog⟩ := readyStarted_frame s
  rw [pwr_of_outer houter, sealed_of_outer houter, irqEn_of_outer houter]
  exact ⟨(congrArg Power.dev hdog :), (congrArg Power.tgt hdog :), (congrArg Power.wake hdog :), (congrArg Power.retained hdog :),
    (congrArg Power.retLost hdog :), hsealed, hirq,
    fun b => (congrFun ((epochs_rawAll (readyStarted s)).trans (epochs_of_banks hbanks)) b :)⟩

/-- Without a seal nothing trips at the entry, and the channels keep their states. -/
theorem enterReady_chans_of_open {s : State} (hvdd : s.pwr.vddBo = false) (hvdda : s.pwr.vddaBo = false)
    (hopen : s.sealed = {}) (ch : ChanId) : (enterReady s).chans[ch].st = s.chans[ch].st := by
  obtain ⟨hsealed, -, hchans, -, -⟩ := readyStarted_frame s
  have hraw : rawAll (readyStarted s) = readyStarted s := by simp [rawAll, isSealed, hsealed, hopen]
  have hpad : (readyFields s).chans = mapTab (fun _ => padOut) s.chans := rfl
  rw [enterReady_of_supplied hvdd hvdda, hraw, hchans, hpad, mapTab_get]
  rfl

/-! ## The steps -/

theorem exec_suppliesReady (s : State) : exec .suppliesReady s = act wakeSupplies s := rfl
theorem exec_supplyTimeout (s : State) : exec .supplyTimeout s = act (onFire .supplyTimeout wakeSupFail) s := rfl
theorem exec_referenceQualified (s : State) : exec .referenceQualified s = act (wakeRef false) s := rfl
theorem exec_referenceQualTimeout (s : State) :
    exec .referenceQualTimeout s = act (onFire .referenceQualTimeout (wakeRef true)) s := rfl
theorem exec_pllLocked (s : State) : exec .pllLocked s = act pllGain s := rfl
theorem exec_pllAttemptTimeout (s : State) : exec .pllAttemptTimeout s = act (onFire .pllAttemptTimeout wakePllFail) s := rfl
theorem exec_dllLocked (s : State) : exec .dllLocked s = act dllGain s := rfl
theorem exec_dllAttemptTimeout (s : State) : exec .dllAttemptTimeout s = act (onFire .dllAttemptTimeout wakeDllFail) s := rfl
theorem exec_retentionRestored (ok : Bool) (s : State) : exec (.retentionRestored ok) s = act (wakeRestore ok) s := rfl

theorem pllStart_core (s : State) : SameCore { s with pwr := { s.pwr with wake := .pll, pllTry := s.pwr.pllTry + 1 } } (pllStart s) :=
  (core_disarm _ _).trans (core_rearm _ _ _)

theorem dllStart_core (s : State) : SameCore { s with pwr := { s.pwr with wake := .dll, dllTry := s.pwr.dllTry + 1 } } (dllStart s) :=
  (core_disarm _ _).trans (core_rearm _ _ _)

/-- A failed wake ends in STANDBY (R325). -/
theorem wakeFail_spec (s : State) :
    (wakeFail s).ka = s.ka ∧ (wakeFail s).pwr.dev = .standby ∧ (wakeFail s).pwr.tgt = none ∧ (wakeFail s).pwr.wake = .none ∧
      (wakeFail s).pwr.retained = s.pwr.retained ∧ (wakeFail s).sealed = s.sealed ∧ (wakeFail s).chans = s.chans :=
  ⟨rfl, rfl, rfl, rfl, rfl, rfl, rfl⟩

/-- An attempt of the PLL that ends without lock, by its number and reference (R325). -/
theorem wakePllFail_core {s : State} (hwake : s.pwr.wake = .pll) (rc : Bool)
    (hnext : (s.pwr.refRc = false ∧ rc = decide (4 ≤ s.pwr.pllTry)) ∨
      (s.pwr.refRc = true ∧ s.pwr.pllTry ≠ 4 ∧ s.pwr.pllTry < 8 ∧ rc = true)) :
    SameCore { s with pwr := { s.pwr with pllTry := s.pwr.pllTry + 1, refRc := rc } } (wakePllFail s) := by
  have hpll : ({ s.pwr with wake := .pll } : Power) = s.pwr := by rw [← hwake]
  rcases hnext with ⟨href, hrc⟩ | ⟨href, hfour, height, hrc⟩
  · by_cases hmore : s.pwr.pllTry < 4
    · have hfail : wakePllFail s = pllStart s := by simp [wakePllFail, hwake, href, hmore]
      rw [hfail, hrc, decide_eq_false (by omega), ← href, ← hpll]
      exact pllStart_core s
    · have hfail : wakePllFail s = pllStart { s with pwr := { s.pwr with refRc := true } } := by
        simp [wakePllFail, hwake, href, hmore]
      rw [hfail, hrc, decide_eq_true (by omega), ← hpll]
      exact pllStart_core { s with pwr := { s.pwr with refRc := true } }
  · have hfail : wakePllFail s = pllStart s := by
      have : ¬ 8 ≤ s.pwr.pllTry := by omega
      simp [wakePllFail, hwake, href, hfour, this]
    rw [hfail, hrc, ← href, ← hpll]
    exact pllStart_core s

/-- The retained image is lost (R325): the island stands reset when READY is entered. -/
theorem wakeRestore_lost {s : State} (hwake : s.pwr.wake = .restore) :
    ∃ u : State, wakeRestore false s = enterReady u ∧ u.pwr = { s.pwr with retLost := true, retained := false } ∧
      u.sealed = {} ∧ u.irqEn = 0 ∧ ∀ ch : ChanId, u.chans[ch].st = .noAccord := by
  refine ⟨{ pinInputs (islandReset s) with pwr := { (pinInputs (islandReset s)).pwr with retLost := true, retained := false } },
    ?_, rfl, rfl, rfl, fun ch => ?_⟩
  · simp [wakeRestore, hwake]
  · have h := islandReset_chans s ch
    exact (congrArg Chan.st h :)

/-- A timed event whose meaning brings `u` from the state without it. -/
theorem becomes_onFire {c e : Instr} {f : State → State} {s u : State} (hexec : exec c s = act (onFire e f) s)
    (hdue : isDue e s = true) (h : SameCore u (f (disarm (· == e) s))) : Becomes c s u :=
  becomes_act hexec (by rwa [onFire_due f hdue])

/-- A timed event that gives what holds of its meaning on the state without it. -/
theorem gives_onFire {c e : Instr} {f : State → State} {s : State} {P : State → Prop} (hexec : exec c s = act (onFire e f) s)
    (hdue : isDue e s = true)
    (h : P (settleBy none (occurs (onFire e f) s) s (f (disarm (· == e) s)))) : Gives c s P :=
  gives_act hexec (by rwa [onFire_due f hdue])

/-- A taken event is the agenda's alone. -/
theorem core_disarm_pwr (p : Power) (q : Instr → Bool) (s : State) : SameCore { s with pwr := p } { disarm q s with pwr := p } :=
  core_disarm q { s with pwr := p }

theorem pllAttemptTimeout_fails {s : State} (hwake : s.pwr.wake = .pll) (href : s.pwr.refRc = true)
    (hlast : s.pwr.pllTry = 4 ∨ 8 ≤ s.pwr.pllTry) : wakePllFail s = wakeFail { s with ka := { s.ka with pllTo := true } } := by
  simp [wakePllFail, hwake, href, hlast]

/-- Settles O5: each step by its own equation; the entry to READY by `enterReady_spec`, the failures by `wakeFail_spec`. -/
theorem wakeSteps : Obligations.WakeSteps := by
  unfold Obligations.WakeSteps
  refine ⟨fun s hwake => ?supplies, fun s hdue hwake => ?supplyTimeout, fun s hwake => ?refQualified, fun s hdue hwake => ?refTimeout,
    fun s hdown hwake => ?pllLocked,
    fun s hdue hwake href htry => becomes_onFire (exec_pllAttemptTimeout s) hdue ?pllAgain,
    fun s hdue hwake href htry => becomes_onFire (exec_pllAttemptTimeout s) hdue
      ((core_disarm_pwr _ _ s).trans
        (wakePllFail_core (s := disarm (· == Instr.pllAttemptTimeout) s) hwake true (.inl ⟨href, (decide_eq_true htry).symm⟩))),
    fun s hdue hwake href hfour height => becomes_onFire (exec_pllAttemptTimeout s) hdue ?pllAgainRc,
    fun s hdue hwake href hlast => ?pllFails, fun s hdown hwake hret => ?dllRetained, fun s hdown hwake hret hvdd hvdda => ?dllReady,
    fun s hdue hwake htry => ?dllAgain, fun s hdue hwake htry => ?dllFails, fun s hwake hvdd hvdda => ?restored,
    fun s hwake hvdd hvdda => ?lost⟩
  case supplies =>
    refine becomes_act (exec_suppliesReady s) ?_
    rw [wakeSupplies, if_pos hwake]
    exact (core_disarm _ _).trans (core_rearm _ _ _)
  case supplyTimeout =>
    refine gives_onFire (exec_supplyTimeout s) hdue ?_
    rw [wakeSupFail, if_pos (by rwa [disarm_pwr])]
    obtain ⟨hka, hdev, htgt, hwake', hret, hsealed, hchans⟩ := wakeFail_spec
      { disarm (· == Instr.supplyTimeout) s with ka := { (disarm (· == Instr.supplyTimeout) s).ka with supTo := true } }
    rw [settleBy_ka, settleBy_pwr, settleBy_sealed, settleBy_chans]
    exact ⟨hka, hdev, htgt, hwake', hret, hsealed, hchans⟩
  case refQualified =>
    refine becomes_act (exec_referenceQualified s) ?_
    rw [wakeRef, if_pos hwake]
    exact pllStart_core { s with pwr := { s.pwr with refRc := false } }
  case refTimeout =>
    refine becomes_onFire (exec_referenceQualTimeout s) hdue ?_
    rw [wakeRef, if_pos (by rwa [disarm_pwr])]
    exact (core_disarm_pwr { s.pwr with wake := .pll, pllTry := s.pwr.pllTry + 1, refRc := true }
      (· == Instr.referenceQualTimeout) s).trans
      (pllStart_core { disarm (· == Instr.referenceQualTimeout) s with pwr := { s.pwr with refRc := true } })
  case pllLocked =>
    refine becomes_act (exec_pllLocked s) ?_
    rw [pllGain, hdown, if_neg Bool.false_ne_true, wakePll, if_pos hwake]
    exact dllStart_core { s with pwr := { s.pwr with pllLk := true } }
  case pllAgain =>
    have h := wakePllFail_core (s := disarm (· == Instr.pllAttemptTimeout) s) hwake false
      (.inl ⟨href, (decide_eq_false (Nat.not_le.2 htry)).symm⟩)
    rw [← href] at h
    exact (core_disarm_pwr _ _ s).trans h
  case pllAgainRc =>
    have h := wakePllFail_core (s := disarm (· == Instr.pllAttemptTimeout) s) hwake true (.inr ⟨href, hfour, height, rfl⟩)
    rw [← href] at h
    exact (core_disarm_pwr _ _ s).trans h
  case pllFails =>
    refine gives_onFire (exec_pllAttemptTimeout s) hdue ?_
    rw [pllAttemptTimeout_fails (s := disarm _ s) hwake href hlast]
    obtain ⟨hka, hdev, htgt, hwake', -, hsealed, -⟩ := wakeFail_spec
      { disarm (· == Instr.pllAttemptTimeout) s with ka := { (disarm (· == Instr.pllAttemptTimeout) s).ka with pllTo := true } }
    rw [settleBy_ka, settleBy_pwr, settleBy_sealed]
    exact ⟨hka, hdev, htgt, hwake', hsealed⟩
  case dllRetained =>
    refine gives_act (exec_dllLocked s) ?_
    have hdll : dllGain s = { disarm wakeTimer (epochZero { s with pwr := { s.pwr with dllLk := true } }) with
        pwr := { s.pwr with dllLk := true, wake := .restore } } := by
      simp [dllGain, hdown, wakeDll, hwake, epochZero, hret]
    rw [hdll, settleBy_pwr, settleBy_banks, settleBy_sealed, settleBy_chans]
    refine ⟨rfl, fun b => ?_, rfl, rfl⟩
    exact (congrArg Bank.epoch (mapTab_get _ _ b) :)
  case dllReady =>
    refine gives_act (exec_dllLocked s) ?_
    have hdll : dllGain s = enterReady (disarm wakeTimer (epochZero { s with pwr := { s.pwr with dllLk := true } })) := by
      simp [dllGain, hdown, wakeDll, hwake, epochZero, hret]
    obtain ⟨hdev, htgt, hwake', -, -, hsealed, -, hepoch⟩ := enterReady_spec
      (s := disarm wakeTimer (epochZero { s with pwr := { s.pwr with dllLk := true } })) hvdd hvdda
    rw [hdll, settleBy_pwr, settleBy_sealed, settleBy_banks]
    refine ⟨hdev, htgt, hwake', hsealed, fun b => (hepoch b).trans ?_⟩
    exact (congrArg Bank.epoch (mapTab_get _ _ b) :)
  case dllAgain =>
    refine becomes_onFire (exec_dllAttemptTimeout s) hdue ?_
    have hdll : wakeDllFail (disarm (· == Instr.dllAttemptTimeout) s) = dllStart (disarm (· == Instr.dllAttemptTimeout) s) := by
      simp [wakeDllFail, hwake, htry]
    have h := dllStart_core (disarm (· == Instr.dllAttemptTimeout) s)
    rw [disarm_pwr, ← hwake] at h
    rw [hdll]
    exact (core_disarm_pwr _ _ s).trans h
  case dllFails =>
    refine gives_onFire (exec_dllAttemptTimeout s) hdue ?_
    have hdll : wakeDllFail (disarm (· == Instr.dllAttemptTimeout) s) =
        wakeFail { disarm (· == Instr.dllAttemptTimeout) s with ka := { s.ka with dllTo := true } } := by
      simp [wakeDllFail, hwake, Nat.not_lt.2 htry]
    obtain ⟨hka, hdev, htgt, hwake', -, hsealed, -⟩ := wakeFail_spec
      { disarm (· == Instr.dllAttemptTimeout) s with ka := { s.ka with dllTo := true } }
    rw [hdll, settleBy_ka, settleBy_pwr, settleBy_sealed]
    exact ⟨hka, hdev, htgt, hwake', hsealed⟩
  case restored =>
    refine gives_act (exec_retentionRestored true s) ?_
    have hstep : wakeRestore true s = enterReady s := by simp [wakeRestore, hwake]
    obtain ⟨hdev, htgt, hwake', hret, -, hsealed, -, -⟩ := enterReady_spec hvdd hvdda
    rw [hstep, settleBy_pwr, settleBy_sealed]
    exact ⟨hdev, htgt, hwake', hret, hsealed⟩
  case lost =>
    refine gives_act (exec_retentionRestored false s) ?_
    obtain ⟨u, hstep, hpwr, hopen, hirq, hchans⟩ := wakeRestore_lost hwake
    have hvdd' : u.pwr.vddBo = false := by rw [hpwr]; exact hvdd
    have hvdda' : u.pwr.vddaBo = false := by rw [hpwr]; exact hvdda
    obtain ⟨hdev, -, -, -, hlost, hsealed, hirq', -⟩ := enterReady_spec hvdd' hvdda'
    rw [hstep, settleBy_pwr, settleBy_sealed, settleBy_irqEn, settleBy_chans]
    exact ⟨hdev, hlost.trans (by rw [hpwr]), hsealed.trans hopen, hirq'.trans hirq,
      fun ch => (enterReady_chans_of_open hvdd' hvdda' hopen ch).trans (hchans ch)⟩

end Sys2Proof.Machine
end

section
/-! PROOF. State commands and carriers: the states that refute their statements; the level at the PWM balls. -/

namespace Sys2Proof.Machine

/-! ## A state command without a responder (R321, R330) -/

/-- STANDBY while the board does not power VDDIO group 3, whose pins carry the host interface. -/
def standbyWithoutHost : State :=
  { State.reset with pwr := { State.reset.pwr with dev := .standby, ioUp := [true, true, true, false] } }

/-- The device stands in STANDBY. -/
def inStandby (t : State) : Bool := t.pwr.dev == .standby

/-- RUN at tick 0, where a rotation step of rail 0 falls due with its master carrier start and the old carrier of channel 0. -/
def carrierAtRotation : State :=
  onChan 0 (fun k => { k with st := .switching, out := .low, nextCs := some 0, onDone := true }) <|
    onRail 0 (fun x => { x with sh := { x.sh with nact := 2, rotate := true } }) <|
      arm 0 (.rotationStep 0)
        { State.reset with pwr := { State.reset.pwr with dev := .run }, sealed := { img := some sharedBanks } }

/-- Channel 0 has had its on edge. -/
def onEdgeDone (t : State) : Bool := t.chans[(0 : ChanId)].onDone

/-- GOTO OFF without the responder leaves STANDBY, and the carrier start at the rotation step starts no period. -/
theorem neither_served : answersWith inStandby (exec .gotoOff standbyWithoutHost) = true ∧
    answersWith onEdgeDone (exec (.carrierStart 0) carrierAtRotation) = true := by
  decide +kernel

/-- Refutes O4: in STANDBY the responder serves GOTO_OFF while VDDIO group 3 is powered; without that supply no path is open, and the
device stays in STANDBY. -/
theorem not_stateCommands : ¬ Obligations.StateCommands := by
  unfold Obligations.StateCommands
  rintro ⟨_, _, hoff, _⟩
  refine not_gives_of_answersWith neither_served.1 ?_ (hoff standbyWithoutHost rfl rfl)
  rintro t ⟨hdev, _⟩
  rw [inStandby, hdev]
  rfl

/-! ## A carrier start at a rotation step (R97, R165) -/

/-- Refutes O6: a carrier start of the old slots is not taken where the rotation step of the same master carrier start is due, so the
channel starts no new period. -/
theorem not_carriersAndEdges : ¬ Obligations.CarriersAndEdges := by
  unfold Obligations.CarriersAndEdges
  rintro ⟨_, hstart, _⟩
  refine not_gives_of_answersWith neither_served.2 ?_
    (hstart carrierAtRotation 0 0 (spreadRail 0) 0 false rfl rfl rfl rfl
      (by decide) rfl rfl (by decide))
  rintro t ⟨_, _, _, _, _, _, _, hdone, _⟩
  exact hdone

/-! ## The level at the PWM balls (R90, R91, R397, R436) -/

/-- A channel that no discovery probes stands at no moment of a probe. -/
theorem probeNow_of_not_probing {s : State} {ch : ChanId} (h : probing s ch = false) : probeNow s ch = none := by
  unfold probeNow
  dsimp only
  split
  · rfl
  · simp [h]

/-- With its supply and the TAP out of the way, a ball stands at its function. -/
theorem pwmPad_eq_function {s : State} {ch : ChanId} (hgroup : groupUp s (pwmGroup ch) = true) (hir : s.tap.ir = .idcode) (t : Nat) :
    pwmPad s ch t = pwmFunction s ch t := by
  simp [pwmPad, hgroup, hir]

/-- With the island up, the pad latches open and no probe, a ball stands at the level of its output logic. -/
theorem pwmPad_eq_level {s : State} {ch : ChanId} (hgroup : groupUp s (pwmGroup ch) = true) (hir : s.tap.ir = .idcode)
    (hup : islandUp s = true) (hpads : s.pwr.padsUntil ≤ s.now) (hprobe : probing s ch = false) (t : Nat) :
    pwmPad s ch t = pwmLevel s ch t := by
  simp [pwmPad_eq_function hgroup hir, pwmFunction, Nat.not_lt.2 hpads, hup, probeNow_of_not_probing hprobe]

/-- The output logic of the ball of a phase's own channel. -/
theorem pwmLevel_of_owner {s : State} {ch : ChanId} {r : RailId} {c : RailCfg} {q : Nat}
    (howner : owner s ch = some (r, c, q, false)) (hphase : c.acc.phase.getD q 0 = ch.val) (t : Nat) :
    pwmLevel s ch t =
      if bistHolds s ch s.chans[ch] then (if c.acc.pair then .low else .mid)
      else if s.chans[ch].out == .weak then .weak
      else if !c.acc.pair then stagePad (c.acc.safe.getD q 0) (lvlAt s.chans[ch] t)
      else driven (pairHigh s c (c.acc.safe.getD q 0) s.chans[ch] t) := by
  simp only [pwmLevel, howner, hphase, toFin_val, Bool.false_eq_true, if_false]

theorem bistHolds_of_safe {s : State} {ch : ChanId} {k : Chan} (h : k.out = .safe) : bistHolds s ch k = false := by
  simp [bistHolds, h]

theorem lvlAt_safe {k : Chan} (h : k.out = .safe) (t : Nat) : lvlAt k t = .safe := by simp [lvlAt, h]

theorem lvlAt_on {k : Chan} (h : k.out = .on) {t : Nat} (ht : k.onAt ≤ t) : lvlAt k t = .on := by
  simp [lvlAt, h, Nat.not_lt.2 ht]

/-- Settles O8: the ball stands at its function (`pwmPad_eq_function`) or at its output logic (`pwmPad_eq_level`), read case by
case. -/
theorem pwmPadLevels : Obligations.PwmPadLevels := by
  unfold Obligations.PwmPadLevels
  refine ⟨fun s ch t hir => ?highz, fun s ch t hgroup => ?unpowered, fun s ch t hgroup hir hdown hpads => ?noIsland,
    fun s ch r c q t hgroup hir hup hpads hprobe howner hphase hpair hout => ?stageSafe,
    fun s ch r c q t hgroup hir hup hpads hprobe howner hphase hpair hout => ?pairSafe,
    fun s ch r c q t hgroup hir hup hpads hprobe howner hphase hpair hout hon hbist => ?stageOn,
    fun s ch b t hgroup hir hup hpads hprobe howner hbank hrun hout => ?selfTest⟩
  case highz => simp [pwmPad, hir]
  case unpowered => simp [pwmPad, hgroup]
  case noIsland => simp [pwmPad_eq_function hgroup hir, pwmFunction, Nat.not_lt.2 hpads, hdown]
  case stageSafe =>
    rw [pwmPad_eq_level hgroup hir hup hpads hprobe, pwmLevel_of_owner howner hphase, bistHolds_of_safe hout, hpair, hout,
      lvlAt_safe hout]
    rfl
  case pairSafe =>
    rw [pwmPad_eq_level hgroup hir hup hpads hprobe, pwmLevel_of_owner howner hphase, bistHolds_of_safe hout, hpair, hout,
      pairHigh, lvlAt_safe hout, hpair]
    rfl
  case stageOn =>
    rw [pwmPad_eq_level hgroup hir hup hpads hprobe, pwmLevel_of_owner howner hphase, hbist, hpair, hout, lvlAt_on hout hon]
    rfl
  case selfTest =>
    have hb : toFin 24 (bankOf ch.val) = some b := (congrArg (toFin 24) hbank).trans (toFin_val b)
    have hholds : bistHolds s ch s.chans[ch] = true := by
      rw [bistHolds, hb, hout]
      exact hrun
    rw [pwmPad_eq_level hgroup hir hup hpads hprobe, pwmLevel, howner]
    simp only [hholds, if_true]
    rfl

end Sys2Proof.Machine
end

section
/-! PROOF. Further statements that a concrete state refutes. -/

namespace Sys2Proof.Machine

/-! ## The states -/

/-- Rail 0 of that image with a start table that begins with ASSERT_PG. -/
def assertFirst : RailCfg := { spreadRail 0 with seq := { (spreadRail 0).seq with start := [⟨.assertPg, 0, 0, []⟩] } }

/-- RUN with that rail beside rail 1, which shares its banks: the calibration of rail 0 is at its end, its under-voltage comparator
stands asserted. -/
def calibratedUnderVoltage : State :=
  onRail 0 (fun x => { x with seq := { x.seq with st := .start, cal := true }, prot := { x.prot with uvRaw := true } })
    { besideNeighbour with
      sealed := { img := some { sharedBanks with rails := some assertFirst :: some (spreadRail 1) :: List.replicate 22 none } }
      agenda := [{ at_ := 0, ev := .offsetCalDone 0 [] }] }

/-- RUN with the rails of `besideNeighbour`; source 384, of class F, counts as raised anew in this core cycle. -/
def renewedFatalSource : State :=
  { besideNeighbour with raised := { besideNeighbour.raised with renew := [384] } }

/-- The Sillage buffer of rail 0 is frozen. -/
def frozenBuffer (t : State) : Bool := t.rails[(0 : RailId)].sil.frozen

/-- The log holds a record in its queue. -/
def recordQueued (t : State) : Bool := !t.nvl.queue.isEmpty

/-- The same with the image routing SILFRZ to the in-band interrupt, and its enable set. -/
def renewedRoutedFreeze : State :=
  { renewedFatalSource with
    sealed := { img := some { sharedBanks with irq := List.replicate 447 0 ++ [4] } }
    irqEn := 1#448 <<< 447 }

/-- A group requests an in-band interrupt. -/
def groupRequests (t : State) : Bool := !t.hif.ibi.isEmpty

/-- RUN with timer 0 running and capturing rising edges at PGOODn of rail 0, which is released while the board holds it low. -/
def capturesReleasedPgood : State :=
  onTimer 0 (fun k => { k with st := .running, capen := true })
    (onRail 0 (fun x => { x with seq := { x.seq with pgPin := true } })
      { besideNeighbour with
        sealed := { img := some { sharedBanks with pins := [⟨2, 0x0100, 2, 0, true⟩] } }
        pins := { besideNeighbour.pins with low := [0x0100] } })

/-- The board holds no PGOODn low. -/
def noneHeldLow (t : State) : Bool := t.pins.low.isEmpty

/-- What the model answers in these states. -/
theorem edge_answers : answersWith spoilt (exec (.offsetCalDone 0 [1]) calibratedUnderVoltage) = true ∧
    answersWith frozenBuffer (exec (.rearm 0 0x20000000) renewedFatalSource) = true ∧
    answersWith recordQueued (exec .blot renewedFatalSource) = true ∧
    answersWith noneHeldLow (exec (.timerCaptureEdge 0 true false) capturesReleasedPgood) = true ∧
    pendList renewedRoutedFreeze = [] ∧ answersWith groupRequests (exec (.enec 1) renewedRoutedFreeze) = true := by
  decide +kernel

/-! ## A calibration whose first state asserts power-good (R224, R229) -/

/-- Refutes O10: the first state of the start table arms the under-voltage trip, which latches rail 0 at once and sets `roundBad` of
rail 1, so a rail other than the calibrated one changes. -/
theorem not_powerGoodAndTransitions : ¬ Obligations.PowerGoodAndTransitions := by
  unfold Obligations.PowerGoodAndTransitions
  rintro ⟨_, _, _, _, _, _, _, hcal, _⟩
  refine not_gives_of_answersWith edge_answers.1 ?_
    (hcal calibratedUnderVoltage 0 assertFirst [1] 0 0 rfl rfl rfl rfl (by decide) (by decide) (by decide) (by decide)
      (by decide))
  rintro t ⟨_, _, _, hrails, _⟩
  exact spoilt_of_same (hrails 1 (by decide))

/-! ## A REARM beside a source that counts as raised anew (R310, R312, R314) -/

/-- Refutes O17: no freeze cause stands on the buffer when REARM arms it, yet the source that counts as raised anew freezes it in the
same step. -/
theorem not_faultPairAndSillage : ¬ Obligations.FaultPairAndSillage := by
  unfold Obligations.FaultPairAndSillage
  rintro ⟨_, _, _, _, hrearm, _⟩
  refine not_gives_of_answersWith edge_answers.2.1 ?_
    (hrearm renewedFatalSource 0 (spreadRail 0) 0x20000000 rfl rfl (by decide) (by decide) (by decide))
  rintro t ⟨_, hfrozen, _⟩
  exact hfrozen

/-! ## A capacitance test beside a source that counts as raised anew (R342, R347) -/

/-- Refutes O22: BLOT starts the test, and the source that counts as raised anew queues its record in the same step, so the log block
changes in more than the test's fields. -/
theorem not_logAndBlotter : ¬ Obligations.LogAndBlotter := by
  unfold Obligations.LogAndBlotter
  rintro ⟨_, _, _, hblot, _⟩
  refine not_gives_of_answersWith edge_answers.2.2.1 ?_ (hblot renewedFatalSource rfl rfl rfl rfl)
  rintro t ⟨hnvl, _⟩
  rw [recordQueued, hnvl]
  rfl

/-! ## A capture at a released PGOODn that the board held low (R69, R230, R369) -/

/-- Refutes O25: the rising edge at PGOODn tells that the board no longer holds the pin low, which the pins' state keeps, so a block
other than the timer changes. -/
theorem not_timersMatchAndCapture : ¬ Obligations.TimersMatchAndCapture := by
  unfold Obligations.TimersMatchAndCapture
  rintro ⟨_, _, _, hedge, _⟩
  refine not_gives_of_answersWith edge_answers.2.2.2.1 ?_
    (hedge capturesReleasedPgood 0 false 0x0100 rfl rfl rfl (by decide) (by decide)
      rfl rfl rfl rfl rfl rfl rfl rfl)
  intro t ht
  rw [noneHeldLow, ht.pins]
  rfl

/-! ## A freeze that raises a request beside ENEC (R304, R310, R394) -/

/-- Refutes O32: no bit of PEND reads 1 at ENEC, yet the source that counts as raised anew freezes a Sillage buffer in the same step,
and SILFRZ requests an in-band interrupt. -/
theorem not_i3cTarget : ¬ Obligations.I3cTarget := by
  unfold Obligations.I3cTarget
  rintro ⟨_, _, _, _, _, _, _, _, _, _, _, henec, _⟩
  refine not_gives_of_answersWith edge_answers.2.2.2.2.2 ?_
    (henec renewedRoutedFreeze 1 rfl rfl rfl (fun _ hq => absurd hq (List.not_mem_nil)))
  intro t ht
  rw [groupRequests, ht, edge_answers.2.2.2.2.1]
  rfl

/-! ## A register access to the factory page (R13, R398) -/

/-- RUN in factory test mode. -/
def factoryMode : State := { besideNeighbour with tap := { besideNeighbour.tap with ftm := true } }

/-- The 49 bits of a read of page 0xF0. -/
def factoryRead : BitVec 49 := 0x0F00000000000

theorem regacc_refused : exec (.regacc factoryRead) factoryMode = .refused .factoryPage := rfl

/-- Refutes O33: REGACC to page 0xF0 in factory test mode is refused, so it loads no instruction. -/
theorem not_testPort : ¬ Obligations.TestPort := by
  unfold Obligations.TestPort
  rintro ⟨_, _, _, _, _, _, _, hregacc, _⟩
  obtain ⟨t, ht, _⟩ := hregacc factoryMode factoryRead rfl rfl
  rw [regacc_refused] at ht
  cases ht

end Sys2Proof.Machine
end

section
/-! PROOF. Group starts and register writes of the timers (R361 to R363, R365). -/

namespace Sys2Proof.Machine

/-! ## Commands of the host interfaces -/

theorem onHost_up {s : State} (h : hostUp s = true) (f : State → State) : onHost f s = f s := if_pos h

/-- A command of the host brings what its meaning gives, where a host interface answers. -/
theorem becomes_onHost {c : Instr} {s u : State} {f : State → State} (hexec : exec c s = act (onHost f) s) (hup : hostUp s = true)
    (h : SameCore u (f s)) : Becomes c s u :=
  becomes_act hexec (by rwa [onHost_up hup])

theorem gives_onHost {c : Instr} {s : State} {f : State → State} {P : State → Prop} (hexec : exec c s = act (onHost f) s)
    (hup : hostUp s = true) (h : P (settleBy none (occurs (onHost f) s) s (f s))) : Gives c s P :=
  gives_act hexec (by rwa [onHost_up hup])

theorem exec_tmrGstart (m : Word) (s : State) : exec (.tmrGstart m) s = act (onHost (gstart m)) s := rfl
theorem exec_tmrCfgWrite (i : Iface) (w : Word) (s : State) : exec (.tmrCfgWrite i w) s = act (onHost (tmrCfg i w)) s := rfl
theorem exec_tmrMatchWrite (k : TimerId) (w : Word) (s : State) :
    exec (.tmrMatchWrite k w) s = act (onHost (matchWrite k w)) s := rfl

/-! ## What follows from a command leaves the sequencers -/

theorem settleBy_seqs (p : Option PortId) (o : List Nat) (old s : State) :
    (settleBy p o old s).rails.map (·.seq) = s.rails.map (·.seq) := by
  refine Vector.ext fun i hi => ?_
  rw [Vector.getElem_map, Vector.getElem_map]
  exact settleBy_rail_seq p o old s ⟨i, hi⟩

/-! ## Refusals (R361) -/

/-- A refused timer command, in the words of the statements. -/
theorem tmrRefuse_eq (s : State) : tmrRefuse s =
    { s with tmr := { s.tmr with rej := true, terr := true, terrAt := terrHit s, rejCnt := min 255 (s.tmr.rejCnt + 1) } } := by
  unfold tmrRefuse
  rw [satInc_eq_min]

/-! ## Group start (R363) -/

/-- A timer that a group start has started in core cycle `now`. -/
def grouped (now : Nat) (k : Timer) : Timer := { k with st := .running, grpAt := some now }

/-- The timers that a mask of TMR_GSTART names. -/
def masked (m : Word) : List TimerId := (allFin 32).filter fun t => m.getLsbD t.val

theorem mem_masked {m : Word} {t : TimerId} : t ∈ masked m ↔ m.getLsbD t.val = true := by
  simp [masked, allFin]

/-- An update that settles at once, made for each timer of a list. -/
theorem forEach_onTimer_get {f : Timer → Timer} (hf : ∀ k, f (f k) = f k) (l : List TimerId) (s : State) (k : TimerId) :
    (forEach l (fun t => onTimer t f) s).tmr.tmr[k] = if k ∈ l then f s.tmr.tmr[k] else s.tmr.tmr[k] := by
  induction l generalizing s with
  | nil => rfl
  | cons t l ih =>
    change (forEach l (fun t => onTimer t f) (onTimer t f s)).tmr.tmr[k] = _
    rw [ih, onTimer_get]
    by_cases hk : k = t
    · subst hk; simp [hf]
    · simp [hk]

/-- The state without the timers themselves. -/
def timerless (s : State) : State := { s with tmr := { s.tmr with tmr := .replicate 32 {} } }

theorem timerless_onTimer (t : TimerId) (f : Timer → Timer) (s : State) : timerless (onTimer t f s) = timerless s := rfl

theorem timerless_forEach (f : Timer → Timer) (l : List TimerId) (s : State) :
    timerless (forEach l (fun t => onTimer t f) s) = timerless s :=
  forEach_keeps timerless l _ (fun t s => timerless_onTimer t f s) s

/-- The state after a group start of timers that all stand ARMED. -/
def groupStarted (m : Word) (s : State) : State := forEach (masked m) (fun t => onTimer t (grouped (cycle s))) s

theorem gstart_of_armed {m : Word} {s : State}
    (h : ∀ k : TimerId, m.getLsbD k.val = true → timerOwned s k = true ∧ standing (cycle s) s.tmr.tmr[k] = .armed) :
    gstart m s = groupStarted m s :=
  if_pos (List.all_eq_true.mpr fun k hk => by
    obtain ⟨howned, harmed⟩ := h k (mem_masked.mp hk)
    simp only [howned, harmed]
    rfl)

theorem gstart_refused {m : Word} {s : State} {k : TimerId} (hk : m.getLsbD k.val = true)
    (h : timerOwned s k = false ∨ standing (cycle s) s.tmr.tmr[k] ≠ .armed) : gstart m s = tmrRefuse s :=
  if_neg fun hall => by
    have hone := List.all_eq_true.mp hall k (mem_masked.mpr hk)
    rcases h with h | h
    · simp [h] at hone
    · exact h (eq_of_beq (Bool.and_eq_true _ _ ▸ hone).2)

theorem standing_of_armed {now : Nat} {k : Timer} (h : k.st = .armed) : standing now k = .armed := by simp [standing, h]

theorem groupStarted_get (m : Word) (s : State) (k : TimerId) :
    (groupStarted m s).tmr.tmr[k] = if m.getLsbD k.val then grouped (cycle s) s.tmr.tmr[k] else s.tmr.tmr[k] := by
  rw [groupStarted, forEach_onTimer_get (f := grouped (cycle s)) (fun _ => rfl)]
  exact if_congr mem_masked rfl rfl

theorem timerless_groupStarted (m : Word) (s : State) : timerless (groupStarted m s) = timerless s := timerless_forEach _ _ s

theorem core_groupStarted_zero (s : State) : groupStarted 0 s = s := by
  have h : masked 0 = [] := List.filter_eq_nil_iff.mpr (by simp)
  rw [groupStarted, h]
  rfl

/-- The timers at a core clock edge where the core clock runs (R364). -/
theorem coreEdge_timer {s : State} (hstop : coreStopped s = false) (hslow : s.tmr.slowMode = false) (k : TimerId) :
    (coreEdge s).tmr.tmr[k] = countEdge (cycle s) s.tmr.tmr[k] := by
  have h : (coreEdge s).tmr.tmr = mapTab (fun _ => countEdge (cycle s)) s.tmr.tmr := by simp [coreEdge, hstop, hslow]
  rw [h, mapTab_get]

theorem countEdge_grouped_count {now n : Nat} {k : Timer} (h : k.gated = false) :
    (countEdge now (grouped n k)).count = k.count + 1 := by
  simp [countEdge, advances, grouped, h]

/-- Settles O48: the mask's timers are updated one by one, and the update says `running` at once. -/
theorem timerGroupStart : Obligations.TimerGroupStart := by
  refine ⟨fun s m hup harmed => ?_, fun s m k hup hk hbad => ?_, fun s hup => ?_⟩
  · have hstart : gstart m s = groupStarted m s :=
      gstart_of_armed fun k hk => ⟨(harmed k hk).1, standing_of_armed (harmed k hk).2⟩
    refine gives_onHost (exec_tmrGstart m s) hup ?_
    rw [hstart]
    have hrest := timerless_groupStarted m s
    have hget := groupStarted_get m s
    generalize groupStarted m s = u at hrest hget ⊢
    generalize occurs (onHost (gstart m)) s = o
    refine ⟨fun k => ?_, ?_, ?_, ?_, ?_, fun hstop hslow k hk hgate => ?_⟩
    · rw [settleBy_tmr]; exact hget k
    · rw [settleBy_tmr]; exact (congrArg (·.tmr.rejCnt) hrest :)
    · rw [settleBy_sealed]; exact (congrArg State.sealed hrest :)
    · rw [settleBy_seqs]; exact (congrArg (·.rails.map Rail.seq) hrest :)
    · rw [settleBy_flash]; exact (congrArg State.flash hrest :)
    · have hpwr : u.pwr = s.pwr := (congrArg State.pwr hrest :)
      have htap : u.tap = s.tap := (congrArg State.tap hrest :)
      have hmode : u.tmr.slowMode = s.tmr.slowMode := (congrArg (·.tmr.slowMode) hrest :)
      rw [coreEdge_timer (by rwa [coreStopped, settleBy_pwr, settleBy_tap, hpwr, htap]) (by rw [settleBy_tmr, hmode, hslow]),
        settleBy_tmr, hget, if_pos hk, countEdge_grouped_count hgate]
  · refine becomes_onHost (exec_tmrGstart m s) hup ?_
    rw [gstart_refused hk hbad, tmrRefuse_eq]
    exact SameCore.refl _
  · refine becomes_onHost (exec_tmrGstart 0 s) hup ?_
    rw [gstart_of_armed (by simp), core_groupStarted_zero]
    exact SameCore.refl _

/-! ## Writes to TMR_CFG (R362) -/

theorem runsSince_of_not_running {now : Nat} {k : Timer} (h : k.st ≠ .running) : runsSince now k = false := by
  have hst : (k.st == .running) = false := by simpa using h
  simp [runsSince, standing, hst]

theorem tmrCfg_refused {i : Iface} {s : State} (w : Word)
    (h : runsSince (cycle s) s.tmr.tmr[selTimer i s] = true ∨ timerOwned s (selTimer i s) = false) : tmrCfg i w s = tmrRefuse s :=
  if_pos (by
    rcases h with h | h
    · simp only [h, Bool.or_true]
    · simp only [h, Bool.not_false, Bool.true_or])

/-- A write to TMR_CFG that is taken. -/
theorem tmrCfg_taken {i : Iface} {s : State} (w : Word) (howned : timerOwned s (selTimer i s) = true)
    (hruns : runsSince (cycle s) s.tmr.tmr[selTimer i s] = false) : tmrCfg i w s = onTimer (selTimer i s) (fun k => { k with
      gated := bitw w 31, glvl := bitw w 30, capen := bitw w 29, cappol := bitw w 28, outinit := bitw w 26
      sact := BitVec.ofNat 2 (bits w 14 2), lact := BitVec.ofNat 2 (bits w 12 2), link := BitVec.ofNat 5 (bits w 0 5) }) s :=
  if_neg (by simp only [howned, hruns]; decide)

/-! ## Matches leave the match values (R366) -/

/-- What no match, no action of a match and no refusal touches of a timer bank. -/
def matchFacts (b : TmrBank) : Vector Word 32 × Nat × Bool := (b.tmr.map (·.mtch), b.rejCnt, b.rej)

theorem ownMatch_mtch (now : Nat) (slow : Bool) (a : Nat) (k : Timer) : (ownMatch now slow a k).mtch = k.mtch := by
  unfold ownMatch
  dsimp only
  split <;> rfl

theorem linked_mtch (now : Nat) (slow : Bool) (a : Nat) (k : Timer) : (linked now slow a k).1.mtch = k.mtch := by
  unfold linked
  dsimp only
  split <;> rfl

theorem edgeOf_mtch (now : Nat) (slow : Bool) (l : List (Nat × Timer)) (t : Nat) (k : Timer) :
    (edgeOf now slow l t k).1.mtch = k.mtch := by
  unfold edgeOf
  split
  · exact ownMatch_mtch _ _ _ k
  · exact linked_mtch _ _ _ k

theorem matchThese_timer (l : List (Nat × Timer)) (s : State) (j : TimerId) :
    (matchThese l s).tmr.tmr[j] = (edgeOf (cycle s) s.tmr.slowMode l j.val s.tmr.tmr[j]).1 := by
  unfold matchThese
  dsimp only
  split <;> exact mapTab_get _ _ _

/-- The state but for the requests of the HADC and what a match writes in the timer bank. -/
def unmatched (s : State) : State :=
  { s with hadc := {}, tmr := { s.tmr with tmr := .replicate 32 {}, done := false, terr := false, terrAt := none, doneMask := 0 } }

theorem unmatched_matchThese (l : List (Nat × Timer)) (s : State) : unmatched (matchThese l s) = unmatched s := by
  unfold matchThese
  dsimp only
  split <;> rfl

theorem unmatched_matchGroup (t : TimerId) (s : State) : unmatched (matchGroup t s) = unmatched s := by
  unfold matchGroup
  dsimp only
  split
  · rfl
  · exact unmatched_matchThese _ s

theorem matchGroup_mtch (t : TimerId) (s : State) (j : TimerId) : (matchGroup t s).tmr.tmr[j].mtch = s.tmr.tmr[j].mtch := by
  unfold matchGroup
  dsimp only
  split
  · rfl
  · rw [matchThese_timer, edgeOf_mtch]

/-! ## Writes to TMR_MATCH (R365) -/

theorem matchWrite_waiting {t : TimerId} {s : State} (w : Word) (h : runsSince (cycle s) s.tmr.tmr[t] = false) :
    matchWrite t w s = onTimer t (fun k => { k with mtch := w }) s :=
  if_pos (by rw [Bool.not_eq_true']; exact h)

/-- The count that a MATCH write of core cycle `now` meets: the one before a step of this cycle. -/
def metCount (now : Nat) (k : Timer) : Int := if k.stepAt == some now then (k.count : Int) - 1 else k.count

/-- A MATCH write that comes too late. -/
def writtenLate (now : Nat) (w : Word) (k : Timer) : Bool := decide ((w.toNat : Int) ≤ metCount now k)

/-- A MATCH write to the count to which the counter has just stepped. -/
def writtenAtCount (now : Nat) (w : Word) (k : Timer) : Bool :=
  k.stepAt == some now && decide (0 < k.count) && decide ((w.toNat : Int) = metCount now k + 1)

/-- A running timer with its new MATCH. -/
def matchPut (now : Nat) (w : Word) (k : Timer) : Timer :=
  { k with mtch := w, late := k.late || writtenLate now w k, matched := writtenLate now w k || writtenAtCount now w k }

theorem onTimer_congr {t : TimerId} {f g : Timer → Timer} {s : State} (h : f s.tmr.tmr[t] = g s.tmr.tmr[t]) :
    onTimer t f s = onTimer t g s := by
  unfold onTimer upd
  rw [h]

theorem matchWrite_running {t : TimerId} {s : State} (w : Word) (h : runsSince (cycle s) s.tmr.tmr[t] = true) :
    matchWrite t w s =
      if writtenLate (cycle s) w s.tmr.tmr[t] || writtenAtCount (cycle s) w s.tmr.tmr[t] then
        matchGroup t (onTimer t (matchPut (cycle s) w) s)
      else onTimer t (matchPut (cycle s) w) s := by
  have hput : onTimer t (matchPut (cycle s) w) s = onTimer t (fun k => { k with
      mtch := w, late := k.late || writtenLate (cycle s) w s.tmr.tmr[t]
      matched := writtenLate (cycle s) w s.tmr.tmr[t] || writtenAtCount (cycle s) w s.tmr.tmr[t] }) s := onTimer_congr rfl
  rw [hput]
  exact if_neg (by rw [h]; decide)

/-- A MATCH write, running or not: the new value, and perhaps the matches that meet at the timer. -/
theorem matchWrite_cases (t : TimerId) (w : Word) (s : State) : ∃ f : Timer → Timer, (∀ k, (f k).mtch = w) ∧
    (matchWrite t w s = onTimer t f s ∨ matchWrite t w s = matchGroup t (onTimer t f s)) := by
  by_cases h : runsSince (cycle s) s.tmr.tmr[t] = true
  · refine ⟨matchPut (cycle s) w, fun _ => rfl, ?_⟩
    rw [matchWrite_running w h]
    split
    · exact .inr rfl
    · exact .inl rfl
  · exact ⟨fun k => { k with mtch := w }, fun _ => rfl, .inl (matchWrite_waiting w (by simpa using h))⟩

theorem unmatched_onTimer (t : TimerId) (f : Timer → Timer) (s : State) : unmatched (onTimer t f s) = unmatched s := rfl

theorem matchWrite_spec (t : TimerId) (w : Word) (s : State) :
    unmatched (matchWrite t w s) = unmatched s ∧
    ∀ j : TimerId, (matchWrite t w s).tmr.tmr[j].mtch = if j = t then w else s.tmr.tmr[j].mtch := by
  obtain ⟨f, hf, h | h⟩ := matchWrite_cases t w s <;> rw [h]
  · refine ⟨rfl, fun j => ?_⟩
    rw [onTimer_get]; split
    · exact hf _
    · rfl
  · refine ⟨(unmatched_matchGroup t _).trans rfl, fun j => ?_⟩
    rw [matchGroup_mtch, onTimer_get]; split
    · exact hf _
    · rfl

/-- Settles O49: no match that a MATCH write forces writes another match value. -/
theorem timerRegisterWrites : Obligations.TimerRegisterWrites := by
  refine ⟨fun s i w hup howned hst => ?_, fun s i w hup hbad => ?_, fun s k w hup => ?_⟩
  · refine becomes_onHost (exec_tmrCfgWrite i w s) hup ?_
    rw [tmrCfg_taken w howned (runsSince_of_not_running (by rcases hst with h | h | h <;> (rw [h]; decide)))]
    exact SameCore.refl _
  · refine becomes_onHost (exec_tmrCfgWrite i w s) hup ?_
    rw [tmrCfg_refused w hbad, tmrRefuse_eq]
    exact SameCore.refl _
  · refine gives_onHost (exec_tmrMatchWrite k w s) hup ?_
    obtain ⟨hrest, hget⟩ := matchWrite_spec k w s
    generalize matchWrite k w s = u at hrest hget ⊢
    rw [settleBy_tmr, settleBy_sealed]
    exact ⟨by rw [hget, if_pos rfl], (congrArg (·.tmr.rejCnt) hrest :), (congrArg (·.tmr.rej) hrest :), (congrArg State.sealed hrest :),
      fun j hj => by rw [hget, if_neg hj]⟩

end Sys2Proof.Machine
end

section
/-! PROOF. The timer commands (R361 to R363, R365, R367). -/

namespace Sys2Proof.Machine

theorem exec_arm (t : TimerId) (s : State) : exec (.arm t) s = act (onHost (tmrCmd t 1)) s := rfl
theorem exec_timerStart (t : TimerId) (s : State) : exec (.timerStart t) s = act (onHost (tmrCmd t 2)) s := rfl
theorem exec_timerStop (t : TimerId) (s : State) : exec (.timerStop t) s = act (onHost (tmrCmd t 3)) s := rfl
theorem exec_disarm (t : TimerId) (s : State) : exec (.disarm t) s = act (onHost (tmrCmd t 4)) s := rfl
theorem exec_tmrCountRead (i : Iface) (s : State) : exec (.tmrCountRead i) s = act (hostRead i 0x0624#16) s := rfl

/-! ## Matches of the present edge -/

theorem mem_matching {s : State} {n : Nat} {k : Timer} :
    (n, k) ∈ matching s ↔ ∃ h : n < 32, k = s.tmr.tmr[n] ∧ k.matched = true := by
  simp only [matching, List.mem_filterMap]
  constructor
  · rintro ⟨⟨k', n'⟩, hmem, hk⟩
    split at hk
    next hm =>
      obtain ⟨rfl, rfl⟩ := Prod.mk.inj (Option.some.inj hk)
      obtain ⟨hlt, hk⟩ := List.mem_zipIdx' hmem
      exact ⟨by simpa using hlt, by simpa using hk, hm⟩
    · cases hk
  · rintro ⟨hlt, rfl, hm⟩
    exact ⟨(s.tmr.tmr[n], n), List.mk_mem_zipIdx_iff_getElem?.mpr (by simp [hlt]), if_pos hm⟩

theorem matching_of_none {s : State} (h : ∀ j : TimerId, s.tmr.tmr[j].matched = false) : matching s = [] :=
  List.eq_nil_iff_forall_not_mem.mpr fun ⟨n, k⟩ hmem => by
    obtain ⟨hlt, rfl, hm⟩ := mem_matching.mp hmem
    exact Bool.false_ne_true ((h ⟨n, hlt⟩).symm.trans hm)

theorem matchGroup_of_none {s : State} (t : TimerId) (h : ∀ j : TimerId, s.tmr.tmr[j].matched = false) : matchGroup t s = s := by
  unfold matchGroup meeting
  rw [matching_of_none h]
  rfl

/-! ## A command of TMR_CMD where no timer matches (R361) -/

section Command
variable {s : State} {t : TimerId} {cmd : Nat} (hcmd : cmd ≠ 0 ∧ cmd ≤ 4)
include hcmd

theorem tmrCmd_unowned (howned : timerOwned s t = false) : tmrCmd t cmd s = tmrRefuse s := by
  unfold tmrCmd
  rw [if_neg (by omega), howned]
  rfl

theorem tmrCmd_of_none (howned : timerOwned s t = true) (hm : ∀ j : TimerId, s.tmr.tmr[j].matched = false) :
    tmrCmd t cmd s = match tmrCmdOn (cycle s) s.tmr.slowMode cmd s.tmr.tmr[t] with
      | some k => onTimer t (fun _ => k) s
      | none => tmrRefuse s := by
  unfold tmrCmd
  rw [if_neg (by omega), howned]
  dsimp only
  rw [matchGroup_of_none t hm]
  rfl

theorem tmrCmd_taken {f : Timer → Timer} (howned : timerOwned s t = true) (hm : ∀ j : TimerId, s.tmr.tmr[j].matched = false)
    (h : tmrCmdOn (cycle s) s.tmr.slowMode cmd s.tmr.tmr[t] = some (f s.tmr.tmr[t])) : tmrCmd t cmd s = onTimer t f s := by
  rw [tmrCmd_of_none hcmd howned hm, h]
  rfl

theorem tmrCmd_refused (howned : timerOwned s t = true) (hm : ∀ j : TimerId, s.tmr.tmr[j].matched = false)
    (h : tmrCmdOn (cycle s) s.tmr.slowMode cmd s.tmr.tmr[t] = none) : tmrCmd t cmd s = tmrRefuse s := by
  rw [tmrCmd_of_none hcmd howned hm, h]

end Command

/-! ## What each command does to a timer in its state (R361) -/

/-- A timer started in core cycle `now`. -/
def started (now : Nat) (k : Timer) : Timer := { k with st := .running, startAt := some now }

/-- A timer stopped in core cycle `now`. -/
def stopped (now : Nat) (k : Timer) : Timer := { runEnd now k.count k with st := .done, stopped := true }

/-- A timer at rest, disarmed. -/
def disarmed (k : Timer) : Timer := { k with st := .idle, count := 0, half := none }

/-- A running timer, disarmed in core cycle `now`. -/
def runDisarmed (now : Nat) (k : Timer) : Timer := { runEnd now k.count k with st := .idle, count := 0 }

/-- A timer stopped in core cycle `now`, its match mark as it was. -/
def stoppedOnly (now : Nat) (k : Timer) : Timer :=
  { k with st := .done, stopped := true, half := none, endAt := some now, endHalf := k.half, endCount := k.count }

/-- A running timer disarmed in core cycle `now`, its match mark as it was. -/
def runDisarmedOnly (now : Nat) (k : Timer) : Timer :=
  { k with st := .idle, count := 0, half := none, stopped := false, endAt := some now, endHalf := k.half, endCount := k.count }

section On
variable {now : Nat} {slow : Bool} {k : Timer}

theorem standing_of_not_running (h : k.st ≠ .running) : standing now k = k.st := by
  have hst : (k.st == .running) = false := by simpa using h
  simp [standing, hst]

theorem standing_of_running (h : k.st = .running) : standing now k = .armed ∨ standing now k = .running := by
  unfold standing
  split
  · exact .inl rfl
  · exact .inr h

theorem standing_of_runsSince (h : runsSince now k = true) : standing now k = .running := eq_of_beq h

theorem standing_of_not_runsSince (h : runsSince now k = false) : standing now k ≠ .running := ne_of_beq_false h

theorem arm_at_rest (h : k.st = .idle ∨ k.st = .done) : tmrCmdOn now slow 1 k = some (tmrArm slow k) := by
  rcases h with h | h <;>
  · have hs : standing now k = _ := (standing_of_not_running (by rw [h]; decide)).trans h
    simp [tmrCmdOn, hs]

theorem arm_running (h : k.st = .running) : tmrCmdOn now slow 1 k = none := by
  rcases standing_of_running (now := now) h with hs | hs <;> simp [tmrCmdOn, hs]

theorem start_armed (h : standing now k = .armed) :
    tmrCmdOn now slow 2 k = some (started now k) := by
  simp [tmrCmdOn, h, started]

theorem start_not_armed (h : standing now k ≠ .armed) : tmrCmdOn now slow 2 k = none := by
  unfold tmrCmdOn
  split <;> simp_all

theorem stop_running (h : standing now k = .running) :
    tmrCmdOn now slow 3 k = some (stopped now k) := by
  simp [tmrCmdOn, h, stopped]

theorem stop_not_running (h : standing now k ≠ .running) : tmrCmdOn now slow 3 k = none := by
  unfold tmrCmdOn
  split <;> simp_all

theorem disarm_at_rest (h : standing now k = .armed ∨ k.st = .done) :
    tmrCmdOn now slow 4 k = some (disarmed k) := by
  rcases h with h | h
  · simp [tmrCmdOn, h, disarmed]
  · simp [tmrCmdOn, disarmed, (standing_of_not_running (by rw [h]; decide)).trans h]

theorem disarm_running (h : standing now k = .running) :
    tmrCmdOn now slow 4 k = some (runDisarmed now k) := by
  simp [tmrCmdOn, h, runDisarmed]

theorem stopped_unmatched (h : k.matched = false) : stopped now k = stoppedOnly now k := by
  cases k; cases h; rfl

theorem runDisarmed_unmatched (h : k.matched = false) : runDisarmed now k = runDisarmedOnly now k := by
  cases k; cases h; rfl

end On

/-! ## A forced match of a timer without actions (R365) -/

/-- The timers after the matches `l`, and what else they write. -/
theorem matchThese_spec (l : List (Nat × Timer)) (s : State) (hne : l ≠ []) :
    (matchThese l s).tmr.done = true ∧
    (matchThese l s).tmr.doneMask = s.tmr.doneMask ||| mkWord (l.map fun p => bitf p.1 true) := by
  have hl : (!l.isEmpty) = true := by simpa using hne
  unfold matchThese
  dsimp only
  rw [hl, Bool.or_true]
  split <;> exact ⟨rfl, rfl⟩

theorem nodup_matching (s : State) : (matching s).Nodup := by
  refine List.Nodup.filterMap (fun a a' b ha ha' => ?_) (.of_map Prod.snd (List.nodup_zipIdx_map_snd _))
  obtain ⟨-, hb⟩ := Option.ite_none_right_eq_some.mp ha
  obtain ⟨-, hb'⟩ := Option.ite_none_right_eq_some.mp ha'
  obtain ⟨hsnd, hfst⟩ := Prod.mk.inj (Option.some.inj (hb.trans hb'.symm))
  exact Prod.ext hfst hsnd

theorem eq_singleton_of_nodup {α : Type} {l : List α} {a : α} (hl : l.Nodup) (ha : a ∈ l) (h : ∀ b ∈ l, b = a) : l = [a] := by
  have hrep := List.eq_replicate_of_mem h
  have hone : l.length ≤ 1 := List.nodup_replicate.mp (hrep ▸ hl)
  have hpos : 0 < l.length := List.length_pos_of_mem ha
  rw [hrep, show l.length = 1 by omega]
  rfl

section Alone
variable {s : State} {t : TimerId} (hm : s.tmr.tmr[t].matched = true)
  (hothers : ∀ j : TimerId, j ≠ t → s.tmr.tmr[j].matched = false)
include hm hothers

theorem matching_alone : matching s = [(t.val, s.tmr.tmr[t])] := by
  refine eq_singleton_of_nodup (nodup_matching s) (mem_matching.mpr ⟨t.isLt, rfl, hm⟩) fun ⟨n, k⟩ hmem => ?_
  obtain ⟨hlt, rfl, hn⟩ := mem_matching.mp hmem
  by_cases hj : (⟨n, hlt⟩ : TimerId) = t
  · subst hj; rfl
  · exact absurd ((hothers _ hj).symm.trans hn) Bool.false_ne_true

/-- A timer without a linked action meets no other match. -/
theorem meeting_alone (hlact : s.tmr.tmr[t].lact = 0) : meeting t s = [(t.val, s.tmr.tmr[t])] := by
  unfold meeting
  rw [matching_alone hm hothers]
  generalize s.tmr.tmr[t] = k at hlact ⊢
  have hact : actCode k.lact = 0 := by rw [hlact]; rfl
  simp [joined, hact]

theorem matchGroup_alone (hlact : s.tmr.tmr[t].lact = 0) : matchGroup t s = matchThese [(t.val, s.tmr.tmr[t])] s := by
  unfold matchGroup
  rw [meeting_alone hm hothers hlact]
  rfl

end Alone

theorem linkAct_self (t : Nat) (k : Timer) : linkAct [(t, k)] t = 0 := by simp [linkAct]

theorem linkAct_idle {t j : Nat} {k : Timer} (h : k.lact = 0) : linkAct [(t, k)] j = 0 := by
  have hact : actCode k.lact = 0 := by rw [h]; rfl
  simp [linkAct, hact]

/-- A timer without actions at its own match: DONE, its output toggled. -/
theorem edgeOf_alone {now t : Nat} {k : Timer} (hs : k.sact = 0) (hl : k.lact = 0) :
    edgeOf now false [(t, k)] t k = (ownMatch now false 0 k, false) := by
  have hsact : actCode k.sact = 0 := by rw [hs]; rfl
  have hlact : actCode k.lact = 0 := by rw [hl]; rfl
  simp [edgeOf, linkAct_self, selfAct, hsact, hlact]

theorem edgeOf_other {now t j : Nat} {k x : Timer} {slow : Bool} (hl : k.lact = 0) (h : t ≠ j) :
    edgeOf now slow [(t, k)] j x = (x, false) := by
  simp [edgeOf, linkAct_idle hl, h, linked]

theorem ownMatch_done (now : Nat) (k : Timer) :
    (ownMatch now false 0 k).st = .done ∧ (ownMatch now false 0 k).out = !k.out ∧ (ownMatch now false 0 k).late = k.late :=
  ⟨rfl, rfl, rfl⟩

theorem doneMask_named (m : Word) (t : TimerId) : (m ||| mkWord [bitf t.val true]).getLsbD t.val = true := by
  have hsum : [bitf t.val true].sum = 2 ^ t.val := by simp [bitf, b2n]
  rw [BitVec.getLsbD_or, mkWord, hsum, BitVec.getLsbD_ofNat, Nat.testBit_two_pow_self]
  simp [t.isLt]

/-! ## TMR_COUNT (R367) -/

theorem hostRead_up {s : State} (hup : hostUp s = true) (i : Iface) (a : BitVec 16) :
    hostRead i a s = reply (.word (regRead i a s).1) (regRead i a s).2 := if_pos hup

/-- A read of the count of the timer that an interface selects. -/
theorem regRead_count (i : Iface) (s : State) : regRead i 0x0624#16 s =
    (if standing (cycle s) s.tmr.tmr[selTimer i s] == .running then 0 else BitVec.ofNat 32 s.tmr.tmr[selTimer i s].count,
      countRead i s) := rfl

theorem countRead_at_rest {i : Iface} {s : State} (h : runsSince (cycle s) s.tmr.tmr[selTimer i s] = false) :
    countRead i s = s := if_neg (standing_of_not_runsSince h)

theorem countRead_running {i : Iface} {s : State} (h : runsSince (cycle s) s.tmr.tmr[selTimer i s] = true) :
    countRead i s = tmrErr (onTimer (selTimer i s) (fun k => { k with rdErr := true }) s) := if_pos (standing_of_runsSince h)

/-! ## Group starts, as TMR_GSTART leaves them -/

theorem standing_of_started {now : Nat} {k : Timer} (h : k.st = .running) (hat : k.linkAt = some now ∨ k.startAt = some now) :
    standing now k = .armed := by
  rcases hat with hat | hat <;> simp [standing, h, hat]

/-- What a group start gives, in the words of O24; `f` says what it does to the timers that it names. -/
theorem groupStarted_kept {o : List Nat} {m : Word} {s : State} {f : Timer → Timer} (h : gstart m s = groupStarted m s)
    (hf : ∀ k : TimerId, m.getLsbD k.val = true → grouped (cycle s) s.tmr.tmr[k] = f s.tmr.tmr[k]) :
    (∀ t : TimerId, (settleBy none o s (gstart m s)).tmr.tmr[t] = if m.getLsbD t.val then f s.tmr.tmr[t] else s.tmr.tmr[t]) ∧
    (settleBy none o s (gstart m s)).tmr.rejCnt = s.tmr.rejCnt ∧ (settleBy none o s (gstart m s)).sealed = s.sealed ∧
    (settleBy none o s (gstart m s)).fifo = s.fifo ∧ (settleBy none o s (gstart m s)).flash = s.flash := by
  rw [settleBy_tmr, settleBy_sealed, settleBy_fifo, settleBy_flash, h]
  have hrest := timerless_groupStarted m s
  refine ⟨fun t => ?_, (congrArg (·.tmr.rejCnt) hrest :), (congrArg State.sealed hrest :), (congrArg State.fifo hrest :),
    (congrArg State.flash hrest :)⟩
  rw [groupStarted_get]
  split
  next ht => exact hf t ht
  · rfl

/-! ## MATCH writes on a running timer (R365) -/

/-- A timer whose MATCH has been written too late. -/
def lateMatch (w : Word) (k : Timer) : Timer := { k with mtch := w, late := true, matched := true }

/-- A timer that a late MATCH write has ended. -/
def forced (now : Nat) (w : Word) (k : Timer) : Timer := ownMatch now false 0 (lateMatch w k)

section Running
variable {t : TimerId} {s : State} {w : Word} (hruns : runsSince (cycle s) s.tmr.tmr[t] = true)
  (hstep : s.tmr.tmr[t].stepAt ≠ some (cycle s))
include hruns hstep

omit hruns in
theorem metCount_unstepped : metCount (cycle s) s.tmr.tmr[t] = s.tmr.tmr[t].count := if_neg (by simpa using hstep)

omit hruns in
theorem writtenAtCount_unstepped : writtenAtCount (cycle s) w s.tmr.tmr[t] = false := by
  have h : (s.tmr.tmr[t].stepAt == some (cycle s)) = false := by simpa using hstep
  rw [writtenAtCount, h]
  rfl

theorem matchWrite_above (hm : s.tmr.tmr[t].matched = false) (hlt : s.tmr.tmr[t].count < w.toNat) :
    matchWrite t w s = onTimer t (fun k => { k with mtch := w }) s := by
  have hlate : writtenLate (cycle s) w s.tmr.tmr[t] = false := by
    rw [writtenLate, metCount_unstepped hstep]
    simpa using hlt
  rw [matchWrite_running w hruns, hlate, writtenAtCount_unstepped hstep]
  refine (if_neg Bool.false_ne_true).trans (onTimer_congr ?_)
  rw [matchPut, hlate, writtenAtCount_unstepped hstep, Bool.or_false, Bool.or_false, ← hm]

theorem matchWrite_forced (hle : w.toNat ≤ s.tmr.tmr[t].count) (hsact : s.tmr.tmr[t].sact = 0) (hlact : s.tmr.tmr[t].lact = 0)
    (hmode : s.tmr.slowMode = false) (hothers : ∀ j : TimerId, j ≠ t → s.tmr.tmr[j].matched = false) :
    unmatched (matchWrite t w s) = unmatched s ∧ (matchWrite t w s).tmr.tmr[t] = forced (cycle s) w s.tmr.tmr[t] ∧
    (∀ j : TimerId, j ≠ t → (matchWrite t w s).tmr.tmr[j] = s.tmr.tmr[j]) ∧ (matchWrite t w s).tmr.done = true ∧
    (matchWrite t w s).tmr.doneMask.getLsbD t.val = true := by
  have hlate : writtenLate (cycle s) w s.tmr.tmr[t] = true := by
    rw [writtenLate, metCount_unstepped hstep]
    simpa using hle
  have hput : matchPut (cycle s) w s.tmr.tmr[t] = lateMatch w s.tmr.tmr[t] := by
    rw [matchPut, hlate, Bool.or_true, Bool.true_or, lateMatch]
  refine ⟨(matchWrite_spec t w s).1, ?_⟩
  rw [matchWrite_running w hruns, hlate, Bool.true_or, if_pos rfl, onTimer_congr hput]
  have hself : (onTimer t (lateMatch w) s).tmr.tmr[t] =
      lateMatch w s.tmr.tmr[t] := by rw [onTimer_get, if_pos rfl]
  have hother : ∀ j : TimerId, j ≠ t →
      (onTimer t (lateMatch w) s).tmr.tmr[j] = s.tmr.tmr[j] :=
    fun j hj => by rw [onTimer_get, if_neg hj]
  have hcycle : cycle (onTimer t (lateMatch w) s) = cycle s := rfl
  have hslow : (onTimer t (lateMatch w) s).tmr.slowMode = false := hmode
  generalize onTimer t (lateMatch w) s = u at hself hother hcycle hslow ⊢
  rw [matchGroup_alone (by rw [hself]; rfl) (fun j hj => by rw [hother j hj]; exact hothers j hj) (by rw [hself]; exact hlact)]
  obtain ⟨hdone, hmask⟩ := matchThese_spec [(t.val, u.tmr.tmr[t])] u (List.cons_ne_nil _ _)
  refine ⟨?_, fun j hj => ?_, hdone, ?_⟩
  · rw [matchThese_timer, hslow, hcycle, edgeOf_alone (by rw [hself]; exact hsact) (by rw [hself]; exact hlact), hself]
    rfl
  · rw [matchThese_timer, edgeOf_other (by rw [hself]; exact hlact) (fun h => hj (Fin.ext h.symm)), hother j hj]
  · rw [hmask]
    exact doneMask_named _ t

end Running

/-- Settles O24: where no timer matches, a command of TMR_CMD acts on its timer alone; a forced match of a timer without actions
meets no other. -/
theorem timerCommands : Obligations.TimerCommands := by
  refine ⟨fun s t hup howned hst hm => ?_, fun s t hup howned hst hm => ?_, fun s t hup howned hst hm => ?_,
    fun s t hup howned hst hm => ?_, fun s t hup howned hst hm => ?_, fun s t hup howned hst hm => ?_,
    fun s t hup howned hst hm => ?_, fun s t hup howned hst hm => ?_, fun s t hup howned => ?_, fun s m hup harmed => ?_,
    fun s m hup hstarted => ?_, fun s m t hup hk hst => ?_, fun s i w hup howned hruns => ?_, fun s t w hup hruns => ?_,
    fun s t w hup hruns hstep hmatch hlt => ?_, fun s t w hup hruns hstep hle hsact hlact hmode htrig hothers => ?_,
    fun s i hup hruns => ?_, fun s i hup hruns => ?_⟩
  · refine becomes_onHost (exec_arm t s) hup ?_
    rw [tmrCmd_taken (by decide) howned hm (arm_at_rest hst)]
    exact SameCore.refl _
  · refine becomes_onHost (exec_arm t s) hup ?_
    rw [tmrCmd_refused (by decide) howned hm (arm_running hst), tmrRefuse_eq]
    exact SameCore.refl _
  · refine becomes_onHost (exec_timerStart t s) hup ?_
    rw [tmrCmd_taken (f := started (cycle s)) (by decide) howned hm (start_armed hst)]
    exact SameCore.refl _
  · refine becomes_onHost (exec_timerStop t s) hup ?_
    rw [tmrCmd_taken (f := stopped (cycle s)) (by decide) howned hm (stop_running (standing_of_runsSince hst)),
      onTimer_congr (g := stoppedOnly (cycle s)) (stopped_unmatched (hm t))]
    exact SameCore.refl _
  · refine becomes_onHost (exec_disarm t s) hup ?_
    rw [tmrCmd_taken (f := disarmed) (by decide) howned hm (disarm_at_rest hst)]
    exact SameCore.refl _
  · refine becomes_onHost (exec_disarm t s) hup ?_
    rw [tmrCmd_taken (f := runDisarmed (cycle s)) (by decide) howned hm (disarm_running (standing_of_runsSince hst)),
      onTimer_congr (g := runDisarmedOnly (cycle s)) (runDisarmed_unmatched (hm t))]
    exact SameCore.refl _
  · refine becomes_onHost (exec_timerStart t s) hup ?_
    rw [tmrCmd_refused (by decide) howned hm (start_not_armed hst), tmrRefuse_eq]
    exact SameCore.refl _
  · refine becomes_onHost (exec_timerStop t s) hup ?_
    rw [tmrCmd_refused (by decide) howned hm (stop_not_running (standing_of_not_runsSince hst)), tmrRefuse_eq]
    exact SameCore.refl _
  · refine becomes_onHost (exec_disarm t s) hup ?_
    rw [tmrCmd_unowned (by decide) howned, tmrRefuse_eq]
    exact SameCore.refl _
  · refine gives_onHost (exec_tmrGstart m s) hup (groupStarted_kept (f := grouped (cycle s)) ?_ fun k hk => rfl)
    exact gstart_of_armed fun k hk => ⟨(harmed k hk).1, standing_of_armed (harmed k hk).2⟩
  · refine gives_onHost (exec_tmrGstart m s) hup (groupStarted_kept (f := fun k => { k with grpAt := some (cycle s) }) ?_ fun k hk => ?_)
    · exact gstart_of_armed fun k hk => ⟨(hstarted k hk).1, standing_of_started (hstarted k hk).2.1 (hstarted k hk).2.2⟩
    · rw [grouped, ← (hstarted k hk).2.1]
  · refine becomes_onHost (exec_tmrGstart m s) hup ?_
    rw [gstart_refused hk (.inr hst), tmrRefuse_eq]
    exact SameCore.refl _
  · refine becomes_onHost (exec_tmrCfgWrite i w s) hup ?_
    rw [tmrCfg_taken w howned hruns]
    exact SameCore.refl _
  · refine becomes_onHost (exec_tmrMatchWrite t w s) hup ?_
    rw [matchWrite_waiting w hruns]
    exact SameCore.refl _
  · refine becomes_onHost (exec_tmrMatchWrite t w s) hup ?_
    rw [matchWrite_above hruns hstep hmatch hlt]
    exact SameCore.refl _
  · refine gives_onHost (exec_tmrMatchWrite t w s) hup ?_
    obtain ⟨hrest, hself, hother, hdone, hmask⟩ := matchWrite_forced hruns hstep hle hsact hlact hmode hothers
    generalize matchWrite t w s = u at hrest hself hother hdone hmask ⊢
    rw [settleBy_tmr, settleBy_sealed, settleBy_fifo, hself]
    exact ⟨rfl, rfl, rfl, rfl, hdone, hmask, (congrArg State.sealed hrest :), (congrArg State.fifo hrest :), hother⟩
  · refine becomes_act (exec_tmrCountRead i s) ?_
    have hst : (standing (cycle s) s.tmr.tmr[selTimer i s] == .running) = false := hruns
    rw [hostRead_up hup, regRead_count, hst, countRead_at_rest hruns]
    exact SameCore.refl _
  · refine becomes_act (exec_tmrCountRead i s) ?_
    have hst : (standing (cycle s) s.tmr.tmr[selTimer i s] == .running) = true := hruns
    rw [hostRead_up hup, regRead_count, hst, countRead_running hruns]
    exact SameCore.refl _

end Sys2Proof.Machine
end

section
/-! PROOF. Reading the log (R354, R356) and the registers after power-on reset (R14). -/

namespace Sys2Proof.Machine

/-! ## Reading the log (R354, R356) -/

theorem exec_nvlRdctrlWrite (w : Word) (s : State) : exec (.nvlRdctrlWrite w) s = act (onHost (rdctrlWrite w)) s := rfl
theorem exec_nvlFetchDone (s : State) : exec .nvlFetchDone s = act fetchDone s := rfl
theorem exec_nvlRddataRead (s : State) : exec .nvlRddataRead s = act (hostRead .smb 0x0528#16) s := rfl
theorem exec_nvlTimeTick (s : State) : exec .nvlTimeTick s = act (onFire .nvlTimeTick timeTick) s := rfl

/-- The read request that a write to NVL_RDCTRL makes. -/
theorem rdctrlWrite_found {s : State} {w : Word} {i : Nat} (hscan : s.nvl.scan = false)
    (h : slotOfAge s.flash (committedSlots s.flash) (bits w 0 8) 256 = some i) : rdctrlWrite w s =
      { s with nrd := { s.nrd with rdErr := s.nrd.rdErr && !bitw w 30, age := BitVec.ofNat 8 (bits w 0 8), ready := false
                                   fetch := some i } } := by
  unfold rdctrlWrite
  dsimp only
  rw [hscan, if_neg Bool.false_ne_true, h]

theorem rdctrlWrite_scanning {s : State} {w : Word} (hscan : s.nvl.scan = true) : rdctrlWrite w s =
    { s with nrd := { s.nrd with rdErr := true, age := BitVec.ofNat 8 (bits w 0 8), ready := false, fetch := none } } := by
  unfold rdctrlWrite
  dsimp only
  rw [hscan, if_pos rfl]

theorem fetchDone_found {s : State} {i : Nat} (h : s.nrd.fetch = some i) : fetchDone s =
    { s with nrd := { s.nrd with
      buf := flashReadList s.flash (slotAddr i) 1024, ptr := 0, ready := true, fetch := none
      crcOk := leNat ((flashReadList s.flash (slotAddr i) 1024).drop 0x3FC) ==
        crc32 (((flashReadList s.flash (slotAddr i) 1024).drop 4).take 0x3F8) } } := by
  unfold fetchDone
  rw [h]

theorem regRead_nvlRddata (i : Iface) (s : State) :
    regRead i 0x0528#16 s = (BitVec.ofNat 32 (leNat ((s.nrd.buf.drop s.nrd.ptr).take 4)), rddataNext s) := rfl

theorem rddataNext_ready {s : State} (h : s.nrd.ready = true) :
    rddataNext s = { s with nrd := { s.nrd with ptr := (s.nrd.ptr + 4) % 1024 } } := if_pos h

/-- Settles O23. -/
theorem logReadOutAndTime : Obligations.LogReadOutAndTime := by
  refine ⟨fun s w i hup hscan hslot => ?_, fun s w hup hscan => ?_, fun s i hfetch => ?_, fun s hup hready => ?_, fun s hdue => ?_⟩
  · refine becomes_onHost (exec_nvlRdctrlWrite w s) hup ?_
    rw [rdctrlWrite_found hscan hslot]
    exact SameCore.refl _
  · refine becomes_onHost (exec_nvlRdctrlWrite w s) hup ?_
    rw [rdctrlWrite_scanning hscan]
    exact SameCore.refl _
  · refine becomes_act (exec_nvlFetchDone s) ?_
    rw [fetchDone_found hfetch]
    exact SameCore.refl _
  · refine becomes_act (exec_nvlRddataRead s) ?_
    rw [hostRead_up hup, regRead_nvlRddata, rddataNext_ready hready]
    exact SameCore.refl _
  · exact becomes_onFire (exec_nvlTimeTick s) hdue (core_agenda _ _)

/-! ## Register values after power-on reset -/

/-- The registers of the rails, of the banks and of the interrupt page after power-on reset. -/
theorem resetValues_pages :
    (∀ r : RailId, regVal .smb State.reset (BitVec.ofNat 16 (0x1044 + 256 * r.val)) = some 0x0C000000#32 ∧
      regVal .smb State.reset (BitVec.ofNat 16 (0x1090 + 256 * r.val)) = some 0x00000800#32) ∧
    (∀ b : BankId, regVal .smb State.reset (BitVec.ofNat 16 (0x408C + 256 * b.val)) = some 0x00FFFFFF#32 ∧
      regVal .smb State.reset (BitVec.ofNat 16 (0x4090 + 256 * b.val)) = some 0x00FFFFFF#32 ∧
      ∀ j : Fin 8, regVal .smb State.reset (BitVec.ofNat 16 (0x4000 + 256 * b.val + 16 * j.val)) = some 0x3F000000#32 ∧
        regVal .smb State.reset (BitVec.ofNat 16 (0x40A0 + 256 * b.val + 4 * j.val)) = some 0x80000000#32) ∧
    regVal .smb State.reset 0x6000#16 = some 0#32 ∧ regVal .smb State.reset 0x6B40#16 = some 0x20000000#32 := by
  decide +kernel

theorem resetValues_chans (ch : ChanId) : State.reset.chans[ch].st = .noAccord ∧ State.reset.chans[ch].out = .weak := by
  have hch : State.reset.chans[ch] = {} := Vector.getElem_replicate ch.isLt
  rw [hch]
  exact ⟨rfl, rfl⟩

theorem resetValues_device :
    regVal .smb State.reset 0x0000#16 = some 0x00006192#32 ∧
    regVal .smb State.reset 0x0010#16 = some 0#32 ∧
    regVal .smb State.reset 0x0014#16 = some 0#32 ∧
    regVal .smb State.reset 0x0100#16 = some 0x02000002#32 ∧
    regVal .smb State.reset 0x0110#16 = some 0#32 ∧
    regVal .smb State.reset 0x0118#16 = some 0x20#32 :=
  ⟨rfl, rfl, rfl, rfl, rfl, rfl⟩

theorem resetValues_image :
    regVal .smb State.reset 0x0200#16 = some 0#32 ∧
    regVal .smb State.reset 0x0204#16 = some 0x10000000#32 ∧
    regVal .smb State.reset 0x030C#16 = some 0x04000000#32 ∧
    regVal .smb State.reset 0x0408#16 = some 0x3E8#32 ∧
    regVal .smb State.reset 0x0504#16 = some 0x012C0064#32 ∧
    regVal .smb State.reset 0x0700#16 = some 0#32 :=
  ⟨rfl, rfl, rfl, rfl, rfl, rfl⟩

theorem resetValues_blocks :
    regVal .smb State.reset 0x0708#16 = some 0x04000400#32 ∧
    regVal .smb State.reset 0x0600#16 = some 0#32 ∧
    regVal .smb State.reset 0x0624#16 = some 0#32 ∧
    regVal .smb State.reset 0x0800#16 = some 0#32 ∧
    regVal .smb State.reset 0x3004#16 = some 0xFFFFFFFF#32 :=
  ⟨rfl, rfl, rfl, rfl, rfl⟩

/-- Settles O38: each register by evaluation. -/
theorem resetValues : Obligations.ResetValues := by
  obtain ⟨hrails, hbanks, h18, h19⟩ := resetValues_pages
  refine ⟨rfl, rfl, rfl, rfl, resetValues_chans, ?_, hrails, hbanks⟩
  obtain ⟨h1, h2, h3, h4, h5, h6⟩ := resetValues_device
  obtain ⟨h7, h8, h9, h10, h11, h12⟩ := resetValues_image
  obtain ⟨h13, h14, h15, h16, h17⟩ := resetValues_blocks
  simp only [List.forall_mem_cons]
  exact ⟨h1, h2, h3, h4, h5, h6, h7, h8, h9, h10, h11, h12, h13, h14, h15, h16, h17, h18, h19,
    fun _ h => nomatch h⟩

end Sys2Proof.Machine
end

section
/-! PROOF. The commands of the image loader on the Flacon slots (R50, R82, R85, R89, R281). -/

namespace Sys2Proof.Machine

/-! ## What a command gives, from what it becomes -/

theorem gives_of_becomes {c : Instr} {s u : State} {P : State → Prop} (h : Becomes c s u) (hP : ∀ t, SameCore u t → P t) :
    Gives c s P := by
  obtain ⟨t, hexec, hcore⟩ := h
  exact ⟨t, hexec, hP t hcore⟩

theorem ctlUp_of_hostUp {s : State} (h : hostUp s = true) : ctlUp s = true := by
  simp only [hostUp, answers, Bool.and_eq_true] at h
  obtain ⟨⟨⟨hheld, -⟩, -⟩, hdev⟩ := h
  simp only [ctlUp, Bool.and_eq_true]
  exact ⟨hheld, hdev⟩

/-- The end of a step of the loader, where the control domain works. -/
theorem onLoader_up {s : State} (h : hostUp s = true) (f : State → State) : onLoader f s = f s := if_pos (ctlUp_of_hostUp h)

theorem becomes_onLoader {c : Instr} {s u : State} {f : State → State} (hexec : exec c s = act (onLoader f) s)
    (hup : hostUp s = true) (h : SameCore u (f s)) : Becomes c s u :=
  becomes_act hexec (by rwa [onLoader_up hup])

/-! ## The ends of an operation -/

theorem gateArm_agenda (s : State) : ∃ l, gateArm s = { s with agenda := l } := by
  unfold gateArm
  split
  · exact ⟨s.agenda, rfl⟩
  · exact ⟨_, rfl⟩

/-- The loader back at idle, but for the log record that may start now. -/
def idled (s : State) : State :=
  { s with img := { s.img with phase := .idle, op := .none, isOpen := false, need := none, buf := [], passed := none }
           sealed := { s.sealed with loadPend := false } }

theorem imgIdle_agenda (s : State) : ∃ l, imgIdle s = { idled s with agenda := l } := gateArm_agenda (idled s)

theorem core_imgIdle (s : State) : SameCore (idled s) (imgIdle s) := by
  obtain ⟨l, h⟩ := imgIdle_agenda s
  rw [h]
  exact core_agenda _ l

theorem core_imgFail (e : LdErr) (s : State) : SameCore (imgErr e (idled s)) (imgFail e s) := by
  obtain ⟨l, h⟩ := imgIdle_agenda s
  rw [imgFail, h]
  exact core_agenda (imgErr e (idled s)) l

theorem core_imgDone (s : State) : SameCore (putErr (codeErr 0) (idled s)) (imgDone s) := by
  obtain ⟨l, h⟩ := imgIdle_agenda s
  rw [imgDone, h]
  exact core_agenda (putErr (codeErr 0) (idled s)) l

/-- The loader has come back to idle between `s` and `t`: what its end leaves as it was. -/
structure Ended (s t : State) : Prop where
  phase : t.img.phase = .idle
  op : t.img.op = .none
  isOpen : t.img.isOpen = false
  passed : t.img.passed = none
  erasedA : t.img.erasedA = s.img.erasedA
  erasedB : t.img.erasedB = s.img.erasedB
  checkedA : t.img.checkedA = s.img.checkedA
  checkedB : t.img.checkedB = s.img.checkedB
  fallback : t.img.fallback = s.img.fallback
  ready : t.img.ready = s.img.ready
  stag : t.img.stag = s.img.stag
  sealed : t.sealed = { s.sealed with loadPend := false }
  flash : t.flash = s.flash
  otp : t.otp = s.otp
  chans : t.chans = s.chans
  pwr : t.pwr = s.pwr
  thm : t.thm = s.thm
  irqEn : t.irqEn = s.irqEn

theorem Ended.of_core {s u t : State} (e : Ended s u) (h : SameCore u t) : Ended s t := by
  constructor
  case flash => exact h.flash.trans e.flash
  case otp => exact h.otp.trans e.otp
  case chans => exact h.chans.trans e.chans
  case pwr => exact h.pwr.trans e.pwr
  case thm => exact h.thm.trans e.thm
  case irqEn => exact h.irqEn.trans e.irqEn
  case sealed => exact h.sealed.trans e.sealed
  all_goals rw [h.img]
  exacts [e.phase, e.op, e.isOpen, e.passed, e.erasedA, e.erasedB, e.checkedA, e.checkedB, e.fallback, e.ready, e.stag]

theorem ended_idled (s : State) : Ended s (idled s) := by constructor <;> rfl

theorem ended_failed {e : LdErr} {s t : State} (h : SameCore (imgErr e (idled s)) t) :
    Ended s t ∧ t.img.loadErr = true ∧ t.img.errCode = BitVec.ofNat 8 e.code := by
  have hself : Ended s (imgErr e (idled s)) := by constructor <;> rfl
  exact ⟨hself.of_core h, by rw [h.img]; rfl, by rw [h.img]; rfl⟩

theorem ended_done {s t : State} (h : SameCore (putErr (codeErr 0) (idled s)) t) :
    Ended s t ∧ t.img.loadErr = s.img.loadErr ∧ t.img.errCode = 0 := by
  have hself : Ended s (putErr (codeErr 0) (idled s)) := by constructor <;> rfl
  exact ⟨hself.of_core h, by rw [h.img]; rfl, by rw [h.img]; rfl⟩

/-- The trailers have been read again before the end. -/
theorem Ended.of_readGens {s t : State} (e : Ended (readGens s) t) : Ended s t := by
  obtain ⟨h1, h2, h3, h4, h5, h6, h7, h8, h9, h10, h11, h12, h13, h14, h15, h16, h17, h18⟩ := e
  simp only [readGens] at *
  exact ⟨h1, h2, h3, h4, h5, h6, h7, h8, h9, h10, h11, h12, h13, h14, h15, h16, h17, h18⟩

theorem ended_failed_readGens {e : LdErr} {s t : State} (h : SameCore (imgErr e (idled (readGens s))) t) :
    Ended s t ∧ t.img.loadErr = true ∧ t.img.errCode = BitVec.ofNat 8 e.code := by
  obtain ⟨e, hload, hcode⟩ := ended_failed h
  exact ⟨e.of_readGens, hload, hcode⟩

theorem ended_done_readGens {s t : State} (h : SameCore (putErr (codeErr 0) (idled (readGens s))) t) :
    Ended s t ∧ t.img.loadErr = s.img.loadErr ∧ t.img.errCode = 0 := by
  obtain ⟨e, hload, hcode⟩ := ended_done h
  exact ⟨e.of_readGens, hload.trans (by simp only [readGens]), hcode⟩

/-! ## Commands of IMG_CTRL -/

section Command
variable {c : Instr} {s u : State} {cmd slot rail : Nat} (hexec : exec c s = act (imgCmd cmd slot rail) s)
  (hc : cmd < 16) (hs : slot < 4) (hr : rail < 32) (hup : hostUp s = true)
include hexec hc hs hr hup

/-- A command that the loader takes at idle (R86, R87). -/
theorem becomes_imgRun (hfields : imgFields cmd slot rail = true) (habort : cmd ≠ 8) (hidle : s.img.phase = .idle)
    (h : SameCore u (imgRun cmd slot rail s)) : Becomes c s u := by
  refine becomes_act hexec ?_
  rw [imgCmd_eq hc hs hr, onHost_up hup, if_neg (by rw [hfields]; decide), if_neg habort, if_neg (not_not_intro hidle)]
  exact h

/-- A command with fields that it may not carry (R87). -/
theorem becomes_imgIgnore (hfields : imgFields cmd slot rail = false) : Becomes c s { s with img := { s.img with cmdErr := true } } := by
  refine becomes_act hexec ?_
  rw [imgCmd_eq hc hs hr, onHost_up hup, if_pos hfields]
  exact SameCore.refl _

end Command

theorem exec_slotCheck (k : BitVec 2) (s : State) : exec (.slotCheck k) s = act (imgCmd 5 k.toNat 0) s := rfl
theorem exec_slotCheckDone (f : Byte) (s : State) : exec (.slotCheckDone f) s = act (onLoader (slotCheckEnd f)) s := rfl
theorem exec_slotErase (k : BitVec 2) (s : State) : exec (.slotErase k) s = act (imgCmd 9 k.toNat 0) s := rfl
theorem exec_slotEraseDone (ok : Bool) (s : State) : exec (.slotEraseDone ok) s = act (onLoader (eraseDone ok)) s := rfl
theorem exec_slotWrite (k : BitVec 2) (s : State) : exec (.slotWrite k) s = act (imgCmd 10 k.toNat 0) s := rfl
theorem exec_slotCommit (k : BitVec 2) (s : State) : exec (.slotCommit k) s = act (imgCmd 11 k.toNat 0) s := rfl
theorem exec_slotCommitDone (ok : Bool) (s : State) : exec (.slotCommitDone ok) s = act (onLoader (slotCommitEnd ok)) s := rfl
theorem exec_flashWriteStopped (s : State) : exec .flashWriteStopped s = act (onLoader writeStopped) s := rfl
theorem exec_imgDataWrite (w : Word) (s : State) : exec (.imgDataWrite w) s = act (onHost (dataWrite w)) s := rfl

/-! ## The slot commands, by the slot that they name -/

theorem slotGuard_open {b : Bool} {s : State} (hsrc : sourceSlot s b = false) (hwin : winOpen s = true) (f : State → State) :
    slotGuard b f s = f s := by
  rw [slotGuard, if_neg (by rw [hsrc]; decide), if_neg (by rw [hwin]; decide)]

theorem slotGuard_source {b : Bool} {s : State} (hsrc : sourceSlot s b = true) (f : State → State) :
    slotGuard b f s = imgErr (codeErr 0x86) s := if_pos hsrc

theorem slotGuard_shut {b : Bool} {s : State} (hsrc : sourceSlot s b = false) (hwin : winOpen s = false) (f : State → State) :
    slotGuard b f s = imgErr (codeErr 0x85) (winRefuse s) := by
  rw [slotGuard, if_neg (by rw [hsrc]; decide), if_pos (by rw [hwin]; decide)]

/-- The slot that a field SLOT below 2 names. -/
theorem slotField_lt (b : Bool) : (if b then 1 else 0 : BitVec 2).toNat < 2 := by cases b <;> decide

theorem slotField_eq (b : Bool) : ((if b then 1 else 0 : BitVec 2).toNat == 1) = b := by cases b <;> rfl

section Slot
variable {s : State} {k : BitVec 2} (hup : hostUp s = true) (hidle : s.img.phase = .idle) (hk : k.toNat < 2)
include hup hidle hk

theorem becomes_slotCheck :
    Becomes (.slotCheck k) s { s with img := { s.img with op := .check (k.toNat == 1), phase := .checkingSlot, winStop := false } } :=
  becomes_imgRun (exec_slotCheck k s) (by decide) k.isLt (by decide) hup (decide_eq_true hk) (by decide) hidle (SameCore.refl _)

/-- The state in which an erase of slot `b` runs. -/
def erasing (b : Bool) (s : State) : State :=
  { s with img := { s.img with op := .erase b, phase := .erasing, winStop := false
                               erasedA := s.img.erasedA && b, erasedB := s.img.erasedB && !b }
           flash := flashErase s.flash (flaconBase b + 0x7F000) 4096 }

omit hup hidle hk in
theorem eraseBegin_eq (b : Bool) (s : State) : eraseBegin b s = erasing b s := by
  cases b <;> simp [eraseBegin, erasing, putErased, imgBegin]

theorem becomes_slotErase (hsrc : sourceSlot s (k.toNat == 1) = false) (hwin : winOpen s = true) :
    Becomes (.slotErase k) s (erasing (k.toNat == 1) s) := by
  refine becomes_imgRun (exec_slotErase k s) (by decide) k.isLt (by decide) hup (decide_eq_true hk) (by decide) hidle ?_
  change SameCore _ (slotGuard (k.toNat == 1) (eraseBegin (k.toNat == 1)) s)
  rw [slotGuard_open hsrc hwin, eraseBegin_eq]
  exact SameCore.refl _

theorem becomes_slotErase_source (hsrc : sourceSlot s (k.toNat == 1) = true) :
    Becomes (.slotErase k) s (imgErr (codeErr 0x86) s) := by
  refine becomes_imgRun (exec_slotErase k s) (by decide) k.isLt (by decide) hup (decide_eq_true hk) (by decide) hidle ?_
  change SameCore _ (slotGuard (k.toNat == 1) (eraseBegin (k.toNat == 1)) s)
  rw [slotGuard_source hsrc]
  exact SameCore.refl _

theorem becomes_slotErase_shut (hsrc : sourceSlot s (k.toNat == 1) = false) (hwin : winOpen s = false) :
    Becomes (.slotErase k) s (imgErr (codeErr 0x85) (winRefuse s)) := by
  refine becomes_imgRun (exec_slotErase k s) (by decide) k.isLt (by decide) hup (decide_eq_true hk) (by decide) hidle ?_
  change SameCore _ (slotGuard (k.toNat == 1) (eraseBegin (k.toNat == 1)) s)
  rw [slotGuard_shut hsrc hwin]
  exact SameCore.refl _

/-- The state in which a write of slot `b` takes its stream. -/
def slotWriting (b : Bool) (s : State) : State :=
  { s with img := { s.img with op := .write b, phase := .writing, winStop := false, isOpen := true, need := none, buf := [], count := 0
                               checkedA := s.img.checkedA && b, checkedB := s.img.checkedB && !b } }

omit hup hidle hk in
theorem writeBegin_eq (b : Bool) (s : State) : writeBegin b s = slotWriting b s := by
  cases b <;> simp [writeBegin, slotWriting, putChecked, imgOpen]

theorem becomes_slotWrite (hsrc : sourceSlot s (k.toNat == 1) = false) (hwin : winOpen s = true)
    (herased : slotErased s (k.toNat == 1) = true) : Becomes (.slotWrite k) s (slotWriting (k.toNat == 1) s) := by
  refine becomes_imgRun (exec_slotWrite k s) (by decide) k.isLt (by decide) hup (decide_eq_true hk) (by decide) hidle ?_
  change SameCore _ (slotGuard (k.toNat == 1) (fun s => if slotErased s (k.toNat == 1) then writeBegin (k.toNat == 1) s else imgReject s) s)
  rw [slotGuard_open hsrc hwin, if_pos herased, writeBegin_eq]
  exact SameCore.refl _

theorem becomes_slotCommit (hsrc : sourceSlot s (k.toNat == 1) = false) (hwin : winOpen s = true)
    (hchecked : slotChecked s (k.toNat == 1) = true) :
    Becomes (.slotCommit k) s { s with img := { s.img with op := .commit (k.toNat == 1), phase := .writing, winStop := false } } := by
  refine becomes_imgRun (exec_slotCommit k s) (by decide) k.isLt (by decide) hup (decide_eq_true hk) (by decide) hidle ?_
  change SameCore _ (slotGuard (k.toNat == 1) (commitBegin (k.toNat == 1)) s)
  rw [slotGuard_open hsrc hwin, commitBegin, if_pos hchecked]
  exact SameCore.refl _

theorem becomes_slotCommit_unchecked (hsrc : sourceSlot s (k.toNat == 1) = false) (hwin : winOpen s = true)
    (hchecked : slotChecked s (k.toNat == 1) = false) : Becomes (.slotCommit k) s (imgErr (codeErr 0x87) s) := by
  refine becomes_imgRun (exec_slotCommit k s) (by decide) k.isLt (by decide) hup (decide_eq_true hk) (by decide) hidle ?_
  change SameCore _ (slotGuard (k.toNat == 1) (commitBegin (k.toNat == 1)) s)
  rw [slotGuard_open hsrc hwin, commitBegin, if_neg (by rw [hchecked]; decide)]
  exact SameCore.refl _

end Slot

/-! ## The ends of the slot operations -/

section Ends
variable {s : State} {b : Bool} (hup : hostUp s = true)
include hup

theorem becomes_slotCheckDone_good {f : Byte} {im : ImageCfg} (hop : s.img.op = .check b) (h0 : f ≠ 0x00#8) (h1 : f ≠ 0xFF#8)
    (him : slotImage s b = .ok im) : Becomes (.slotCheckDone f) s (putErr (codeErr 0) (idled (putChecked b true s))) := by
  refine becomes_onLoader (exec_slotCheckDone f s) hup ?_
  unfold slotCheckEnd
  rw [hop]
  dsimp only
  rw [if_neg (not_or_intro h0 h1), him]
  exact core_imgDone _

theorem becomes_slotCheckDone_bad {f : Byte} {e : LdErr} (hop : s.img.op = .check b) (h0 : f ≠ 0x00#8) (h1 : f ≠ 0xFF#8)
    (him : slotImage s b = .error e) : Becomes (.slotCheckDone f) s (imgErr e (idled s)) := by
  refine becomes_onLoader (exec_slotCheckDone f s) hup ?_
  unfold slotCheckEnd
  rw [hop]
  dsimp only
  rw [if_neg (not_or_intro h0 h1), him]
  exact core_imgFail _ _

theorem becomes_slotEraseDone (hop : s.img.op = .erase b) (hshut : winShut s = false) : Becomes (.slotEraseDone true) s
    (putErr (codeErr 0) (idled (readGens (putErased b true { s with flash := flashErase s.flash (flaconBase b) 0x80000 })))) := by
  refine becomes_onLoader (exec_slotEraseDone true s) hup ?_
  unfold eraseDone
  rw [hop]
  dsimp only
  rw [if_neg (by rw [hshut]; decide), if_pos rfl]
  exact core_imgDone _

theorem becomes_slotEraseDone_shut {ok : Bool} (hop : s.img.op = .erase b) (hshut : winShut s = true) :
    Becomes (.slotEraseDone ok) s (imgErr (codeErr 0x85) (idled (readGens (winRefuse s)))) := by
  refine becomes_onLoader (exec_slotEraseDone ok s) hup ?_
  unfold eraseDone
  rw [hop]
  dsimp only
  rw [if_pos hshut]
  exact core_imgFail _ _

theorem becomes_slotEraseDone_failed (hop : s.img.op = .erase b) (hshut : winShut s = false) :
    Becomes (.slotEraseDone false) s (imgErr (codeErr 0x88) (idled (readGens s))) := by
  refine becomes_onLoader (exec_slotEraseDone false s) hup ?_
  unfold eraseDone
  rw [hop]
  dsimp only
  rw [if_neg (by rw [hshut]; decide), if_neg Bool.false_ne_true]
  exact core_imgFail _ _

theorem becomes_slotCommitDone (hop : s.img.op = .commit b) : Becomes (.slotCommitDone true) s
    (putErr (codeErr 0) (idled (readGens (putErased b false
      { s with flash := flashProgList s.flash (trailerAt b) (trailerBytes (slotHeader s b)) })))) := by
  refine becomes_onLoader (exec_slotCommitDone true s) hup ?_
  unfold slotCommitEnd
  rw [hop]
  exact core_imgDone _

theorem becomes_slotCommitDone_failed (hop : s.img.op = .commit b) :
    Becomes (.slotCommitDone false) s (imgErr (codeErr 0x88) (idled (readGens s))) := by
  refine becomes_onLoader (exec_slotCommitDone false s) hup ?_
  unfold slotCommitEnd
  rw [hop]
  exact core_imgFail _ _

omit hup in
theorem streamFail_write (hop : s.img.op = .write b) (e : LdErr) : streamFail e s = imgFail e s := by
  unfold streamFail
  rw [hop]
  rfl

theorem becomes_flashWriteStopped_erase (hshut : winShut s = true) (hop : s.img.op = .erase b) :
    Becomes .flashWriteStopped s (imgErr (codeErr 0x85) (idled (readGens (winRefuse s)))) := by
  refine becomes_onLoader (exec_flashWriteStopped s) hup ?_
  unfold writeStopped
  rw [if_neg (by rw [hshut]; decide), hop]
  exact core_imgFail _ _

theorem becomes_flashWriteStopped_write (hshut : winShut s = true) (hop : s.img.op = .write b) (hopen : s.img.isOpen = true) :
    Becomes .flashWriteStopped s (imgErr (codeErr 0x85) (idled (winRefuse s))) := by
  refine becomes_onLoader (exec_flashWriteStopped s) hup ?_
  unfold writeStopped
  rw [if_neg (by rw [hshut]; decide), hop]
  dsimp only
  rw [if_pos hopen, streamFail_write (s := winRefuse s) hop]
  exact core_imgFail _ _

end Ends

/-! ## Every slot command completes -/

theorem putErased_flash (b v : Bool) (s : State) : (putErased b v s).flash = s.flash := rfl

/-- Settles O20: each command by the case of its conditions; slot A and slot B differ in the field they write alone. -/
theorem slotCommandsComplete : Obligations.SlotCommandsComplete := by
  refine ⟨fun s k hup hidle hk => ?_, fun s f b hup hop h0 h1 => ?_, fun s k hup hidle hk hsrc hwin => ?_,
    fun s b hup hop hshut => ?_, fun s k hup hidle hk hsrc hwin herased => ?_, fun s k hup hidle hk hsrc hwin hchecked => ?_,
    fun s b hup hop => ?_, fun s b hup hop => ?_, fun s b hup hshut hop => ?_⟩
  · exact becomes_slotCheck hup hidle hk
  · cases him : slotImage s b with
    | ok im =>
      refine gives_of_becomes (becomes_slotCheckDone_good hup hop h0 h1 him) fun t h => ?_
      obtain ⟨e, hload, hcode⟩ := ended_done h
      refine ⟨e.phase, e.op, e.flash, e.otp, e.chans, e.pwr, hcode, ?_, ?_, ?_⟩
      · rw [hload]; exact (Bool.or_false _).symm
      · rw [e.checkedA]; cases b <;> simp [putChecked, Except.isOk, Except.toBool]
      · rw [e.checkedB]; cases b <;> simp [putChecked, Except.isOk, Except.toBool]
    | error err =>
      refine gives_of_becomes (becomes_slotCheckDone_bad hup hop h0 h1 him) fun t h => ?_
      obtain ⟨e, hload, hcode⟩ := ended_failed h
      refine ⟨e.phase, e.op, e.flash, e.otp, e.chans, e.pwr, hcode, ?_, ?_, ?_⟩
      · rw [hload]; exact (Bool.or_true _).symm
      · rw [e.checkedA]; simp [Except.isOk, Except.toBool]
      · rw [e.checkedB]; simp [Except.isOk, Except.toBool]
  · refine gives_of_becomes (becomes_slotErase hup hidle hk hsrc hwin) fun t h => ?_
    generalize hb : (k.toNat == 1) = b at h ⊢
    have hne : (k.toNat != 1) = !b := by rw [← hb]; rfl
    rw [hne, slotErased, slotErased, slotErased, slotChecked, slotChecked, h.img]
    refine ⟨rfl, rfl, ?_, ?_, ?_, h.flash, h.sealed, h.otp, h.chans, h.pwr⟩ <;> cases b <;> simp [erasing]
  · refine gives_of_becomes (becomes_slotEraseDone hup hop hshut) fun t h => ?_
    obtain ⟨e, hload, hcode⟩ := ended_done_readGens h
    refine ⟨by rw [e.flash, putErased_flash], e.phase, ?_, ?_, hcode, hload, e.otp, e.chans, e.pwr⟩
    · rw [slotErased, e.erasedA, e.erasedB]; cases b <;> rfl
    · rw [slotErased, slotErased, e.erasedA, e.erasedB]; cases b <;> rfl
  · refine gives_of_becomes (becomes_slotWrite hup hidle hk hsrc hwin herased) fun t h => ?_
    generalize hb : (k.toNat == 1) = b at h ⊢
    have hne : (k.toNat != 1) = !b := by rw [← hb]; rfl
    rw [hne, slotChecked, slotChecked, slotChecked, h.img]
    refine ⟨rfl, rfl, rfl, rfl, ?_, ?_, rfl, h.flash, h.sealed, h.otp, h.chans, h.pwr⟩ <;> cases b <;> simp [slotWriting]
  · exact becomes_slotCommit hup hidle hk hsrc hwin hchecked
  · refine gives_of_becomes (becomes_slotCommitDone hup hop) fun t h => ?_
    obtain ⟨e, hload, hcode⟩ := ended_done_readGens h
    refine ⟨by rw [e.flash, putErased_flash], e.phase, ?_, ?_, ?_, hcode, hload, e.otp, e.chans, e.pwr⟩
    · rw [slotErased, e.erasedA, e.erasedB]; cases b <;> rfl
    · rw [slotErased, slotErased, e.erasedA, e.erasedB]; cases b <;> rfl
    · rw [slotChecked, slotChecked, e.checkedA, e.checkedB]; rfl
  · refine gives_of_becomes (becomes_slotCommitDone_failed hup hop) fun t h => ?_
    obtain ⟨e, hload, hcode⟩ := ended_failed_readGens h
    exact ⟨e.flash, e.phase, hcode, hload, e.otp, e.chans, e.pwr⟩
  · rcases hop with ⟨hop, hopen⟩ | hop
    · refine gives_of_becomes (becomes_flashWriteStopped_write hup hshut hop hopen) fun t h => ?_
      obtain ⟨e, hload, hcode⟩ := ended_failed h
      exact ⟨e.phase, e.isOpen, hcode, hload, e.thm, e.flash, e.otp, e.chans, e.pwr⟩
    · refine gives_of_becomes (becomes_flashWriteStopped_erase hup hshut hop) fun t h => ?_
      obtain ⟨e, hload, hcode⟩ := ended_failed_readGens h
      exact ⟨e.phase, e.isOpen, hcode, hload, e.thm, e.flash, e.otp, e.chans, e.pwr⟩

end Sys2Proof.Machine
end

section
/-! PROOF. Writing a Flacon slot (R82, R281, R456). -/

namespace Sys2Proof.Machine

/-! ## A refusal that leaves the loader as it is -/

theorem errored {e : LdErr} {s t : State} (h : SameCore (imgErr e s) t) : t.img.loadErr = true ∧
    t.img.errCode = BitVec.ofNat 8 e.code ∧ t.img.phase = s.img.phase ∧ t.sealed = s.sealed ∧ t.flash = s.flash ∧ t.thm = s.thm := by
  rw [h.img]
  exact ⟨rfl, rfl, rfl, h.sealed, h.flash, h.thm⟩

/-! ## A word into a slot (R82, R456) -/

/-- The stream with one word more. -/
def streamed (w : Word) (s : State) : State :=
  { s with img := { s.img with buf := s.img.buf ++ leBytes w, count := s.img.count + 4 } }

theorem length_leBytes (w : Word) : (leBytes w).length = 4 := by simp [leBytes]

/-- A word behind the header, which leaves the stream to its page and its end. -/
theorem dataWrite_open {w : Word} {s : State} (hopen : s.img.isOpen = true) (hcount : s.img.count + 4 ≠ 64) :
    dataWrite w s = if (pageStep (streamFull (streamed w s)) (streamed w s)).img.isOpen && streamFull (streamed w s) then
        streamEnd (pageStep (streamFull (streamed w s)) (streamed w s))
      else pageStep (streamFull (streamed w s)) (streamed w s) := by
  have hopen' : (streamed w s).img.isOpen = true := hopen
  have hcount' : (streamed w s).img.count ≠ 64 := hcount
  unfold dataWrite
  rw [if_neg (by rw [hopen]; decide)]
  change (let u := if (streamed w s).img.count = 64 then streamHeader (streamed w s) else streamed w s
    if !u.img.isOpen then u
    else
      let fin := streamFull u
      let v := pageStep fin u
      if v.img.isOpen && fin then streamEnd v else v) = _
  dsimp only
  rw [if_neg hcount', if_neg (by rw [hopen']; decide)]

theorem dataWrite_closed {w : Word} {s : State} (hopen : s.img.isOpen = false) : dataWrite w s = imgIgnore s :=
  if_pos (by rw [hopen]; decide)

theorem writePage_first {b : Bool} {s : State} (hshut : winShut s = false) (hlen : s.img.buf.length = 256) :
    writePage b s = { s with flash := flashProgList s.flash (flaconBase b) s.img.buf } := by
  unfold writePage
  dsimp only
  rw [if_neg (by rw [hshut]; decide), hlen]
  rfl

/-- The word that fills the first page of a slot. -/
theorem dataWrite_page {w : Word} {b : Bool} {s : State} (hopen : s.img.isOpen = true) (hop : s.img.op = .write b)
    (hcount : s.img.count ≠ 60) (hneed : s.img.need = none) (hshut : winShut s = false) (hlen : s.img.buf.length = 252) :
    dataWrite w s = { streamed w s with flash := flashProgList s.flash (flaconBase b) (s.img.buf ++ leBytes w) } := by
  have hfull : streamFull (streamed w s) = false := by unfold streamFull streamed; rw [hneed]
  have hlen' : (streamed w s).img.buf.length = 256 := by simp [streamed, hlen, length_leBytes]
  have hstep : pageStep false (streamed w s) = writePage b (streamed w s) := by
    have hop' : (streamed w s).img.op = .write b := hop
    unfold pageStep
    rw [hop']
    exact if_pos (.inl (by rw [hlen']))
  rw [dataWrite_open hopen (by omega), hfull, Bool.and_false, if_neg Bool.false_ne_true, hstep,
    writePage_first (s := streamed w s) hshut hlen']
  rfl

/-! ## The end of a write -/

section Write
variable {s : State} {b : Bool} (hup : hostUp s = true) (hop : s.img.op = .write b)
include hup hop

theorem becomes_flashWriteStopped_complete (hopen : s.img.isOpen = false) : Becomes .flashWriteStopped s s := by
  refine becomes_onLoader (exec_flashWriteStopped s) hup ?_
  unfold writeStopped
  rw [hop]
  dsimp only
  rw [if_neg (c := s.img.isOpen = true) (by rw [hopen]; decide), ite_self]
  exact SameCore.refl s

theorem becomes_slotCommitDone_page_failed :
    Becomes (.slotCommitDone false) s (imgErr (codeErr 0x88) (idled s)) := by
  refine becomes_onLoader (exec_slotCommitDone false s) hup ?_
  unfold slotCommitEnd
  rw [hop]
  dsimp only
  rw [if_pos (by decide), streamFail_write hop]
  exact core_imgFail _ _

theorem becomes_slotCommitDone_written (hopen : s.img.isOpen = false) :
    Becomes (.slotCommitDone true) s (putErr (codeErr 0) (idled (readGens s))) := by
  refine becomes_onLoader (exec_slotCommitDone true s) hup ?_
  unfold slotCommitEnd
  rw [hop]
  dsimp only
  rw [if_neg (by decide), if_neg (by rw [hopen]; decide)]
  exact core_imgDone _

end Write

/-- Settles O19: each command by the case of its conditions. -/
theorem flaconSlots : Obligations.FlaconSlots := by
  refine ⟨fun s b hup hidle => ?_, fun s k hup hk => ?_, fun s f b im hup hop h0 h1 him => ?_, fun s b hup hidle hsrc hwin => ?_,
    fun s b hup hidle hsrc => ?_, fun s b hup hidle hsrc hwin => ?_, fun s b hup hop hshut => ?_, fun s b ok hup hop hshut => ?_,
    fun s b hup hop hshut => ?_, fun s b hup hidle herased hsrc hwin => ?_,
    fun s w b hup hopen hop hcount hneed hshut hlen => ?_, fun s b hup hidle hchecked hsrc hwin => ?_,
    fun s b hup hidle hchecked hsrc hwin => ?_, fun s b hup hop => ?_, fun s b hup hop hopen => ?_, fun s b hup hop => ?_,
    fun s b hup hop hopen => ?_, fun s b hup hshut hop => ?_, fun s b hup hshut hop hopen => ?_⟩
  · have h := becomes_slotCheck hup hidle (slotField_lt b)
    rwa [slotField_eq] at h
  · exact becomes_imgIgnore (exec_slotCheck k s) (by decide) k.isLt (by decide) hup (decide_eq_false (by omega))
  · refine gives_of_becomes (becomes_slotCheckDone_good hup hop h0 h1 him) fun t h => ?_
    obtain ⟨e, hload, hcode⟩ := ended_done h
    refine ⟨?_, ?_, e.phase, hcode, e.sealed, e.flash, e.otp, e.chans, e.pwr⟩
    · rw [e.checkedA]; cases b <;> simp [putChecked]
    · rw [e.checkedB]; cases b <;> simp [putChecked]
  · have h := becomes_slotErase hup hidle (slotField_lt b) (by rwa [slotField_eq]) hwin
    rwa [slotField_eq] at h
  · refine gives_of_becomes (becomes_slotErase_source hup hidle (slotField_lt b) (by rwa [slotField_eq])) fun t h => ?_
    obtain ⟨hload, hcode, hphase, hsealed, hflash, -⟩ := errored h
    exact ⟨hload, hcode, hphase.trans hidle, hsealed, hflash⟩
  · refine gives_of_becomes (becomes_slotErase_shut hup hidle (slotField_lt b) (by rwa [slotField_eq]) hwin) fun t h => ?_
    obtain ⟨hload, hcode, hphase, hsealed, hflash, hthm⟩ := errored h
    exact ⟨hload, hcode, by rw [hthm]; rfl, hphase.trans hidle, hsealed, hflash⟩
  · refine gives_of_becomes (becomes_slotEraseDone hup hop hshut) fun t h => ?_
    obtain ⟨e, hload, hcode⟩ := ended_done_readGens h
    refine ⟨by rw [e.flash, putErased_flash], e.phase, ?_, ?_, hload, e.otp, e.chans⟩
    · rw [e.erasedA]; cases b <;> simp [putErased]
    · rw [e.erasedB]; cases b <;> simp [putErased]
  · refine gives_of_becomes (becomes_slotEraseDone_shut hup hop hshut) fun t h => ?_
    obtain ⟨e, hload, hcode⟩ := ended_failed_readGens h
    exact ⟨e.flash, e.phase, hload, hcode, e.thm, e.otp, e.chans⟩
  · refine gives_of_becomes (becomes_slotEraseDone_failed hup hop hshut) fun t h => ?_
    obtain ⟨e, hload, hcode⟩ := ended_failed_readGens h
    exact ⟨e.flash, e.phase, hload, hcode⟩
  · have h := becomes_slotWrite hup hidle (slotField_lt b) (by rwa [slotField_eq]) hwin (by rwa [slotField_eq])
    rwa [slotField_eq] at h
  · have h : Becomes (.imgDataWrite w) s
        { streamed w s with flash := flashProgList s.flash (flaconBase b) (s.img.buf ++ leBytes w) } := by
      refine becomes_onHost (exec_imgDataWrite w s) hup ?_
      rw [dataWrite_page hopen hop hcount hneed hshut hlen]
      exact SameCore.refl _
    refine gives_of_becomes h fun t h => ?_
    rw [h.img]
    exact ⟨h.flash, hopen, rfl, h.sealed⟩
  · have h := becomes_slotCommit hup hidle (slotField_lt b) (by rwa [slotField_eq]) hwin (by rwa [slotField_eq])
    rwa [slotField_eq] at h
  · refine gives_of_becomes (becomes_slotCommit_unchecked hup hidle (slotField_lt b) (by rwa [slotField_eq]) hwin
      (by rwa [slotField_eq])) fun t h => ?_
    obtain ⟨hload, hcode, hphase, hsealed, hflash, -⟩ := errored h
    exact ⟨hload, hcode, hphase.trans hidle, hflash, hsealed⟩
  · refine gives_of_becomes (becomes_slotCommitDone hup hop) fun t h => ?_
    obtain ⟨e, hload, hcode⟩ := ended_done_readGens h
    refine ⟨by rw [e.flash, putErased_flash], e.phase, ?_, ?_, e.checkedA, e.checkedB, hload, e.otp, e.chans⟩
    · rw [e.erasedA]; cases b <;> simp [putErased]
    · rw [e.erasedB]; cases b <;> simp [putErased]
  · exact becomes_flashWriteStopped_complete hup hop hopen
  · refine gives_of_becomes (becomes_slotCommitDone_page_failed hup hop) fun t h => ?_
    obtain ⟨e, hload, hcode⟩ := ended_failed h
    exact ⟨hload, hcode, e.phase, e.isOpen, e.flash, e.otp, e.chans⟩
  · refine gives_of_becomes (becomes_slotCommitDone_written hup hop hopen) fun t h => ?_
    obtain ⟨e, hload, hcode⟩ := ended_done_readGens h
    exact ⟨e.phase, hload, e.flash, e.otp, e.chans⟩
  · refine gives_of_becomes (becomes_flashWriteStopped_erase hup hshut hop) fun t h => ?_
    obtain ⟨e, hload, hcode⟩ := ended_failed_readGens h
    exact ⟨hload, hcode, e.phase, e.thm, e.flash, e.otp⟩
  · refine gives_of_becomes (becomes_flashWriteStopped_write hup hshut hop hopen) fun t h => ?_
    obtain ⟨e, hload, hcode⟩ := ended_failed h
    exact ⟨hload, hcode, e.isOpen, e.thm, e.flash, e.otp⟩

end Sys2Proof.Machine
end

section
/-! PROOF. Full image loads, from their command to the seal (R51, R78 to R81, R86). -/

namespace Sys2Proof.Machine

/-! ## What a commit leaves -/

/-- What a commit writes of the loader's world, and what it leaves. -/
structure LoadView where
  sealed : Seal
  img : ImgLd
  dev : DevSt
  flash : List Host.Cell
  otp : Otp
  irqEn : IrqEn

/-- The loader's view of a state. -/
def loadView (s : State) : LoadView := ⟨s.sealed, s.img, s.pwr.dev, s.flash, s.otp, s.irqEn⟩

theorem loadView_of_outer {s t : State} (h : outer t = outer s) : loadView t = loadView s := (congrArg loadView h :)

theorem loadView_settleBy (p : Option PortId) (o : List Nat) (old s : State) : loadView (settleBy p o old s) = loadView s := by
  rw [loadView, settleBy_sealed, settleBy_img, settleBy_pwr, settleBy_flash, settleBy_otp, settleBy_irqEn, loadView]

theorem loadView_forEach {α : Type} (l : List α) (f : α → State → State) (h : ∀ a s, loadView (f a s) = loadView s) (s : State) :
    loadView (forEach l f s) = loadView s := forEach_keeps loadView l f h s

theorem loadView_pinInputs (s : State) : loadView (pinInputs s) = loadView s := rfl
theorem loadView_rails (s : State) (r : Vector Rail 24) : loadView { s with rails := r } = loadView s := rfl
theorem loadView_chans (s : State) (c : Vector Chan 192) : loadView { s with chans := c } = loadView s := rfl

theorem loadView_brefRelease (b : BankId) (s : State) : loadView (brefRelease b s) = loadView s :=
  loadView_of_outer (outer_brefRelease b s)

theorem loadView_thrLoad (r : RailId) (c : RailCfg) (s : State) : loadView (thrLoad r c s) = loadView s := by
  unfold thrLoad thrRenew
  exact (loadView_of_outer (outer_onChans _ _ _)).trans (loadView_of_outer (outer_onRail _ _ _))

theorem loadView_holdSafe (c : RailCfg) (s : State) : loadView (holdSafe c s) = loadView s := by
  unfold holdSafe
  split
  · exact loadView_of_outer (outer_onChans _ _ _)
  · rfl

theorem loadView_brefMoved (old s : State) : loadView (brefMoved old s) = loadView s :=
  loadView_of_outer (outer_brefEvents _ _)

theorem loadView_throttleRail (rc : RailId × RailCfg) (s : State) : loadView (throttleRail rc s) = loadView s := by
  unfold throttleRail throttleOn throttleOff
  dsimp only
  repeat' split
  all_goals rfl

theorem loadView_throttleAll (s : State) : loadView (throttleAll s) = loadView s := loadView_forEach _ _ loadView_throttleRail s

theorem loadView_wdogStart (s : State) : loadView (wdogStart s) = loadView s := by
  unfold wdogStart
  rfl

theorem loadView_sealNelink (s : State) : loadView (sealNelink s) = loadView s := by
  unfold sealNelink
  split
  · exact (congrArg loadView (unlinked_nlListen s) :)
  · unfold nlDisarm; rfl

theorem loadView_vselAgain (s : State) : loadView (vselAgain s) = loadView s := by
  unfold vselAgain
  refine loadView_forEach _ _ (fun p s => ?_) s
  dsimp only
  repeat' split
  all_goals rfl

/-- The first step of a commit: the image is in force. -/
def imageTaken (im : ImageCfg) (src : BitVec 2) (s : State) : State :=
  { disarm railTimer s with
    sealed := { img := some im, auth := im.auth, source := src, loadPend := false, patched := 0 }
    irqEn := sealIrq im
    ports := mapTab (fun i p => { p with
      budget := BitVec.ofNat 16 (imgBudget im i), hold := [], vselPend := false }) s.ports
    hadc := sealHadc im s.hadc
    thm := { s.thm with band := 0, bandSel := false }
    chans := mapTab (fun _ k => { k with band := none, bandDue := false }) s.chans }

theorem loadView_imageTaken (im : ImageCfg) (src : BitVec 2) (s : State) : loadView (imageTaken im src s) =
    { loadView s with sealed := { img := some im, auth := im.auth, source := src, loadPend := false, patched := 0 }
                      irqEn := sealIrq im } := rfl

/-- A commit seals the image, and leaves the loader, the device state, the flash and the one-time-programmable controls. -/
theorem loadView_sealImage (im : ImageCfg) (src : BitVec 2) (s : State) : loadView (sealImage im src s) =
    { loadView s with sealed := { img := some im, auth := im.auth, source := src, loadPend := false, patched := 0 }
                      irqEn := sealIrq im } := by
  unfold sealImage
  dsimp only
  rw [loadView_vselAgain, loadView_sealNelink, loadView_wdogStart, loadView_throttleAll,
    loadView_forEach _ (fun (rc : RailId × RailCfg) s => rawTrips rc.2 s) (fun rc s => loadView_of_outer (outer_rawTrips rc.2 s)), loadView_of_outer (outer_rawBtsf _ _),
    loadView_brefMoved, loadView_forEach _ (fun (rc : RailId × RailCfg) s => holdSafe rc.2 s) (fun rc s => loadView_holdSafe rc.2 s),
    loadView_forEach _ (fun (rc : RailId × RailCfg) s => thrLoad rc.1 rc.2 s) (fun rc s => loadView_thrLoad rc.1 rc.2 s), loadView_forEach _ _ loadView_brefRelease, loadView_chans,
    loadView_pinInputs, loadView_rails]
  exact loadView_imageTaken im src s

/-! ## The ends of a full load -/

/-- A command refused with REJECT_STATE, in the words of the statements. -/
theorem imgReject_eq (s : State) : imgReject s = { s with img := { s.img with
    cmdErr := true, rejCnt := min 255 (s.img.rejCnt + 1), errCode := 0x80, errType := 0, errInst := 0, claimA := 0, claimB := 0
    errRes := 0 } } := by
  rw [imgReject, satInc_eq_min]
  rfl

theorem exec_bootLoad (s : State) : exec .bootLoad s = act (onFire .bootLoad bootStart) s := rfl
theorem exec_loadAuto (s : State) : exec .loadAuto s = act (imgCmd 1 0 0) s := rfl
theorem exec_loadA (s : State) : exec .loadA s = act (imgCmd 2 0 0) s := rfl
theorem exec_loadB (s : State) : exec .loadB s = act (imgCmd 3 0 0) s := rfl
theorem exec_loadHost (s : State) : exec .loadHost s = act (imgCmd 4 0 0) s := rfl
theorem exec_loadDone (f : Byte) (s : State) : exec (.loadDone f) s = act (onLoader (fullDone f)) s := rfl
theorem exec_abort (s : State) : exec .abort s = act (imgCmd 8 0 0) s := rfl

/-- What a load that has sealed image `im` from `src` gives. -/
structure Loaded (im : ImageCfg) (src : BitVec 2) (fb : Bool) (s t : State) : Prop where
  sealed : t.sealed = { img := some im, auth := im.auth, source := src, loadPend := false, patched := 0 }
  phase : t.img.phase = .idle
  op : t.img.op = .none
  errCode : t.img.errCode = 0
  fallback : t.img.fallback = (s.img.fallback || fb)
  loadErr : t.img.loadErr = s.img.loadErr
  flash : t.flash = s.flash
  otp : t.otp = s.otp
  dev : t.pwr.dev = s.pwr.dev

/-- The loader's view after a load that has ended well. -/
def sealedView (im : ImageCfg) (src : BitVec 2) (fb : Bool) (s : State) : LoadView :=
  { loadView s with
    sealed := { img := some im, auth := im.auth, source := src, loadPend := false, patched := 0 }
    irqEn := sealIrq im
    img := { (putErr (codeErr 0) (idled s)).img with fallback := s.img.fallback || fb } }

theorem loaded_of_view {im : ImageCfg} {src : BitVec 2} {fb : Bool} {s t : State} (h : loadView t = sealedView im src fb s) :
    Loaded im src fb s t := by
  have himg := (congrArg LoadView.img h :)
  constructor
  case sealed => exact (congrArg LoadView.sealed h :)
  case flash => exact (congrArg LoadView.flash h :)
  case otp => exact (congrArg LoadView.otp h :)
  case dev => exact (congrArg LoadView.dev h :)
  case phase => exact (congrArg ImgLd.phase himg :)
  case op => exact (congrArg ImgLd.op himg :)
  case errCode => exact (congrArg ImgLd.errCode himg :)
  case fallback => exact (congrArg ImgLd.fallback himg :)
  case loadErr => exact (congrArg ImgLd.loadErr himg :)

theorem loadView_imgDone (s : State) : loadView (imgDone s) = loadView (putErr (codeErr 0) (idled s)) := by
  obtain ⟨l, h⟩ := imgIdle_agenda s
  rw [imgDone, h]
  rfl

theorem loadView_hostSeal (im : ImageCfg) (s : State) :
    loadView (sealImage im 3 (imgDone s)) = sealedView im 3 false s := by
  rw [loadView_sealImage, loadView_imgDone, sealedView, Bool.or_false]
  rfl

theorem loadView_putFallback (fb : Bool) (s : State) :
    loadView { s with img := { s.img with fallback := s.img.fallback || fb } } =
      { loadView s with img := { (loadView s).img with fallback := (loadView s).img.fallback || fb } } := rfl

theorem loadView_qspiSeal (im : ImageCfg) (b fb : Bool) (s : State) :
    loadView (qspiSeal im b fb s) = sealedView im (if b then 2 else 1) fb s := by
  unfold qspiSeal
  dsimp only
  rw [loadView_putFallback, loadView_sealImage, loadView_imgDone]
  rfl

section Done
variable {s : State} {f : Byte} (hup : hostUp s = true)
include hup

theorem gives_loadDone {v : State} {P : State → Prop} (h : fullDone f s = v)
    (hP : ∀ t, loadView t = loadView v → P t) : Gives (.loadDone f) s P := by
  refine gives_act (exec_loadDone f s) (hP _ ?_)
  rw [loadView_settleBy, onLoader_up hup, h]

theorem becomes_loadDone {u : State} (h : SameCore u (fullDone f s)) : Becomes (.loadDone f) s u :=
  becomes_onLoader (exec_loadDone f s) hup h

end Done

theorem fullStands_of_legal {s : State} (h : fullLegal s = true) : fullStands s = true := by
  rw [fullStands, h, Bool.true_or]

theorem fullStands_readGens {s : State} (h : fullLegal s = true) : fullStands (readGens s) = true :=
  fullStands_of_legal (s := readGens s) h

/-! ## A flash that answers, and a load that may still commit (R79) -/

section Answered
variable {s : State} {f : Byte} {l : List Bool} (h0 : f ≠ 0x00#8) (h1 : f ≠ 0xFF#8) (hlegal : fullLegal s = true)
include h0 h1 hlegal

theorem qspiDone_good {im : ImageCfg} {b fb : Bool} (h : trySlots (readGens s) l = .good im b fb) :
    qspiDone l f s = qspiSeal im b fb (readGens s) := by
  unfold qspiDone
  dsimp only
  rw [if_neg (not_or_intro h0 h1), if_neg (by rw [fullStands_readGens hlegal]; decide), h]

theorem qspiDone_bad {e : LdErr} (h : trySlots (readGens s) l = .bad e) : qspiDone l f s = imgFail e (readGens s) := by
  unfold qspiDone
  dsimp only
  rw [if_neg (not_or_intro h0 h1), if_neg (by rw [fullStands_readGens hlegal]; decide), h]

theorem qspiDone_nothing (h : trySlots (readGens s) l = .nothing) : qspiDone l f s = imgIdle (readGens s) := by
  unfold qspiDone
  dsimp only
  rw [if_neg (not_or_intro h0 h1), if_neg (by rw [fullStands_readGens hlegal]; decide), h]

end Answered

theorem fullDone_auto {s : State} (f : Byte) (hop : s.img.op = .boot ∨ s.img.op = .auto) :
    fullDone f s = qspiDone (slotOrder s) f s := by
  unfold fullDone
  rcases hop with hop | hop <;> rw [hop]

theorem fullDone_slot {s : State} {b : Bool} (f : Byte) (hop : s.img.op = if b then .slotB else .slotA) :
    fullDone f s = oneSlot b f s := by
  unfold fullDone
  cases b <;> rw [hop] <;> rfl

theorem fullDone_host {s : State} {f : Byte} {im : ImageCfg} (hop : s.img.op = .host) (hphase : s.img.phase = .checking)
    (hlegal : fullLegal s = true) (him : checkImage s.otp none s.img.buf = .ok im) :
    fullDone f s = sealImage im 3 (imgDone s) := by
  unfold fullDone hostDone
  rw [hop]
  dsimp only
  rw [if_pos hphase, if_neg (by rw [fullStands_of_legal hlegal]; decide), him]

theorem slotImage_readGens (s : State) (b : Bool) : slotImage (readGens s) b = slotImage s b := rfl

theorem trySlots_first {s : State} {b : Bool} {im : ImageCfg} (him : slotImage s b = .ok im) (l : List Bool) :
    trySlots (readGens s) (b :: l) = .good im b false := by
  unfold trySlots
  dsimp only
  rw [slotImage_readGens, him]

theorem trySlots_second {s : State} {b b2 : Bool} {e : LdErr} {im : ImageCfg} (herr : slotImage s b = .error e)
    (him : slotImage s b2 = .ok im) : trySlots (readGens s) [b, b2] = .good im b2 true := by
  unfold trySlots trySecond
  dsimp only
  rw [slotImage_readGens, herr]
  dsimp only
  rw [slotImage_readGens, him]

/-- At most two slots are tried. -/
theorem length_slotOrder (s : State) : (slotOrder s).length ≤ 2 := by
  unfold slotOrder
  repeat' split
  all_goals decide

theorem trySlots_bad {s : State} {b : Bool} {l : List Bool} {e : LdErr} (hlen : (l ++ [b]).length ≤ 2)
    (hl : ∀ x ∈ l, ∃ e', slotImage s x = .error e') (herr : slotImage s b = .error e) :
    trySlots (readGens s) (l ++ [b]) = .bad e := by
  match l, hlen, hl with
  | [], _, _ =>
    unfold trySlots
    dsimp only [List.nil_append]
    rw [slotImage_readGens, herr]
  | [x], _, hl =>
    obtain ⟨e', hx⟩ := hl x (List.mem_singleton.mpr rfl)
    unfold trySlots trySecond
    dsimp only [List.cons_append, List.nil_append]
    rw [slotImage_readGens, hx]
    dsimp only
    rw [slotImage_readGens, herr]
  | _ :: _ :: _, hlen, _ => simp at hlen

theorem Loaded.of_readGens {im : ImageCfg} {src : BitVec 2} {fb : Bool} {s t : State} (h : Loaded im src fb (readGens s) t) :
    Loaded im src fb s t := by
  obtain ⟨h1, h2, h3, h4, h5, h6, h7, h8, h9⟩ := h
  simp only [readGens] at *
  exact ⟨h1, h2, h3, h4, h5, h6, h7, h8, h9⟩

theorem loaded_qspiSeal {im : ImageCfg} {b fb : Bool} {s t : State} (h : loadView t = loadView (qspiSeal im b fb (readGens s))) :
    Loaded im (if b then 2 else 1) fb s t :=
  (loaded_of_view (h.trans (loadView_qspiSeal im b fb (readGens s)))).of_readGens

theorem loaded_hostSeal {im : ImageCfg} {s t : State} (h : loadView t = loadView (sealImage im 3 (imgDone s))) :
    Loaded im 3 false s t :=
  loaded_of_view (h.trans (loadView_hostSeal im s))

/-! ## The stream of a load (R456) -/

section Stream
variable {s : State} {w : Word} (hopen : s.img.isOpen = true) (hop : s.img.op = .host) (hcount : s.img.count + 4 ≠ 64)
include hopen hop hcount

omit hopen hcount in
theorem pageStep_host (fin : Bool) : pageStep fin (streamed w s) = streamed w s := by
  have hop' : (streamed w s).img.op = .host := hop
  unfold pageStep
  rw [hop']

theorem dataWrite_more (hfull : streamFull (streamed w s) = false) : dataWrite w s = streamed w s := by
  rw [dataWrite_open hopen hcount, hfull, Bool.and_false, if_neg Bool.false_ne_true, pageStep_host hop]

theorem dataWrite_last (hfull : streamFull (streamed w s) = true) : dataWrite w s =
    { streamed w s with img := { (streamed w s).img with isOpen := false, phase := .checking } } := by
  have hopen' : (streamed w s).img.isOpen = true := hopen
  have hop' : (streamed w s).img.op = .host := hop
  rw [dataWrite_open hopen hcount, hfull, pageStep_host hop, hopen', if_pos (by decide)]
  unfold streamEnd
  dsimp only
  rw [hop']

end Stream

/-! ## The boot load and ABORT -/

theorem bootStart_due {s : State} (hboot : s.img.bootDue = true) (hidle : s.img.phase = .idle) (hup : ctlUp s = true) :
    bootStart s = qspiBegin .boot { s with img := { s.img with bootDue := false } } :=
  if_pos (by rw [hboot, hidle, hup]; rfl)

theorem becomes_abort {s u : State} (hup : hostUp s = true) (h : SameCore u (imgAbort s)) : Becomes .abort s u := by
  refine becomes_act (exec_abort s) ?_
  rw [imgCmd_eq (by decide) (by decide) (by decide), onHost_up hup, if_neg (by decide), if_pos rfl]
  exact h

/-- The state without the patch of an operation that ABORT ends. -/
def patchDropped (s : State) : State :=
  { s with img := { s.img with ready := if patchOp s.img.op then none else s.img.ready
                               stag := if patchOp s.img.op then [] else s.img.stag } }

theorem core_imgAbort {s : State} (hphase : s.img.phase ≠ .idle) :
    SameCore (imgErr (codeErr 0x89) (idled (readGens (patchDropped s)))) (imgAbort s) := by
  rw [imgAbort, if_neg hphase]
  exact core_imgFail _ _

/-- Settles O18: a load ends by the first slot that passes its checks, and a commit leaves what the loader's view holds. -/
theorem fullLoads : Obligations.FullLoads := by
  refine ⟨fun s hdue hboot hidle hup => ?_, fun s hup hidle hlegal => ?_, fun s hup hidle hlegal => ?_, fun s hup hidle hlegal => ?_,
    fun s hup hidle hlegal => ?_, fun s hup hidle hlegal => ?_, fun s w hup hopen hop hneed hcount => ?_,
    fun s w n hup hopen hop hneed hcount hn => ?_, fun s w hup hopen => ?_, fun s f im hup hop hphase hlegal him => ?_,
    fun s f b im hup hop hcom h0 h1 hlegal him => ?_, fun s f b l im hup hop hord h0 h1 hlegal him => ?_,
    fun s f b b2 e im hup hop hord h0 h1 hlegal herr him => ?_, fun s f b l e hup hop hord h0 h1 hlegal hl herr => ?_,
    fun s f hup hop hord h0 h1 hlegal => ?_, fun s f b hup hop hcom h0 h1 => ?_, fun s hup hop => ?_, fun s hup hphase => ?_,
    fun s hup hidle => ?_⟩
  · refine becomes_onFire (exec_bootLoad s) hdue ?_
    rw [bootStart_due (s := disarm (· == .bootLoad) s) hboot hidle (ctlUp_of_hostUp hup)]
    exact core_agenda _ _
  · refine becomes_imgRun (exec_loadAuto s) (by decide) (by decide) (by decide) hup rfl (by decide) hidle ?_
    rw [imgRun, if_pos hlegal]
    exact SameCore.refl _
  · refine becomes_imgRun (exec_loadA s) (by decide) (by decide) (by decide) hup rfl (by decide) hidle ?_
    rw [imgRun, if_pos hlegal]
    exact SameCore.refl _
  · refine becomes_imgRun (exec_loadB s) (by decide) (by decide) (by decide) hup rfl (by decide) hidle ?_
    rw [imgRun, if_pos hlegal]
    exact SameCore.refl _
  · refine becomes_imgRun (exec_loadHost s) (by decide) (by decide) (by decide) hup rfl (by decide) hidle ?_
    rw [imgRun, if_pos hlegal]
    exact SameCore.refl _
  · refine becomes_imgRun (exec_loadHost s) (by decide) (by decide) (by decide) hup rfl (by decide) hidle ?_
    rw [imgRun, if_neg (by rw [hlegal]; decide), imgReject_eq]
    exact SameCore.refl _
  · refine becomes_onHost (exec_imgDataWrite w s) hup ?_
    rw [dataWrite_more hopen hop hcount (by unfold streamFull streamed; rw [hneed])]
    exact SameCore.refl _
  · refine becomes_onHost (exec_imgDataWrite w s) hup ?_
    rw [dataWrite_last hopen hop hcount (by unfold streamFull streamed; rw [hneed]; exact decide_eq_true hn)]
    exact SameCore.refl _
  · refine becomes_onHost (exec_imgDataWrite w s) hup ?_
    rw [dataWrite_closed hopen]
    exact SameCore.refl _
  · refine gives_loadDone hup (fullDone_host hop hphase hlegal him) fun t h => ?_
    have e := loaded_hostSeal h
    exact ⟨e.sealed, e.phase, e.op, e.errCode, e.flash, e.otp, e.dev⟩
  · have hone : fullDone f s = qspiSeal im b false (readGens s) := by
      rw [fullDone_slot f hop, oneSlot, if_pos (by rw [hcom]; rfl)]
      exact qspiDone_good h0 h1 hlegal (trySlots_first him [])
    refine gives_loadDone hup hone fun t h => ?_
    have e := loaded_qspiSeal h
    exact ⟨e.sealed, e.phase, e.op, e.errCode, e.fallback.trans (Bool.or_false _), e.loadErr, e.flash, e.otp, e.dev⟩
  · have hfirst : fullDone f s = qspiSeal im b false (readGens s) := by
      rw [fullDone_auto f hop, hord]
      exact qspiDone_good h0 h1 hlegal (trySlots_first him l)
    refine gives_loadDone hup hfirst fun t h => ?_
    have e := loaded_qspiSeal h
    exact ⟨e.sealed, e.phase, e.op, e.errCode, e.fallback.trans (Bool.or_false _), e.loadErr, e.flash, e.otp, e.dev⟩
  · have hsecond : fullDone f s = qspiSeal im b2 true (readGens s) := by
      rw [fullDone_auto f hop, hord]
      exact qspiDone_good h0 h1 hlegal (trySlots_second herr him)
    refine gives_loadDone hup hsecond fun t h => ?_
    have e := loaded_qspiSeal h
    exact ⟨e.sealed, e.phase, e.op, e.errCode, e.fallback.trans (Bool.or_true _), e.loadErr, e.flash, e.otp, e.dev⟩
  · have hbad : fullDone f s = imgFail e (readGens s) := by
      rw [fullDone_auto f hop]
      refine qspiDone_bad h0 h1 hlegal ?_
      rw [hord]
      exact trySlots_bad (hord ▸ length_slotOrder s) hl herr
    refine gives_of_becomes (becomes_loadDone hup (by rw [hbad]; exact core_imgFail e _)) fun t h => ?_
    obtain ⟨e, hload, hcode⟩ := ended_failed_readGens h
    exact ⟨e.sealed, e.phase, hload, hcode, e.fallback, e.flash, e.otp, e.irqEn⟩
  · have hnone : fullDone f s = imgIdle (readGens s) := by
      rw [fullDone_auto f hop, hord]
      exact qspiDone_nothing h0 h1 hlegal rfl
    refine gives_of_becomes (becomes_loadDone hup (by rw [hnone]; exact core_imgIdle _)) fun t h => ?_
    have e := ((ended_idled _).of_core h).of_readGens
    refine ⟨e.sealed, e.phase, ?_, ?_, e.flash, e.otp⟩ <;> rw [h.img] <;> simp only [idled, readGens]
  · have hbad : fullDone f s = imgFail (codeErr 0x0F) (readGens s) := by
      rw [fullDone_slot f hop, oneSlot, if_neg]
      rw [hcom]
      simp [h0, h1]
    refine gives_of_becomes (becomes_loadDone hup (by rw [hbad]; exact core_imgFail _ _)) fun t h => ?_
    obtain ⟨e, hload, hcode⟩ := ended_failed_readGens h
    exact ⟨e.sealed, e.phase, hload, hcode, e.flash, e.otp⟩
  · have hbad : fullDone 0xFF#8 s = imgFail (codeErr 0x88) (readGens s) := by
      rw [fullDone_auto _ (.inl hop), qspiDone]
      exact if_pos (.inr rfl)
    refine gives_of_becomes (becomes_loadDone hup (by rw [hbad]; exact core_imgFail _ _)) fun t h => ?_
    obtain ⟨e, hload, hcode⟩ := ended_failed_readGens h
    exact ⟨e.sealed, e.phase, hload, hcode, e.flash, e.otp⟩
  · refine gives_of_becomes (becomes_abort hup (core_imgAbort hphase)) fun t h => ?_
    obtain ⟨e, hload, hcode⟩ := ended_failed_readGens h
    refine ⟨e.phase, e.op, ?_, hload, hcode, e.sealed, e.flash, e.otp, e.chans⟩
    rw [e.ready, e.stag]
    split
    next hpatch => exact if_pos hpatch
    next hpatch => exact ⟨if_neg hpatch, if_neg hpatch⟩
  · refine becomes_abort hup ?_
    rw [imgAbort, if_pos hidle]
    exact SameCore.refl s

end Sys2Proof.Machine
end

section
/-! PROOF. Patches of one rail, key revocation and the epoch (R77, R83, R84). -/

namespace Sys2Proof.Machine

theorem exec_patchBegin (n : BitVec 5) (s : State) : exec (.patchBegin n) s = act (imgCmd 6 0 n.toNat) s := rfl
theorem exec_patchApply (n : BitVec 5) (s : State) : exec (.patchApply n) s = act (imgCmd 7 0 n.toNat) s := rfl
theorem exec_patchCommit (s : State) : exec .patchCommit s = act (onLoader patchDone) s := rfl
theorem exec_revoke (k : BitVec 2) (s : State) : exec (.revoke k) s = act (imgCmd 12 k.toNat 0) s := rfl
theorem exec_epochAdvance (s : State) : exec .epochAdvance s = act (imgCmd 13 0 0) s := rfl

/-- The field RAIL that names a rail. -/
theorem railField (r : RailId) : (BitVec.ofNat 5 r.val).toNat = r.val := by
  rw [BitVec.toNat_ofNat]
  omega

/-! ## The commit of a patch (R84) -/

theorem loadView_macerRail (r : RailId) (s : State) : loadView (macerRail r s) = loadView s :=
  loadView_of_outer (outer_macerRail r s)

theorem loadView_nlHello (s : State) : loadView (nlHello s) = loadView s := by
  unfold nlHello nlSend
  split <;> rfl

/-- The first step of the commit of a patch: rail `n`'s configuration is in force. -/
def patchTaken (n : RailId) (c : RailCfg) (s : State) : State :=
  { disarm (fun e => e == .budgetStep n || e == .throttleStep n || e == .soundingStart n || e == .soundingEnd n) s with
    sealed := { s.sealed with img := s.sealed.img.map (patchImage n c), patched := s.sealed.patched ||| (1#24 <<< n.val) } }

theorem loadView_patchTaken (n : RailId) (c : RailCfg) (s : State) : loadView (patchTaken n c s) =
    { loadView s with sealed := { s.sealed with
      img := s.sealed.img.map (patchImage n c), patched := s.sealed.patched ||| (1#24 <<< n.val) } } := rfl

theorem loadView_patchChans (n : RailId) (old : List Nat) (s : State) : loadView (patchChans n old s) = loadView s := rfl

theorem loadView_ite (b : Prop) [Decidable b] (s t : State) :
    loadView (if b then s else t) = if b then loadView s else loadView t := by split <;> rfl

/-- The commit of a patch writes the sealed image alone, of what the loader's view holds. -/
theorem loadView_commitPatch (n : RailId) (c : RailCfg) (s : State) : loadView (commitPatch n c s) =
    { loadView s with sealed := { s.sealed with
      img := s.sealed.img.map (patchImage n c), patched := s.sealed.patched ||| (1#24 <<< n.val) } } := by
  unfold commitPatch
  dsimp only
  rw [loadView_ite, loadView_nlHello, ite_self, loadView_macerRail, loadView_throttleAll, loadView_of_outer (outer_rawTrips _ _),
    loadView_of_outer (outer_rawBtsf _ _), loadView_brefMoved, loadView_holdSafe, loadView_thrLoad,
    loadView_forEach _ _ loadView_brefRelease, loadView_patchChans, loadView_of_outer (outer_onRail _ _ _)]
  exact loadView_patchTaken n c s

/-! ## The image with one rail replaced -/

theorem railCfg_eq (s : State) (r : RailId) : railCfg s r = s.sealed.img.bind fun im => im.rails.getD r.val none := by
  unfold railCfg
  cases s.sealed.img <;> rfl

theorem patchImage_self {n : RailId} {im : ImageCfg} (c : RailCfg) (hlen : im.rails.length = 24) :
    (patchImage n c im).rails.getD n.val none = some c :=
  modAt_getD (by omega) (fun _ => some c) none

theorem patchImage_other {n j : RailId} (h : j ≠ n) (c : RailCfg) (im : ImageCfg) :
    (patchImage n c im).rails.getD j.val none = im.rails.getD j.val none :=
  modAt_getD_ne im.rails n.val j.val (fun _ => some c) none fun e => h (Fin.ext e.symm)

/-! ## The commit cycle -/

section Commit
variable {s : State} {r : RailId} {c : RailCfg} (hpassed : s.img.passed = some (r.val, c))
include hpassed

theorem patchDone_stopped (hstop : isStopped s.rails[r] = true) : patchDone s = commitPatch r c (imgDone s) := by
  unfold patchDone
  rw [hpassed]
  dsimp only
  rw [toFin_val]
  exact if_pos hstop

theorem patchDone_running (hstop : isStopped s.rails[r] = false) : patchDone s = imgFail (codeErr 0x81) s := by
  unfold patchDone
  rw [hpassed]
  dsimp only
  rw [toFin_val]
  exact if_neg (by rw [hstop]; decide)

end Commit

/-- The loader's view after the commit of a patch. -/
def patchedView (r : RailId) (c : RailCfg) (s : State) : LoadView :=
  { loadView (putErr (codeErr 0) (idled s)) with sealed := { s.sealed with
      loadPend := false, img := s.sealed.img.map (patchImage r c), patched := s.sealed.patched ||| (1#24 <<< r.val) } }

theorem imgDone_sealed (s : State) : (imgDone s).sealed = { s.sealed with loadPend := false } := (congrArg LoadView.sealed (loadView_imgDone s) :)

theorem loadView_patchDone (r : RailId) (c : RailCfg) (s : State) : loadView (commitPatch r c (imgDone s)) = patchedView r c s := by
  rw [loadView_commitPatch, loadView_imgDone, imgDone_sealed]
  rfl

/-! ## Keys and epochs (R77) -/

theorem revokeKey_unused {k : BitVec 2} {s : State} (h : ∀ im ∈ s.sealed.img, im.keyidx ≠ k.toNat) :
    revokeKey k s = { s with otp := { s.otp with revoked := s.otp.revoked ||| (1#4 <<< k.toNat) } } := by
  unfold revokeKey
  cases him : s.sealed.img with
  | none => rfl
  | some im =>
    dsimp only
    rw [if_neg (by simpa using h im (by rw [him]; rfl))]

theorem revokeKey_used {k : BitVec 2} {s : State} {im : ImageCfg} (him : s.sealed.img = some im) (h : im.keyidx = k.toNat) :
    revokeKey k s = imgReject s := by
  unfold revokeKey
  rw [him]
  exact if_pos (beq_iff_eq.mpr h)

theorem epochNext_room {s : State} {im : ImageCfg} (him : s.sealed.img = some im) (hroom : s.otp.fuses < 64)
    (hnext : s.otp.fuses + 1 ≤ im.epoch) : epochNext s = { s with otp := { s.otp with fuses := s.otp.fuses + 1 } } := by
  unfold epochNext
  rw [him]
  exact if_neg (by omega)

/-! ## The staged patch (R83) -/

theorem applyBegin_good {s : State} {r : RailId} {im : ImageCfg} {c : RailCfg} (him : s.sealed.img = some im)
    (hcheck : checkPatch s.otp s.sealed.auth (isStopped s.rails[r]) im r.val s.img.stag = .ok c) : applyBegin r.val s =
      { s with img := { s.img with op := .apply r.val, phase := .committing, winStop := false, ready := none, stag := []
                                   passed := some (r.val, c) } } := by
  unfold applyBegin
  rw [him, toFin_val]
  dsimp only
  rw [hcheck]
  rfl

/-- Settles O21: the commit of a patch writes the image's one rail. -/
theorem patchesAndKeys : Obligations.PatchesAndKeys := by
  refine ⟨fun s r hup hidle hsealed => ?_, fun s r im c hup hidle hready him hcheck => ?_, fun s n hup hidle hn hready => ?_,
    fun s r c im hup hpassed hstop him hlen => ?_, fun s r c hup hpassed hstop => ?_, fun s k hup hidle hunused => ?_,
    fun s k im hup hidle him hkey => ?_, fun s im hup hidle him hroom hnext => ?_⟩
  · refine becomes_imgRun (exec_patchBegin _ s) (by decide) (by decide) (BitVec.isLt _) hup ?_ (by decide) hidle ?_
    · rw [railField]; exact decide_eq_true r.isLt
    · rw [railField, imgRun, if_pos hsealed]
      exact SameCore.refl _
  · refine becomes_imgRun (exec_patchApply _ s) (by decide) (by decide) (BitVec.isLt _) hup ?_ (by decide) hidle ?_
    · rw [railField]; exact decide_eq_true r.isLt
    · rw [railField, imgRun, if_pos hready, applyBegin_good him hcheck]
      exact SameCore.refl _
  · refine becomes_imgRun (exec_patchApply n s) (by decide) (by decide) n.isLt hup (decide_eq_true hn) (by decide) hidle ?_
    rw [imgRun, if_neg (by rw [hready]; exact fun h => nomatch h), imgReject_eq]
    exact SameCore.refl _
  · refine gives_act (exec_patchCommit s) ?_
    have h : loadView (settleBy none (occurs (onLoader patchDone) s) s (onLoader patchDone s)) = patchedView r c s := by
      rw [loadView_settleBy, onLoader_up hup, patchDone_stopped hpassed hstop, loadView_patchDone]
    generalize settleBy none (occurs (onLoader patchDone) s) s (onLoader patchDone s) = t at h ⊢
    have hsealed : t.sealed = { s.sealed with
        loadPend := false, img := some (patchImage r c im), patched := s.sealed.patched ||| (1#24 <<< r.val) } := by
      refine (congrArg LoadView.sealed h :).trans ?_
      rw [patchedView, him]
      rfl
    have himg := (congrArg LoadView.img h :)
    refine ⟨?_, fun j hj => ?_, by rw [hsealed], (congrArg ImgLd.passed himg :), (congrArg ImgLd.phase himg :),
      (congrArg ImgLd.errCode himg :), (congrArg LoadView.flash h :), (congrArg LoadView.otp h :), (congrArg LoadView.irqEn h :)⟩
    · rw [railCfg_eq, hsealed]
      exact patchImage_self c hlen
    · rw [railCfg_eq, railCfg_eq, hsealed, him]
      exact patchImage_other hj c im
  · have hfail : Becomes .patchCommit s (imgErr (codeErr 0x81) (idled s)) := by
      refine becomes_onLoader (exec_patchCommit s) hup ?_
      rw [patchDone_running hpassed hstop]
      exact core_imgFail _ s
    refine gives_of_becomes hfail fun t h => ?_
    obtain ⟨e, hload, hcode⟩ := ended_failed h
    exact ⟨hload, hcode, e.phase, e.passed, e.sealed, e.flash, e.otp⟩
  · refine becomes_imgRun (exec_revoke k s) (by decide) k.isLt (by decide) hup rfl (by decide) hidle ?_
    rw [imgRun, BitVec.ofNat_toNat, BitVec.setWidth_eq, revokeKey_unused hunused]
    exact SameCore.refl _
  · refine becomes_imgRun (exec_revoke k s) (by decide) k.isLt (by decide) hup rfl (by decide) hidle ?_
    rw [imgRun, BitVec.ofNat_toNat, BitVec.setWidth_eq, revokeKey_used him hkey, imgReject_eq]
    exact SameCore.refl _
  · refine becomes_imgRun (exec_epochAdvance s) (by decide) (by decide) (by decide) hup rfl (by decide) hidle ?_
    rw [show imgRun 13 0 0 s = epochNext s from rfl, epochNext_room him hroom hnext]
    exact SameCore.refl _

end Sys2Proof.Machine
end

section
/-! PROOF. PMBus reads (R387 to R391, R427). -/

namespace Sys2Proof.Machine

/-! ## Transactions of the SMBus target -/

theorem hostUp_of_smbUp {s : State} (h : smbUp s = true) : hostUp s = true := (Bool.and_eq_true _ _ ▸ h).1

theorem smbRead_up {s : State} (h : smbUp s = true) (f : State → State) : smbRead f s = f s := if_pos h

theorem smbWrite_good {s : State} (h : smbUp s = true) (f : State → State) : smbWrite .good f s = f (reply .ack s) :=
  if_neg (by rw [h]; decide)

/-- A transaction that ends with data offers their PEC. -/
theorem withPec_bytes {code : Nat} {f : State → State} {s t : State} {l : List Byte} (h : f s = reply (.bytes l) t) :
    withPec code f s = { t with resp := .bytes l, respPec := readPec s code l } := by
  unfold withPec
  rw [h]
  rfl

/-- A transaction that ends without data. -/
theorem withPec_plain {code : Nat} {f : State → State} {s t : State} (h : f s = t) (hresp : ∀ l, t.resp ≠ .bytes l) :
    withPec code f s = t := by
  unfold withPec
  rw [h]
  dsimp only
  split
  next l hl => exact absurd hl (hresp l)
  · rfl

/-- A read that leaves the state as it is and returns `l`. -/
theorem becomes_read {c : Instr} {code : Nat} {f : State → State} {s : State} {l : List Byte}
    (hexec : exec c s = act (withPec code f) s) (h : f s = reply (.bytes l) s) : Becomes c s (answered code l s) := by
  refine becomes_act hexec ?_
  rw [withPec_bytes h]
  exact SameCore.refl _

/-! ## The rail that PAGE selects (R388) -/

theorem paged_one {s : State} {r : RailId} {c : RailCfg} (hpage : s.hif.page = BitVec.ofNat 8 r.val) (hc : railCfg s r = some c) :
    paged s = .one r c := by
  have hval : (BitVec.ofNat 8 r.val).toNat = r.val := by rw [BitVec.toNat_ofNat]; omega
  have hne : BitVec.ofNat 8 r.val ≠ 0xFF#8 := fun h => by
    have := congrArg BitVec.toNat h
    rw [hval] at this
    have hlt := r.isLt
    simp at this
    omega
  unfold paged
  rw [hpage, if_neg hne, hval, toFin_val]
  dsimp only
  rw [hc]

theorem paged_all {s : State} (hpage : s.hif.page = 0xFF#8) : paged s = .all := if_pos hpage

section Selected
variable {s : State} {r : RailId} {c : RailCfg} (hup : smbUp s = true) (hpage : s.hif.page = BitVec.ofNat 8 r.val)
  (hc : railCfg s r = some c)
include hup hpage hc

theorem becomes_readPaged {i : Instr} {code n : Nat} {f : State → RailId → RailCfg → Nat}
    (hexec : exec i s = act (withPec code (readPaged n f)) s) : Becomes i s (answered code (natLe n (f s r c)) s) := by
  refine becomes_read hexec ?_
  rw [readPaged, smbRead_up hup, pagedRead, paged_one hpage hc]

end Selected

theorem becomes_plainRead {i : Instr} {code n : Nat} {f : State → Nat} {s : State} (hup : smbUp s = true)
    (hexec : exec i s = act (withPec code (smbRead fun s => plainRead n (f s) s)) s) :
    Becomes i s (answered code (natLe n (f s)) s) := by
  refine becomes_read hexec ?_
  rw [smbRead_up hup, plainRead]

theorem becomes_blockRead {i : Instr} {code : Nat} {l : List Byte} {s : State} (hup : smbUp s = true)
    (hexec : exec i s = act (withPec code (smbRead (blockRead l))) s) :
    Becomes i s (answered code (BitVec.ofNat 8 l.length :: l) s) := by
  refine becomes_read hexec ?_
  rw [smbRead_up hup, blockRead]

/-! ## Blocks of identity -/

theorem mfrRevision_block : (BitVec.ofNat 8 ((leBytes Config.rev).drop 2).reverse.length :: ((leBytes Config.rev).drop 2).reverse) =
    0x02#8 :: ((leBytes Config.rev).drop 2).reverse := by
  rw [List.length_reverse, List.length_drop, length_leBytes]

theorem icDeviceRev_block : (BitVec.ofNat 8 ((leBytes Config.rev).take 1).length :: (leBytes Config.rev).take 1) =
    0x01#8 :: (leBytes Config.rev).take 1 := by
  rw [List.length_take, length_leBytes]
  rfl

/-- Settles O29: each read by its kind, of the selected rail, of the device or of a block. -/
theorem pmbusReads : Obligations.PmbusReads := by
  refine ⟨fun s r c hup hp hc => ?_, fun s r c hup hp hc => ?_, fun s r c hup hp hc => ?_, fun s r c hup hp hc => ?_,
    fun s r c hup hp hc => ?_, fun s r c hup hp hc => ?_, fun s r c hup hp hc => ?_, fun s r c hup hp hc => ?_,
    fun s r c hup hp hc => ?_, fun s r c hup hp hc => ?_, fun s hup => ?_, fun s hup => ?_, fun s hup => ?_, fun s hup => ?_,
    fun s hup => ?_, fun s hup => ?_, fun s hup => ?_, fun s hup => ?_⟩
  · exact becomes_readPaged hup hp hc (f := fun _ _ _ => 0x18) rfl
  · exact becomes_readPaged hup hp hc (f := fun _ _ _ => 0x14) rfl
  · exact becomes_readPaged hup hp hc (f := fun _ _ c => lin16 c.eng.vmax) rfl
  · exact becomes_readPaged hup hp hc (f := fun _ _ c => lin16 c.eng.vmin) rfl
  · exact becomes_readPaged hup hp hc (f := fun s r c => lin16 (outLevel c (ovSetting c s s.rails[r]))) rfl
  · exact becomes_readPaged hup hp hc (f := fun s r c => lin16 (outLevel c (uvSetting c s s.rails[r]))) rfl
  · exact becomes_readPaged hup hp hc (f := fun s r c => toLinear11 (-3) (ilimEff c s.rails[r] : Nat)) rfl
  · exact becomes_readPaged hup hp hc (f := fun s r _ => tvout s.rails[r]) rfl
  · exact becomes_readPaged hup hp hc (f := fun s r _ => toLinear11 (-3) (tiout s.rails[r])) rfl
  · exact becomes_readPaged hup hp hc (f := fun s r c => toLinear11 (-3) (stageHot s c s.rails[r])) rfl
  · exact becomes_plainRead hup (f := fun _ => 0xD0) rfl
  · exact becomes_plainRead hup (f := fun s => toLinear11 (-3) s.thm.tj) rfl
  · exact becomes_plainRead hup (f := fun _ => 0x44) rfl
  · exact becomes_blockRead hup (l := strBytes "TWIRUM") rfl
  · exact becomes_blockRead hup (l := strBytes "XV6192") rfl
  · rw [← mfrRevision_block]
    exact becomes_blockRead hup (l := ((leBytes Config.rev).drop 2).reverse) rfl
  · exact becomes_blockRead hup (l := [0x92#8, 0x61#8, 0x00#8, 0x00#8]) rfl
  · rw [← icDeviceRev_block]
    exact becomes_blockRead hup (l := (leBytes Config.rev).take 1) rfl

end Sys2Proof.Machine
end

section
/-! PROOF. PMBus status reads and CLEAR_FAULTS (R388 to R390). -/

namespace Sys2Proof.Machine

/-! ## Writes to W1C bits when nothing has been raised in the core cycle (R432) -/

/-- No bit has been raised in the present core cycle. -/
def Quiet (s : State) : Prop := s.raised.at_ ≠ cycle s ∨ s.raised.bits = []

theorem w1cWord_quiet {s : State} (h : Quiet s) (page off : Nat) (w : Word) : w1cWord s page off w = w := by
  unfold w1cWord
  rcases h with h | h
  · exact if_pos (by simpa using h)
  · rw [h]
    exact ite_self _

theorem w1cDo_quiet {s : State} (h : Quiet s) (page off : Nat) (w : Word) (f : Word → State → State) :
    w1cDo page off w f s = f w (w1cRenew page off w s) := by
  rw [w1cDo, w1cWord_quiet h]

/-- The state without the rails, and without the marks of bits raised anew. -/
def railless (s : State) : State := { s with rails := .replicate 24 {}, raised := { s.raised with renew := [] } }

theorem railless_w1cRenew (page off : Nat) (w : Word) (s : State) : railless (w1cRenew page off w s) = railless s := by
  unfold w1cRenew
  dsimp only
  split <;> rfl

theorem railless_onRail (r : RailId) (f : Rail → Rail) (s : State) : railless (onRail r f s) = railless s := rfl

theorem quiet_of_railless {s t : State} (h : railless t = railless s) (hq : Quiet s) : Quiet t := by
  have hat : t.raised.at_ = s.raised.at_ := (congrArg (·.raised.at_) h :)
  have hbits : t.raised.bits = s.raised.bits := (congrArg (·.raised.bits) h :)
  have hnow : cycle t = cycle s := (congrArg cycle h :)
  rwa [Quiet, hat, hbits, hnow]

/-! ## The status bits of one rail -/

/-- A W1C write that acts on one rail. -/
def w1cRail (r : RailId) (off : Nat) (w : Word) (f : Word → Rail → Rail) (s : State) : State :=
  w1cDo (0x10 + r.val) off w (fun w => onRail r (f w)) s

/-- An operation that, where no bit has been raised in the core cycle, does `g` to rail `r` and nothing else. -/
def ActsOn (r : RailId) (F : State → State) (g : Rail → Rail) : Prop :=
  ∀ s, Quiet s → railless (F s) = railless s ∧ ∀ j : RailId, (F s).rails[j] = if j = r then g s.rails[j] else s.rails[j]

theorem ActsOn.comp {r : RailId} {F G : State → State} {g h : Rail → Rail} (hF : ActsOn r F g) (hG : ActsOn r G h) :
    ActsOn r (fun s => F (G s)) (fun x => g (h x)) := by
  intro s hq
  obtain ⟨hGrest, hGget⟩ := hG s hq
  obtain ⟨hFrest, hFget⟩ := hF (G s) (quiet_of_railless hGrest hq)
  refine ⟨hFrest.trans hGrest, fun j => ?_⟩
  rw [hFget, hGget]
  split <;> rfl

theorem actsOn_w1cRail (r : RailId) (off : Nat) (w : Word) (f : Word → Rail → Rail) : ActsOn r (w1cRail r off w f) (f w) := by
  intro s hq
  rw [w1cRail, w1cDo_quiet hq]
  refine ⟨(railless_onRail _ _ _).trans (railless_w1cRenew _ _ _ _), fun j => ?_⟩
  rw [onRail_get, w1cRenew_rails]
  split
  next hj => rw [hj]
  · rfl

/-- RAIL_SIL_STATUS: the read error. -/
def silW1c (w : Word) (x : Rail) : Rail := { x with sil := { x.sil with rdErr := x.sil.rdErr && !bitw w 28 } }

/-- RAIL_TARGET: the refusal of a host write. -/
def posW1c (w : Word) (x : Rail) : Rail := { x with pos := { x.pos with hrej := x.pos.hrej && !bitw w 29 } }

theorem clearRail_eq (r : RailId) (c : RailCfg) (s : State) : clearRail r c s =
    w1cRail r 0xA0 0x10000000#32 silW1c (w1cRail r 0x60 0x20000000#32 posW1c (w1cRail r 0x7C 0x21000000#32 protW1c
      (w1cRail r 0x78 0x00C00000#32 seqW1c (w1cRail r 0x74 0x20000000#32 tripW1c (w1cRail r 0x48 0xE0000000#32 shareW1c
        (w1cRail r 0x00 0xE0000000#32 engW1c s)))))) := rfl

/-- A rail whose class C bits have been cleared. -/
def cleared (x : Rail) : Rail :=
  silW1c 0x10000000#32 (posW1c 0x20000000#32 (protW1c 0x21000000#32 (seqW1c 0x00C00000#32 (tripW1c 0x20000000#32
    (shareW1c 0xE0000000#32 (engW1c 0xE0000000#32 x))))))

theorem actsOn_clearRail (r : RailId) (c : RailCfg) : ActsOn r (clearRail r c) cleared :=
  (actsOn_w1cRail r 0xA0 _ silW1c).comp <| (actsOn_w1cRail r 0x60 _ posW1c).comp <| (actsOn_w1cRail r 0x7C _ protW1c).comp <|
    (actsOn_w1cRail r 0x78 _ seqW1c).comp <| (actsOn_w1cRail r 0x74 _ tripW1c).comp <|
      (actsOn_w1cRail r 0x48 _ shareW1c).comp (actsOn_w1cRail r 0x00 _ engW1c)

/-- The status bits that CLEAR_FAULTS clears stand at 0 in `y`; the faults and the trip latch of `x` stand as they were. -/
def StatusCleared (x y : Rail) : Prop :=
  y.pos.hrej = false ∧ y.seq.seqRej = false ∧ y.seq.pgChg = false ∧ y.prot.negLim = false ∧ y.prot.clrRej = false ∧
  y.trip.clrRej = false ∧ y.eng.esat = false ∧ y.eng.sndfb = false ∧ y.eng.marked = false ∧ y.sh.trimSat = false ∧
  y.sh.phRej = false ∧ y.sh.ofsClip = false ∧ y.sil.rdErr = false ∧ y.prot.ovFlt = x.prot.ovFlt ∧ y.trip.latched = x.trip.latched

theorem statusCleared_cleared (x : Rail) : StatusCleared x (cleared x) :=
  ⟨Bool.and_false _, Bool.and_false _, Bool.and_false _, Bool.and_false _, Bool.and_false _, Bool.and_false _, Bool.and_false _,
    Bool.and_false _, Bool.and_false _, Bool.and_false _, Bool.and_false _, Bool.and_false _, Bool.and_false _, Bool.and_true _, rfl⟩

theorem forEach_cons {α : Type} (a : α) (l : List α) (f : α → State → State) (s : State) :
    forEach (a :: l) f s = forEach l f (f a s) := rfl

theorem forEach_nil {α : Type} (f : α → State → State) (s : State) : forEach [] f s = s := rfl

/-- Rail by rail, over the configured ones. -/
theorem clearRails_spec (l : List (RailId × RailCfg)) (hl : (l.map Prod.fst).Nodup) {s : State} (hq : Quiet s) :
    railless (forEach l (fun rc => clearRail rc.1 rc.2) s) = railless s ∧ ∀ j : RailId,
      (forEach l (fun rc => clearRail rc.1 rc.2) s).rails[j] =
        if j ∈ l.map Prod.fst then cleared s.rails[j] else s.rails[j] := by
  induction l generalizing s with
  | nil => rw [forEach_nil]; exact ⟨rfl, fun j => (if_neg List.not_mem_nil).symm⟩
  | cons a l ih =>
    rw [List.map_cons] at hl ⊢
    obtain ⟨ha, hl⟩ := List.nodup_cons.1 hl
    obtain ⟨hrest, hget⟩ := actsOn_clearRail a.1 a.2 s hq
    obtain ⟨hrest', hget'⟩ := ih hl (quiet_of_railless hrest hq)
    refine ⟨by rw [forEach_cons, hrest', hrest], fun j => ?_⟩
    rw [forEach_cons, hget', hget]
    by_cases hj : j = a.1
    · subst hj
      rw [if_neg ha, if_pos rfl, if_pos List.mem_cons_self]
    · rw [if_neg hj]
      exact if_congr (List.mem_cons.trans (or_iff_right hj)).symm rfl rfl

theorem mem_configured_fst {s : State} {j : RailId} : j ∈ (configured s).map Prod.fst ↔ (railCfg s j).isSome = true := by
  simp only [configured, List.map_filterMap, List.mem_filterMap, Option.map_map]
  constructor
  · rintro ⟨r, -, h⟩
    cases hc : railCfg s r with
    | none => rw [hc] at h; cases h
    | some c => rw [hc] at h; cases h; exact Option.isSome_iff_exists.mpr ⟨c, hc⟩
  · intro h
    obtain ⟨c, hc⟩ := Option.isSome_iff_exists.mp h
    exact ⟨j, List.mem_finRange j, by rw [hc]; rfl⟩

theorem nodup_configured_fst (s : State) : ((configured s).map Prod.fst).Nodup := by
  rw [configured, List.map_filterMap]
  refine List.Nodup.filterMap (fun a a' b ha ha' => ?_) (List.nodup_finRange 24)
  have hfst : ∀ r : RailId, b ∈ ((railCfg s r).map fun c => (r, c)).map Prod.fst → b = r := by
    intro r h
    obtain ⟨rc, hrc, rfl⟩ := Option.map_eq_some_iff.mp h
    obtain ⟨c, -, rfl⟩ := Option.map_eq_some_iff.mp hrc
    rfl
  exact (hfst a ha).symm.trans (hfst a' ha')

/-! ## Reads with PAGE 0xFF (R388) -/

theorem becomes_readAll {i : Instr} {code n : Nat} {f : State → RailId → RailCfg → Nat} {s : State} (hup : smbUp s = true)
    (hpage : s.hif.page = 0xFF#8) (hexec : exec i s = act (withPec code (readPaged n f)) s) :
    Becomes i s { answered code (List.replicate n 0xFF#8) s with
      hif := { s.hif with cmlData := true, cmlErr := true, cmlCnt := min 255 (s.hif.cmlCnt + 1) } } := by
  refine becomes_act hexec ?_
  have h : readPaged n f s = reply (.bytes (List.replicate n 0xFF#8)) (badData s) := by
    rw [readPaged, smbRead_up hup, pagedRead, paged_all hpage]
    rfl
  rw [withPec_bytes h, badData, satInc_eq_min]
  exact SameCore.refl _

/-! ## CLEAR_FAULTS (R389) -/

theorem exec_clearFaults (p : Pec) (s : State) : exec (.clearFaults p) s = act (withPec 0x03 (clearCmd p)) s := rfl

/-- The acknowledged state with STATUS_CML cleared. -/
def cmlCleared (s : State) : State :=
  { reply .ack s with hif := { s.hif with cmlBad := false, cmlData := false, cmlPec := false } }

/-- GLB_STATUS with its bits 25 to 20 cleared. -/
def glbCleared (g : Glb) : Glb :=
  { g with cfgCor := false, refFb := false, slowClk := false, wdRst := false, accErr := false, sealWr := false }

theorem glbWrite_status (s : State) : glbWrite 0x10 0x03F00000#32 s = { s with glb := glbCleared s.glb } := by
  have h : ∀ (b : Bool) {i : Nat}, bitw 0x03F00000#32 i = false → (b && !bitw 0x03F00000#32 i) = b := fun b i hi => by
    rw [hi]; exact Bool.and_true b
  have h' : ∀ (b : Bool) {i : Nat}, bitw 0x03F00000#32 i = true → (b && !bitw 0x03F00000#32 i) = false := fun b i hi => by
    rw [hi]; exact Bool.and_false b
  simp only [glbWrite, glbCleared]
  rw [h s.glb.pllLock rfl, h s.glb.dllLock rfl, h s.glb.dpwmClk rfl, h s.glb.vddBo rfl, h s.glb.vddaBo rfl, h s.glb.cfgUnc rfl,
    h' s.glb.cfgCor rfl, h' s.glb.refFb rfl, h' s.glb.slowClk rfl, h' s.glb.wdRst rfl, h' s.glb.accErr rfl, h' s.glb.sealWr rfl]

/-- The device's own part of CLEAR_FAULTS. -/
def devCleared (s : State) : State := w1cDo 0x00 0x10 0x03F00000#32 (glbWrite 0x10) (cmlCleared s)

theorem devCleared_spec {s : State} (hq : Quiet s) :
    railless (devCleared s) = railless { cmlCleared s with glb := glbCleared s.glb } ∧ (devCleared s).rails = s.rails := by
  have hq' : Quiet (cmlCleared s) := hq
  rw [devCleared, w1cDo_quiet hq', glbWrite_status]
  have hrest := railless_w1cRenew 0x00 0x10 0x03F00000#32 (cmlCleared s)
  have hrails := w1cRenew_rails 0x00 0x10 0x03F00000#32 (cmlCleared s)
  generalize w1cRenew 0x00 0x10 0x03F00000#32 (cmlCleared s) = u at hrest hrails ⊢
  have hglb : u.glb = s.glb := (congrArg State.glb hrest :)
  refine ⟨?_, hrails⟩
  rw [hglb]
  exact (congrArg (fun v : State => { v with glb := glbCleared s.glb }) hrest :)

theorem paged_devCleared (s : State) : paged (devCleared s) = paged s := by
  have h : ∀ u v : State, v.hif.page = u.hif.page → v.sealed = u.sealed → paged v = paged u := fun u v hp hs => by
    unfold paged railCfg
    rw [hp, hs]
  refine h s (devCleared s) ?_ ?_
  · rw [devCleared, w1cDo, w1cRenew_eq]; rfl
  · rw [devCleared, w1cDo, w1cRenew_eq]; rfl

theorem clearCmd_good {s : State} (hup : smbUp s = true) (hpaged : paged s ≠ .invalid) :
    clearCmd .good s = pagedWrite clearRail (devCleared s) := by
  have hack : paged (reply .ack s) = paged s := rfl
  rw [clearCmd, smbWrite_good hup, hack]
  cases h : paged s with
  | invalid => exact absurd h hpaged
  | all => rfl
  | one r c => rfl

/-- What CLEAR_FAULTS leaves beside the rails. -/
theorem clearFaults_rest {s u : State} (hq : Quiet s) (h : railless u = railless (devCleared s)) :
    u.resp = .ack ∧ u.hif = { s.hif with cmlBad := false, cmlData := false, cmlPec := false } ∧ u.chans = s.chans ∧
    u.glb = glbCleared s.glb ∧ u.sealed = s.sealed := by
  have hu := h.trans (devCleared_spec hq).1
  exact ⟨(congrArg State.resp hu :), (congrArg State.hif hu :), (congrArg State.chans hu :), (congrArg State.glb hu :),
    (congrArg State.sealed hu :)⟩

theorem queueAll_rails (old : State) (l : List Nat) (s : State) : (queueAll old l s).rails = s.rails := by
  have hone : ∀ n (s : State), (queueOne old n s).rails = s.rails := fun n s => by
    unfold queueOne
    dsimp only
    repeat' split
    all_goals rfl
  unfold queueAll
  split
  · exact forEach_keeps State.rails _ _ hone s
  · rfl

theorem raisedPut_rails (was : List Bool) (l : List Nat) (s : State) : (raisedPut was l s).rails = s.rails := by
  unfold raisedPut
  dsimp only
  split
  · split <;> rfl
  · split <;> rfl

/-- What follows from a command freezes Sillage buffers, and does nothing else to a rail. -/
theorem settleBy_rails (p : Option PortId) (o : List Nat) (old s : State) :
    (settleBy p o old s).rails = (freezeAll (raisedNow old s) s).rails := by
  have hend : ∀ (pend : List Nat) (u : State), (alertSettle p old (ibiSettle pend u)).rails = u.rails := fun _ _ => rfl
  unfold settleBy
  dsimp only
  rw [hend, queueAll_rails, raisedPut_rails]

theorem freezeSil_rdErr (now ev : Nat) (x : Rail) : (freezeSil now ev x).sil.rdErr = x.sil.rdErr := by
  have hcause : (silCause now ev x.sil).rdErr = x.sil.rdErr := by unfold silCause; split <;> rfl
  have hkept : ∀ l : RailSil, (silKept now l).rdErr = l.rdErr := fun l => by
    unfold silKept
    split
    · split <;> rfl
    · rfl
  unfold freezeSil
  dsimp only
  split
  · exact hcause
  · exact (hkept _).trans hcause

theorem settleBy_rail_rdErr (p : Option PortId) (o : List Nat) (old s : State) (r : RailId) :
    (settleBy p o old s).rails[r].sil.rdErr = s.rails[r].sil.rdErr := by
  have hfreeze : (freezeAll (raisedNow old s) s).rails = (onCfgRails (fun r c x => match freezer (raisedNow old s) r c with
      | some n => freezeSil (cycle s) n x | none => x) s).rails := by
    unfold freezeAll; dsimp only; split <;> rfl
  rw [settleBy_rails, hfreeze, onCfgRails_get]
  split
  · split
    · exact freezeSil_rdErr _ _ _
    · rfl
  · rfl

theorem StatusCleared.settle {x : Rail} {p : Option PortId} {o : List Nat} {old s : State} {r : RailId}
    (h : StatusCleared x s.rails[r]) : StatusCleared x (settleBy p o old s).rails[r] := by
  unfold StatusCleared at h ⊢
  rw [settleBy_rail_pos, settleBy_rail_seq, settleBy_rail_prot, settleBy_rail_trip, settleBy_rail_eng, settleBy_rail_sh,
    settleBy_rail_rdErr]
  exact h

/-- What CLEAR_FAULTS gives, from the meaning's result `u`; rail `j` has been cleared where `cl j`. -/
theorem gives_clearFaults {s u : State} {P : State → Prop} {cl : RailId → Prop} (hup : smbUp s = true) (hq : Quiet s)
    (hu : clearCmd .good s = u) (hrest : railless u = railless (devCleared s))
    (hcl : ∀ j, cl j → u.rails[j] = cleared s.rails[j]) (hcl' : ∀ j, ¬ cl j → u.rails[j] = s.rails[j])
    (hP : ∀ t : State, t.resp = .ack → t.hif.cmlBad = false ∧ t.hif.cmlData = false ∧ t.hif.cmlPec = false → t.chans = s.chans →
      t.sealed = s.sealed → (t.glb.cfgCor = false ∧ t.glb.refFb = false ∧ t.glb.slowClk = false ∧ t.glb.wdRst = false ∧
        t.glb.accErr = false ∧ t.glb.sealWr = false ∧ t.glb.pllLock = s.glb.pllLock) →
      (∀ j, cl j → StatusCleared s.rails[j] t.rails[j]) →
      (∀ j : RailId, ¬ cl j → { t.rails[j] with sil := {} } = { s.rails[j] with sil := {} }) → P t) :
    Gives (.clearFaults .good) s P := by
  obtain ⟨hresp, hhif, hchans, hglb, hsealed⟩ := clearFaults_rest hq hrest
  have hplain : withPec 0x03 (clearCmd .good) s = u := withPec_plain hu fun l h => by rw [hresp] at h; cases h
  refine gives_act (exec_clearFaults .good s) ?_
  rw [hplain]
  generalize occurs (withPec 0x03 (clearCmd .good)) s = o
  refine hP _ ?_ ?_ ?_ ?_ ?_ (fun j hj => ?_) fun j hj => ?_
  · rw [settleBy_resp, hresp]
  · rw [settleBy_hif_cmlBad, settleBy_hif_cmlData, settleBy_hif_cmlPec, hhif]
    exact ⟨rfl, rfl, rfl⟩
  · rw [settleBy_chans, hchans]
  · rw [settleBy_sealed, hsealed]
  · rw [settleBy_glb_cfgCor, settleBy_glb_refFb, settleBy_glb_slowClk, settleBy_glb_wdRst, settleBy_glb_accErr,
      settleBy_glb_sealWr, settleBy_glb_pllLock, hglb]
    exact ⟨rfl, rfl, rfl, rfl, rfl, rfl, rfl⟩
  · refine StatusCleared.settle ?_
    rw [hcl j hj]
    exact statusCleared_cleared _
  · rw [(settleBy_core _ _ _ _).rails j, hcl' j hj]

/-- Settles O30: CLEAR_FAULTS writes words of W1C bits, each of which acts on its rail alone. -/
theorem pmbusStatus : Obligations.PmbusStatus := by
  refine ⟨fun s r c hup hp hc => ?_, fun s r c hup hp hc => ?_, fun s r c hup hp hc => ?_, fun s r c hup hp hc => ?_,
    fun s r c hup hp hc => ?_, fun s r c hup hp hc => ?_, fun s hup => ?_, fun s hup hp => ?_, fun s hup hp => ?_, fun s hup hp => ?_,
    fun s hup hp => ?_, fun s hup hp => ?_, fun s hup hp => ?_, fun s hup hp hq => ?_, fun s r c hup hp hc hq => ?_⟩
  · exact becomes_readPaged hup hp hc (f := fun s r _ => statByte s r) rfl
  · exact becomes_readPaged hup hp hc (f := fun s r _ => statWord s r) rfl
  · exact becomes_readPaged hup hp hc (f := fun s r _ => statVout s.rails[r]) rfl
  · exact becomes_readPaged hup hp hc (f := fun s r _ => statIout s.rails[r]) rfl
  · exact becomes_readPaged hup hp hc (f := fun s r _ => statTemp s s.rails[r]) rfl
  · exact becomes_readPaged hup hp hc (f := statMfr) rfl
  · exact becomes_plainRead hup (f := cmlByte) rfl
  · exact becomes_readAll hup hp (code := 0x79) (n := 2) (f := fun s r _ => statWord s r) rfl
  · exact becomes_readAll hup hp (code := 0x78) (n := 1) (f := fun s r _ => statByte s r) rfl
  · exact becomes_readAll hup hp (code := 0x7A) (n := 1) (f := fun s r _ => statVout s.rails[r]) rfl
  · exact becomes_readAll hup hp (code := 0x7B) (n := 1) (f := fun s r _ => statIout s.rails[r]) rfl
  · exact becomes_readAll hup hp (code := 0x7D) (n := 1) (f := fun s r _ => statTemp s s.rails[r]) rfl
  · exact becomes_readAll hup hp (code := 0x80) (n := 1) (f := statMfr) rfl
  · have hcmd : clearCmd .good s = forEach (configured (devCleared s)) (fun rc => clearRail rc.1 rc.2) (devCleared s) := by
      rw [clearCmd_good hup (by rw [paged_all hp]; exact fun h => nomatch h), pagedWrite, paged_devCleared, paged_all hp]
    obtain ⟨hdev, hrails⟩ := devCleared_spec hq
    have hq' : Quiet (devCleared s) := quiet_of_railless hdev hq
    obtain ⟨hrest, hget⟩ := clearRails_spec (configured (devCleared s)) (nodup_configured_fst _) hq'
    have hcfg : ∀ j, railCfg (devCleared s) j = railCfg s j := fun j => by
      obtain ⟨-, -, -, -, hsealed⟩ := clearFaults_rest hq (rfl : railless (devCleared s) = _)
      rw [railCfg_eq, railCfg_eq, hsealed]
    have hmem : ∀ j, j ∈ (configured (devCleared s)).map Prod.fst ↔ (railCfg s j).isSome = true := fun j => by
      rw [mem_configured_fst, hcfg]
    rw [hrails] at hget
    refine gives_clearFaults (cl := fun j => (railCfg s j).isSome = true) hup hq hcmd hrest
      (fun j hj => by rw [hget, if_pos ((hmem j).mpr hj)]) (fun j hj => by rw [hget, if_neg (mt (hmem j).mp hj)])
      fun t hresp ⟨hbad, hdata, hpec⟩ hchans hsealed ⟨hcor, hfb, hslow, hwd, hacc, hwr, hpll⟩ hcl hkeep => ?_
    exact ⟨hresp, hbad, hdata, hpec, hchans, hcor, hfb, hslow, hwd, hacc, hwr, hpll, hsealed,
      fun j hj => hkeep j (by rw [hj]; exact Bool.false_ne_true), fun j c hj => hcl j (by rw [hj]; rfl)⟩
  · have hcmd : clearCmd .good s = clearRail r c (devCleared s) := by
      rw [clearCmd_good hup (by rw [paged_one hp hc]; exact fun h => nomatch h), pagedWrite, paged_devCleared, paged_one hp hc]
    obtain ⟨hdev, hrails⟩ := devCleared_spec hq
    obtain ⟨hrest, hget⟩ := actsOn_clearRail r c _ (quiet_of_railless hdev hq)
    rw [hrails] at hget
    refine gives_clearFaults (cl := fun j => j = r) hup hq hcmd hrest
      (fun j hj => by rw [hget, if_pos hj]) (fun j hj => by rw [hget, if_neg hj])
      fun t hresp ⟨hbad, hdata, hpec⟩ hchans hsealed ⟨hcor, hfb, hslow, hwd, hacc, hwr, hpll⟩ hcl hkeep => ?_
    obtain ⟨h1, h2, h3, h4, h5, h6, h7, h8, h9, h10, h11, h12, h13, h14, h15⟩ := hcl r rfl
    exact ⟨hresp, hbad, hdata, hpec, h1, h2, h3, h4, h5, h6, h7, h8, h9, h10, h11, h12, h13, h14, h15, hcor, hfb, hslow, hwd, hacc,
      hwr, hpll, hchans, hsealed, hkeep⟩

end Sys2Proof.Machine
end

section
/-! PROOF. Register writes, the SMBus time-out, the alert response and unsupported codes (R11, R12, R302, R383, R385, R389). -/

namespace Sys2Proof.Machine

theorem exec_smbusTimeout (s : State) :
    exec .smbusTimeout s = act (onHost fun s => { s with hif := { s.hif with smbTo := true } }) s := rfl
theorem exec_alertResponse (s : State) : exec .alertResponse s = act alertAnswer s := rfl
theorem exec_pmbusUnsupported (k : Byte) (s : State) : exec (.pmbusUnsupported k) s = act (unknownCmd k) s := rfl

/-! ## REGISTER_WRITE -/

theorem becomes_registerWrite {s u : State} {i : Iface} {a : BitVec 16} {w : Word} (hup : hostUp s = true)
    (hfac : factoryHit s a = false) (hreq : (regWrite i a w s).pwr.softReq = false) (h : SameCore u (regWrite i a w s)) :
    Becomes (.registerWrite i a w) s u :=
  becomes_onHost (exec_registerWrite i w hfac) hup (by rwa [xferEnd_of_no_request hreq])

/-- An address outside the factory page that no register occupies takes a write as ACCERR alone (R11, R12). -/
theorem regWrite_unoccupied {i : Iface} {s : State} {a : BitVec 16} (w : Word) (h : regVal i s a = none) :
    regWrite i a w s = accErr s := by
  rw [regWrite, h]
  rfl

theorem regWrite_occupied {i : Iface} {s : State} {a : BitVec 16} (w : Word) (h : (regVal i s a).isSome = true) :
    regWrite i a w s = pageWrite i (pageOf a) (offOf a) (w1cWord s (pageOf a) (offOf a) w) (w1cRenew (pageOf a) (offOf a) w s) := by
  rw [regWrite, if_neg (by rw [Option.isNone_iff_eq_none, ← Option.not_isSome_iff_eq_none, h]; exact not_not_intro rfl)]
  rfl

/-! ## GLB_STATUS and GLB_ID -/

theorem pageWrite_glb (i : Iface) (off : Nat) (w : Word) (s : State) : pageWrite i 0 off w s = glbWrite off w s := rfl

theorem factoryHit_glb (s : State) (off : Nat) (h : off < 256) : factoryHit s (BitVec.ofNat 16 off) = false := by
  have hpage : pageOf (BitVec.ofNat 16 off) = 0 := by
    rw [pageOf, BitVec.toNat_ofNat]
    omega
  rw [factoryHit, hpage]
  exact Bool.and_false _

/-- GLB_STATUS after a write that meets no bit of the core cycle. -/
theorem regWrite_glbStatus (i : Iface) (w : Word) (s : State) :
    regWrite i 0x0010#16 w s = glbWrite 0x10 (w1cWord s 0 0x10 w) (w1cRenew 0 0x10 w s) := by
  rw [regWrite_occupied w rfl]
  rfl

/-- A write to GLB_ID is ignored: the register is read-only. -/
theorem regWrite_glbId (i : Iface) (w : Word) (s : State) : regWrite i 0x0000#16 w s = w1cRenew 0 0 w s := by
  rw [regWrite_occupied w rfl]
  rfl

theorem core_raised (s : State) (x : Raised) : SameCore s { s with raised := x } :=
  ⟨rfl, rfl, rfl, rfl, rfl, rfl, rfl, fun _ => rfl, fun _ => rfl, rfl, rfl, rfl, rfl, rfl, rfl, rfl, rfl, rfl, rfl, rfl, rfl, rfl, rfl,
    rfl, rfl, rfl, rfl⟩

theorem core_w1cRenew (page off : Nat) (w : Word) (s : State) : SameCore s (w1cRenew page off w s) := by
  rw [w1cRenew_eq]
  exact core_raised _ _

/-- PLL loss of lock, source 384, is bit 31 of GLB_STATUS: raised in this core cycle it stands against a write (R432). -/
theorem w1cWord_pllLock {s : State} (hat : s.raised.at_ = cycle s) (hbits : s.raised.bits = [384]) (w : Word) :
    w1cWord s 0 0x10 w = w &&& ~~~(1#32 <<< 31) := by
  rw [w1cWord, hat, hbits]
  simp only [bne_self_eq_false, Bool.false_eq_true, if_false]
  rfl

/-! ## The enables of an interrupt group (R302) -/

theorem getLsbD_irqSet (base cnt : Nat) (w : Word) (e : IrqEn) {x : Nat} (hx : x < 448) :
    (irqSet base cnt w e).getLsbD x = if base ≤ x ∧ x < base + cnt then w.getLsbD (x - base) else e.getLsbD x := by
  have hmask : ((2 ^ cnt - 1) * 2 ^ base).testBit x = decide (base ≤ x ∧ x < base + cnt) := by
    rw [Nat.testBit_mul_two_pow, Nat.testBit_two_pow_sub_one]
    by_cases hb : base ≤ x
    · simp [hb, Nat.sub_lt_iff_lt_add' hb]
    · simp [hb]
  have hval : (bits w 0 cnt * 2 ^ base).testBit x = (decide (base ≤ x ∧ x < base + cnt) && w.getLsbD (x - base)) := by
    rw [Nat.testBit_mul_two_pow, testBit_bits_zero]
    by_cases hb : base ≤ x
    · simp [hb, Nat.sub_lt_iff_lt_add' hb]
    · simp [hb]
  simp only [irqSet, BitVec.getLsbD_or, BitVec.getLsbD_and, BitVec.getLsbD_not, BitVec.getLsbD_ofNat, hx, hmask, hval]
  by_cases hin : base ≤ x ∧ x < base + cnt <;> simp [hin]

/-- The groups of sources: page, first source, sources of a group, groups (R428). -/
def irqPages : List (Nat × Nat × Nat × Nat) :=
  [(0x60, 0, 12, 16), (0x6C, 192, 12, 8), (0x61, 288, 4, 16), (0x6D, 352, 4, 8), (0x62, 384, 12, 1), (0x63, 396, 2, 8),
    (0x6A, 412, 3, 1), (0x64, 415, 5, 1), (0x65, 420, 6, 1), (0x66, 426, 6, 1), (0x67, 432, 4, 1), (0x68, 436, 5, 1),
    (0x69, 441, 5, 1), (0x6B, 446, 2, 1)]

/-- Slot `k` of a page of `irqPages` is a group of at most 12 sources. -/
theorem irqGroup_of_mem {pg b n m k : Nat} (h : (pg, b, n, m) ∈ irqPages) (hk : k < m) :
    (∃ g, irqGroup pg k = some (b + n * k, n, g)) ∧ n ≤ 12 ∧ 0x60 ≤ pg ∧ pg < 0x6E ∧ k < 16 ∧ (pg = 0x6B → k = 0) := by
  have hall : ∀ p ∈ irqPages, ∀ k < p.2.2.2,
      ((irqGroup p.1 k).map fun g => (g.1, g.2.1)) = some (p.2.1 + p.2.2.1 * k, p.2.2.1) ∧ p.2.2.1 ≤ 12 ∧ 0x60 ≤ p.1 ∧
        p.1 < 0x6E ∧ k < 16 ∧ (p.1 = 0x6B → k = 0) := by decide
  obtain ⟨hgroup, hrest⟩ := hall _ h k hk
  obtain ⟨⟨b', n', g⟩, hsome, heq⟩ := Option.map_eq_some_iff.mp hgroup
  cases heq
  exact ⟨⟨g, hsome⟩, hrest⟩

section
variable {pg b n m k : Nat} (h : (pg, b, n, m) ∈ irqPages) (hk : k < m)
include h hk

theorem pageOf_irq : pageOf (BitVec.ofNat 16 (256 * pg + 16 * k)) = pg := by
  obtain ⟨-, -, -, hpg, hk16, -⟩ := irqGroup_of_mem h hk
  rw [pageOf, BitVec.toNat_ofNat]
  omega

theorem offOf_irq : offOf (BitVec.ofNat 16 (256 * pg + 16 * k)) = 16 * k := by
  obtain ⟨-, -, -, hpg, hk16, -⟩ := irqGroup_of_mem h hk
  rw [offOf, BitVec.toNat_ofNat]
  omega

theorem factoryHit_irq (s : State) : factoryHit s (BitVec.ofNat 16 (256 * pg + 16 * k)) = false := by
  obtain ⟨-, -, -, hpg, -, -⟩ := irqGroup_of_mem h hk
  have hne : pg ≠ 0xF0 := by omega
  rw [factoryHit, pageOf_irq h hk, beq_false_of_ne hne, Bool.and_false]

theorem irqWord_isSome (s : State) : (irqWord s pg (16 * k)).isSome = true := by
  obtain ⟨⟨g, hgroup⟩, -, -, -, -, h6B⟩ := irqGroup_of_mem h hk
  have hslot : 16 * k / 16 = k := Nat.mul_div_cancel_left k (by decide)
  unfold irqWord
  rw [if_neg (by omega), if_neg (by omega), if_neg (by omega), hslot, hgroup]
  rfl

theorem regVal_irq (i : Iface) (s : State) : (regVal i s (BitVec.ofNat 16 (256 * pg + 16 * k))).isSome = true := by
  obtain ⟨-, -, hlo, hhi, -, -⟩ := irqGroup_of_mem h hk
  rw [regVal, pageOf_irq h hk, offOf_irq h hk]
  iterate 10 rw [if_neg (by omega)]
  rw [if_neg (by omega), if_neg (by omega), if_neg (by omega), if_neg (by omega), if_neg (by omega), if_neg (by omega),
    if_neg (by omega), if_pos (by omega)]
  exact irqWord_isSome h hk s

theorem irqWrite_group (w : Word) (s : State) :
    irqWrite pg (16 * k) w s = { s with irqEn := irqSet (b + n * k) n w s.irqEn } := by
  obtain ⟨⟨g, hgroup⟩, -, -, -, -, h6B⟩ := irqGroup_of_mem h hk
  have hslot : 16 * k / 16 = k := Nat.mul_div_cancel_left k (by decide)
  rw [irqWrite, if_neg (by omega), hslot, hgroup]
  exact if_pos (by omega)

theorem pageWrite_irq (i : Iface) (w : Word) (s : State) : pageWrite i pg (16 * k) w s = irqWrite pg (16 * k) w s := by
  obtain ⟨-, -, hlo, hhi, -, -⟩ := irqGroup_of_mem h hk
  unfold pageWrite
  rw [if_pos (by omega), blockWrite, if_neg (by omega), if_neg (by omega), if_neg (by omega)]

/-- A write to an enable register (R302). -/
theorem regWrite_irq (i : Iface) (w : Word) (s : State) : regWrite i (BitVec.ofNat 16 (256 * pg + 16 * k)) w s =
    { w1cRenew pg (16 * k) w s with irqEn := irqSet (b + n * k) n w s.irqEn } := by
  obtain ⟨-, hn, -⟩ := irqGroup_of_mem h hk
  have hset (v : Word) (e : IrqEn) : irqSet (b + n * k) n (w1cWord s pg (16 * k) v) e = irqSet (b + n * k) n v e := by
    rw [irqSet, bits_w1cWord _ _ _ _ (by omega)]
    rfl
  rw [regWrite_occupied w (regVal_irq h hk i s), pageOf_irq h hk, offOf_irq h hk, pageWrite_irq h hk, irqWrite_group h hk, hset,
    w1cRenew_eq]

end

/-- Settles O28: a write goes to its page by its address; the bits of the core cycle touch the upper half word alone. -/
theorem hostRegisters : Obligations.HostRegisters := by
  refine ⟨fun s i a w hup hreq hfac hnone => ?unoccupied, fun s i w pg b n m k hup hreq hmem hk => ?enables,
    fun s i w hup hreq hq => ?status, fun s i w hup hreq hat hbits => ?raisedNow, fun s i w hup hreq => ?readOnly,
    fun s hup => ?timeout, fun s hup hlow => ?alert, fun s hlow => ?noAlert, fun s k hup hk => ?unsupported⟩
  case unoccupied =>
    refine becomes_registerWrite hup hfac ?_ ?_
    · rwa [regWrite_unoccupied w hnone]
    · rw [regWrite_unoccupied w hnone]
      exact SameCore.refl _
  case enables =>
    refine gives_onHost (exec_registerWrite i w (factoryHit_irq hmem hk s)) hup ?_
    rw [regWrite_irq hmem hk i w s, xferEnd_of_no_request (by rwa [w1cRenew_eq])]
    refine ⟨fun x => ?_, ?_, ?_, ?_, ?_⟩
    · rw [settleBy_irqEn, getLsbD_irqSet _ _ _ _ x.isLt, Nat.mul_succ, Nat.add_assoc]
    · rw [settleBy_seqs, w1cRenew_rails]
    · rw [settleBy_sealed, w1cRenew_sealed]
    · rw [settleBy_chans, w1cRenew_chans]
    · rw [settleBy_flash, w1cRenew_eq]
  case status =>
    have hwrite : regWrite i 0x0010#16 w s = glbWrite 0x10 w (w1cRenew 0 0x10 w s) := by
      rw [regWrite_glbStatus, w1cWord_quiet hq]
    refine becomes_registerWrite hup (factoryHit_glb s 0x10 (by decide)) ?_ ?_
    · rw [hwrite, w1cRenew_eq]
      exact hreq
    · rw [hwrite, w1cRenew_eq]
      exact core_raised (glbWrite 0x10 w s) _
  case raisedNow =>
    have hwrite : regWrite i 0x0010#16 w s = glbWrite 0x10 (w &&& ~~~(1#32 <<< 31)) (w1cRenew 0 0x10 w s) := by
      rw [regWrite_glbStatus, w1cWord_pllLock hat hbits]
    have hkept (x : Nat) (hx : x ≠ 31) : bitw (w &&& ~~~(1#32 <<< 31)) x = bitw w x := getLsbD_and_not_bit w hx
    have hmasked : bitw (w &&& ~~~(1#32 <<< 31)) 31 = false := by simp [bitw]
    refine gives_onHost (exec_registerWrite i w (factoryHit_glb s 0x10 (by decide))) hup ?_
    rw [hwrite, w1cRenew_eq, xferEnd_of_no_request (by exact hreq)]
    rw [settleBy_glb_pllLock, settleBy_glb_dllLock, settleBy_glb_accErr, settleBy_sealed, settleBy_chans]
    refine ⟨?_, ?_, ?_, rfl, rfl⟩
    · show (s.glb.pllLock && !bitw (w &&& ~~~(1#32 <<< 31)) 31) = _
      rw [hmasked, Bool.not_false, Bool.and_true]
    · show (s.glb.dllLock && !bitw (w &&& ~~~(1#32 <<< 31)) 30) = _
      rw [hkept 30 (by decide)]
    · show (s.glb.accErr && !bitw (w &&& ~~~(1#32 <<< 31)) 21) = _
      rw [hkept 21 (by decide)]
  case readOnly =>
    refine becomes_registerWrite hup (factoryHit_glb s 0 (by decide)) ?_ ?_
    · rwa [regWrite_glbId, w1cRenew_eq]
    · rw [regWrite_glbId]
      exact core_w1cRenew 0 0 w s
  case timeout => exact becomes_onHost (exec_smbusTimeout s) hup (SameCore.refl _)
  case alert =>
    refine becomes_act (exec_alertResponse s) ?_
    rw [alertAnswer, hup, hlow]
    exact SameCore.refl _
  case noAlert =>
    refine becomes_act (exec_alertResponse s) ?_
    rw [alertAnswer, hlow, Bool.and_false]
    exact SameCore.refl _
  case unsupported =>
    refine becomes_act (exec_pmbusUnsupported k s) ?_
    rw [unknownCmd, hk, if_neg Bool.false_ne_true, if_pos hup, badCode, satInc_eq_min]
    exact SameCore.refl _

end Sys2Proof.Machine
end

section
/-! PROOF. A STOP of a rail whose configuration counts more positions than its PHASE list has (R224). -/

namespace Sys2Proof.Machine

/-- Rail 0 with an empty PHASE list beside its count of positions, and with a stop table that begins with DISCHARGE. -/
def dischargeFirst : RailCfg :=
  { spreadRail 0 with
    acc := { (spreadRail 0).acc with phase := [] }
    seq := { (spreadRail 0).seq with stop := [⟨.discharge, 0, 0, []⟩] } }

/-- RUN with that rail in its start table, one position of it active. -/
def dischargeRunning : State :=
  onRail 0 (fun x => { x with seq := { x.seq with st := .start }, sh := { x.sh with nact := 1 } })
    { State.reset with
      pwr := { State.reset.pwr with dev := .run }
      sealed := { img := some { sharedBanks with rails := some dischargeFirst :: List.replicate 23 none } } }

/-- A command whose effect changes channel `ch` does not leave that channel as it was. -/
theorem not_gives_of_chan {c : Instr} {s : State} {f : State → State} {P : State → Prop} {ch : ChanId}
    (hexec : exec c s = act f s) (hne : (f s).chans[ch].out ≠ s.chans[ch].out) (hP : ∀ t, P t → t.chans[ch] = s.chans[ch]) :
    ¬ Gives c s P := by
  rintro ⟨t, ht, hPt⟩
  rw [hexec] at ht
  have hset : settleBy none (occurs f s) s (f s) = t := Host.Outcome.next.inj ht
  have hkept := hP t hPt
  rw [← hset, settleBy_chans] at hkept
  exact hne (congrArg Chan.out hkept)

theorem exec_railSeqStop (r : RailId) (w : Word) (s : State) : exec (.railSeqStop r w) s = act (onRailSeq r w) s := rfl
theorem exec_operation (d : Option Byte) (pec : Pec) (s : State) :
    exec (.operation d pec) s = act (withPec 0x01 (operationCmd d pec)) s := rfl

/-- A STOP on the register page, and one by OPERATION, drive channel 0 low. -/
theorem stops_drive_low : (onRailSeq 0 0xA5000002#32 dischargeRunning).chans[(0 : ChanId)].out = .low ∧
    (withPec 0x01 (operationCmd (some 0x00#8) .good) dischargeRunning).chans[(0 : ChanId)].out = .low := by decide +kernel

/-- Refutes O12: a state may hold a configuration of one position with an empty PHASE list; DISCHARGE then takes the missing entry
for channel 0 and drives it low, although the accord does not have that channel. -/
theorem not_stopCommands : ¬ Obligations.StopCommands := by
  unfold Obligations.StopCommands
  rintro ⟨hstop, _⟩
  refine not_gives_of_chan (exec_railSeqStop 0 0xA5000002#32 dischargeRunning) (ch := 0) ?_ ?_
    (hstop dischargeRunning 0 dischargeFirst 0xA5000002#32 .discharge rfl rfl (by decide) (by decide) (.inl rfl) rfl (by decide)
      (by decide) (fun h => nomatch h))
  · rw [stops_drive_low.1]
    decide
  · rintro t ⟨_, _, _, _, _, _, _, hchans, _⟩
    exact hchans 0 List.not_mem_nil

/-- Refutes O31: OPERATION with the same configuration drives channel 0 low, although the accord does not have it. -/
theorem not_pmbusWrites : ¬ Obligations.PmbusWrites := by
  unfold Obligations.PmbusWrites
  rintro ⟨_, _, _, _, _, hoff, _⟩
  refine not_gives_of_chan (exec_operation (some 0x00#8) .good dischargeRunning) (ch := 0) ?_ ?_
    (hoff dischargeRunning 0 dischargeFirst 0x00#8 .discharge rfl rfl rfl (.inl rfl) (.inl rfl) rfl (by decide) (by decide)
      (fun h => nomatch h))
  · rw [stops_drive_low.2]
    decide
  · rintro t ⟨_, _, _, _, _, _, _, _, hchans, _⟩
    exact hchans 0 List.not_mem_nil

end Sys2Proof.Machine
end

section
/-! PROOF. START of a rail from a register page or a load port (R193, R222), its refusals (R220), and host targets (R195). -/

namespace Sys2Proof.Machine

/-! ## The start of a rail -/

theorem posAtList_setMove_rest (now : Nat) (ms : List Mv) : posAtList (⟨now, 0, 0, 0⟩ :: ms) now = 0 := by
  simp [posAtList, mvAt]

/-- What `t` shows of rail `r` that has been started from `s` (R222). -/
structure Started (r : RailId) (c : RailCfg) (s t : State) : Prop where
  st : t.rails[r].seq.st = .start
  smIdx : t.rails[r].seq.smIdx = 0
  cal : t.rails[r].seq.cal = true
  sw : t.rails[r].seq.sw = false
  nact : t.rails[r].sh.nact = navl c s.rails[r]
  pos : posNow t t.rails[r] = 0
  chans : ∀ ch : ChanId, { t.chans[ch] with nextCs := none } = { s.chans[ch] with nextCs := none }
  others : ∀ ch : ChanId, ch.val ∉ accordChans c → t.chans[ch] = s.chans[ch]
  sealed : t.sealed = s.sealed
  rails : ∀ j : RailId, j ≠ r → { t.rails[j] with sil := {} } = { s.rails[j] with sil := {} }

theorem stopCarriers_chan (r : RailId) (c : RailCfg) (s : State) (ch : ChanId) : (stopCarriers r c s).chans[ch] =
    if (accordChans c).contains ch.val then { s.chans[ch] with nextCs := none } else s.chans[ch] := onChans_get _ _ _ _

theorem stopCarriers_rail (r : RailId) (c : RailCfg) (s : State) (j : RailId) : (stopCarriers r c s).rails[j] =
    if j = r then { s.rails[r] with seq := { s.rails[r].seq with mcsWait := none, mcsAt := none, started := false } }
    else s.rails[j] := by
  rw [stopCarriers, onRail_get, onChans_rails]

/-- With both sense lines whole, START begins the calibration of the rail (R154, R222, R236). -/
theorem started_startRail {s : State} {r : RailId} (c : RailCfg) (hp : s.rails[r].prot.snsP = false)
    (hn : s.rails[r].prot.snsN = false) : Started r c s (startRail r c s) := by
  unfold startRail
  extract_lets f t x
  have ht (j : RailId) : t.rails[j] = if j = r then f (stopCarriers r c s).rails[r] else s.rails[j] := by
    rw [arm_rails, disarm_rails, onRail_get]
    split
    next h => subst h; rfl
    next h => rw [stopCarriers_rail, if_neg h]
  have hr : t.rails[r] = f { s.rails[r] with seq := { s.rails[r].seq with mcsWait := none, mcsAt := none, started := false } } := by
    rw [ht, if_pos rfl, stopCarriers_rail, if_pos rfl]
  have hx : x = t.rails[r] := rfl
  have hsp : x.prot.snsP = false := by rw [hx, hr]; exact hp
  have hsn : x.prot.snsN = false := by rw [hx, hr]; exact hn
  rw [if_neg (by rw [hsp]; exact Bool.false_ne_true), if_neg (by rw [hsn]; exact Bool.false_ne_true)]
  have hch (ch : ChanId) : t.chans[ch] = (stopCarriers r c s).chans[ch] := rfl
  refine ⟨by rw [hr], by rw [hr], by rw [hr], by rw [hr], by rw [hr]; rfl, ?_, fun ch => ?_, fun ch h => ?_, rfl, fun j h => ?_⟩
  · rw [hr]
    exact posAtList_setMove_rest s.now _
  · rw [hch, stopCarriers_chan]
    split <;> rfl
  · rw [hch, stopCarriers_chan, if_neg (by simpa using h)]
  · rw [ht, if_neg h]

/-- The start lasts through whatever leaves the rails, the channels, the image and the time. -/
theorem Started.congr {r : RailId} {c : RailCfg} {s t s' t' : State} (h : Started r c s t) (hrails : t'.rails = t.rails)
    (hchans : t'.chans = t.chans) (hsealed : t'.sealed = t.sealed) (hnow : t'.now = t.now)
    (hnavl : navl c s.rails[r] = navl c s'.rails[r]) (hchans' : s.chans = s'.chans) (hsealed' : s.sealed = s'.sealed)
    (hrails' : ∀ j : RailId, j ≠ r → s.rails[j] = s'.rails[j]) : Started r c s' t' := by
  obtain ⟨hst, hidx, hcal, hsw, hnact, hpos, hch, hother, hseal, hrest⟩ := h
  rw [← hrails, posNow, ← hnow] at hpos
  refine ⟨by rw [hrails, hst], by rw [hrails, hidx], by rw [hrails, hcal], by rw [hrails, hsw], by rw [hrails, hnact, hnavl], hpos,
    fun ch => ?_, fun ch h => ?_, by rw [hsealed, hseal, hsealed'], fun j hj => ?_⟩
  · rw [hchans, hch, hchans']
  · rw [hchans, hother ch h, hchans']
  · rw [hrails, hrest j hj, hrails' j hj]

/-- It lasts through what follows from a command. -/
theorem Started.settle {r : RailId} {c : RailCfg} {s t : State} (h : Started r c s t) (p : Option PortId) (o : List Nat)
    (old : State) : Started r c s (settleBy p o old t) := by
  obtain ⟨hst, hidx, hcal, hsw, hnact, hpos, hch, hother, hseal, hrest⟩ := h
  refine ⟨by rw [settleBy_rail_seq, hst], by rw [settleBy_rail_seq, hidx], by rw [settleBy_rail_seq, hcal],
    by rw [settleBy_rail_seq, hsw], by rw [settleBy_rail_sh, hnact], ?_, fun ch => ?_, fun ch h => ?_, by rw [settleBy_sealed, hseal],
    fun j hj => ?_⟩
  · rw [posNow, settleBy_rail_pos, settleBy_now]
    exact hpos
  · rw [settleBy_chans, hch]
  · rw [settleBy_chans, hother ch h]
  · rw [(settleBy_core _ _ _ _).rails j, hrest j hj]

theorem startOk_of {s : State} {r : RailId} (hst : railState s.rails[r] = 0) (hdev : s.pwr.dev = .run)
    (hhold : s.rails[r].seq.discHold = false) : startOk s r = true := by
  rw [startOk, isStopped, hst, hdev, hhold]
  rfl

/-! ## What follows from a command leaves every armed event but the start of a log commit -/

/-- Whatever is due in `s` is due in `t` and the other way round, but for the start of a log commit. -/
def SameDue (s t : State) : Prop := ∀ d : Due, d.ev ≠ .logCommitStart → (d ∈ t.agenda ↔ d ∈ s.agenda)

theorem SameDue.of_eq {s t : State} (h : t.agenda = s.agenda) : SameDue s t := fun d _ => by rw [h]

theorem SameDue.trans {s t u : State} (h : SameDue s t) (h' : SameDue t u) : SameDue s u :=
  fun d hd => (h' d hd).trans (h d hd)

theorem sameDue_rearm_commit (n : Nat) (s : State) : SameDue s (rearm n .logCommitStart s) := by
  intro d hd
  have hne : d ≠ ⟨s.now + n, .logCommitStart, false⟩ := fun h => hd (congrArg Due.ev h)
  simp [rearm, hd, hne]

theorem sameDue_queueOne (old : State) (n : Nat) (s : State) : SameDue s (queueOne old n s) := by
  unfold queueOne
  dsimp only
  split_ifs
  · exact .of_eq rfl
  all_goals first | exact .of_eq rfl | exact (SameDue.of_eq rfl).trans (sameDue_rearm_commit _ _)

theorem sameDue_queueAll (old : State) (l : List Nat) (s : State) : SameDue s (queueAll old l s) := by
  unfold queueAll
  split
  · generalize l.filter logged = l
    rename_i h
    clear h
    induction l generalizing s with
    | nil => exact .of_eq rfl
    | cons n l ih => exact (sameDue_queueOne old n s).trans (ih _)
  · exact .of_eq rfl

theorem sameDue_settleBy (p : Option PortId) (o : List Nat) (old s : State) : SameDue s (settleBy p o old s) := by
  have hfreeze (l : List Nat) : (freezeAll l s).agenda = s.agenda := by
    unfold freezeAll; dsimp only; split <;> rfl
  have hput (was : List Bool) (l : List Nat) (t : State) : (raisedPut was l t).agenda = t.agenda := by
    unfold raisedPut; dsimp only; split_ifs <;> rfl
  refine (SameDue.of_eq ((hput _ _ _).trans (hfreeze _))).trans ((sameDue_queueAll old (raisedNow old s) _).trans (.of_eq rfl))

theorem isArmed_settleBy {e : Instr} (he : e ≠ .logCommitStart) (p : Option PortId) (o : List Nat) (old s : State) :
    isArmed e (settleBy p o old s) = isArmed e s := by
  rw [Bool.eq_iff_iff, isArmed, isArmed, List.any_eq_true, List.any_eq_true]
  refine exists_congr fun d => and_congr_left fun hd => ?_
  exact sameDue_settleBy p o old s d (by rw [beq_iff_eq] at hd; rwa [hd])

/-! ## RAIL_SEQ (R220, R244) -/

/-- The status bits of RAIL_SEQ are bits 23 and 22: those of the core cycle leave the key of a written word (R244, R314). -/
theorem bitLoc_railSeq_bit_lt (n : Nat) (h : (bitLoc n).2.1 = 0x78) : (bitLoc n).2.2 < 24 := by
  have hrail : ∀ k < 12, (railLoc k).1 = 0x78 → (railLoc k).2 < 24 := by decide
  have hbank : ∀ k < 4, ([(0x80, 31), (0x80, 30), (0x80, 29), (0x84, 31)].getD k (0, 0)).1 ≠ 0x78 := by decide
  have hmore : ∀ k < 6, (moreLoc k).1 ≠ 0x78 := by decide
  have htail (k : Nat) : (tailLoc k).2.1 ≠ 0x78 := by
    unfold tailLoc
    split_ifs <;> exact Nat.ne_of_beq_eq_false rfl
  revert h
  unfold bitLoc
  split_ifs
  · exact hrail _ (Nat.mod_lt n (by decide))
  · exact fun h => absurd h (hbank _ (Nat.mod_lt n (by decide)))
  · intro h; dsimp only at h; omega
  · intro h; dsimp only at h; omega
  · exact fun h => absurd h (htail _)
  · intro h
    dsimp only at h
    exact absurd h (hmore _ (Nat.mod_lt _ (by decide)))

theorem w1cWord_railSeq_high (s : State) (page : Nat) (w : Word) {i : Nat} (hi : 24 ≤ i) :
    (w1cWord s page 0x78 w).getLsbD i = w.getLsbD i := by
  unfold w1cWord
  split
  · rfl
  · generalize s.raised.bits = l
    induction l generalizing w with
    | nil => rfl
    | cons n l ih =>
      rw [List.foldl_cons, ih]
      dsimp only
      split
      next h =>
        rw [Bool.and_eq_true, beq_iff_eq, beq_iff_eq] at h
        exact getLsbD_and_not_bit w (by have := bitLoc_railSeq_bit_lt n h.2; omega)
      · rfl

theorem bits_key_w1cWord (s : State) (page : Nat) (w : Word) : bits (w1cWord s page 0x78 w) 24 8 = bits w 24 8 := by
  apply Nat.eq_of_testBit_eq
  intro i
  simp only [bits, Nat.testBit_mod_two_pow, Nat.testBit_div_two_pow]
  congr 1
  exact w1cWord_railSeq_high s page w (Nat.le_add_left 24 i)

/-- A keyed write to RAIL_SEQ: its status bits, then its command (R244). -/
theorem onRailSeq_keyed {s : State} {r : RailId} {c : RailCfg} {w : Word} (hup : hostUp s = true) (hc : railCfg s r = some c)
    (hkey : bits w 24 8 = 0xA5) : onRailSeq r w s =
      seqCmd r c (bits w 0 4)
        (onRail r (seqW1c (w1cWord s (0x10 + r.val) 0x78 w)) (w1cRenew (0x10 + r.val) 0x78 w s)) := by
  simp only [onRailSeq, hup, hc, if_true]
  rw [w1cDo, seqWrite, bits_key_w1cWord, if_pos hkey, bits_w1cWord _ _ _ _ (by decide)]

theorem exec_railSeqStart (r : RailId) (w : Word) (s : State) : exec (.railSeqStart r w) s = act (onRailSeq r w) s := rfl

/-- An accepted START of a register write (R193, R222). -/
theorem gives_railSeqStart {s : State} {r : RailId} {c : RailCfg} {w : Word} {P : State → Prop} (hup : hostUp s = true)
    (hc : railCfg s r = some c) (hkey : bits w 24 8 = 0xA5) (hcmd : bits w 0 4 = 1) (hst : railState s.rails[r] = 0)
    (hdev : s.pwr.dev = .run) (hhold : s.rails[r].seq.discHold = false) (hp : s.rails[r].prot.snsP = false)
    (hn : s.rails[r].prot.snsN = false) (hP : ∀ t, Started r c s t → P t) : Gives (.railSeqStart r w) s P := by
  refine gives_act (exec_railSeqStart r w s) (hP _ (Started.settle ?_ none _ s))
  rw [onRailSeq_keyed hup hc hkey, hcmd]
  generalize w1cWord s (0x10 + r.val) 0x78 w = v
  have hr : (onRail r (seqW1c v) (w1cRenew (0x10 + r.val) 0x78 w s)).rails[r] = seqW1c v s.rails[r] := by
    rw [onRail_get, if_pos rfl, w1cRenew_rails]
  have hok : startOk (onRail r (seqW1c v) (w1cRenew (0x10 + r.val) 0x78 w s)) r = true :=
    startOk_of (by rw [hr]; exact hst) (by rw [onRail_pwr, w1cRenew_pwr, hdev]) (by rw [hr]; exact hhold)
  rw [seqCmd, if_pos hok]
  refine Started.congr (started_startRail c (by rw [hr]; exact hp) (by rw [hr]; exact hn)) rfl rfl rfl rfl ?_ ?_ ?_ fun j hj => ?_
  · rw [hr]; rfl
  · rw [onRail_chans, w1cRenew_chans]
  · rw [onRail_sealed, w1cRenew_sealed]
  · rw [onRail_get, if_neg hj, w1cRenew_rails]

/-! ## Refused commands (R220) -/

/-- The status bits of a refused START or STOP (R220). -/
def seqRejected (x : Rail) : Rail :=
  { x with seq := { x.seq with seqRej := true, rejCnt := if x.seq.rejCnt < 15 then x.seq.rejCnt + 1 else 15 } }

theorem seqRefuse_seqW1c {v : Word} (hv : bitw v 23 = false) (hv' : bitw v 22 = false) (x : Rail) :
    seqRefuse (seqW1c v x) = seqRejected x := by
  simp [seqRefuse, seqW1c, seqRejected, hv, hv', satInc]

/-- A keyed command that is refused: SEQREJ and its count (R220). -/
theorem core_onRailSeq_refused {s : State} {r : RailId} {c : RailCfg} {w : Word} (hup : hostUp s = true)
    (hc : railCfg s r = some c) (hkey : bits w 24 8 = 0xA5) (hw : bitw w 23 = false) (hw' : bitw w 22 = false)
    (hrefused : ∀ t : State, t.pwr = s.pwr → railState t.rails[r] = railState s.rails[r] →
      seqCmd r c (bits w 0 4) t = onRail r seqRefuse t) : SameCore (onRail r seqRejected s) (onRailSeq r w s) := by
  have hv := bitw_w1cWord_of_not (s := s) (page := 0x10 + r.val) (off := 0x78) hw
  have hv' := bitw_w1cWord_of_not (s := s) (page := 0x10 + r.val) (off := 0x78) hw'
  rw [onRailSeq_keyed hup hc hkey]
  generalize w1cWord s (0x10 + r.val) 0x78 w = v at hv hv'
  rw [hrefused _ (by rw [onRail_pwr, w1cRenew_pwr]) (by rw [onRail_get, if_pos rfl, w1cRenew_rails]; rfl), onRail_onRail,
    show seqRefuse ∘ seqW1c v = seqRejected from funext (seqRefuse_seqW1c hv hv')]
  exact core_onRail_w1cRenew _ _ _ _ _ _

theorem seqCmd_start_refused {s : State} {r : RailId} (c : RailCfg) (h : s.pwr.dev ≠ .run) :
    seqCmd r c 1 s = onRail r seqRefuse s := by
  refine if_neg ?_
  simp [startOk, h]

theorem seqCmd_stop_refused {s : State} {r : RailId} (c : RailCfg) (h : railState s.rails[r] = 0) :
    seqCmd r c 2 s = onRail r seqRefuse s := by
  refine if_neg ?_
  rw [stopOk, h]
  decide

end Sys2Proof.Machine
end

section
/-! PROOF. Budgets of the load ports and the steps of the limits (R217, R239, R289); the commands to start, stop and aim a rail. -/

namespace Sys2Proof.Machine

/-! ## Targets (R195) -/

theorem putTarget_pos (src : BitVec 2) (v : Nat) (x : Rail) :
    (putTarget src v x).pos = { x.pos with target := BitVec.ofNat 16 v, src := src, tgtDue := true } := by
  unfold putTarget
  dsimp only
  split
  · rw [sndAbortRail_pos]
  · rfl

/-- What `t` shows of rail `r` that has taken the target `v` from source `src` since `s`. -/
structure Aimed (r : RailId) (src : BitVec 2) (v : Nat) (s t : State) : Prop where
  target : t.rails[r].pos.target = BitVec.ofNat 16 v
  src : t.rails[r].pos.src = src
  due : t.rails[r].pos.tgtDue = true
  moves : t.rails[r].pos.moves = s.rails[r].pos.moves
  seq : t.rails[r].seq = s.rails[r].seq
  chans : t.chans = s.chans
  sealed : t.sealed = s.sealed
  rails : ∀ j : RailId, j ≠ r → { t.rails[j] with sil := {} } = { s.rails[j] with sil := {} }

theorem aimed_putTarget (r : RailId) (src : BitVec 2) (v : Nat) (s : State) : Aimed r src v s (onRail r (putTarget src v) s) := by
  have hr : (onRail r (putTarget src v) s).rails[r] = putTarget src v s.rails[r] := by rw [onRail_get, if_pos rfl]
  refine ⟨?_, ?_, ?_, ?_, ?_, rfl, rfl, fun j hj => by rw [onRail_get, if_neg hj]⟩ <;> rw [hr]
  · rw [putTarget_pos]
  · rw [putTarget_pos]
  · rw [putTarget_pos]
  · rw [putTarget_pos]
  · exact putTarget_seq src v _

theorem aimed_putHost (r : RailId) (v : Nat) (s u : State) : Aimed r 1 v s (onRail r (putHost u v) s) := by
  have hr : (onRail r (putHost u v) s).rails[r] = putHost u v s.rails[r] := by rw [onRail_get, if_pos rfl]
  have hpos (x : Rail) : (putHost u v x).pos = { (putTarget 1 v x).pos with hostAt := some (cycle u) } := rfl
  refine ⟨?_, ?_, ?_, ?_, ?_, rfl, rfl, fun j hj => by rw [onRail_get, if_neg hj]⟩ <;> rw [hr]
  · rw [hpos, putTarget_pos]
  · rw [hpos, putTarget_pos]
  · rw [hpos, putTarget_pos]
  · rw [hpos, putTarget_pos]
  · exact putHost_seq u v _

theorem Aimed.congr {r : RailId} {src : BitVec 2} {v : Nat} {s t s' t' : State} (h : Aimed r src v s t)
    (hrails : t'.rails = t.rails) (hchans : t'.chans = t.chans) (hsealed : t'.sealed = t.sealed)
    (hrails' : s.rails = s'.rails) (hchans' : s.chans = s'.chans) (hsealed' : s.sealed = s'.sealed) : Aimed r src v s' t' := by
  obtain ⟨htarget, hsrc, hdue, hmoves, hseq, hch, hseal, hrest⟩ := h
  refine ⟨by rw [hrails, htarget], by rw [hrails, hsrc], by rw [hrails, hdue], by rw [hrails, hmoves, hrails'],
    by rw [hrails, hseq, hrails'], by rw [hchans, hch, hchans'], by rw [hsealed, hseal, hsealed'],
    fun j hj => by rw [hrails, hrest j hj, hrails']⟩

theorem Aimed.settle {r : RailId} {src : BitVec 2} {v : Nat} {s t : State} (h : Aimed r src v s t) (p : Option PortId) (o : List Nat)
    (old : State) : Aimed r src v s (settleBy p o old t) := by
  obtain ⟨htarget, hsrc, hdue, hmoves, hseq, hch, hseal, hrest⟩ := h
  refine ⟨by rw [settleBy_rail_pos, htarget], by rw [settleBy_rail_pos, hsrc], by rw [settleBy_rail_pos, hdue],
    by rw [settleBy_rail_pos, hmoves], by rw [settleBy_rail_seq, hseq], by rw [settleBy_chans, hch], by rw [settleBy_sealed, hseal],
    fun j hj => by rw [(settleBy_core _ _ _ _).rails j, hrest j hj]⟩

theorem raiseRefused_of_free {s : State} (h : raiseFrozen s = false) (x : Rail) (v : Nat) : raiseRefused s x v = false := by
  rw [raiseRefused, h]
  rfl

/-- A host write that TARGET takes (R195). -/
theorem gives_railTargetWrite {s : State} {r : RailId} {c : RailCfg} {w : Word} {P : State → Prop} (hup : hostUp s = true)
    (hc : railCfg s r = some c) (hw : bitw w 29 = false) (hon : railState s.rails[r] = 2) (hfree : raiseFrozen s = false)
    (hP : ∀ t, Aimed r 1 (clampN c.eng.vmin c.eng.vmax (bits w 0 16)) s t → P t) : Gives (.railTargetWrite r w) s P := by
  refine gives_act (exec_railTargetWrite r w s) (hP _ (Aimed.settle ?_ none _ s))
  rw [onRailReg_configured _ _ _ hup hc, targetWrite_of_not_clear _ _ _ (bitw_w1cWord_of_not hw),
    bits_w1cWord _ _ _ _ (Nat.le_refl 16), hostTarget_of_taken (by rwa [w1cRenew_rails])
      (by rw [w1cRenew_rails]; exact raiseRefused_of_free (by rwa [raiseFrozen_w1cRenew]) _ _)]
  exact (aimed_putHost r _ _ _).congr rfl rfl rfl (w1cRenew_rails _ _ _ _) (w1cRenew_chans _ _ _ _) (w1cRenew_sealed _ _ _ _)

/-! ## Budgets (R239) -/

/-- What a new value of PORT_BUDGET gives rail `q`. -/
def budgetGive (w : Word) (q : RailId) (s : State) : State :=
  match railCfg s q, portOf s q with
  | some c, some (_, _, sh) => if sh = 0 then s else budgetRail q c (shareOf (bits w 0 16) sh) s
  | _, _ => s

theorem budgetWrite_eq (p : PortId) (w : Word) (s : State) : budgetWrite p w s =
    forEach (ownedRails s p) (budgetGive w) (onPort p (fun x => { x with budget := w.setWidth 16 }) s) := rfl

/-- A rail takes a budget value. -/
def putBudget (r : RailId) (b v : Nat) (stepping : Bool) (s : State) : State :=
  onRail r (fun x => { x with lim := { x.lim with goal := b, bud := v, stepping := stepping } }) s

/-- The cases of R239: a value that lowers the limit is reached in steps, another one at once. -/
theorem budgetRail_eq (r : RailId) (c : RailCfg) (b : Nat) (s : State) : budgetRail r c b s =
    if s.rails[r].lim.stepping then
      if b < s.rails[r].lim.bud then putBudget r b s.rails[r].lim.bud true s
      else disarm (· == .budgetStep r) (putBudget r b b false s)
    else if ilimEff c s.rails[r] ≤ b then putBudget r b b false s
    else rearm (tperiodTicks c) (.budgetStep r) (putBudget r b (ilimEff c s.rails[r]) true s) := rfl

/-- What a budget write of another rail leaves of rail `r`, and of the rest. -/
structure BudgetFrame (r : RailId) (s t : State) : Prop where
  rail : t.rails[r] = s.rails[r]
  armed : isArmed (.budgetStep r) t = isArmed (.budgetStep r) s
  chans : t.chans = s.chans
  sealed : t.sealed = s.sealed
  ports : t.ports = s.ports

theorem BudgetFrame.refl (r : RailId) (s : State) : BudgetFrame r s s := ⟨rfl, rfl, rfl, rfl, rfl⟩

theorem BudgetFrame.trans {r : RailId} {s t u : State} (h : BudgetFrame r s t) (h' : BudgetFrame r t u) : BudgetFrame r s u :=
  ⟨h'.rail.trans h.rail, h'.armed.trans h.armed, h'.chans.trans h.chans, h'.sealed.trans h.sealed, h'.ports.trans h.ports⟩

theorem isArmed_disarm_ne {e e' : Instr} (h : e ≠ e') (s : State) : isArmed e (disarm (· == e') s) = isArmed e s := by
  rw [isArmed, isArmed, disarm_agenda, List.any_filter]
  congr 1
  funext d
  by_cases hd : d.ev = e
  · simp [hd, h]
  · simp [hd]

theorem isArmed_arm_ne {e e' : Instr} (h : e ≠ e') (n : Nat) (s : State) : isArmed e (arm n e' s) = isArmed e s := by
  simp [isArmed, h.symm]

theorem isArmed_rearm_ne {e e' : Instr} (h : e ≠ e') (n : Nat) (s : State) : isArmed e (rearm n e' s) = isArmed e s :=
  (isArmed_arm_ne h n _).trans (isArmed_disarm_ne h s)

theorem isArmed_disarm_self (e : Instr) (s : State) : isArmed e (disarm (· == e) s) = false := by
  simp [isArmed]

theorem budgetFrame_budgetRail {r q : RailId} (h : q ≠ r) (c : RailCfg) (b : Nat) (s : State) :
    BudgetFrame r s (budgetRail q c b s) := by
  have hne : Instr.budgetStep r ≠ .budgetStep q := fun he => h (Instr.budgetStep.inj he).symm
  have hput (v : Nat) (st : Bool) : BudgetFrame r s (putBudget q b v st s) :=
    ⟨by rw [putBudget, onRail_get, if_neg h.symm], rfl, rfl, rfl, rfl⟩
  rw [budgetRail_eq]
  split
  · split
    · exact hput _ _
    · exact (hput _ _).trans ⟨rfl, isArmed_disarm_ne hne _, rfl, rfl, rfl⟩
  · split
    · exact hput _ _
    · exact (hput _ _).trans ⟨rfl, isArmed_rearm_ne hne _ _, rfl, rfl, rfl⟩

theorem budgetFrame_budgetGive {r q : RailId} (h : q ≠ r) (w : Word) (s : State) : BudgetFrame r s (budgetGive w q s) := by
  unfold budgetGive
  split
  · split
    · exact .refl r s
    · exact budgetFrame_budgetRail h _ _ s
  · exact .refl r s

theorem budgetFrame_forEach {r : RailId} {l : List RailId} (h : r ∉ l) (w : Word) (s : State) :
    BudgetFrame r s (forEach l (budgetGive w) s) := by
  induction l generalizing s with
  | nil => exact .refl r s
  | cons q l ih =>
    rw [List.mem_cons, not_or] at h
    exact (budgetFrame_budgetGive (Ne.symm h.1) w s).trans (ih h.2 _)

/-- What a budget value leaves of every rail and of the rest. -/
theorem budgetGive_rest (w : Word) (q : RailId) (s : State) : (budgetGive w q s).chans = s.chans ∧
    (budgetGive w q s).sealed = s.sealed ∧ (budgetGive w q s).ports = s.ports := by
  unfold budgetGive
  split
  · split
    · exact ⟨rfl, rfl, rfl⟩
    · rw [budgetRail_eq]
      split_ifs <;> exact ⟨rfl, rfl, rfl⟩
  · exact ⟨rfl, rfl, rfl⟩

theorem forEach_budgetGive_rest (w : Word) (l : List RailId) (s : State) : (forEach l (budgetGive w) s).chans = s.chans ∧
    (forEach l (budgetGive w) s).sealed = s.sealed ∧ (forEach l (budgetGive w) s).ports = s.ports := by
  induction l generalizing s with
  | nil => exact ⟨rfl, rfl, rfl⟩
  | cons q l ih =>
    obtain ⟨hch, hs, hp⟩ := ih (budgetGive w q s)
    obtain ⟨hch', hs', hp'⟩ := budgetGive_rest w q s
    exact ⟨hch.trans hch', hs.trans hs', hp.trans hp'⟩

/-- A rail that occurs once in the list takes its value once: from a state that shows it as `s` does. -/
theorem forEach_budgetGive_once {r : RailId} {l : List RailId} (h : l.count r = 1) (w : Word) (s : State) :
    ∃ u, BudgetFrame r s u ∧ BudgetFrame r (budgetGive w r u) (forEach l (budgetGive w) s) := by
  induction l generalizing s with
  | nil => rw [List.count_nil] at h; exact absurd h (by decide)
  | cons q l ih =>
    by_cases hq : q = r
    · subst hq
      rw [List.count_cons_self] at h
      have hnot : q ∉ l := List.count_eq_zero.mp (by omega)
      exact ⟨s, .refl q s, budgetFrame_forEach hnot w _⟩
    · rw [List.count_cons_of_ne hq] at h
      obtain ⟨u, hu, hlast⟩ := ih h (budgetGive w q s)
      exact ⟨u, (budgetFrame_budgetGive hq w s).trans hu, hlast⟩

theorem exec_portBudgetWrite (p : PortId) (w : Word) (s : State) :
    exec (.portBudgetWrite p w) s = act (onHost (budgetWrite p w)) s := rfl

theorem railCfg_of_sealed {s t : State} (h : t.sealed = s.sealed) (r : RailId) : railCfg t r = railCfg s r := by
  rw [railCfg_eq, railCfg_eq, h]

theorem portOf_of_sealed {s t : State} (h : t.sealed = s.sealed) (r : RailId) : portOf t r = portOf s r := by
  simp only [portOf, portCfg, h]

/-- What a write of PORT_BUDGET gives a rail that its port owns, with a share of its own: `f` says what the rail takes from the
state before. -/
theorem gives_portBudgetWrite {s : State} {p : PortId} {w : Word} {r : RailId} {c : RailCfg} {i : PortId} {k sh : Nat}
    {P : State → Prop} (hup : hostUp s = true) (hone : (ownedRails s p).count r = 1) (hc : railCfg s r = some c)
    (hport : portOf s r = some (i, k, sh)) (hsh : sh ≠ 0)
    (hP : ∀ u t : State, u.rails[r] = s.rails[r] → t.rails[r].lim = (budgetRail r c (shareOf (bits w 0 16) sh) u).rails[r].lim →
      t.rails[r].seq = (budgetRail r c (shareOf (bits w 0 16) sh) u).rails[r].seq → t.chans = s.chans → t.sealed = s.sealed →
      isArmed (.budgetStep r) t = isArmed (.budgetStep r) (budgetRail r c (shareOf (bits w 0 16) sh) u) → P t) :
    Gives (.portBudgetWrite p w) s P := by
  refine gives_onHost (exec_portBudgetWrite p w s) hup ?_
  rw [budgetWrite_eq]
  obtain ⟨u, hu, hlast⟩ := forEach_budgetGive_once hone w (onPort p (fun x => { x with budget := w.setWidth 16 }) s)
  obtain ⟨hch, hs, -⟩ := forEach_budgetGive_rest w (ownedRails s p) (onPort p (fun x => { x with budget := w.setWidth 16 }) s)
  have hgive : budgetGive w r u = budgetRail r c (shareOf (bits w 0 16) sh) u := by
    rw [budgetGive, railCfg_of_sealed hu.sealed, portOf_of_sealed hu.sealed]
    rw [show railCfg (onPort p (fun x => { x with budget := w.setWidth 16 }) s) r = some c from hc,
      show portOf (onPort p (fun x => { x with budget := w.setWidth 16 }) s) r = some (i, k, sh) from hport]
    exact if_neg hsh
  rw [hgive] at hlast
  refine hP u _ hu.rail ?_ ?_ ?_ ?_ ?_
  · rw [settleBy_rail_lim, hlast.rail]
  · rw [settleBy_rail_seq, hlast.rail]
  · rw [settleBy_chans]; exact hch
  · rw [settleBy_sealed]; exact hs
  · rw [isArmed_settleBy (e := .budgetStep r) (fun h => nomatch h), hlast.armed]

/-! ## Steps of the limits (R239, R289) -/

theorem exec_budgetStep (r : RailId) (s : State) :
    exec (.budgetStep r) s = act (onGrid (.budgetStep r) r (budgetStepped r)) s := rfl
theorem exec_throttleStep (r : RailId) (s : State) :
    exec (.throttleStep r) s = act (onGrid (.throttleStep r) r (throttleStepped r)) s := rfl

/-- A step instant of a configured rail. -/
theorem becomes_onGrid {i e : Instr} {r : RailId} {c : RailCfg} {f : RailCfg → State → State} {s u : State}
    (hexec : exec i s = act (onGrid e r f) s) (hdue : isDue e s = true) (hc : railCfg s r = some c)
    (h : SameCore u (f c (disarm (· == e) s))) : Becomes i s u := by
  refine becomes_onFire (hexec.trans rfl) hdue ?_
  rw [show railCfg (disarm (· == e) s) r = some c from hc]
  exact h

theorem core_onRail_disarm (r : RailId) (f : Rail → Rail) (q : Instr → Bool) (s : State) :
    SameCore (onRail r f s) (onRail r f (disarm q s)) := core_agenda (onRail r f s) _

theorem core_ite_arm {s t : State} (h : SameCore s t) (b : Prop) [Decidable b] (n : Nat) (e : Instr) :
    SameCore s (if b then arm n e t else t) := by
  split
  · exact h.trans (core_arm n e t)
  · exact h

theorem stepsTaken_disarm {s : State} (q : Instr → Bool) (hup : islandUp s = true) (hans : answers s = true) :
    stepsTaken (disarm q s) = true := by
  show (islandUp s && answers s) = true
  rw [hup, hans]
  rfl

/-- Settles O11: START through `Started`, targets through `Aimed`, budgets rail by rail, steps by their cases. -/
theorem startStopTargetLimits : Obligations.StartStopTargetLimits := by
  refine ⟨fun s r c w hup hc hkey hcmd hst hdev hhold hp hn => ?start, fun s r c hup hc hdev => ?startRefused,
    fun s r c hup hc hst => ?stopRefused, fun s r c w hup hc hon hw hfree => ?target, fun s r c w hup hc hoff => ?targetRefused,
    fun s p w hup => ?budget, fun s p w r c i sh hup hone hc hport hsh hstep hle => ?atOnce,
    fun s p w r c i sh hup hone hc hport hsh hstep hlt => ?inSteps, fun s p w r c i sh hup hone hc hport hsh hstep hlt => ?lower,
    fun s p w r c i sh hup hone hc hport hsh hstep hle => ?higher, fun s r c hdue hup hc hans => ?budgetStep,
    fun s r c hdue hup hc hans hthr => ?throttleDown, fun s r c hdue hup hc hans hthr => ?throttleUp⟩
  case start =>
    exact gives_railSeqStart hup hc hkey hcmd hst hdev hhold hp hn fun t h =>
      ⟨h.st, h.smIdx, h.cal, h.sw, h.nact, h.pos, h.chans, h.others, h.sealed, h.rails⟩
  case startRefused =>
    refine becomes_act (exec_railSeqStart r _ s) (core_onRailSeq_refused hup hc (by decide) (by decide) (by decide) fun t hpwr _ => ?_)
    exact seqCmd_start_refused c (by rwa [hpwr])
  case stopRefused =>
    refine becomes_act (exec_railSeqStop r _ s) (core_onRailSeq_refused hup hc (by decide) (by decide) (by decide) fun t _ h => ?_)
    exact seqCmd_stop_refused c (h.trans hst)
  case target =>
    exact gives_railTargetWrite hup hc hw hon hfree fun t h =>
      ⟨h.target, h.src, h.due, h.moves, h.seq, h.chans, h.sealed, h.rails⟩
  case targetRefused => exact becomes_railTargetWrite_refused hup hc (.inl hoff)
  case budget =>
    refine gives_onHost (exec_portBudgetWrite p w s) hup ?_
    rw [budgetWrite_eq]
    obtain ⟨hch, hs, hports⟩ := forEach_budgetGive_rest w (ownedRails s p) (onPort p (fun x => { x with budget := w.setWidth 16 }) s)
    refine ⟨?_, ?_, ?_, fun j hj => ?_, fun r hr => ?_⟩
    · rw [settleBy_port_budget, hports, onPort_get, if_pos rfl]
    · rw [settleBy_chans]; exact hch
    · rw [settleBy_sealed]; exact hs
    · rw [(settleBy_core _ _ _ _).ports j, hports, onPort_get, if_neg hj]
    · rw [settleBy_rail_lim, (budgetFrame_forEach hr w _).rail]
      rfl
  case atOnce =>
    refine gives_portBudgetWrite hup hone hc hport hsh fun u t hu hlim hseq hch hs _ => ?_
    rw [budgetRail_eq, hu, hstep, if_neg Bool.false_ne_true, if_pos hle] at hlim hseq
    rw [hlim, hseq, putBudget, onRail_get, if_pos rfl, hu]
    exact ⟨rfl, rfl, hch, hs⟩
  case inSteps =>
    refine gives_portBudgetWrite hup hone hc hport hsh fun u t hu hlim hseq hch hs harm => ?_
    rw [budgetRail_eq, hu, hstep, if_neg Bool.false_ne_true, if_neg (by omega)] at hlim hseq harm
    rw [rearm_rails, putBudget, onRail_get, if_pos rfl, hu] at hlim hseq
    rw [isArmed_rearm] at harm
    exact ⟨hlim, hseq, hch, hs, harm⟩
  case lower =>
    refine gives_portBudgetWrite hup hone hc hport hsh fun u t hu hlim hseq hch hs _ => ?_
    rw [budgetRail_eq, hu, hstep, if_pos rfl, if_pos hlt] at hlim hseq
    rw [hlim, hseq, putBudget, onRail_get, if_pos rfl, hu]
    exact ⟨rfl, rfl, hch, hs⟩
  case higher =>
    refine gives_portBudgetWrite hup hone hc hport hsh fun u t hu hlim hseq hch hs harm => ?_
    rw [budgetRail_eq, hu, hstep, if_pos rfl, if_neg (by omega)] at hlim hseq harm
    rw [disarm_rails, putBudget, onRail_get, if_pos rfl, hu] at hlim hseq
    rw [isArmed_disarm_self] at harm
    exact ⟨hlim, hseq, hch, hs, harm⟩
  case budgetStep =>
    refine becomes_onGrid (exec_budgetStep r s) hdue hc ?_
    unfold budgetStepped
    rw [stepsTaken_disarm _ hup hans]
    exact core_ite_arm (core_onRail_disarm r _ _ s) _ _ _
  case throttleDown =>
    refine becomes_onGrid (exec_throttleStep r s) hdue hc ?_
    unfold throttleStepped
    rw [stepsTaken_disarm _ hup hans]
    refine Eq.mpr (congrArg (SameCore _) (if_pos hthr)) ?_
    exact core_ite_arm (core_onRail_disarm r _ _ s) _ _ _
  case throttleUp =>
    refine becomes_onGrid (exec_throttleStep r s) hdue hc ?_
    unfold throttleStepped
    rw [stepsTaken_disarm _ hup hans]
    refine Eq.mpr (congrArg (SameCore _) (if_neg (Bool.eq_false_iff.mp hthr))) ?_
    exact core_ite_arm (core_onRail_disarm r _ _ s) _ _ _

end Sys2Proof.Machine
end

section
/-! PROOF. VSEL selections and VCMD-2 frames of the load ports (R196 to R203, R215, R217). -/

namespace Sys2Proof.Machine

theorem exec_vselAccept (p : PortId) (j : Fin 8) (s : State) : exec (.vselAccept p j) s = actBy p (vselStep p j) s := rfl
theorem exec_vcmd2SetTarget (p : PortId) (f : BitVec 32) (o : Bool) (s : State) :
    exec (.vcmd2SetTarget p f o) s = actBy p (v2frame p f o) s := rfl
theorem exec_vcmd2SetSlew (p : PortId) (f : BitVec 32) (s : State) : exec (.vcmd2SetSlew p f) s = actBy p (v2frame p f false) s := rfl
theorem exec_vcmd2Start (p : PortId) (f : BitVec 32) (s : State) : exec (.vcmd2Start p f) s = actBy p (v2frame p f false) s := rfl
theorem exec_vcmd2Read (p : PortId) (f : BitVec 32) (s : State) : exec (.vcmd2Read p f) s = actBy p (v2frame p f false) s := rfl
theorem exec_vcmd2Nop (p : PortId) (f : BitVec 32) (s : State) : exec (.vcmd2Nop p f) s = actBy p (v2frame p f false) s := rfl
theorem exec_vcmd2LinkError (p : PortId) (k : LinkCause) (s : State) :
    exec (.vcmd2LinkError p k) s = actBy p (badFrame .vcmd2 p k) s := rfl

/-! ## VSEL (R196, R197) -/

/-- The selection of a VSEL port depends on the image in force and the indices alone. -/
theorem vselTarget_congr {s t : State} (hs : t.sealed = s.sealed) (hi : ∀ p : PortId, t.ports[p].vselIdx = s.ports[p].vselIdx)
    (r : RailId) : vselTarget t r = vselTarget s r := by
  have hcfg : portCfg t = portCfg s := by
    funext p
    simp only [portCfg, hs]
  unfold vselTarget
  rw [portOf_of_sealed hs, hcfg]
  split
  · rfl
  next p i sh h =>
    cases portCfg s p with
    | none => rfl
    | some pc => dsimp only; rw [hi]

theorem islandUp_of_portSpeaks {s : State} {p : PortId} {pr : Proto} (h : portSpeaks s p pr = true) : islandUp s = true := by
  simp only [portSpeaks, portUp, Bool.and_eq_true] at h
  exact h.1.1.1

/-- The pins' index is kept, the wait for an index before it ends. -/
def vselNoted (p : PortId) (j : Nat) (s : State) : State :=
  disarm (vselTimer p) (onPort p (fun x => { x with vselPin := BitVec.ofNat 3 j }) s)

theorem vselNoted_port (p q : PortId) (j : Nat) (s : State) :
    (vselNoted p j s).ports[q] = if q = p then { s.ports[p] with vselPin := BitVec.ofNat 3 j } else s.ports[q] := by
  rw [vselNoted, disarm_ports]
  exact onPort_get p q _ s

/-- A port's index is taken at once. -/
theorem vselStep_eq {s : State} {p : PortId} {j : Fin 8} (hspeaks : portSpeaks s p .vsel = true) (hearly : vselEarly s p = false) :
    vselStep p j s = vselTake p j.val (vselNoted p j.val s) := by
  have hspeaks' : portSpeaks (vselNoted p j.val s) p .vsel = true := hspeaks
  have hearly' : vselEarly (vselNoted p j.val s) p = false := by
    rw [← hearly, vselEarly, vselEarly, vselNoted_port, if_pos rfl]
    rfl
  unfold vselStep
  exact (if_pos (islandUp_of_portSpeaks hspeaks)).trans ((if_neg (by rw [← vselNoted, hspeaks']; decide)).trans
    (if_neg (by rw [← vselNoted, hearly']; decide)))

/-- The port takes the index. -/
def indexed (j : Nat) (now : Nat) (x : Port) : Port :=
  { x with vselIdx := BitVec.ofNat 3 j, vselPend := false, vselAt := some now, accepted := (x.accepted + 1) % 65536 }

/-- A selection held by a raise freeze is dropped. -/
def unheld (x : Rail) : Rail := { x with pos := { x.pos with vselHeld := none } }

/-- The port has taken its index, and rail `r` holds no selection. -/
def vselOpen (p : PortId) (j : Nat) (r : RailId) (s : State) : State := onRail r unheld (onPort p (indexed j s.now) s)

theorem vselOpen_rail (p : PortId) (j : Nat) (r : RailId) (s : State) : (vselOpen p j r s).rails[r] = unheld s.rails[r] := by
  rw [vselOpen, onRail_get, if_pos rfl]
  rfl

theorem vselWrite_free {s : State} {r : RailId} (hfree : raiseFrozen s = false) (hhost : hostNow s s.rails[r] = false) (p : PortId)
    (v : Nat) : vselWrite r p v s = onRail r (fun x => unheld (putTarget 3 v x)) s := by
  rw [vselWrite, raiseRefused_of_free hfree, hhost]
  rfl

theorem vselOpen_port (p q : PortId) (j : Nat) (r : RailId) (s : State) :
    (vselOpen p j r s).ports[q] = if q = p then indexed j s.now s.ports[p] else s.ports[q] :=
  onPort_get p q (indexed j s.now) s

/-- One rail of the port takes its selection. -/
theorem vselTake_one {s : State} {p : PortId} {j : Nat} {r : RailId} {v : Nat} (hone : ownedRails s p = [r])
    (hon : railState s.rails[r] = 2) (hfree : raiseFrozen s = false) (hhost : hostNow s s.rails[r] = false)
    (hsel : vselTarget (vselOpen p j r s) r = some (p, v)) :
    vselTake p j s = onRail r (fun x => unheld (putTarget 3 v x)) (vselOpen p j r s) := by
  have hstart : vselTake p j s = (match vselTarget (vselOpen p j r s) r with
      | some (q, t) => if railState (vselOpen p j r s).rails[r] = 2 then vselWrite r q t (vselOpen p j r s) else vselOpen p j r s
      | none => vselOpen p j r s) := by
    unfold vselTake
    rw [hone]
    rfl
  have hhost' : hostNow (vselOpen p j r s) (vselOpen p j r s).rails[r] = false := by
    rw [vselOpen_rail]
    exact hhost
  have hon' : railState (vselOpen p j r s).rails[r] = 2 := by
    rw [vselOpen_rail]
    exact hon
  rw [hstart, hsel]
  exact (if_pos hon').trans (vselWrite_free (s := vselOpen p j r s) hfree hhost' p v)

/-- An index at the pins for one rail in TERMINAL_ON, with nothing in its way. -/
theorem vselTake_pinned {s : State} {p : PortId} {j : Nat} {r : RailId} {v : Nat} (hone : ownedRails s p = [r])
    (hon : railState s.rails[r] = 2) (hfree : raiseFrozen s = false) (hhost : hostNow s s.rails[r] = false)
    (hsel : vselTarget (onPort p (fun x => { x with vselIdx := BitVec.ofNat 3 j }) s) r = some (p, v)) :
    vselTake p j (vselNoted p j s) = onRail r (fun x => unheld (putTarget 3 v x)) (vselOpen p j r (vselNoted p j s)) := by
  refine vselTake_one (s := vselNoted p j s) hone hon hfree hhost ?_
  rw [← hsel]
  refine vselTarget_congr (t := vselOpen p j r (vselNoted p j s)) (s := onPort p (fun x => { x with vselIdx := BitVec.ofNat 3 j }) s)
    rfl (fun q => ?_) r
  rw [vselOpen_port, onPort_get, vselNoted_port]
  by_cases hq : q = p
  · rw [if_pos hq, if_pos hq]
    rfl
  · rw [if_neg hq, if_neg hq, vselNoted_port, if_neg hq]

theorem vselTaken_port (r : RailId) (v : Nat) (p : PortId) (j : Nat) (s : State) :
    (onRail r (fun x => unheld (putTarget 3 v x)) (vselOpen p j r (vselNoted p j s))).ports[p] =
      indexed j s.now { s.ports[p] with vselPin := BitVec.ofNat 3 j } := by
  rw [show (onRail r (fun x => unheld (putTarget 3 v x)) (vselOpen p j r (vselNoted p j s))).ports[p] =
    (vselOpen p j r (vselNoted p j s)).ports[p] from rfl, vselOpen_port, if_pos rfl, vselNoted_port, if_pos rfl]
  rfl

theorem aimed_vselOpen (r : RailId) (v : Nat) (p : PortId) (j : Nat) (s : State) :
    Aimed r 3 v s (onRail r (fun x => unheld (putTarget 3 v x)) (vselOpen p j r (vselNoted p j s))) := by
  have hr : (onRail r (fun x => unheld (putTarget 3 v x)) (vselOpen p j r (vselNoted p j s))).rails[r] =
      unheld (putTarget 3 v (unheld s.rails[r])) := by
    rw [onRail_get, if_pos rfl, vselOpen_rail]
    rfl
  have hrest (i : RailId) (hi : i ≠ r) :
      (onRail r (fun x => unheld (putTarget 3 v x)) (vselOpen p j r (vselNoted p j s))).rails[i] = s.rails[i] := by
    rw [onRail_get, if_neg hi, vselOpen, onRail_get, if_neg hi]
    rfl
  have hpos (x : Rail) : (unheld x).pos = { x.pos with vselHeld := none } := rfl
  refine ⟨?_, ?_, ?_, ?_, ?_, rfl, rfl, fun i hi => by rw [hrest i hi]⟩ <;> rw [hr]
  · rw [hpos, putTarget_pos]
  · rw [hpos, putTarget_pos]
  · rw [hpos, putTarget_pos]
  · rw [hpos, putTarget_pos]
    rfl
  · exact putTarget_seq 3 v _

/-! ## Frames -/

/-- A VCMD-2 frame that a port hears: START bits, CRC. -/
structure GoodFrame (s : State) (p : PortId) (f : BitVec 32) : Prop where
  speaks : portSpeaks s p .vcmd2 = true
  start : f.getLsbD 31 = true
  stop : f.getLsbD 30 = false

theorem v2frame_heard {s : State} {p : PortId} {f : BitVec 32} (h : GoodFrame s p f) (o : Bool) : v2frame p f o s =
    if !v2crcOk f then v2answer p f .badCrc 0 s
    else if 6 ≤ v2op f then v2answer p f .badOp 0 s
    else if v2op f = 4 then v2read p f s
    else match ownedRail s p (v2rail f) with
      | none => v2answer p f .badRail 0 s
      | some (r, c) => v2rail' p f o r c s := by
  unfold v2frame
  rw [h.speaks, h.start, h.stop]
  rfl

/-- A frame of OP 0 to 3 or 5 for an owned rail. -/
theorem v2frame_owned {s : State} {p : PortId} {f : BitVec 32} {r : RailId} {c : RailCfg} (h : GoodFrame s p f)
    (hcrc : v2crcOk f = true) {n : Nat} (hop : v2op f = n) (hn : n < 6) (hn' : n ≠ 4)
    (hown : ownedRail s p (v2rail f) = some (r, c)) (o : Bool) : v2frame p f o s = v2rail' p f o r c s := by
  rw [v2frame_heard h, hcrc, hop, hown, if_neg (by decide), if_neg (by omega), if_neg hn']

theorem v2answer_resp (p : PortId) (f : BitVec 32) (a : Ack) (d : Nat) (s : State) :
    (v2answer p f a d s).resp = .vcmd2 (v2resp a (v2seq f) d) := rfl

theorem v2answer_port (p : PortId) (f : BitVec 32) (a : Ack) (d : Nat) (s : State) : (v2answer p f a d s).ports[p] =
    slotRuns (Config.slotTicks true) s (ackStatus a a.v2 (a == .ok) s.ports[p]) := by
  show (onPort p _ s).ports[p] = _
  rw [onPort_get, if_pos rfl]

theorem started_v2answer {r : RailId} {c : RailCfg} {s t : State} (h : Started r c s t) (p : PortId) (f : BitVec 32) (a : Ack)
    (d : Nat) : Started r c s (v2answer p f a d t) := h.congr rfl rfl rfl rfl rfl rfl rfl fun _ _ => rfl

theorem aimed_v2answer {r : RailId} {src : BitVec 2} {v : Nat} {s t : State} (h : Aimed r src v s t) (p : PortId) (f : BitVec 32)
    (a : Ack) (d : Nat) : Aimed r src v s (v2answer p f a d t) := h.congr rfl rfl rfl rfl rfl rfl

theorem aimed_portTarget (r : RailId) (v : Nat) (s : State) : Aimed r 2 v s (portTarget r v s) := aimed_putTarget r 2 v s

/-! ## Refusals -/

theorem v2answer_rejectState (p : PortId) (f : BitVec 32) (s : State) : v2answer p f .rejectState 0 s =
    { onPort p (fun x => { x with busyTo := s.now + Config.slotTicks true, frames := x.frames + 1, lastAck := 2, rej := true
                                  rejCnt := min 255 (x.rejCnt + 1) }) s with
      resp := .vcmd2 (v2resp .rejectState (v2seq f) 0) } := by
  simp only [v2answer, reply, slotRuns, ackStatus, satInc_eq_min]
  rfl

theorem v2answer_badCrc (p : PortId) (f : BitVec 32) (s : State) : v2answer p f .badCrc 0 s =
    { onPort p (fun x => { x with busyTo := s.now + Config.slotTicks true, frames := x.frames + 1, lastAck := 3, linkErr := true
                                  linkCause := 1, errCnt := min 255 (x.errCnt + 1) }) s with
      resp := .vcmd2 (v2resp .badCrc (v2seq f) 0) } := by
  simp only [v2answer, reply, slotRuns, ackStatus, linkErr, satInc_eq_min]
  rfl

/-- OP 0 with a value that is a legal target: its outcome, and the write where the outcome is OK (R201). -/
theorem v2rail_setTarget {s : State} {p : PortId} {f : BitVec 32} {c : RailCfg} {v : Nat} (r : RailId) (o : Bool) (hop : v2op f = 0)
    (hleg : legalTarget c (portStep s p) (v2data f) = some v) : v2rail' p f o r c s =
      v2answer p f (setAck s r v o) 0 (if setAck s r v o = .ok then portTarget r v s else s) := by
  simp only [v2rail', hop, hleg]

theorem setAck_rejectState {s : State} {r : RailId} (h : railState s.rails[r] ≠ 2) (v : Nat) (o : Bool) :
    setAck s r v o = .rejectState := if_pos h

theorem setAck_raiseFrozen {s : State} {r : RailId} {v : Nat} (h : railState s.rails[r] = 2)
    (hfrozen : raiseRefused s s.rails[r] v = true) (o : Bool) : setAck s r v o = .raiseFrozen := by
  rw [setAck, if_neg (not_not_intro h), if_pos hfrozen]

theorem setAck_free {s : State} {r : RailId} (h : railState s.rails[r] = 2) (hfree : raiseFrozen s = false) (v : Nat) (o : Bool) :
    setAck s r v o = if o || hostNow s s.rails[r] then .hostOvr else .ok := by
  rw [setAck, if_neg (not_not_intro h), raiseRefused_of_free hfree, if_neg Bool.false_ne_true]

theorem onPort_onPort (p : PortId) (f g : Port → Port) (s : State) :
    onPort p f (onPort p g s) = onPort p (fun x => f (g x)) s := by
  simp [onPort, upd, Vector.set_set]

theorem badFrame_spoken {s : State} {p : PortId} {pr : Proto} (h : portSpeaks s p pr = true) (k : LinkCause) : badFrame pr p k s =
    { onPort p (fun x => { x with frames := (if k = .rate then x.frames else x.frames + 1), linkErr := true, linkCause := causeCode k
                                  errCnt := min 255 (x.errCnt + 1) }) s with resp := .none } := by
  rw [badFrame, if_pos h, linkFail, onPort_onPort]
  simp only [reply, linkErr, satInc_eq_min]

/-- A frame for an owned rail in TERMINAL_ON, with nothing in its way: the target and the acknowledgement. -/
theorem v2frame_setTarget {s : State} {p : PortId} {f : BitVec 32} {r : RailId} {c : RailCfg} {v : Nat} (h : GoodFrame s p f)
    (hcrc : v2crcOk f = true) (hop : v2op f = 0) (hown : ownedRail s p (v2rail f) = some (r, c))
    (hleg : legalTarget c (portStep s p) (v2data f) = some v) (hon : railState s.rails[r] = 2) (hfree : raiseFrozen s = false)
    (hhost : hostNow s s.rails[r] = false) : v2frame p f false s = v2answer p f .ok 0 (portTarget r v s) := by
  have hok : setAck s r v false = .ok := by
    rw [setAck_free hon hfree, hhost]
    rfl
  rw [v2frame_owned h hcrc hop (by decide) (by decide) hown, v2rail_setTarget r false hop hleg, hok, if_pos rfl]

/-- An accepted selection aims the one rail that the port owns. -/
theorem gives_vselAccept {s : State} {p : PortId} {j : Fin 8} {r : RailId} {v : Nat} (hspeaks : portSpeaks s p .vsel = true)
    (hearly : vselEarly s p = false) (hone : ownedRails s p = [r]) (hon : railState s.rails[r] = 2) (hfree : raiseFrozen s = false)
    (hhost : hostNow s s.rails[r] = false)
    (hsel : vselTarget (onPort p (fun x => { x with vselIdx := BitVec.ofNat 3 j.val }) s) r = some (p, v)) :
    Gives (.vselAccept p j) s fun t => Aimed r 3 v s t ∧ t.ports[p].vselIdx = BitVec.ofNat 3 j.val ∧
      t.ports[p].accepted = (s.ports[p].accepted + 1) % 65536 := by
  refine gives_actBy (exec_vselAccept p j s) ?_
  rw [vselStep_eq hspeaks hearly, vselTake_pinned hone hon hfree hhost hsel]
  refine ⟨(aimed_vselOpen r v p j.val s).settle (some p) (occurs (vselStep p j) s) s, ?_, ?_⟩
  · exact (settleBy_port_vselIdx _ _ _ _ p).trans (congrArg Port.vselIdx (vselTaken_port r v p j.val s))
  · exact (settleBy_port_accepted _ _ _ _ p).trans (congrArg Port.accepted (vselTaken_port r v p j.val s))

/-- An accepted SET_TARGET aims its rail and is acknowledged. -/
theorem gives_vcmd2SetTarget {s : State} {p : PortId} {f : BitVec 32} {r : RailId} {c : RailCfg} {v : Nat} (h : GoodFrame s p f)
    (hcrc : v2crcOk f = true) (hop : v2op f = 0) (hown : ownedRail s p (v2rail f) = some (r, c))
    (hleg : legalTarget c (portStep s p) (v2data f) = some v) (hon : railState s.rails[r] = 2) (hfree : raiseFrozen s = false)
    (hhost : hostNow s s.rails[r] = false) :
    Gives (.vcmd2SetTarget p f false) s fun t => Aimed r 2 v s t ∧ t.resp = .vcmd2 (v2resp .ok (v2seq f) 0) ∧
      t.ports[p].lastAck = 0 ∧ t.ports[p].accepted = (s.ports[p].accepted + 1) % 65536 := by
  refine gives_actBy (exec_vcmd2SetTarget p f false s) ?_
  rw [v2frame_setTarget h hcrc hop hown hleg hon hfree hhost]
  refine ⟨(aimed_v2answer (aimed_portTarget r v s) p f .ok 0).settle (some p) (occurs (v2frame p f false) s) s, settleBy_resp _ _ _ _,
    ?_, ?_⟩
  · exact (settleBy_port_lastAck _ _ _ _ p).trans (congrArg Port.lastAck (v2answer_port p f .ok 0 _))
  · exact (settleBy_port_accepted _ _ _ _ p).trans (congrArg Port.accepted (v2answer_port p f .ok 0 _))

/-- An accepted START starts its rail and is acknowledged. -/
theorem gives_vcmd2Start {s : State} {p : PortId} {f : BitVec 32} {r : RailId} {c : RailCfg} (h : GoodFrame s p f)
    (hcrc : v2crcOk f = true) (hop : v2op f = 2) (hd : v2data f = 0) (hown : ownedRail s p (v2rail f) = some (r, c))
    (hok : startOk s r = true) (hp : s.rails[r].prot.snsP = false) (hn : s.rails[r].prot.snsN = false) :
    Gives (.vcmd2Start p f) s fun t => Started r c s t ∧ t.resp = .vcmd2 (v2resp .ok (v2seq f) 0) := by
  refine gives_actBy (exec_vcmd2Start p f s) ?_
  rw [v2frame_owned h hcrc hop (by decide) (by decide) hown]
  simp only [v2rail', hop, hd, startAck, hok]
  exact ⟨(started_v2answer (started_startRail c hp hn) p f .ok 0).settle (some p) (occurs (v2frame p f false) s) s,
    settleBy_resp _ _ _ _⟩

/-- Settles O26: each frame by its outcome, in the order of R201. -/
theorem portsVcmd : Obligations.PortsVcmd := by
  refine ⟨fun s p j r v hspeaks hearly hone hon hfree hhost hsel => ?vsel,
    fun s p f r c v hsp h31 h30 hcrc hop hown hleg hon hfree hhost => ?setTarget,
    fun s p f o r c v hsp h31 h30 hcrc hop hown hleg hoff => ?rejectState, fun s p f o hsp h31 h30 hcrc => ?badCrc,
    fun s p f o hsp h31 h30 hcrc hop hop' hown => ?badRail, fun s p f hsp h31 h30 hcrc hop => ?badOp,
    fun s p f o r c hsp h31 h30 hcrc hop hown hleg => ?badData,
    fun s p f o r c v hsp h31 h30 hcrc hop hown hleg hon hfrozen hlt hlt' => ?raiseFrozen,
    fun s p f o r c v hsp h31 h30 hcrc hop hown hleg hon hfree hovr => ?hostOvr,
    fun s p f r c hsp h31 h30 hcrc hop hown hlo hhi => ?slew,
    fun s p f r c hsp h31 h30 hcrc hop hd hown hst hdev hhold hp hn => ?start, fun s p f r c hsp h31 h30 hcrc hop hd hown => ?read,
    fun s p f hsp h31 h30 hcrc hop hd => ?mask, fun s p f r c hsp h31 h30 hcrc hop hd hown => ?nop, fun s p k hsp => ?linkError⟩
  case vsel =>
    obtain ⟨t, ht, h, hidx, hacc⟩ := gives_vselAccept hspeaks hearly hone hon hfree hhost hsel
    exact ⟨t, ht, hidx, hacc, h.target, h.src, h.seq, h.chans, h.sealed, h.rails⟩
  case setTarget =>
    obtain ⟨t, ht, h, hresp, hack, hacc⟩ := gives_vcmd2SetTarget ⟨hsp, h31, h30⟩ hcrc hop hown hleg hon hfree hhost
    exact ⟨t, ht, hresp, h.target, h.src, h.due, hack, hacc, h.seq, h.chans, h.sealed, h.rails⟩
  case rejectState =>
    refine becomes_actBy (exec_vcmd2SetTarget p f o s) ?_
    rw [v2frame_owned ⟨hsp, h31, h30⟩ hcrc hop (by decide) (by decide) hown, v2rail_setTarget r o hop hleg, setAck_rejectState hoff,
      if_neg (by decide), v2answer_rejectState]
    exact SameCore.refl _
  case badCrc =>
    refine becomes_actBy (exec_vcmd2SetTarget p f o s) ?_
    rw [v2frame_heard ⟨hsp, h31, h30⟩, hcrc, if_pos (by decide), v2answer_badCrc]
    exact SameCore.refl _
  case badRail =>
    refine becomes_actBy (exec_vcmd2SetTarget p f o s) ?_
    rw [v2frame_heard ⟨hsp, h31, h30⟩, hcrc, if_neg (by decide), if_neg (by omega), if_neg hop', hown]
    exact SameCore.refl _
  case badOp =>
    refine becomes_actBy (exec_vcmd2Nop p f s) ?_
    rw [v2frame_heard ⟨hsp, h31, h30⟩, hcrc, if_neg (by decide), if_pos hop]
    exact SameCore.refl _
  case badData =>
    refine becomes_actBy (exec_vcmd2SetTarget p f o s) ?_
    rw [v2frame_owned ⟨hsp, h31, h30⟩ hcrc hop (by decide) (by decide) hown]
    simp only [v2rail', hop, hleg]
    exact SameCore.refl _
  case raiseFrozen =>
    have href : raiseRefused s s.rails[r] v = true := by
      rw [raiseRefused, hfrozen]
      exact decide_eq_true hlt
    refine becomes_actBy (exec_vcmd2SetTarget p f o s) ?_
    rw [v2frame_owned ⟨hsp, h31, h30⟩ hcrc hop (by decide) (by decide) hown, v2rail_setTarget r o hop hleg,
      setAck_raiseFrozen hon href, if_neg (by decide)]
    exact SameCore.refl _
  case hostOvr =>
    have hovr' : (o || hostNow s s.rails[r]) = true := by simpa using hovr
    refine becomes_actBy (exec_vcmd2SetTarget p f o s) ?_
    rw [v2frame_owned ⟨hsp, h31, h30⟩ hcrc hop (by decide) (by decide) hown, v2rail_setTarget r o hop hleg, setAck_free hon hfree,
      if_pos hovr', if_neg (by decide)]
    exact SameCore.refl _
  case slew =>
    refine becomes_actBy (exec_vcmd2SetSlew p f s) ?_
    rw [v2frame_owned ⟨hsp, h31, h30⟩ hcrc hop (by decide) (by decide) hown]
    simp only [v2rail', hop]
    rw [if_pos ⟨hlo, hhi⟩]
    exact SameCore.refl _
  case start =>
    obtain ⟨t, ht, h, hresp⟩ := gives_vcmd2Start ⟨hsp, h31, h30⟩ hcrc hop hd hown (startOk_of hst hdev hhold) hp hn
    exact ⟨t, ht, hresp, h.st, h.smIdx, h.cal, h.nact, h.pos, h.chans, h.others, h.sealed, h.rails⟩
  case read =>
    refine becomes_actBy (exec_vcmd2Read p f s) ?_
    rw [v2frame_heard ⟨hsp, h31, h30⟩, hcrc, if_neg (by decide), if_neg (by omega), if_pos hop]
    simp only [v2read, hd, hown]
    exact SameCore.refl _
  case mask =>
    refine becomes_actBy (exec_vcmd2Read p f s) ?_
    rw [v2frame_heard ⟨hsp, h31, h30⟩, hcrc, if_neg (by decide), if_neg (by omega), if_pos hop]
    simp only [v2read, hd]
    exact SameCore.refl _
  case nop =>
    refine becomes_actBy (exec_vcmd2Nop p f s) ?_
    rw [v2frame_owned ⟨hsp, h31, h30⟩ hcrc hop (by decide) (by decide) hown]
    simp only [v2rail', hop, hd]
    exact SameCore.refl _
  case linkError =>
    refine becomes_actBy (exec_vcmd2LinkError p k s) ?_
    rw [badFrame_spoken hsp]
    exact SameCore.refl _

end Sys2Proof.Machine
end

section
/-! PROOF. VCMD-1 and AVSBus frames of the load ports (R205 to R210). -/

namespace Sys2Proof.Machine

theorem exec_setVid (p : PortId) (f : BitVec 16) (o : Bool) (s : State) : exec (.setVid p f o) s = actBy p (v1frame p f o) s := rfl
theorem exec_vcmd1SetSlew (p : PortId) (f : BitVec 16) (s : State) : exec (.vcmd1SetSlew p f) s = actBy p (v1frame p f false) s := rfl
theorem exec_readVid (p : PortId) (f : BitVec 16) (s : State) : exec (.readVid p f) s = actBy p (v1frame p f false) s := rfl
theorem exec_vcmd1On (p : PortId) (f : BitVec 16) (s : State) : exec (.vcmd1On p f) s = actBy p (v1frame p f false) s := rfl
theorem exec_vcmd1LinkError (p : PortId) (k : LinkCause) (s : State) :
    exec (.vcmd1LinkError p k) s = actBy p (badFrame .vcmd1 p k) s := rfl

/-! ## VCMD-1 -/

/-- A VCMD-1 frame that a port hears: START bits, parity. -/
structure GoodVid (s : State) (p : PortId) (f : BitVec 16) : Prop where
  speaks : portSpeaks s p .vcmd1 = true
  start : f.getLsbD 15 = true
  stop : f.getLsbD 14 = false

theorem v1frame_heard {s : State} {p : PortId} {f : BitVec 16} (h : GoodVid s p f) (o : Bool) : v1frame p f o s =
    if !v1parOk f then v1answer p .badCrc 0 s
    else match ownedRail s p (v1rail f) with
      | none => v1answer p .badRail 0 s
      | some (r, c) => v1rail' p f o r c s := by
  unfold v1frame
  rw [h.speaks, h.start, h.stop]
  rfl

theorem v1frame_owned {s : State} {p : PortId} {f : BitVec 16} {r : RailId} {c : RailCfg} (h : GoodVid s p f)
    (hpar : v1parOk f = true) (hown : ownedRail s p (v1rail f) = some (r, c)) (o : Bool) :
    v1frame p f o s = v1rail' p f o r c s := by
  rw [v1frame_heard h, hpar, hown, if_neg (by decide)]

theorem v1answer_port (p : PortId) (a : Ack) (d : Nat) (s : State) : (v1answer p a d s).ports[p] =
    slotRuns (Config.slotTicks false) s (ackStatus a a.v1 (a == .ok) s.ports[p]) := by
  show (onPort p _ s).ports[p] = _
  rw [onPort_get, if_pos rfl]

theorem started_v1answer {r : RailId} {c : RailCfg} {s t : State} (h : Started r c s t) (p : PortId) (a : Ack) (d : Nat) :
    Started r c s (v1answer p a d t) := h.congr rfl rfl rfl rfl rfl rfl rfl fun _ _ => rfl

theorem aimed_v1answer {r : RailId} {src : BitVec 2} {v : Nat} {s t : State} (h : Aimed r src v s t) (p : PortId) (a : Ack)
    (d : Nat) : Aimed r src v s (v1answer p a d t) := h.congr rfl rfl rfl rfl rfl rfl

theorem v1answer_rejectState (p : PortId) (s : State) : v1answer p .rejectState 0 s =
    { onPort p (fun x => { x with busyTo := s.now + Config.slotTicks false, frames := x.frames + 1, lastAck := 5, rej := true
                                  rejCnt := min 255 (x.rejCnt + 1) }) s with resp := .vcmd1 (v1resp .rejectState 0) } := by
  simp only [v1answer, reply, slotRuns, ackStatus, satInc_eq_min]
  rfl

theorem v1answer_badCrc (p : PortId) (s : State) : v1answer p .badCrc 0 s =
    { onPort p (fun x => { x with busyTo := s.now + Config.slotTicks false, frames := x.frames + 1, lastAck := 7, linkErr := true
                                  linkCause := 1, errCnt := min 255 (x.errCnt + 1) }) s with
      resp := .vcmd1 (v1resp .badCrc 0) } := by
  simp only [v1answer, reply, slotRuns, ackStatus, linkErr, satInc_eq_min]
  rfl

theorem v1rail_setTarget {s : State} {p : PortId} {f : BitVec 16} {c : RailCfg} {v : Nat} (r : RailId) (o : Bool) (hop : v1op f = 0)
    (hleg : legalTarget c (portStep s p) (v1data f) = some v) : v1rail' p f o r c s =
      v1answer p (setAck s r v o) 0 (if setAck s r v o = .ok then portTarget r v s else s) := by
  simp only [v1rail', hop, hleg]

/-- A write of TARGET that nothing refuses. -/
theorem setAck_ok {s : State} {r : RailId} (hon : railState s.rails[r] = 2) (hfree : raiseFrozen s = false)
    (hhost : hostNow s s.rails[r] = false) (v : Nat) : setAck s r v false = .ok := by
  rw [setAck_free hon hfree, hhost]
  rfl

/-- An accepted SET_VID aims its rail and is acknowledged. -/
theorem gives_setVid {s : State} {p : PortId} {f : BitVec 16} {r : RailId} {c : RailCfg} {v : Nat} (h : GoodVid s p f)
    (hpar : v1parOk f = true) (hop : v1op f = 0) (hown : ownedRail s p (v1rail f) = some (r, c))
    (hleg : legalTarget c (portStep s p) (v1data f) = some v) (hok : setAck s r v false = .ok) :
    Gives (.setVid p f false) s fun t => Aimed r 2 v s t ∧ t.resp = .vcmd1 (v1resp .ok 0) ∧
      t.ports[p].lastAck = 4 ∧ t.ports[p].accepted = (s.ports[p].accepted + 1) % 65536 := by
  refine gives_actBy (exec_setVid p f false s) ?_
  rw [v1frame_owned h hpar hown, v1rail_setTarget r false hop hleg, hok, if_pos rfl]
  refine ⟨(aimed_v1answer (aimed_portTarget r v s) p .ok 0).settle (some p) (occurs (v1frame p f false) s) s, settleBy_resp _ _ _ _,
    ?_, ?_⟩
  · exact (settleBy_port_lastAck _ _ _ _ p).trans (congrArg Port.lastAck (v1answer_port p .ok 0 _))
  · exact (settleBy_port_accepted _ _ _ _ p).trans (congrArg Port.accepted (v1answer_port p .ok 0 _))

/-- An accepted ON starts its rail and is acknowledged. -/
theorem gives_vcmd1On {s : State} {p : PortId} {f : BitVec 16} {r : RailId} {c : RailCfg} (h : GoodVid s p f)
    (hpar : v1parOk f = true) (hop : v1op f = 3) (hd : v1data f = 1) (hown : ownedRail s p (v1rail f) = some (r, c))
    (hok : startOk s r = true) (hp : s.rails[r].prot.snsP = false) (hn : s.rails[r].prot.snsN = false) :
    Gives (.vcmd1On p f) s fun t => Started r c s t ∧ t.resp = .vcmd1 (v1resp .ok 0) := by
  refine gives_actBy (exec_vcmd1On p f s) ?_
  rw [v1frame_owned h hpar hown]
  simp only [v1rail', hop, hd, startAck, hok]
  exact ⟨(started_v1answer (started_startRail c hp hn) p .ok 0).settle (some p) (occurs (v1frame p f false) s) s,
    settleBy_resp _ _ _ _⟩

end Sys2Proof.Machine
end

section
/-! PROOF. AVSBus frames (R208 to R210). -/

namespace Sys2Proof.Machine

theorem exec_avsVoltageWrite (p : PortId) (sel : BitVec 4) (d : BitVec 16) (o : Bool) (s : State) :
    exec (.avsVoltageWrite p sel d o) s = actBy p (avsWrite p 0x0#4 sel d o) s := rfl
theorem exec_avsWriteHold (p : PortId) (ty sel : BitVec 4) (d : BitVec 16) (s : State) :
    exec (.avsWriteHold p ty sel d) s = actBy p (avsHold p ty sel d) s := rfl
theorem exec_avsVoltageRead (p : PortId) (sel : BitVec 4) (s : State) :
    exec (.avsVoltageRead p sel) s = actBy p (avsRead p sel (fun x => avsMv x.pos.target.toNat)) s := rfl
theorem exec_avsTransRateWrite (p : PortId) (sel : BitVec 4) (d : BitVec 16) (s : State) :
    exec (.avsTransRateWrite p sel d) s = actBy p (avsWrite p 0x1#4 sel d false) s := rfl
theorem exec_avsTransRateRead (p : PortId) (sel : BitVec 4) (s : State) :
    exec (.avsTransRateRead p sel) s = actBy p (avsRead p sel avsRate) s := rfl
theorem exec_resetVoltage (p : PortId) (sel : BitVec 4) (o : Bool) (s : State) :
    exec (.resetVoltage p sel o) s = actBy p (avsWrite p 0x4#4 sel 0 o) s := rfl
theorem exec_avsStatusRead (p : PortId) (sel : BitVec 4) (s : State) : exec (.avsStatusRead p sel) s = actBy p (avsStatRead p sel) s := rfl
theorem exec_avsStatusWrite (p : PortId) (sel : BitVec 4) (d : BitVec 16) (s : State) :
    exec (.avsStatusWrite p sel d) s = actBy p (avsWrite p 0xE#4 sel d false) s := rfl
theorem exec_avsVersionRead (p : PortId) (sel : BitVec 4) (s : State) : exec (.avsVersionRead p sel) s = actBy p (avsVersRead p sel) s := rfl
theorem exec_avsNoAction (p : PortId) (sel : BitVec 4) (k : AvsBad) (s : State) :
    exec (.avsNoAction p sel k) s = actBy p (avsNothing p sel k) s := rfl

/-! ## StatusAlert of the port that commands (R210) -/

theorem freezeAll_ports (l : List Nat) (s : State) : (freezeAll l s).ports = s.ports := by
  unfold freezeAll
  dsimp only
  split <;> rfl

theorem raisedPut_ports (was : List Bool) (l : List Nat) (s : State) : (raisedPut was l s).ports = s.ports := by
  unfold raisedPut
  dsimp only
  repeat' split
  all_goals rfl

theorem queueOne_ports (old : State) (n : Nat) (s : State) : (queueOne old n s).ports = s.ports := by
  unfold queueOne
  dsimp only
  repeat' split
  all_goals rfl

theorem queueAll_ports (old : State) (l : List Nat) (s : State) : (queueAll old l s).ports = s.ports := by
  unfold queueAll
  split
  · exact forEach_keeps State.ports _ _ (fun n t => queueOne_ports old n t) s
  · rfl

/-- A port's own command raises no StatusAlert on it. -/
theorem settleBy_port_own (p : PortId) (o : List Nat) (old s : State) : (settleBy (some p) o old s).ports[p] = s.ports[p] := by
  have hkept (t : State) : (alertSettle (some p) old t).ports[p] = t.ports[p] := by
    unfold alertSettle
    rw [mapTab_get, toFin_val]
    exact if_neg (by rw [bne_self_eq_false]; exact Bool.false_ne_true)
  have hports : (ibiSettle ((pendList old).filter fun n => !s.raised.renew.contains n)
      (queueAll old (raisedNow old s) (raisedPut (allBits old) (o ++ if freezeHit (raisedNow old s) s then [447] else [])
        (freezeAll (raisedNow old s) s)))).ports = s.ports :=
    (queueAll_ports _ _ _).trans ((raisedPut_ports _ _ _).trans (freezeAll_ports _ _))
  unfold settleBy
  exact (hkept _).trans (by rw [hports])

/-! ## The answer of a frame (R208, R209) -/

/-- The port after an AVSBus frame with outcome `a`: the answer `d`, `st` goes out in the next frame. -/
def avsPort (s : State) (a : Ack) (d : BitVec 16) (st : BitVec 5) (x : Port) : Port :=
  { slotRuns Config.avsTicks s (ackStatus a a.avs (a.avs == 0) x) with
    avsResp := some (BitVec.ofNat 2 a.avs, d, st), avsOut := a.mfr }

/-- An answer whose data the frame gives. -/
theorem avsAnswer_some (p : PortId) (sel : BitVec 4) (a : Ack) (d : BitVec 16) (s : State) : avsAnswer p sel a (some d) s =
    { onPort p (avsPort s a d (avsStatus s p sel a)) s with
      resp := (match s.ports[p].avsResp with | some (k, w, st) => .avs k w st | none => .none) } := by
  unfold avsAnswer
  dsimp only
  cases s.ports[p].avsResp <;> rfl

/-- An answer whose data are open is that of the state in which they are drawn. -/
theorem avsAnswer_none (p : PortId) (sel : BitVec 4) (a : Ack) (s : State) : avsAnswer p sel a none s =
    avsAnswer p sel a (some ((drawFree s).1.setWidth 16)) (drawFree s).2 := rfl

/-- What `t` shows of an AVSBus frame that has come to port `p` in `s` and had the outcome `a`. -/
structure Answered (p : PortId) (a : Ack) (s t : State) : Prop where
  port : ∃ d st, t.ports[p] = avsPort s a d st s.ports[p]
  resp : t.resp = (match s.ports[p].avsResp with | some (k, w, st) => .avs k w st | none => .none)
  rails : ∀ i : RailId, { t.rails[i] with sil := {} } = { s.rails[i] with sil := {} }
  chans : t.chans = s.chans
  sealed : t.sealed = s.sealed

theorem answered_avsAnswer (p : PortId) (sel : BitVec 4) (a : Ack) (d : Option (BitVec 16)) (s : State) :
    Answered p a s (avsAnswer p sel a d s) := by
  have hport (u : State) (f : Port → Port) : (onPort p f u).ports[p] = f u.ports[p] := by rw [onPort_get, if_pos rfl]
  cases d with
  | none =>
    rw [avsAnswer_none, avsAnswer_some]
    exact ⟨⟨_, _, hport _ _⟩, rfl, fun _ => rfl, rfl, rfl⟩
  | some d =>
    rw [avsAnswer_some]
    exact ⟨⟨_, _, hport _ _⟩, rfl, fun _ => rfl, rfl, rfl⟩

theorem Answered.settle {p : PortId} {a : Ack} {s t : State} (h : Answered p a s t) (o : List Nat) (old : State) :
    Answered p a s (settleBy (some p) o old t) := by
  obtain ⟨⟨d, st, hport⟩, hresp, hrails, hchans, hsealed⟩ := h
  exact ⟨⟨d, st, (settleBy_port_own p o old t).trans hport⟩, by rw [settleBy_resp, hresp],
    fun i => ((settleBy_core _ _ _ _).rails i).trans (hrails i), by rw [settleBy_chans, hchans], by rw [settleBy_sealed, hsealed]⟩

section
variable {p : PortId} {a : Ack} {s t : State} (h : Answered p a s t)
include h

theorem Answered.lastAck : t.ports[p].lastAck = BitVec.ofNat 4 a.avs := by
  obtain ⟨d, st, hport⟩ := h.port
  rw [hport]
  cases a <;> rfl

theorem Answered.slave : t.ports[p].avsResp.map (·.1) = some (BitVec.ofNat 2 a.avs) := by
  obtain ⟨d, st, hport⟩ := h.port
  rw [hport]
  rfl

theorem Answered.out : t.ports[p].avsOut = a.mfr := by
  obtain ⟨d, st, hport⟩ := h.port
  rw [hport]
  rfl

theorem Answered.accepted : t.ports[p].accepted = if a.avs == 0 then (s.ports[p].accepted + 1) % 65536 else s.ports[p].accepted := by
  obtain ⟨d, st, hport⟩ := h.port
  rw [hport]
  cases a <;> rfl

theorem Answered.hold : t.ports[p].hold = s.ports[p].hold := by
  obtain ⟨d, st, hport⟩ := h.port
  rw [hport]
  cases a <;> rfl

theorem Answered.alert : t.ports[p].alert = s.ports[p].alert := by
  obtain ⟨d, st, hport⟩ := h.port
  rw [hport]
  cases a <;> rfl

end

/-! ## Reads (R208) -/

theorem avsRead_one {s : State} {p : PortId} {sel : BitVec 4} {r : RailId} {c : RailCfg} (hspeaks : portSpeaks s p .avs = true)
    (hone : avsRails s p sel = [(r, c)]) (v : Rail → Nat) :
    avsRead p sel v s = avsAnswer p sel .ok (some (BitVec.ofNat 16 (v s.rails[r]))) s := by
  unfold avsRead avsFirst
  rw [if_pos hspeaks, hone]
  simp

theorem avsStatRead_owned {s : State} {p : PortId} {sel : BitVec 4} (hspeaks : portSpeaks s p .avs = true)
    (hown : avsRails s p sel ≠ []) : avsStatRead p sel s =
      avsAnswer p sel .ok (some (BitVec.ofNat 16 ((avsStatus s p sel .ok).toNat * 2048))) s := by
  rw [avsStatRead, if_pos hspeaks, if_neg (by simp [hown])]

theorem avsVersRead_owned {s : State} {p : PortId} {sel : BitVec 4} (hspeaks : portSpeaks s p .avs = true)
    (hown : avsRails s p sel ≠ []) : avsVersRead p sel s = avsAnswer p sel .ok (some Config.avsVersion) s := by
  rw [avsVersRead, if_pos hspeaks, if_neg (by simp [hown])]

/-! ## Writes (R208, R209) -/

/-- The port's held writes are gone. -/
def holdless (p : PortId) (s : State) : State := onPort p (fun x => { x with hold := [] }) s

/-- A write that passes where none is held: it is carried out and answered. -/
theorem avsWrite_ok {s : State} {p : PortId} {ty sel : BitVec 4} {d : BitVec 16} {o : Bool} (hspeaks : portSpeaks s p .avs = true)
    (hhold : s.ports[p].hold = []) (hok : avsOutcome s p ty sel d o = .ok) :
    avsWrite p ty sel d o s = avsReply p sel .ok none (avsCommit p ty sel d (holdless p s)) := by
  have hheld : avsHeld p o s = holdless p s := by
    rw [avsHeld, hhold]
    rfl
  unfold avsWrite
  simp only [hspeaks, hok, avsJoint, hhold, hheld]
  rfl

/-- A write that is refused is answered. -/
theorem avsWrite_refused {s : State} {p : PortId} {ty sel : BitVec 4} {d : BitVec 16} {o : Bool} {a : Ack}
    (hspeaks : portSpeaks s p .avs = true) (hout : avsOutcome s p ty sel d o = a) (ha : a ≠ .ok) (ha' : a ≠ .hostOvr) :
    avsWrite p ty sel d o s = avsAnswer p sel a none s := by
  unfold avsWrite
  simp only [hspeaks, hout, if_neg ha, if_neg ha']
  rfl

/-- The outcome of a write for the one rail that it addresses. -/
theorem avsOutcome_one {s : State} {p : PortId} {ty sel : BitVec 4} {r : RailId} {c : RailCfg} (hw : avsWritable ty = true)
    (hone : avsRails s p sel = [(r, c)]) (d : BitVec 16) (o : Bool) : avsOutcome s p ty sel d o = avsOne s ty d o (r, c) := by
  unfold avsOutcome
  rw [hone, hw]
  cases h : avsOne s ty d o (r, c) <;> simp [h]

/-- The outcome of a Status write. -/
theorem avsOutcome_status {s : State} {p : PortId} {sel : BitVec 4} (hown : avsRails s p sel ≠ []) (d : BitVec 16) (o : Bool) :
    avsOutcome s p 0xE#4 sel d o = .ok := by
  have hok (rc : RailId × RailCfg) : avsOne s 0xE#4 d o rc = .ok := rfl
  have hacks : (avsRails s p sel).map (avsOne s 0xE#4 d o) = List.replicate (avsRails s p sel).length .ok :=
    List.eq_replicate_iff.2 ⟨List.length_map .., fun b hb => by
      obtain ⟨rc, _, rfl⟩ := List.mem_map.1 hb
      exact hok rc⟩
  have hfind : (List.replicate (avsRails s p sel).length Ack.ok).find? (fun a => a != .ok && a != .hostOvr) = none :=
    List.find?_eq_none.2 fun a ha => by
      rw [List.eq_of_mem_replicate ha]
      decide
  have hover : (List.replicate (avsRails s p sel).length Ack.ok).contains .hostOvr = false := by
    simp [List.contains_eq_mem]
  have hne : (avsRails s p sel).isEmpty = false := by simp [hown]
  unfold avsOutcome
  simp only [hacks, hfind, hover, hne]
  rfl

/-- A commit that is carried out is answered as its own frame; the port's status bits stay as the commit left them. -/
theorem avsReply_ok (p : PortId) (sel : BitVec 4) (s : State) : Answered p .ok s (avsReply p sel .ok none s) := by
  obtain ⟨⟨d, st, hport⟩, hresp, hrails, hchans, hsealed⟩ := answered_avsAnswer p sel .ok none s
  refine ⟨⟨d, st, ?_⟩, hresp, hrails, hchans, hsealed⟩
  unfold avsReply
  dsimp only
  rw [onPort_get, if_pos rfl, hport]
  rfl

theorem avsReply_rest (p : PortId) (sel : BitVec 4) (s : State) : (avsReply p sel .ok none s).rails = s.rails ∧
    (avsReply p sel .ok none s).chans = s.chans ∧ (avsReply p sel .ok none s).sealed = s.sealed := by
  unfold avsReply
  rw [avsAnswer_none, avsAnswer_some]
  exact ⟨rfl, rfl, rfl⟩

theorem holdless_port (p : PortId) (s : State) : (holdless p s).ports[p] = { s.ports[p] with hold := [] } := by
  rw [holdless, onPort_get, if_pos rfl]

/-- A committed write of one rail. -/
theorem avsCommit_one {s : State} {p : PortId} {ty sel : BitVec 4} {r : RailId} {c : RailCfg} (hty : ty ≠ 0xE#4)
    (hone : avsRails s p sel = [(r, c)]) (d : BitVec 16) :
    avsCommit p ty sel d (holdless p s) = avsDo ty d (r, c) (holdless p s) := by
  have hone' : avsRails (holdless p s) p sel = [(r, c)] := hone
  rw [avsCommit, if_neg hty, hone', forEach_cons, forEach_nil]

/-- A write that passes and writes TARGET of one rail: the rail is aimed, the port answers. -/
theorem gives_avsTarget {i : Instr} {s : State} {p : PortId} {ty sel : BitVec 4} {d : BitVec 16} {o : Bool} {r : RailId} {v : Nat}
    (hexec : exec i s = actBy p (avsWrite p ty sel d o) s) (hspeaks : portSpeaks s p .avs = true) (hhold : s.ports[p].hold = [])
    (hok : avsOutcome s p ty sel d o = .ok) (hcommit : avsCommit p ty sel d (holdless p s) = portTarget r v (holdless p s)) :
    Gives i s fun t => Aimed r 2 v s t ∧ Answered p .ok (portTarget r v (holdless p s)) t := by
  refine gives_actBy hexec ?_
  rw [avsWrite_ok hspeaks hhold hok, hcommit]
  obtain ⟨hrails, hchans, hsealed⟩ := avsReply_rest p sel (portTarget r v (holdless p s))
  exact ⟨((aimed_portTarget r v (holdless p s)).congr (s' := s) hrails hchans hsealed rfl rfl rfl).settle (some p) _ s,
    (avsReply_ok p sel _).settle _ s⟩

/-- A write of TARGET for one rail that may take it. -/
theorem avsOne_target {s : State} {d : BitVec 16} {o : Bool} {r : RailId} {c : RailCfg}
    (hleg : (legalTarget c 0 (avsTarget d.toNat)).isSome = true) : avsOne s 0x0#4 d o (r, c) = setAck s r (avsTarget d.toNat) o := by
  have hfits : avsFits 0x0#4 d c = true := hleg
  rw [avsOne, hfits]
  rfl

theorem avsOne_rate {s : State} {d : BitVec 16} {o : Bool} {r : RailId} {c : RailCfg} :
    avsOne s 0x1#4 d o (r, c) = if avsFits 0x1#4 d c then .ok else .badData := by
  rw [avsOne]
  cases avsFits 0x1#4 d c <;> rfl

/-! ## Write and hold (R208) -/

theorem avsHold_fits {s : State} {p : PortId} {ty sel : BitVec 4} {d : BitVec 16} {rc : RailId × RailCfg}
    (hspeaks : portSpeaks s p .avs = true) (hw : avsWritable ty = true) (hone : avsRails s p sel = [rc])
    (hfits : avsFits ty d rc.2 = true) : avsHold p ty sel d s =
      avsAnswer p sel .ok none (onPort p (fun x => { x with
        hold := s.ports[p].hold.filter (fun h => !(h.1 == ty && h.2.1 == sel)) ++ [(ty, sel, d)] }) s) := by
  unfold avsHold
  rw [if_pos hspeaks, hone, hw]
  simp [hfits]

end Sys2Proof.Machine
end

section
/-! PROOF. The statement about VCMD-1 and AVSBus frames (R205 to R210). -/

namespace Sys2Proof.Machine

theorem avsDo_target (d : BitVec 16) (r : RailId) (c : RailCfg) (s : State) :
    avsDo 0x0#4 d (r, c) s = portTarget r (avsTarget d.toNat) s := rfl

theorem avsDo_reset (d : BitVec 16) (r : RailId) (c : RailCfg) (s : State) : avsDo 0x4#4 d (r, c) s = portTarget r c.eng.vboot s := rfl

theorem avsDo_rate (d : BitVec 16) (r : RailId) (c : RailCfg) (s : State) :
    avsDo 0x1#4 d (r, c) s = portSlew r (4 * (d.toNat % 256)) s := rfl

/-- The two equal bytes of a transition rate. -/
theorem toNat_append_self (b : Byte) : (b ++ b : BitVec 16).toNat = b.toNat * 256 + b.toNat := by
  have hb : b.toNat < 2 ^ 8 := b.isLt
  rw [BitVec.toNat_append, ← Nat.shiftLeft_add_eq_or_of_lt hb, Nat.shiftLeft_eq]

theorem avsFits_append {b : Byte} (hlo : 1 ≤ b.toNat) (hhi : b.toNat ≤ 80) (c : RailCfg) : avsFits 0x1#4 (b ++ b) c = true := by
  have hdiv : (b.toNat * 256 + b.toNat) / 256 = b.toNat := by omega
  have hmod : (b.toNat * 256 + b.toNat) % 256 = b.toNat := by omega
  show ((b ++ b : BitVec 16).toNat / 256 == (b ++ b : BitVec 16).toNat % 256 && decide (1 ≤ (b ++ b : BitVec 16).toNat % 256) &&
    decide ((b ++ b : BitVec 16).toNat % 256 ≤ 80)) = true
  rw [toNat_append_self, hdiv, hmod]
  simp [hlo, hhi]

theorem avsFits_bad {d : BitVec 16} (h : d.toNat / 256 ≠ d.toNat % 256 ∨ d.toNat % 256 = 0 ∨ 80 < d.toNat % 256) (c : RailCfg) :
    avsFits 0x1#4 d c = false := by
  show (d.toNat / 256 == d.toNat % 256 && decide (1 ≤ d.toNat % 256) && decide (d.toNat % 256 ≤ 80)) = false
  simp only [Bool.and_eq_false_iff, beq_eq_false_iff_ne, decide_eq_false_iff_not]
  omega

/-- A refused write is answered and does nothing else. -/
theorem gives_avsRefused {i : Instr} {s : State} {p : PortId} {ty sel : BitVec 4} {d : BitVec 16} {o : Bool} {a : Ack}
    (hexec : exec i s = actBy p (avsWrite p ty sel d o) s) (hspeaks : portSpeaks s p .avs = true)
    (hout : avsOutcome s p ty sel d o = a) (ha : a ≠ .ok) (ha' : a ≠ .hostOvr) : Gives i s fun t => Answered p a s t := by
  refine gives_actBy hexec ?_
  rw [avsWrite_refused hspeaks hout ha ha']
  exact (answered_avsAnswer p sel a none s).settle _ s

/-- An accepted transition rate: RAIL_SLEW of its rail, and the answer. -/
theorem gives_avsTransRateWrite {s : State} {p : PortId} {sel : BitVec 4} {b : Byte} {r : RailId} {c : RailCfg}
    (hspeaks : portSpeaks s p .avs = true) (hone : avsRails s p sel = [(r, c)]) (hhold : s.ports[p].hold = [])
    (hlo : 1 ≤ b.toNat) (hhi : b.toNat ≤ 80) : Gives (.avsTransRateWrite p sel (b ++ b)) s fun t =>
      Answered p .ok (portSlew r (4 * b.toNat) (holdless p s)) t := by
  have hok : avsOutcome s p 0x1#4 sel (b ++ b) false = .ok := by
    rw [avsOutcome_one rfl hone, avsOne_rate, avsFits_append hlo hhi, if_pos rfl]
  have hmod : (b ++ b : BitVec 16).toNat % 256 = b.toNat := by
    have hb : b.toNat < 2 ^ 8 := b.isLt
    rw [toNat_append_self]
    omega
  refine gives_actBy (exec_avsTransRateWrite p sel (b ++ b) s) ?_
  rw [avsWrite_ok hspeaks hhold hok, avsCommit_one (by decide) hone, avsDo_rate, hmod]
  exact (avsReply_ok p sel _).settle _ s

theorem portSlew_get (r i : RailId) (v : Nat) (s : State) : (portSlew r v s).rails[i] =
    if i = r then { s.rails[r] with pos := { s.rails[r].pos with slew := BitVec.ofNat 9 v } } else s.rails[i] :=
  onRail_get r i _ s

/-- An accepted Status write with a 1 in CmdData[15:11]: StatusAlert is cleared. -/
theorem gives_avsStatusWrite {s : State} {p : PortId} {sel : BitVec 4} {d : BitVec 16} (hspeaks : portSpeaks s p .avs = true)
    (hown : avsRails s p sel ≠ []) (hhold : s.ports[p].hold = []) (hd : 2048 ≤ d.toNat) : Gives (.avsStatusWrite p sel d) s fun t =>
      Answered p .ok (onPort p (fun x => { x with alert := false }) (holdless p s)) t := by
  refine gives_actBy (exec_avsStatusWrite p sel d s) ?_
  rw [avsWrite_ok hspeaks hhold (avsOutcome_status hown d false), avsCommit, if_pos rfl, if_pos hd]
  exact (avsReply_ok p sel _).settle _ s

/-- What a settled answer shows of its rail. -/
theorem pos_of_sil {x y : Rail} (h : { x with sil := {} } = { y with sil := {} }) : x.pos = y.pos := (congrArg Rail.pos h :)

theorem seq_of_sil {x y : Rail} (h : { x with sil := {} } = { y with sil := {} }) : x.seq = y.seq := (congrArg Rail.seq h :)

/-- Settles O27: each VCMD-1 frame by its outcome, each AVSBus frame by its answer (`Answered`). -/
theorem portsVcmd1AndAvsbus : Obligations.PortsVcmd1AndAvsbus := by
  refine ⟨fun s p f r c v hsp h15 h14 hpar hop hown hleg hon hfree hhost => ?setVid,
    fun s p f r c hsp h15 h14 hpar hop hown hlo hhi => ?slew, fun s p f r c hsp h15 h14 hpar hop hd hown => ?readVid,
    fun s p f r c hsp h15 h14 hpar hop hd hown hst hdev hhold hp hn => ?on, fun s p k hsp => ?linkError,
    fun s p f o hsp h15 h14 hpar => ?badParity, fun s p f o hsp h15 h14 hpar hown => ?badRail,
    fun s p f o r c hsp h15 h14 hpar hop hown hleg => ?badData,
    fun s p f o r c v hsp h15 h14 hpar hop hown hleg hoff => ?rejectState,
    fun s p sel d r c hsp hone hhold hleg hon hfree hhost => ?voltage, fun s p sel d o r c hsp hone hleg hoff => ?voltageOff,
    fun s p sel d rc hsp hone hleg => ?held, fun s p sel r c hsp hone => ?voltageRead,
    fun s p sel b r c hsp hone hhold hlo hhi => ?rate, fun s p sel d r c hsp hone hbad => ?rateBad,
    fun s p sel r c hsp hone => ?rateRead, fun s p sel r c hsp hone hhold hon hfree hhost => ?reset,
    fun s p sel hsp hown => ?statusRead, fun s p sel d hsp hown hhold hd => ?statusWrite,
    fun s p sel hsp hown => ?version, fun s p sel hsp => ?crc⟩
  case setVid =>
    obtain ⟨t, ht, h, hresp, hack, hacc⟩ := gives_setVid ⟨hsp, h15, h14⟩ hpar hop hown hleg (setAck_ok hon hfree hhost v)
    exact ⟨t, ht, hresp, h.target, h.src, hack, hacc, h.seq, h.chans, h.sealed, h.rails⟩
  case slew =>
    refine becomes_actBy (exec_vcmd1SetSlew p f s) ?_
    rw [v1frame_owned ⟨hsp, h15, h14⟩ hpar hown]
    simp only [v1rail', hop]
    rw [if_pos ⟨hlo, hhi⟩]
    exact SameCore.refl _
  case readVid =>
    refine becomes_actBy (exec_readVid p f s) ?_
    rw [v1frame_owned ⟨hsp, h15, h14⟩ hpar hown]
    simp only [v1rail', hop, hd]
    exact SameCore.refl _
  case on =>
    obtain ⟨t, ht, h, hresp⟩ := gives_vcmd1On ⟨hsp, h15, h14⟩ hpar hop hd hown (startOk_of hst hdev hhold) hp hn
    exact ⟨t, ht, hresp, h.st, h.smIdx, h.cal, h.chans, h.others, h.sealed, h.rails⟩
  case linkError =>
    refine becomes_actBy (exec_vcmd1LinkError p k s) ?_
    rw [badFrame_spoken hsp]
    exact SameCore.refl _
  case badParity =>
    refine becomes_actBy (exec_setVid p f o s) ?_
    rw [v1frame_heard ⟨hsp, h15, h14⟩, hpar, if_pos (by decide), v1answer_badCrc]
    exact SameCore.refl _
  case badRail =>
    refine becomes_actBy (exec_setVid p f o s) ?_
    rw [v1frame_heard ⟨hsp, h15, h14⟩, hpar, if_neg (by decide), hown]
    exact SameCore.refl _
  case badData =>
    refine becomes_actBy (exec_setVid p f o s) ?_
    rw [v1frame_owned ⟨hsp, h15, h14⟩ hpar hown]
    simp only [v1rail', hop, hleg]
    exact SameCore.refl _
  case rejectState =>
    refine becomes_actBy (exec_setVid p f o s) ?_
    rw [v1frame_owned ⟨hsp, h15, h14⟩ hpar hown, v1rail_setTarget r o hop hleg, setAck_rejectState hoff, if_neg (by decide),
      v1answer_rejectState]
    exact SameCore.refl _
  case voltage =>
    have hok : avsOutcome s p 0x0#4 sel d false = .ok := by
      rw [avsOutcome_one rfl hone, avsOne_target hleg, setAck_ok hon hfree hhost]
    obtain ⟨t, ht, h, ha⟩ := gives_avsTarget (exec_avsVoltageWrite p sel d false s) hsp hhold hok
      ((avsCommit_one (by decide) hone d).trans (avsDo_target d r c _))
    have hport : (portTarget r (avsTarget d.toNat) (holdless p s)).ports[p] = { s.ports[p] with hold := [] } := holdless_port p s
    have hacc := ha.accepted
    have hresp := ha.resp
    rw [hport] at hacc hresp
    exact ⟨t, ht, h.target, h.src, ha.lastAck, hacc, ha.slave, ha.out, hresp, h.seq, h.chans, h.sealed, h.rails⟩
  case voltageOff =>
    have hout : avsOutcome s p 0x0#4 sel d o = .rejectState := by
      rw [avsOutcome_one rfl hone, avsOne_target hleg, setAck_rejectState hoff]
    obtain ⟨t, ht, h⟩ := gives_avsRefused (exec_avsVoltageWrite p sel d o s) hsp hout (by decide) (by decide)
    obtain ⟨w, st, hport⟩ := h.port
    have hrej : t.ports[p].rej = true := by rw [hport]; rfl
    exact ⟨t, ht, h.rails, h.lastAck, hrej, h.out, h.slave, h.sealed⟩
  case held =>
    refine gives_actBy (exec_avsWriteHold p 0 sel d s) ?_
    rw [avsHold_fits (ty := 0) (d := d) hsp rfl hone hleg]
    have h := (answered_avsAnswer p sel .ok none (onPort p (fun x => { x with
      hold := s.ports[p].hold.filter (fun h => !(h.1 == 0 && h.2.1 == sel)) ++ [(0, sel, d)] }) s)).settle
        (occurs (avsHold p 0 sel d) s) s
    have hhold := h.hold
    have hresp := h.resp
    rw [onPort_get, if_pos rfl] at hhold hresp
    exact ⟨hhold, h.lastAck, h.slave, h.rails, hresp, h.sealed, h.chans⟩
  case voltageRead =>
    refine becomes_actBy (exec_avsVoltageRead p sel s) ?_
    rw [avsRead_one hsp hone, avsAnswer_some]
    exact SameCore.refl _
  case rate =>
    obtain ⟨t, ht, h⟩ := gives_avsTransRateWrite hsp hone hhold hlo hhi
    have hr := h.rails r
    rw [portSlew_get, if_pos rfl] at hr
    have hpos := pos_of_sil hr
    have hseq := seq_of_sil hr
    refine ⟨t, ht, by rw [hpos], by rw [hpos]; rfl, h.lastAck, h.slave, hseq, h.chans, h.sealed, fun i hi => ?_⟩
    rw [h.rails i, portSlew_get, if_neg hi]
    rfl
  case rateBad =>
    have hout : avsOutcome s p 0x1#4 sel d false = .badData := by
      rw [avsOutcome_one rfl hone, avsOne_rate, avsFits_bad hbad, if_neg (by decide)]
    obtain ⟨t, ht, h⟩ := gives_avsRefused (exec_avsTransRateWrite p sel d s) hsp hout (by decide) (by decide)
    exact ⟨t, ht, h.rails, h.lastAck, h.slave, h.accepted, h.hold, h.chans, h.sealed⟩
  case rateRead =>
    refine becomes_actBy (exec_avsTransRateRead p sel s) ?_
    rw [avsRead_one hsp hone, avsAnswer_some]
    exact SameCore.refl _
  case reset =>
    have hok : avsOutcome s p 0x4#4 sel 0 false = .ok := by
      rw [avsOutcome_one rfl hone]
      exact setAck_ok hon hfree hhost c.eng.vboot
    obtain ⟨t, ht, h, ha⟩ := gives_avsTarget (exec_resetVoltage p sel false s) hsp hhold hok
      ((avsCommit_one (by decide) hone 0).trans (avsDo_reset 0 r c _))
    exact ⟨t, ht, h.target, h.src, ha.lastAck, ha.slave, h.seq, h.chans, h.sealed, h.rails⟩
  case statusRead =>
    refine becomes_actBy (exec_avsStatusRead p sel s) ?_
    rw [avsStatRead_owned hsp hown, avsAnswer_some]
    exact SameCore.refl _
  case statusWrite =>
    obtain ⟨t, ht, h⟩ := gives_avsStatusWrite hsp hown hhold hd
    have hport : (onPort p (fun x => { x with alert := false }) (holdless p s)).ports[p] =
        { s.ports[p] with hold := [], alert := false } := by
      rw [onPort_get, if_pos rfl, holdless_port]
    have halert := h.alert
    have hacc := h.accepted
    rw [hport] at halert hacc
    exact ⟨t, ht, halert, h.lastAck, h.slave, hacc, h.rails, h.sealed, h.chans⟩
  case version =>
    refine becomes_actBy (exec_avsVersionRead p sel s) ?_
    rw [avsVersRead_owned hsp hown, avsAnswer_some]
    exact SameCore.refl _
  case crc =>
    refine gives_actBy (exec_avsNoAction p sel .crc s) ?_
    have heq : avsNothing p sel .crc s = avsAnswer p sel .badCrc none s := if_pos hsp
    rw [heq]
    have h := (answered_avsAnswer p sel .badCrc none s).settle (occurs (avsNothing p sel .crc) s) s
    obtain ⟨w, st, hport⟩ := h.port
    refine ⟨h.lastAck, by rw [hport]; rfl, by rw [hport]; rfl, ?_, h.slave, h.accepted, h.rails, h.sealed, h.chans⟩
    rw [hport, ← satInc_eq_min]
    rfl

end Sys2Proof.Machine
end

section
/-! PROOF. The housekeeping ADC's slots, requests and references; the evaluation tick (R247 to R262, R286). -/

namespace Sys2Proof.Machine

theorem exec_hadcSlot (s : State) : exec .hadcSlot s = act slotOpen s := rfl
theorem exec_refsw (s : State) : exec .refsw s = act (onFire .refsw excludeOdd) s := rfl
theorem exec_reffrz (s : State) : exec .reffrz s = act (onFire .reffrz freezeRaises) s := rfl
theorem exec_unfreeze (w : Word) (s : State) : exec (.unfreeze w) s = act (onHost (refWrite w)) s := rfl
theorem exec_readmit (w : Word) (s : State) : exec (.readmit w) s = act (onHost (refWrite w)) s := rfl
theorem exec_hadcGo (w : Word) (s : State) : exec (.hadcGo w) s = act (onHost (reqWrite w)) s := rfl
theorem exec_hadcAvgsetApply (w : Word) (s : State) : exec (.hadcAvgsetApply w) s = act (onHost (avgWrite w)) s := rfl
theorem exec_macerationEnd (r : Option RailId) (s : State) :
    exec (.macerationEnd r) s = act (onFire (.macerationEnd r) (macerClose r)) s := rfl
theorem exec_thermalTick (s : State) :
    exec .thermalTick s = act (onFire .thermalTick (fun s => thermalEval (rearm evalTicks .thermalTick s))) s := rfl

/-! ## Slots (R247, R249) -/

/-- What a grant leaves of the converter: the slot count and that it runs. -/
def slotView (h : Hadc) : Nat × Bool := (h.slot, h.running)

theorem slotView_convSched (now : Nat) (l : List HadcEntry) (u : ConvUser) (h : Hadc) : slotView (convSched now l u h) = slotView h := by
  unfold convSched
  dsimp only
  split <;> rfl

theorem slotView_grant (now : Nat) (bad : Bool) (l : List HadcEntry) (keep : List (ConvUser × Nat)) (h : Hadc) :
    slotView (grant now bad l keep h) = slotView h := by
  unfold grant
  split
  · rfl
  · split
    · exact slotView_convSched _ _ _ _
    · dsimp only
      repeat' split
      all_goals rfl

/-- An urgent conversion is granted first. -/
theorem grant_urgent_user {h : Hadc} {u : Conv} (hu : u ∈ h.urgent.head?) (now : Nat) (bad : Bool) (l : List HadcEntry)
    (keep : List (ConvUser × Nat)) : (grant now bad l keep h).conv.map (·.user) = some u.user := by
  obtain ⟨us, hus⟩ : ∃ us, h.urgent = u :: us := List.head?_eq_some_iff.1 hu
  unfold grant
  rw [hus]
  rfl

theorem slotOpen_up {s : State} (hup : hadcUp s = true) : ∃ (keep : List (ConvUser × Nat)) (h : Hadc),
    h.slot = s.hadc.slot + 1 ∧ h.running = true ∧ h.conv = s.hadc.conv ∧ h.urgent = s.hadc.urgent ∧
    slotOpen s = { s with hadc :=
      if h.conv.isSome then { h with late := keep } else grant s.now (reqRefused s) (hadcEntries s) keep h } := by
  refine ⟨_, _, ?_, ?_, ?_, ?_, (if_neg (by rw [hup]; decide)).trans rfl⟩ <;> rfl

theorem gives_hadcSlot {s : State} (hup : hadcUp s = true) : Gives .hadcSlot s fun t => SameCore { s with hadc := t.hadc } t ∧
    t.hadc.slot = s.hadc.slot + 1 ∧ t.hadc.running = true ∧ (s.hadc.conv.isSome = true → t.hadc.conv = s.hadc.conv) ∧
    (s.hadc.conv = none → ∀ u ∈ s.hadc.urgent.head?, t.hadc.conv.map (·.user) = some u.user) := by
  obtain ⟨keep, h, hslot, hrun, hconv, hurgent, hopen⟩ := slotOpen_up hup
  refine gives_act (exec_hadcSlot s) ?_
  rw [settleBy_hadc, hopen]
  refine ⟨settleBy_core _ _ _ _, ?_, ?_, fun hsome => ?_, fun hnone u hu => ?_⟩
  · dsimp only
    split
    · exact hslot
    · exact (congrArg Prod.fst (slotView_grant _ _ _ _ _)).trans hslot
  · dsimp only
    split
    · exact hrun
    · exact (congrArg Prod.snd (slotView_grant _ _ _ _ _)).trans hrun
  · rw [← hconv] at hsome
    dsimp only
    rw [if_pos hsome]
    exact hconv
  · rw [← hconv] at hnone
    dsimp only
    rw [hnone, if_neg (by decide)]
    exact grant_urgent_user (by rwa [hurgent]) _ _ _ _

/-! ## Host results and requests (R250, R252) -/

theorem runBand_of_not_waiting {s : State} (h : s.pwr.runWait = false) : runBand s = s := by
  rw [runBand, h]
  rfl

theorem convDone_host {s : State} {c : Conv} (v : Int) (hconv : s.hadc.conv = some c) (huser : c.user = .host false)
    (hurgent : s.hadc.urgent = []) : convDone v s =
      { s with hadc := { s.hadc with
        conv := none
        req := { s.hadc.req with
          resMark := convMark s c, resSrc := false, resChan := c.input, resCode := BitVec.ofNat 12 (twos 12 (hadcCode c.range v)) } } } := by
  unfold convDone
  rw [hconv]
  simp only [huser, hurgent]

/-- HADC_REQ as a write leaves it before GO. -/
def reqTaken (w : Word) (s : State) : State :=
  { s with hadc := { s.hadc with req := { s.hadc.req with
    ovr := s.hadc.req.ovr && !bitw w 30, reqRej := s.hadc.req.reqRej && !bitw w 29, lowz := bitw w 24
    range := BitVec.ofNat 2 (bits w 22 2), tsel := BitVec.ofNat 5 (bits w 8 5), trigTmr := bitw w 7
    chan := BitVec.ofNat 7 (bits w 0 7) } } }

theorem reqWrite_go {w : Word} (h : bitw w 31 = true) (s : State) : reqWrite w s = hostTrigger false (reqTaken w s) := if_pos h

theorem hostTrigger_go {s : State} (hlegal : reqRefused s = false) (hfree : s.hadc.req.pendHost = false) :
    hostTrigger false s = { s with hadc := { s.hadc with req := { s.hadc.req with pendHost := true } } } := by
  unfold hostTrigger
  simp only [hlegal, hfree]
  rfl

/-- A request of an input without a schedule entry, below the analog banks, with its legal range. -/
theorem reqRefused_of {s : State} {i : Nat} (hi : s.hadc.req.chan.toNat = i) (hlt : i < 56)
    (hrange : inputRange i = some s.hadc.req.range.toNat) (hfree : ∀ e ∈ hadcEntries s, e.chan ≠ i) : reqRefused s = false := by
  have hnone : ((hadcEntries s).any fun e => e.chan == i && e.range != s.hadc.req.range.toNat) = false := by
    rw [List.any_eq_false]
    intro e he
    simp [hfree e he]
  have h91 : (i == 91) = false := by simp; omega
  have h93 : decide (93 ≤ i) = false := by simp; omega
  have h56 : decide (56 ≤ i) = false := by simp; omega
  unfold reqRefused
  simp only [hi, hrange, hnone, h91, h93, h56, bne_self_eq_false, Bool.false_and, Bool.or_false]

/-! ## HADC_REF (R260 to R262) -/

/-- What the selections of the VSEL ports leave. -/
def refView (s : State) : Hadc × Vector Chan 192 × Seal × Power := (s.hadc, s.chans, s.sealed, s.pwr)

theorem refView_vselWrite (r : RailId) (p : PortId) (v : Nat) (s : State) : refView (vselWrite r p v s) = refView s := by
  unfold vselWrite
  repeat' split
  all_goals rfl

/-- UNFREEZE ends the freeze of raises where the last round agreed. -/
def unfrozen (w : Word) (m : HadcMon) : HadcMon := if bitw w 31 ∧ m.freeze ∧ m.lastOk then { m with freeze := false } else m

/-- The excluded source agreed with both others in the last round. -/
def agreesAgain (m : HadcMon) : Bool :=
  match m.excl with
  | 1 => !m.lastRound.getD 0 false && !m.lastRound.getD 1 false
  | 2 => !m.lastRound.getD 0 false && !m.lastRound.getD 2 false
  | 3 => !m.lastRound.getD 1 false && !m.lastRound.getD 2 false
  | _ => false

/-- READMIT takes the excluded source back where it agrees. -/
def readmitted (w : Word) (m : HadcMon) : HadcMon :=
  if bitw w 30 ∧ agreesAgain m then { m with excl := 0, since := none, odd := 0, nopair := false, twoWay := false } else m

/-- The state with HADC_REF written. -/
def refWritten (w : Word) (s : State) : State := { s with hadc := { s.hadc with mon := readmitted w (unfrozen w s.hadc.mon) } }

/-- The selection of rail `r` that a raise freeze has held is applied. -/
def vselRelease (r : RailId) (s : State) : State :=
  match s.rails[r].pos.vselHeld, vselTarget s r with
  | some t, some (p, _) =>
    let s := onPort p (fun x => { x with vselPend := false }) s
    if railState s.rails[r] = 2 then vselWrite r p t s
    else onRail r (fun x => { x with pos := { x.pos with vselHeld := none } }) s
  | _, _ => s

theorem refView_vselRelease (r : RailId) (s : State) : refView (vselRelease r s) = refView s := by
  unfold vselRelease
  split
  · dsimp only
    split
    · exact refView_vselWrite _ _ _ _
    · rfl
  · rfl

theorem refWrite_eq (w : Word) (s : State) : refWrite w s =
    if (refWritten w s).hadc.mon.freeze then refWritten w s else forEach (allFin 24) vselRelease (refWritten w s) := rfl

/-- The selections that an end of the freeze lets go leave HADC_REF as written. -/
theorem refView_refWrite (w : Word) (s : State) : refView (refWrite w s) = refView (refWritten w s) := by
  rw [refWrite_eq]
  split
  · rfl
  · exact forEach_keeps refView _ _ refView_vselRelease _

/-- A write of HADC_REF gives what it shows of the HADC, the channels, the image and the power state. -/
theorem gives_refWrite {c : Instr} {s : State} {w : Word} {m : HadcMon} (hexec : exec c s = act (onHost (refWrite w)) s)
    (hup : hostUp s = true) (hm : readmitted w (unfrozen w s.hadc.mon) = m) : Gives c s fun t =>
      t.hadc = { s.hadc with mon := m } ∧ t.chans = s.chans ∧ t.sealed = s.sealed ∧ t.pwr = s.pwr := by
  have h := refView_refWrite w s
  simp only [refView, refWritten, Prod.mk.injEq, hm] at h
  obtain ⟨hhadc, hchans, hsealed, hpwr⟩ := h
  refine gives_onHost hexec hup ⟨?_, ?_, ?_, ?_⟩
  · rw [settleBy_hadc, hhadc]
  · rw [settleBy_chans, hchans]
  · rw [settleBy_sealed, hsealed]
  · rw [settleBy_pwr, hpwr]

/-! ## The odd source is excluded (R260) -/

/-- What the marks of engine samples and the aborts of soundings leave. -/
def exclView (s : State) : HadcMon × HadcReq × Vector Chan 192 × Seal := (s.hadc.mon, s.hadc.req, s.chans, s.sealed)

theorem exclView_sndAbort (r : RailId) (s : State) : exclView (sndAbort r s) = exclView s := rfl

theorem exclView_remark (e : Nat) (rc : RailId × RailCfg) (s : State) : exclView (remark e rc s) = exclView s := by
  unfold remark
  dsimp only
  repeat' split
  all_goals rfl

/-- REFSW names the odd source as excluded; the other bandgap takes over where the odd one was active. -/
def excluded (now : Nat) (m : HadcMon) : HadcMon :=
  { m with
    excl := m.odd, odd := 0, since := none, refSw := true, active := if m.odd == m.active then ~~~m.active else m.active
    gapAt := if m.odd == m.active then some (2 * (now + 1)) else m.gapAt }

theorem exclView_excludeOdd (s : State) : exclView (excludeOdd s) = (excluded (cycle s) s.hadc.mon, s.hadc.req, s.chans, s.sealed) := by
  cases hsw : s.hadc.mon.odd == s.hadc.mon.active
  · unfold excludeOdd excluded
    simp only [hsw]
    rfl
  · unfold excludeOdd excluded
    simp only [hsw, if_true]
    exact (forEach_keeps exclView _ _ (exclView_remark _) _).trans ((forEach_keeps exclView _ _ exclView_sndAbort _).trans rfl)

theorem gives_refsw {s : State} (hdue : isDue .refsw s = true) : Gives .refsw s fun t => t.hadc.mon = excluded (cycle s) s.hadc.mon ∧
    t.hadc.req = s.hadc.req ∧ t.chans = s.chans ∧ t.sealed = s.sealed := by
  have h := exclView_excludeOdd (disarm (· == .refsw) s)
  simp only [exclView, Prod.mk.injEq] at h
  obtain ⟨hmon, hreq, hchans, hsealed⟩ := h
  refine gives_onFire (exec_refsw s) hdue ⟨?_, ?_, ?_, ?_⟩
  · rw [settleBy_hadc, hmon]
    rfl
  · rw [settleBy_hadc, hreq]
    rfl
  · rw [settleBy_chans, hchans]
    rfl
  · rw [settleBy_sealed, hsealed]
    rfl

/-! ## The evaluation tick (R286) -/

/-- What a change of a rail's throttling leaves. -/
def throttleView (s : State) : Thermal × Vector Chan 192 × Seal × Bool :=
  ({ s.thm with throt := false }, s.chans, s.sealed, isArmed .thermalTick s)

theorem throttleView_congr {s t : State} (hthm : { t.thm with throt := false } = { s.thm with throt := false })
    (hchans : t.chans = s.chans) (hsealed : t.sealed = s.sealed) (harmed : isArmed .thermalTick t = isArmed .thermalTick s) :
    throttleView t = throttleView s := by
  rw [throttleView, throttleView, hthm, hchans, hsealed, harmed]

theorem throttleView_arm (n : Nat) (r : RailId) (s : State) : throttleView (arm n (.throttleStep r) s) = throttleView s :=
  throttleView_congr rfl rfl rfl (isArmed_arm_ne (by simp) n s)

theorem throttleView_disarm (r : RailId) (s : State) : throttleView (disarm (· == .throttleStep r) s) = throttleView s :=
  throttleView_congr rfl rfl rfl (isArmed_disarm_ne (by simp) s)

theorem throttleView_throttleRail (rc : RailId × RailCfg) (s : State) : throttleView (throttleRail rc s) = throttleView s := by
  unfold throttleRail throttleOn throttleOff
  dsimp only
  repeat' split
  · rfl
  · exact throttleView_arm _ _ _
  · rfl
  · exact throttleView_arm _ _ _
  · exact throttleView_disarm _ _
  · rfl

/-- The thermal block with its sensors evaluated. -/
def evaluated (tb : TbandCfg) (m : Thermal) : Thermal :=
  { m with
    sens := m.sens.mapIdx fun i k => sensorTick (tb.ror.getD i 0) k
    rorx := m.rorx || (List.zipWith (fun a b => !a.rorx && b.rorx) m.sens
      (m.sens.mapIdx fun i k => sensorTick (tb.ror.getD i 0) k)).any id }

theorem thermalEval_outside {s : State} {tb : TbandCfg} (htb : tbandCfg s = some tb) (hmac : s.hadc.mon.macDev = false) :
    thermalEval s = throttleAll { s with thm := evaluated tb s.thm } := by
  unfold thermalEval
  rw [htb]
  simp only [hmac]
  rfl

/-- An evaluation tick outside the device window. -/
theorem gives_thermalTick {s : State} {tb : TbandCfg} (hdue : isDue .thermalTick s = true) (htb : tbandCfg s = some tb)
    (hmac : s.hadc.mon.macDev = false) : Gives .thermalTick s fun t =>
      t.thm.sens = s.thm.sens.mapIdx (fun i k => sensorTick (tb.ror.getD i 0) k) ∧ isArmed .thermalTick t = true ∧
      t.thm.tj = s.thm.tj ∧ t.thm.band = s.thm.band ∧ t.chans = s.chans ∧ t.sealed = s.sealed := by
  have heval := thermalEval_outside (s := rearm evalTicks .thermalTick (disarm (· == .thermalTick) s)) htb hmac
  have h : throttleView (throttleAll _) = throttleView { rearm evalTicks .thermalTick (disarm (· == .thermalTick) s) with
      thm := evaluated tb s.thm } := forEach_keeps throttleView _ _ throttleView_throttleRail _
  simp only [throttleView, Prod.mk.injEq] at h
  obtain ⟨hthm, hchans, hsealed, harmed⟩ := h
  refine gives_onFire (exec_thermalTick s) hdue ?_
  rw [heval]
  refine ⟨?_, ?_, ?_, ?_, ?_, ?_⟩
  · rw [settleBy_thm]
    exact (congrArg Thermal.sens hthm :)
  · rw [isArmed_settleBy (by simp)]
    exact harmed.trans (isArmed_rearm _ _ _)
  · rw [settleBy_thm]
    exact (congrArg Thermal.tj hthm :)
  · rw [settleBy_thm]
    exact (congrArg Thermal.band hthm :)
  · rw [settleBy_chans]
    exact hchans
  · rw [settleBy_sealed]
    exact hsealed

/-! ## The statement -/

theorem unfrozen_ends {w : Word} {m : HadcMon} (hw : bitw w 31 = true) (hfrz : m.freeze = true) (hok : m.lastOk = true) :
    unfrozen w m = { m with freeze := false } := if_pos ⟨hw, hfrz, hok⟩

theorem unfrozen_stays {w : Word} {m : HadcMon} (h : bitw w 31 = false ∨ m.lastOk = false) : unfrozen w m = m :=
  if_neg (by rintro ⟨hw, _, hok⟩; rcases h with h | h <;> simp [h] at hw hok)

theorem readmitted_stays {w : Word} (h : bitw w 30 = false) (m : HadcMon) : readmitted w m = m :=
  if_neg (by rintro ⟨hw, _⟩; simp [h] at hw)

/-- Settles O15: slots by `grant_urgent_user`, HADC_REF by `refView_refWrite`, the odd source by `exclView_excludeOdd`, the evaluation
tick by `throttleView_throttleRail`. -/
theorem hadcAndReferences : Obligations.HadcAndReferences := by
  refine ⟨fun s hup => gives_hadcSlot hup, fun s c v hup hconv huser hurgent hwait => ?host,
    fun s w hup hgo hlt hrange hfree hpend => ?go, fun s w hup happly hlt => ?avg, fun s hdue => ?refsw, fun s hdue => ?reffrz,
    fun s w hup h31 h30 hfrz hok => gives_refWrite (exec_unfreeze w s) hup ?unfreeze, fun s w hup h31 h30 hfrz hok => ?stays,
    fun s w hup h30 h31 hex h0 h1 => gives_refWrite (exec_readmit w s) hup ?readmit, fun s r hdue => ?rail, fun s hdue htest => ?device,
    fun s tb hdue htb hmac => gives_thermalTick hdue htb hmac⟩
  case host =>
    refine becomes_act (exec_hadcConversionDone v s) ?_
    rw [hadcResult, if_pos hup, convDone_host v hconv huser hurgent]
    exact Eq.mpr (congrArg (SameCore _) (runBand_of_not_waiting hwait)) (SameCore.refl _)
  case go =>
    refine becomes_onHost (exec_hadcGo w s) hup ?_
    have hchan : (reqTaken w s).hadc.req.chan.toNat = bits w 0 7 := Nat.mod_eq_of_lt (by omega)
    have hr : (reqTaken w s).hadc.req.range.toNat = bits w 22 2 := Nat.mod_eq_of_lt (Nat.mod_lt _ (by decide))
    have hlegal : reqRefused (reqTaken w s) = false := reqRefused_of hchan hlt (by rw [hr, hrange]) hfree
    rw [reqWrite_go hgo, hostTrigger_go hlegal hpend]
    exact SameCore.refl _
  case avg =>
    refine becomes_onHost (exec_hadcAvgsetApply w s) hup ?_
    unfold avgWrite
    dsimp only
    rw [if_pos ⟨happly, hlt⟩]
    exact SameCore.refl _
  case refsw =>
    obtain ⟨t, ht, hmon, hreq, hchans, hsealed⟩ := gives_refsw hdue
    refine ⟨t, ht, ?_, ?_, ?_, ?_, hreq, hchans, hsealed⟩ <;> rw [hmon]
    · rfl
    · rfl
    · rfl
    · simp only [excluded, beq_iff_eq]
  case reffrz => exact becomes_onFire (exec_reffrz s) hdue (core_agenda _ _)
  case unfreeze => rw [unfrozen_ends h31 hfrz hok, readmitted_stays h30]
  case stays =>
    refine becomes_onHost (exec_unfreeze w s) hup ?_
    have hsame : refWritten w s = s := by rw [refWritten, unfrozen_stays (.inr hok), readmitted_stays h30]
    rw [refWrite_eq, hsame, if_pos hfrz]
    exact SameCore.refl _
  case readmit =>
    rw [unfrozen_stays (.inl h31)]
    refine if_pos ⟨h30, ?_⟩
    unfold agreesAgain
    rw [hex, h0, h1]
    rfl
  case rail => exact becomes_onFire (exec_macerationEnd (some r) s) hdue (core_agenda _ _)
  case device =>
    refine becomes_onFire (exec_macerationEnd none s) hdue ?_
    refine Eq.mpr (congrArg (SameCore _) (if_neg ?_)) (core_agenda _ _)
    show ¬ s.nvl.testDue = true
    rw [htest]
    decide

end Sys2Proof.Machine
end

section
/-! PROOF. Coefficient sets, position commands and bank self-tests (R144, R167, R175 to R180). -/

namespace Sys2Proof.Machine

theorem exec_coefApply (r : RailId) (w : Word) (s : State) : exec (.coefApply r w) s = act (onRailPage r (fun _ => coefWrite r w)) s := rfl
theorem exec_bypass (r : RailId) (q : Fin 32) (s : State) :
    exec (.bypass r q) s = act (onRailPage r (fun c => phcmdWrite r c (phcmdWord 1 q.val))) s := rfl
theorem exec_restore (r : RailId) (q : Fin 32) (s : State) :
    exec (.restore r q) s = act (onRailPage r (fun c => phcmdWrite r c (phcmdWord 2 q.val))) s := rfl
theorem exec_restoreDiscoveryDone (r : RailId) (p : Probe) (cal : Int) (s : State) :
    exec (.restoreDiscoveryDone r p cal) s = act (restoreEnd r p cal) s := rfl
theorem exec_balTrim (r : RailId) (s : State) :
    exec (.balTrim r) s = act (onRailPage r (fun c => phcmdWrite r c (phcmdWord 3 0))) s := rfl
theorem exec_balRotate (r : RailId) (s : State) :
    exec (.balRotate r) s = act (onRailPage r (fun c => phcmdWrite r c (phcmdWord 4 0))) s := rfl
theorem exec_bankBistStart (b : BankId) (w : Word) (s : State) : exec (.bankBistStart b w) s = act (onHost (bistWrite b w)) s := rfl
theorem exec_bistComplete (b : BankId) (m : Byte) (i : BitVec 4) (s : State) :
    exec (.bistComplete b m i) s = act (fun s => if ctlUp s then bistEnd b m i s else s) s := rfl

theorem islandUp_of_hostUp {s : State} (h : hostUp s = true) : islandUp s = true := by
  simp only [hostUp, Bool.and_eq_true] at h
  exact h.2

/-- A write to the page of a configured rail. -/
theorem onRailPage_eq {s : State} {r : RailId} {c : RailCfg} (hup : hostUp s = true) (hcfg : railCfg s r = some c)
    (f : RailCfg → State → State) : onRailPage r f s = f c s := by
  rw [onRailPage, if_pos hup, hcfg]

/-! ## RAIL_PHCMD (R179) -/

theorem phcmdWord_toNat {n q : Nat} (hn : n < 16) (hq : q < 32) : (phcmdWord n q).toNat = 0xA5000000 + q * 256 + n := by
  have hsum : [fld 24 8 0xA5, fld 8 5 q, n].sum = 0xA5000000 + q * 256 + n := by
    simp [fld, Nat.mod_eq_of_lt hq]
    omega
  rw [phcmdWord, mkWord, hsum]
  exact Nat.mod_eq_of_lt (by omega)

/-- The fields of a RAIL_PHCMD word. -/
theorem phcmdWord_fields {n q : Nat} (hn : n < 16) (hq : q < 32) :
    bits (phcmdWord n q) 24 8 = 0xA5 ∧ bits (phcmdWord n q) 8 5 = q ∧ bits (phcmdWord n q) 0 4 = n := by
  simp only [bits, phcmdWord_toNat hn hq]
  omega

theorem phcmdWrite_bypass (r : RailId) (c : RailCfg) (q : Fin 32) (s : State) :
    phcmdWrite r c (phcmdWord 1 q.val) s = phBypass r c q.val s := by
  obtain ⟨hkey, hpos, hcmd⟩ := phcmdWord_fields (n := 1) (by decide) q.isLt
  simp only [phcmdWrite, hkey, hpos, hcmd]
  rfl

theorem phcmdWrite_restore (r : RailId) (c : RailCfg) (q : Fin 32) (s : State) :
    phcmdWrite r c (phcmdWord 2 q.val) s = phRestore r c q.val s := by
  obtain ⟨hkey, hpos, hcmd⟩ := phcmdWord_fields (n := 2) (by decide) q.isLt
  simp only [phcmdWrite, hkey, hpos, hcmd]
  rfl

theorem phcmdWrite_balance (r : RailId) (c : RailCfg) (s : State) :
    phcmdWrite r c (phcmdWord 3 0) s = phBalance r false 0 s ∧ phcmdWrite r c (phcmdWord 4 0) s = phBalance r true 0 s := by
  obtain ⟨hkey, hpos, hcmd⟩ := phcmdWord_fields (n := 3) (q := 0) (by decide) (by decide)
  obtain ⟨hkey', hpos', hcmd'⟩ := phcmdWord_fields (n := 4) (q := 0) (by decide) (by decide)
  constructor
  · simp only [phcmdWrite, hkey, hpos, hcmd]
    rfl
  · simp only [phcmdWrite, hkey', hpos', hcmd']
    rfl

theorem phBalance_stopped {s : State} {r : RailId} (hbusy : s.rails[r].ph.busy = false) (hst : railState s.rails[r] = 0) (rot : Bool) :
    phBalance r rot 0 s = onRail r (fun x => { x with
      ph := { x.ph with pos := 0, result := 0 }
      sh := { x.sh with rotate := rot, rot := 0, rotCnt := 0, acc := List.replicate 32 0, trim := List.replicate 32 0
                        trimNew := none } }) s := by
  unfold phBalance
  refine if_neg ?_
  rintro (h | h)
  · rw [hbusy] at h
    cases h
  · rw [isStopped, hst] at h
    cases h

/-- A command that the unit refuses as busy. -/
theorem phResult_reject (q : Nat) (x : Rail) : phResult q 0x80 x =
    { x with ph := { x.ph with pos := q, result := 0x80, rejCnt := min 255 (x.ph.rejCnt + 1) }, sh := { x.sh with phRej := true } } := by
  rw [phResult, if_pos rfl, satInc_eq_min]

theorem phBypass_busy {s : State} {r : RailId} {c : RailCfg} (hbusy : s.rails[r].ph.busy = true) (q : Nat) :
    phBypass r c q s = onRail r (phResult q 0x80) s := by
  have hcode : bypassCode c s.rails[r] q = 0x80 := by rw [bypassCode, if_pos hbusy]
  unfold phBypass
  rw [hcode]
  exact if_neg (by decide)

/-- The conditions of a BYPASS hold on a rail that does not start or stop. -/
theorem bypassCode_zero {c : RailCfg} {x : Rail} {q : Nat} (hcan : c.acc.bypass = true) (hbusy : x.ph.busy = false) (hq : q < c.acc.nph)
    (hby : x.ph.bypDue = []) (hres : x.ph.resDue = none) (hin : x.sh.bypass.getLsbD q = false) (hn : c.acc.nmin + 1 ≤ navl c x)
    (hst : railState x = 0 ∨ railState x = 2) : bypassCode c x q = 0 := by
  have hmask : dueMask x = x.sh.bypass := by
    rw [dueMask, hby, hres]
    rfl
  have havail : availOf c x.sh.bypass = navl c x := rfl
  rw [bypassCode, hbusy, hcan, hmask, havail, if_neg (by decide), if_neg (by decide), if_neg (by simp [hin]; omega), if_neg (by omega),
    if_neg (by omega)]

/-- A change of a rail depends on the rail as it stands alone. -/
theorem onRail_congr {r : RailId} {f g : Rail → Rail} {s : State} (h : f s.rails[r] = g s.rails[r]) : onRail r f s = onRail r g s := by
  have h' : upd s.rails r f = upd s.rails r g := congrArg (fun x => s.rails.set r.val x r.isLt) h
  rw [onRail, onRail, h']

theorem phBypass_taken {s : State} {r : RailId} {c : RailCfg} {q : Nat} (hcode : bypassCode c s.rails[r] q = 0)
    (hby : s.rails[r].ph.bypDue = []) : phBypass r c q s =
      if setAtOnce s.rails[r] then
        applyDue r c (onRail r (fun x => { x with ph := { x.ph with pos := q, result := 0, bypDue := [q] } }) s)
      else onRail r (fun x => { x with ph := { x.ph with pos := q, result := 0, bypDue := [q] } }) s := by
  have hrail : onRail r (fun x => { x with ph := { x.ph with bypDue := x.ph.bypDue ++ [q] } }) (onRail r (phResult q 0) s) =
      onRail r (fun x => { x with ph := { x.ph with pos := q, result := 0, bypDue := [q] } }) s := by
    rw [onRail_onRail]
    refine onRail_congr ?_
    show ({ s.rails[r] with ph := { s.rails[r].ph with pos := q, result := 0, bypDue := s.rails[r].ph.bypDue ++ [q] } } : Rail) = _
    rw [hby]
    rfl
  have hst : setAtOnce (onRail r (fun x => { x with ph := { x.ph with pos := q, result := 0, bypDue := [q] } }) s).rails[r] =
      setAtOnce s.rails[r] := by
    rw [onRail_get, if_pos rfl]
    rfl
  have hwhole : phBypass r c q s =
      if setAtOnce (onRail r (fun x => { x with ph := { x.ph with bypDue := x.ph.bypDue ++ [q] } }) (onRail r (phResult q 0) s)).rails[r]
      then applyDue r c (onRail r (fun x => { x with ph := { x.ph with bypDue := x.ph.bypDue ++ [q] } }) (onRail r (phResult q 0) s))
      else onRail r (fun x => { x with ph := { x.ph with bypDue := x.ph.bypDue ++ [q] } }) (onRail r (phResult q 0) s) := by
    unfold phBypass
    simp only [hcode, if_true]
  simp only [hwhole, hrail, hst]

theorem restoreCode_zero {s : State} {c : RailCfg} {x : Rail} {q : Nat} (hbusy : x.ph.busy = false) (hq : q < c.acc.nph)
    (hin : x.sh.bypass.getLsbD q = true) (hst : railState x = 0 ∨ railState x = 2) (hbist : bistFailed s c q = false) :
    restoreCode s c x q = 0 := by
  rw [restoreCode, hbusy, hin, hbist, if_neg (by decide), if_neg (by simp; omega), if_neg (by omega), if_neg (by decide)]

/-! ## A step of the active set (R41, R163, R166, R176) -/

/-- The position commands of a rail, its bypass set and PHREJ. -/
def phKept (x : Rail) : RailPh × Word × Bool := (x.ph, x.sh.bypass, x.sh.phRej)

theorem phKept_stepMode (c : RailCfg) (d : Option StepDec) (x : Rail) : phKept (stepMode c d x) = phKept x := by
  unfold stepMode
  repeat' split
  all_goals rfl

theorem phKept_sndAbortRail (x : Rail) : phKept (sndAbortRail x) = phKept x := by
  unfold sndAbortRail
  split <;> rfl

/-- A rail after a step of its active set. -/
def stepped (c : RailCfg) (n : Nat) (mask : Word) (d : Option StepDec) (x0 : Rail) : Rail :=
  let x := { x0 with sh := { x0.sh with nact := n, bypass := mask, dwCnt := 0, decided := none } }
  let moved := active c x != active c x0
  let x := stepMode c d x
  let x := if restarts moved x0.sh.bypass mask d then { x with sh := { x.sh with rot := 0, rotCnt := 0 } } else x
  let x := if moved then movedShare c x else clearBypassed x
  if moved ∨ mask ≠ x0.sh.bypass then sndAbortRail x else x

theorem stepSet_rail (r : RailId) (c : RailCfg) (n : Nat) (mask : Word) (d : Option StepDec) (s : State) :
    (stepSet r c n mask d s).rails[r] = stepped c n mask d s.rails[r] :=
  (onRail_get r r _ s).trans (if_pos rfl)

theorem phKept_stepped (c : RailCfg) (n : Nat) (mask : Word) (d : Option StepDec) (x : Rail) :
    phKept (stepped c n mask d x) = (x.ph, mask, x.sh.phRej) := by
  have hmoved (y : Rail) : phKept (movedShare c y) = phKept y := rfl
  have hclear (y : Rail) : phKept (clearBypassed y) = phKept y := rfl
  have hshare (y : Rail) (m : Bool) : phKept (if m then movedShare c y else clearBypassed y) = phKept y := by
    split
    · exact hmoved y
    · exact hclear y
  have hrot (y : Rail) (m : Bool) : phKept (if m then { y with sh := { y.sh with rot := 0, rotCnt := 0 } } else y) = phKept y := by
    split <;> rfl
  have habort (y : Rail) (p : Prop) [Decidable p] : phKept (if p then sndAbortRail y else y) = phKept y := by
    split
    · exact phKept_sndAbortRail y
    · rfl
  unfold stepped
  dsimp only
  rw [habort, hshare, hrot, phKept_stepMode]
  rfl

/-! ## What the commands that have fallen due leave (R176, R177) -/

/-- A rail's position commands and bypass set, the calibration of a channel, the monitor of the HADC and the image. -/
def dueView (r : RailId) (ch : ChanId) (s : State) : (RailPh × Word × Bool) × Int × HadcMon × Seal :=
  (phKept s.rails[r], s.chans[ch].iofs, s.hadc.mon, s.sealed)

section
variable (r : RailId) (ch : ChanId)

theorem dueView_onRail (q : RailId) {f : Rail → Rail} (hf : ∀ x, phKept (f x) = phKept x) (s : State) :
    dueView r ch (onRail q f s) = dueView r ch s := by
  have hrail : phKept (onRail q f s).rails[r] = phKept s.rails[r] := by
    rw [onRail_get]
    split
    next h => rw [hf, h]
    next => rfl
  rw [dueView, hrail]
  rfl

theorem dueView_onCfgRails {f : RailId → RailCfg → Rail → Rail} (hf : ∀ i c x, phKept (f i c x) = phKept x) (s : State) :
    dueView r ch (onCfgRails f s) = dueView r ch s := by
  have hrail : phKept (onCfgRails f s).rails[r] = phKept s.rails[r] := by
    rw [onCfgRails_get]
    split
    · exact hf _ _ _
    · rfl
  rw [dueView, hrail]
  rfl

theorem dueView_onChans (l : List Nat) {f : Nat → Chan → Chan} (hf : ∀ i k, (f i k).iofs = k.iofs) (s : State) :
    dueView r ch (onChans l f s) = dueView r ch s := by
  have hchan : (onChans l f s).chans[ch].iofs = s.chans[ch].iofs := by
    rw [onChans_get]
    split
    · exact hf _ _
    · rfl
  rw [dueView, hchan]
  rfl

theorem dueView_onChan (i : ChanId) {f : Chan → Chan} (hf : ∀ k, (f k).iofs = k.iofs) (s : State) :
    dueView r ch (onChan i f s) = dueView r ch s := by
  have hchan : (onChan i f s).chans[ch].iofs = s.chans[ch].iofs := by
    rw [onChan_get]
    split
    next h => rw [hf, h]
    next => rfl
  rw [dueView, hchan]
  rfl

theorem dueView_throttleRail (rc : RailId × RailCfg) (s : State) : dueView r ch (throttleRail rc s) = dueView r ch s := by
  have hlim (q : RailId) (l : RailLim → RailLim) (t : State) :
      dueView r ch (onRail q (fun x => { x with lim := l x.lim }) t) = dueView r ch t := by
    refine dueView_onRail r ch q (fun _ => ?_) t
    rfl
  unfold throttleRail throttleOn throttleOff
  dsimp only
  repeat' split
  · exact hlim rc.1 (fun l => { l with throttled := true, rising := false }) s
  · exact hlim rc.1 (fun l => { l with throttled := true, rising := false }) s
  · exact hlim rc.1 (fun l => { l with throttled := false, rising := true, held := false }) s
  · exact hlim rc.1 (fun l => { l with throttled := false, rising := true, held := false }) s
  · exact hlim rc.1 (fun l => { l with throttled := false, rising := false, held := false }) s
  · rfl

theorem dueView_throttleAll (s : State) : dueView r ch (throttleAll s) = dueView r ch s :=
  forEach_keeps (dueView r ch) _ _ (dueView_throttleRail r ch) s

theorem dueView_brefEvent (b : BankId) (s : State) : dueView r ch (brefEvent b s) = dueView r ch s := by
  have hspoil : dueView r ch (roundSpoil b (onBank b brefOpen s)) = dueView r ch s := by
    refine (dueView_onCfgRails r ch (fun _ _ x => ?_) _).trans rfl
    split <;> rfl
  unfold brefEvent
  dsimp only
  split <;> exact hspoil

theorem dueView_safeChans (l : List Nat) (s : State) : dueView r ch (safeChans l s) = dueView r ch s := by
  have hsafe (i : Nat) (k : Chan) : (toSafe s.now k).iofs = k.iofs := by
    unfold toSafe dropUpdate
    dsimp only
    repeat' split
    all_goals rfl
  unfold safeChans brefEvents
  refine (forEach_keeps (dueView r ch) _ _ (fun b t => ?_) _).trans ((dueView_onChans r ch l hsafe s))
  split
  · exact dueView_brefEvent r ch _ t
  · rfl

theorem dueView_railHalt (q : RailId) (s : State) : dueView r ch (railHalt q s) = dueView r ch s := by
  have hdrop : dueView r ch (sndDrop q s) = dueView r ch s := by
    refine (dueView_onRail r ch q (fun x => ?_) _).trans ((dueView_onRail r ch q phKept_sndAbortRail _).trans rfl)
    split <;> rfl
  unfold railHalt
  refine (dueView_onRail r ch q (fun x => ?_) _).trans ?_
  · rfl
  exact (dueView_onRail r ch q (f := pgSet false) (fun _ => rfl) (disarmSeq q (sndDrop q s))).trans hdrop

theorem dueView_latchTrip (q : RailId) (c : RailCfg) (cause : BitVec 2) (w : Nat) (s : State) :
    dueView r ch (latchTrip q c cause w s) = dueView r ch s := by
  have hbeside (n : Nat) (d : Bool) (x : Rail) : phKept (bdBeside n d x) = phKept x := by
    unfold bdBeside
    repeat' split
    all_goals rfl
  unfold latchTrip
  dsimp only
  rw [dueView_safeChans]
  refine (dueView_onRail r ch q (fun x => ?_) _).trans (dueView_railHalt r ch q s)
  exact hbeside _ _ _

theorem dueView_countTrip (q : RailId) (c : RailCfg) (i : ChanId) (s : State) : dueView r ch (countTrip q c i s) = dueView r ch s := by
  have hcount (n : Nat) : dueView r ch
      (onRail q (fun x => { x with trip := { x.trip with inPeriod := true, count := n, tripAt := some (cycle s) } }) s) =
        dueView r ch s := by
    refine dueView_onRail r ch q (fun x => ?_) s
    rfl
  unfold countTrip
  dsimp only
  repeat' split
  · rfl
  · exact hcount _
  · exact hcount _

theorem dueView_phaseTrip (i : ChanId) (s : State) : dueView r ch (phaseTrip i s) = dueView r ch s := by
  have hterm (k : Chan) : (terminate s k).iofs = k.iofs := by
    unfold terminate dropUpdate
    dsimp only
    repeat' split
    all_goals rfl
  unfold phaseTrip
  split
  · rfl
  · dsimp only
    split
    · rfl
    split
    · exact dueView_latchTrip r ch _ _ _ _ s
    · rw [dueView_countTrip]
      split
      · rfl
      · exact dueView_onChan r ch i hterm s

end

end Sys2Proof.Machine
end

section
/-! PROOF. The statement about coefficient sets, position commands and bank self-tests (R144, R167, R175 to R180). -/

namespace Sys2Proof.Machine

/-! ## Commands that take effect at once (R176, R177) -/

/-- The position commands of a rail that have fallen due have ended. -/
def dueEnded (x : Rail) : Rail :=
  match x.ph.resDue with
  | none => { x with ph := { x.ph with bypDue := [] } }
  | some q =>
    let bad := x.seq.discBad &&& ~~~(1#32 <<< q)
    { x with ph := { x.ph with bypDue := [], resDue := none, resPos := none, busy := false, result := 0 }
             seq := { x.seq with discBad := bad, discHold := x.seq.discHold && bad != 0 } }

/-- The commands that have fallen due are applied, the raw comparators aside. -/
def dueApplied (r : RailId) (c : RailCfg) (s : State) : State :=
  throttleAll (onRail r dueEnded
    (stepSet r c (min s.rails[r].sh.nact (availOf c (dueMask s.rails[r]))) (dueMask s.rails[r]) none s))

theorem applyDue_eq {r : RailId} {c : RailCfg} {s : State} (h : (s.rails[r].ph.bypDue.isEmpty && s.rails[r].ph.resDue.isNone) = false) :
    applyDue r c s = (match s.rails[r].ph.resDue.bind fun q => toFin 192 (c.acc.phase.getD q 0) with
      | some ch => if (dueApplied r c s).chans[ch].rawTrip then phaseTrip ch (dueApplied r c s) else dueApplied r c s
      | none => dueApplied r c s) := by
  unfold applyDue
  exact if_neg (by rw [h]; decide)

theorem stepChan_iofs (s : State) (c : RailCfg) (x : Rail) (moved : Bool) (ch : Nat) (k : Chan) :
    (stepChan s c x moved ch k).iofs = k.iofs := by
  have htake (sl off : Nat) (k : Chan) : (takeSlot s c x ch sl off k).iofs = k.iofs := by
    unfold takeSlot
    split <;> rfl
  have hdisch (b : Bool) (k : Chan) : (dischLevel s.now c b ch k).iofs = k.iofs := by
    unfold dischLevel
    split <;> rfl
  have hleave (st : ChSt) (k : Chan) : (leave s.now st k).iofs = k.iofs := by
    unfold leave
    split <;> rfl
  have hshed (k : Chan) : (shedCarrier s c x k).iofs = k.iofs := by
    unfold shedCarrier
    split <;> rfl
  have hrest (low : Bool) : (if x.seq.disch then dischLevel s.now c low ch { k with st := restState c x ch }
      else { k with st := restState c x ch }).iofs = k.iofs := by
    split
    · exact hdisch _ _
    · rfl
  unfold stepChan
  split
  · rfl
  split
  · rfl
  dsimp only
  split
  · split
    · split
      · exact (htake _ _ _).trans (hrest _)
      · exact hrest _
    · split
      · exact hrest _
      · exact (hshed _).trans (hrest _)
  split
  · split
    · rfl
    · exact hleave _ _
  split
  · split
    · exact hshed _
    · exact (hleave _ _).trans (hshed _)
  · split
    · rfl
    · exact htake _ _ _

theorem switchWords_iofs (s : State) (c : RailCfg) (m : ModMode) (k : Chan) : (switchWords s c m k).iofs = k.iofs := by
  unfold switchWords
  split <;> rfl

theorem stepSet_iofs (r : RailId) (c : RailCfg) (n : Nat) (mask : Word) (d : Option StepDec) (ch : ChanId) (s : State) :
    (stepSet r c n mask d s).chans[ch].iofs = s.chans[ch].iofs := by
  unfold stepSet
  dsimp only
  rw [onChans_get]
  split
  · rw [stepChan_iofs]
    split
    · exact switchWords_iofs _ _ _ _
    · rfl
  · rfl

theorem stepSet_others (r : RailId) (c : RailCfg) (n : Nat) (mask : Word) (d : Option StepDec) (s : State) {ch : ChanId}
    (h : ch.val ∉ accordChans c) : (stepSet r c n mask d s).chans[ch] = s.chans[ch] := by
  unfold stepSet
  dsimp only
  rw [onChans_get, if_neg (by simpa using h)]
  rfl

/-- The commands that have fallen due leave calibrations, the monitor of the HADC and the image. -/
theorem dueView_dueApplied (r : RailId) (c : RailCfg) (ch : ChanId) (s : State) : dueView r ch (dueApplied r c s) =
    (phKept (dueEnded (stepped c (min s.rails[r].sh.nact (availOf c (dueMask s.rails[r]))) (dueMask s.rails[r]) none s.rails[r])),
      s.chans[ch].iofs, s.hadc.mon, s.sealed) := by
  rw [dueApplied, dueView_throttleAll, dueView, onRail_get, if_pos rfl, stepSet_rail]
  exact congrArg (fun i => (_, i, s.hadc.mon, s.sealed)) (stepSet_iofs r c _ _ none ch s)

theorem dueApplied_others (r : RailId) (c : RailCfg) (s : State) {ch : ChanId} (h : ch.val ∉ accordChans c) :
    (dueApplied r c s).chans[ch] = s.chans[ch] := by
  have hthr := forEach_keeps throttleView (configured (onRail r dueEnded
    (stepSet r c (min s.rails[r].sh.nact (availOf c (dueMask s.rails[r]))) (dueMask s.rails[r]) none s))) _
      throttleView_throttleRail (onRail r dueEnded
    (stepSet r c (min s.rails[r].sh.nact (availOf c (dueMask s.rails[r]))) (dueMask s.rails[r]) none s))
  simp only [throttleView, Prod.mk.injEq] at hthr
  obtain ⟨_, hchans, _, _⟩ := hthr
  rw [dueApplied, throttleAll, hchans]
  exact stepSet_others r c _ _ none s h

theorem phKept_dueEnded_bypass {x : Rail} (h : x.ph.resDue = none) : phKept (dueEnded x) =
    ({ x.ph with bypDue := [] }, x.sh.bypass, x.sh.phRej) := by
  rw [dueEnded, h]
  rfl

theorem phKept_dueEnded_restore {x : Rail} {q : Nat} (h : x.ph.resDue = some q) : phKept (dueEnded x) =
    ({ x.ph with bypDue := [], resDue := none, resPos := none, busy := false, result := 0 }, x.sh.bypass, x.sh.phRej) := by
  rw [dueEnded, h]
  rfl

/-! ## BYPASS at once (R176) -/

/-- A BYPASS at once on rail `r`: the position leaves the available set. -/
theorem applyDue_bypass {s : State} {r : RailId} {c : RailCfg} {q : Nat} (hby : s.rails[r].ph.bypDue = [q])
    (hres : s.rails[r].ph.resDue = none) : applyDue r c s = dueApplied r c s := by
  rw [applyDue_eq (by rw [hby]; rfl), hres]
  rfl

theorem dueMask_bypass {x : Rail} {q : Nat} (hby : x.ph.bypDue = [q]) (hres : x.ph.resDue = none) :
    dueMask x = x.sh.bypass ||| (1#32 <<< q) := by
  rw [dueMask, hby, hres]
  rfl

theorem dueMask_restore {x : Rail} {q : Nat} (hby : x.ph.bypDue = []) (hres : x.ph.resDue = some q) :
    dueMask x = x.sh.bypass &&& ~~~(1#32 <<< q) := by
  rw [dueMask, hby, hres]
  rfl

/-- The rail's position commands, bypass set and PHREJ after a BYPASS at once. -/
theorem phKept_bypassed {s : State} {r : RailId} {c : RailCfg} {q : Nat} (hby : s.rails[r].ph.bypDue = [q])
    (hres : s.rails[r].ph.resDue = none) : phKept (dueApplied r c s).rails[r] =
      ({ s.rails[r].ph with bypDue := [] }, s.rails[r].sh.bypass ||| (1#32 <<< q), s.rails[r].sh.phRej) := by
  have hstep := phKept_stepped c (min s.rails[r].sh.nact (availOf c (dueMask s.rails[r]))) (dueMask s.rails[r]) none s.rails[r]
  have hview := congrArg Prod.fst (dueView_dueApplied r c 0 s)
  simp only [phKept, Prod.mk.injEq] at hstep
  obtain ⟨hph, hmask, hrej⟩ := hstep
  refine hview.trans ?_
  rw [phKept_dueEnded_bypass (by rw [hph, hres]), hph, hmask, hrej, dueMask_bypass hby hres]

/-- A legal BYPASS on a stopped rail. -/
theorem gives_bypass {s : State} {r : RailId} {c : RailCfg} {q : Fin 32} (hup : hostUp s = true) (hcfg : railCfg s r = some c)
    (hcode : bypassCode c s.rails[r] q.val = 0) (hby : s.rails[r].ph.bypDue = []) (hres : s.rails[r].ph.resDue = none)
    (hst : railState s.rails[r] = 0) : Gives (.bypass r q) s fun t =>
      phKept t.rails[r] = ({ s.rails[r].ph with pos := q.val, result := 0 }, s.rails[r].sh.bypass ||| (1#32 <<< q.val),
        s.rails[r].sh.phRej) ∧ t.sealed = s.sealed ∧ ∀ ch : ChanId, ch.val ∉ accordChans c → t.chans[ch] = s.chans[ch] := by
  have hat : setAtOnce s.rails[r] = true := by rw [setAtOnce, hst]; rfl
  have hr : (onRail r (fun x => { x with ph := { x.ph with pos := q.val, result := 0, bypDue := [q.val] } }) s).rails[r] =
      { s.rails[r] with ph := { s.rails[r].ph with pos := q.val, result := 0, bypDue := [q.val] } } := by
    rw [onRail_get, if_pos rfl]
  have hby' : (onRail r (fun x => { x with ph := { x.ph with pos := q.val, result := 0, bypDue := [q.val] } }) s).rails[r].ph.bypDue =
      [q.val] := by rw [hr]
  have hres' : (onRail r (fun x => { x with ph := { x.ph with pos := q.val, result := 0, bypDue := [q.val] } }) s).rails[r].ph.resDue =
      none := by rw [hr]; exact hres
  have hkept := phKept_bypassed (c := c) hby' hres'
  rw [hr] at hkept
  refine gives_act (exec_bypass r q s) ?_
  rw [onRailPage_eq hup hcfg, phcmdWrite_bypass, phBypass_taken hcode hby, if_pos hat, applyDue_bypass hby' hres']
  refine ⟨?_, ?_, fun ch hch => ?_⟩
  · rw [phKept, settleBy_rail_ph, settleBy_rail_sh]
    refine hkept.trans ?_
    rw [← hby]
  · rw [settleBy_sealed]
    exact (congrArg (fun v => v.2.2.2) (dueView_dueApplied r c 0 _) :)
  · rw [settleBy_chans]
    exact dueApplied_others r c _ hch

/-! ## The end of a RESTORE (R177) -/

theorem writeLast_rails (ch k : Nat) (s : State) : (writeLast ch k s).rails = s.rails ∧ (writeLast ch k s).chans = s.chans ∧
    (writeLast ch k s).hadc = s.hadc ∧ (writeLast ch k s).sealed = s.sealed := by
  unfold writeLast
  split <;> exact ⟨rfl, rfl, rfl, rfl⟩

/-- The class of a RESTORE's single channel is recorded. -/
def classWritten (ch k : Nat) (s : State) : State := discOne (bankOf ch) (k == 0 || k == 4) (writeLast ch k s)

theorem classWritten_frame (ch k : Nat) (s : State) : (classWritten ch k s).rails = s.rails ∧ (classWritten ch k s).chans = s.chans ∧
    (classWritten ch k s).hadc.mon.discDone = true ∧ (classWritten ch k s).sealed = s.sealed := by
  obtain ⟨hrails, hchans, _, hsealed⟩ := writeLast_rails ch k s
  exact ⟨hrails, hchans, rfl, hsealed⟩

theorem val_of_toFin {n i : Nat} {j : Fin n} (h : toFin n i = some j) : i = j.val := by
  unfold toFin at h
  split at h
  · exact congrArg Fin.val (Option.some.inj h)
  · cases h

/-- The restore discovery of a single channel ends, by whether it passes. -/
theorem restoreDone_single {s : State} {r : RailId} {c : RailCfg} {q : Nat} (hpos : s.rails[r].ph.resPos = some q)
    (hres : s.rails[r].ph.resDue = none) (hpair : c.acc.pair = false)
    (hready : ∀ ch : ChanId, c.acc.phase.getD q 0 = ch.val → csReady s ch = true) (p : Probe) (cal : Int) :
    restoreDone r c p cal s =
      (let ch := c.acc.phase.getD q 0
       let k := classOf false (measuredProbe s ch p)
       if restorePasses s c ch k then
         let t := onRail r (fun x => { x with ph := { x.ph with resDue := some q } })
           (thrRenew r c [ch] (ofsSet r c q cal (classWritten ch k s)))
         if setAtOnce t.rails[r] then applyDue r c t else t
       else onRail r (fun x => { x with ph := { x.ph with busy := false, resPos := none, result := 0x92 } }) (classWritten ch k s)) := by
  have hall : (toFin 192 (c.acc.phase.getD q 0)).all (csReady s) = true := by
    rw [Option.all_eq_true]
    intro ch hch
    exact hready ch (val_of_toFin hch)
  unfold restoreDone
  dsimp only
  rw [hpos]
  dsimp only
  rw [hres, hall, if_neg (by decide), hpair]
  rfl

theorem restoreEnd_up {s : State} {r : RailId} {c : RailCfg} (hup : hostUp s = true) (hcfg : railCfg s r = some c) (p : Probe) (cal : Int) :
    restoreEnd r p cal s = restoreDone r c p cal s := by
  rw [restoreEnd, if_pos (ctlUp_of_hostUp hup), onIsland, if_pos (islandUp_of_hostUp hup), hcfg]

/-- The channel of a RESTORE that has passed is calibrated; the command falls due. -/
def calibrated (r : RailId) (c : RailCfg) (q : Nat) (cal : Int) (k : Nat) (s : State) : State :=
  onRail r (fun x => { x with ph := { x.ph with resDue := some q } })
    (thrRenew r c [c.acc.phase.getD q 0] (ofsSet r c q cal (classWritten (c.acc.phase.getD q 0) k s)))

theorem ofsSet_frame (r : RailId) (c : RailCfg) (q : Nat) (sum : Int) (s : State) :
    (ofsSet r c q sum s).hadc = s.hadc ∧ (ofsSet r c q sum s).sealed = s.sealed := by
  unfold ofsSet
  dsimp only
  split <;> split <;> exact ⟨rfl, rfl⟩

theorem ofsSet_rail (r : RailId) (c : RailCfg) (q : Nat) (sum : Int) (s : State) : (ofsSet r c q sum s).rails[r] =
    if ofsClips sum then { s.rails[r] with sh := { s.rails[r].sh with ofsClip := true } } else s.rails[r] := by
  unfold ofsSet
  cases toFin 192 (c.acc.phase.getD q 0) with
  | none =>
    dsimp only
    split
    · rw [onRail_get, if_pos rfl]
    · rfl
  | some ch =>
    dsimp only
    split
    · rw [onRail_get, if_pos rfl]
      rfl
    · rfl

theorem ofsSet_iofs {c : RailCfg} {q : Nat} {ch : ChanId} (h : c.acc.phase.getD q 0 = ch.val) (r : RailId) (sum : Int) (s : State) :
    (ofsSet r c q sum s).chans[ch].iofs = ofsOf sum := by
  unfold ofsSet
  rw [h, toFin_val]
  dsimp only
  have hch : (onChan ch (fun k => { k with iofs := ofsOf sum }) s).chans[ch].iofs = ofsOf sum := by rw [onChan_get, if_pos rfl]
  split
  · exact hch
  · exact hch

/-- The rail of a RESTORE that has passed, but for OFSCLIP. -/
theorem calibrated_rail (r : RailId) (c : RailCfg) (q : Nat) (cal : Int) (k : Nat) (s : State) : ∃ clip : Bool,
    (calibrated r c q cal k s).rails[r] =
      { s.rails[r] with ph := { s.rails[r].ph with resDue := some q }, sh := { s.rails[r].sh with ofsClip := clip } } := by
  obtain ⟨hrails, _, _, _⟩ := classWritten_frame (c.acc.phase.getD q 0) k s
  have hthr : (thrRenew r c [c.acc.phase.getD q 0] (ofsSet r c q cal (classWritten (c.acc.phase.getD q 0) k s))).rails[r] =
      (ofsSet r c q cal (classWritten (c.acc.phase.getD q 0) k s)).rails[r] := rfl
  refine ⟨if ofsClips cal then true else s.rails[r].sh.ofsClip, ?_⟩
  rw [calibrated, onRail_get, if_pos rfl, hthr, ofsSet_rail, hrails]
  split <;> rfl

theorem calibrated_iofs {c : RailCfg} {q : Nat} {ch : ChanId} (h : c.acc.phase.getD q 0 = ch.val) (r : RailId) (cal : Int) (k : Nat)
    (s : State) : (calibrated r c q cal k s).chans[ch].iofs = ofsOf cal := by
  have hthr : (calibrated r c q cal k s).chans[ch].iofs =
      (ofsSet r c q cal (classWritten (c.acc.phase.getD q 0) k s)).chans[ch].iofs := by
    show (onChans _ (thrChan _ _ _) _).chans[ch].iofs = _
    rw [onChans_get]
    split <;> rfl
  rw [hthr, ofsSet_iofs h]

theorem calibrated_frame (r : RailId) (c : RailCfg) (q : Nat) (cal : Int) (k : Nat) (s : State) :
    (calibrated r c q cal k s).hadc.mon.discDone = true ∧ (calibrated r c q cal k s).sealed = s.sealed := by
  obtain ⟨_, _, hdone, hsealed⟩ := classWritten_frame (c.acc.phase.getD q 0) k s
  obtain ⟨hhadc, hseal⟩ := ofsSet_frame r c q cal (classWritten (c.acc.phase.getD q 0) k s)
  exact ⟨(congrArg (fun h => h.mon.discDone) hhadc).trans hdone, hseal.trans hsealed⟩

/-- The commands that have fallen due, a raw comparator that trips included. -/
theorem dueView_applyDue {r : RailId} {c : RailCfg} {s : State} {q : Nat} (hres : s.rails[r].ph.resDue = some q) (ch : ChanId) :
    dueView r ch (applyDue r c s) = dueView r ch (dueApplied r c s) := by
  rw [applyDue_eq (by rw [hres]; simp)]
  split
  · split
    · exact dueView_phaseTrip r ch _ _
    · rfl
  · rfl

/-- A RESTORE at once on rail `r`: the position joins the available set. -/
theorem phKept_restored {s : State} {r : RailId} {c : RailCfg} {q : Nat} (hby : s.rails[r].ph.bypDue = [])
    (hres : s.rails[r].ph.resDue = some q) : phKept (applyDue r c s).rails[r] =
      ({ s.rails[r].ph with bypDue := [], resDue := none, resPos := none, busy := false, result := 0 }, s.rails[r].sh.bypass &&& ~~~(1#32 <<< q),
        s.rails[r].sh.phRej) := by
  have hstep := phKept_stepped c (min s.rails[r].sh.nact (availOf c (dueMask s.rails[r]))) (dueMask s.rails[r]) none s.rails[r]
  have hview := congrArg Prod.fst ((dueView_applyDue (c := c) hres 0).trans (dueView_dueApplied r c 0 s))
  simp only [phKept, Prod.mk.injEq] at hstep
  obtain ⟨hph, hmask, hrej⟩ := hstep
  refine hview.trans ?_
  rw [phKept_dueEnded_restore (by rw [hph, hres]), hph, hmask, hrej, dueMask_restore hby hres]

theorem gives_restore_failed {s : State} {r : RailId} {c : RailCfg} {q : Nat} {p : Probe} {cal : Int} (hup : hostUp s = true)
    (hcfg : railCfg s r = some c) (hpos : s.rails[r].ph.resPos = some q) (hres : s.rails[r].ph.resDue = none) (hpair : c.acc.pair = false)
    (hready : ∀ ch : ChanId, c.acc.phase.getD q 0 = ch.val → csReady s ch = true)
    (hfail : restorePasses s c (c.acc.phase.getD q 0) (classOf false (measuredProbe s (c.acc.phase.getD q 0) p)) = false) :
    Gives (.restoreDiscoveryDone r p cal) s fun t => t.rails[r].ph.busy = false ∧ t.rails[r].ph.result = 0x92 ∧
      t.hadc.mon.discDone = true ∧ t.rails[r].sh = s.rails[r].sh ∧ t.chans = s.chans ∧ t.sealed = s.sealed ∧
      ∀ j : RailId, j ≠ r → { t.rails[j] with sil := {} } = { s.rails[j] with sil := {} } := by
  obtain ⟨hrails, hchans, hdone, hsealed⟩ :=
    classWritten_frame (c.acc.phase.getD q 0) (classOf false (measuredProbe s (c.acc.phase.getD q 0) p)) s
  refine gives_act (exec_restoreDiscoveryDone r p cal s) ?_
  rw [restoreEnd_up hup hcfg, restoreDone_single hpos hres hpair hready]
  dsimp only
  rw [hfail, if_neg (by decide)]
  refine ⟨?_, ?_, ?_, ?_, ?_, ?_, fun j hj => ?_⟩
  · rw [settleBy_rail_ph, onRail_get, if_pos rfl]
  · rw [settleBy_rail_ph, onRail_get, if_pos rfl]
  · rw [settleBy_hadc]
    exact hdone
  · rw [settleBy_rail_sh, onRail_get, if_pos rfl, hrails]
  · rw [settleBy_chans]
    exact hchans
  · rw [settleBy_sealed]
    exact hsealed
  · rw [(settleBy_core _ _ _ _).rails j, onRail_get, if_neg hj, hrails]

theorem gives_restore_passed {s : State} {r : RailId} {c : RailCfg} {q : Nat} {p : Probe} {cal : Int} (hup : hostUp s = true)
    (hcfg : railCfg s r = some c) (hpos : s.rails[r].ph.resPos = some q) (hres : s.rails[r].ph.resDue = none) (hpair : c.acc.pair = false)
    (hby : s.rails[r].ph.bypDue = []) (hst : railState s.rails[r] = 0)
    (hready : ∀ ch : ChanId, c.acc.phase.getD q 0 = ch.val → csReady s ch = true)
    (hpass : restorePasses s c (c.acc.phase.getD q 0) (classOf false (measuredProbe s (c.acc.phase.getD q 0) p)) = true) :
    Gives (.restoreDiscoveryDone r p cal) s fun t => t.rails[r].ph.busy = false ∧ t.rails[r].ph.result = 0 ∧
      t.rails[r].sh.bypass = s.rails[r].sh.bypass &&& ~~~(1#32 <<< q) ∧ t.hadc.mon.discDone = true ∧ t.sealed = s.sealed ∧
      ∀ ch : ChanId, c.acc.phase.getD q 0 = ch.val → t.chans[ch].iofs = ofsOf cal := by
  have hu : ∃ u, u = calibrated r c q cal (classOf false (measuredProbe s (c.acc.phase.getD q 0) p)) s := ⟨_, rfl⟩
  obtain ⟨u, hu⟩ := hu
  obtain ⟨clip, hrail⟩ := calibrated_rail r c q cal (classOf false (measuredProbe s (c.acc.phase.getD q 0) p)) s
  obtain ⟨hdone, hsealed⟩ := calibrated_frame r c q cal (classOf false (measuredProbe s (c.acc.phase.getD q 0) p)) s
  rw [← hu] at hrail hdone hsealed
  have hat : setAtOnce u.rails[r] = true := by
    have hst' : railState u.rails[r] = 0 := by rw [hrail]; exact hst
    rw [setAtOnce, hst']
    rfl
  have hdue : u.rails[r].ph.resDue = some q := by rw [hrail]
  have hby' : u.rails[r].ph.bypDue = [] := by rw [hrail]; exact hby
  have hkept := phKept_restored (c := c) hby' hdue
  rw [hrail] at hkept
  simp only [phKept, Prod.mk.injEq] at hkept
  obtain ⟨hph, hbyp, _⟩ := hkept
  have hview (ch : ChanId) : (applyDue r c u).chans[ch].iofs = u.chans[ch].iofs ∧ (applyDue r c u).hadc.mon = u.hadc.mon ∧
      (applyDue r c u).sealed = u.sealed := by
    have h := (dueView_applyDue (c := c) hdue ch).trans (dueView_dueApplied r c ch u)
    simp only [dueView, Prod.mk.injEq] at h
    exact h.2
  refine gives_act (exec_restoreDiscoveryDone r p cal s) ?_
  rw [restoreEnd_up hup hcfg, restoreDone_single hpos hres hpair hready]
  dsimp only
  rw [hpass, if_pos rfl, ← calibrated, ← hu, hat, if_pos rfl]
  refine ⟨?_, ?_, ?_, ?_, ?_, fun ch hch => ?_⟩
  · rw [settleBy_rail_ph, hph]
  · rw [settleBy_rail_ph, hph]
  · rw [settleBy_rail_sh, hbyp]
  · rw [settleBy_hadc, (hview 0).2.1, hdone]
  · rw [settleBy_sealed, (hview 0).2.2, hsealed]
  · rw [settleBy_chans, (hview ch).1, hu, calibrated_iofs hch]

/-! ## Self-tests (R180) -/

theorem mem_bankChans {b : BankId} {ch : ChanId} : (bankChans b).contains ch.val = decide (ch.val / 8 = b.val) := by
  rw [Bool.eq_iff_iff, List.contains_iff_mem, decide_eq_true_iff, bankChans, List.mem_map]
  constructor
  · rintro ⟨j, hj, hch⟩
    have := List.mem_range.1 hj
    omega
  · intro h
    exact ⟨ch.val % 8, List.mem_range.2 (by omega), by omega⟩

theorem bistWrite_start {b : BankId} {w : Word} {s : State} (hkey : bits w 24 8 = 0xA5) (hgo : bitw w 0 = true) (hclr : bitw w 20 = false)
    (hlegal : bistLegal s b = true) : bistWrite b w s = onChans (bankChans b) (fun _ => bistHold)
      (onBank b (fun k => { k with bistRun := true, bistDone := false, bistPass := false, failMap := 0, failItem := 0 }) s) := by
  unfold bistWrite
  simp only [hclr, Bool.false_eq_true, if_false]
  rw [if_pos ⟨hkey, hgo⟩, bistStart, if_pos hlegal]

/-- Settles O13: BYPASS and RESTORE by what the commands that have fallen due leave (`dueView_dueApplied`), the self-tests by the
channels of their bank (`mem_bankChans`). -/
theorem coefficientsPositionsSelfTests : Obligations.CoefficientsPositionsSelfTests := by
  refine ⟨fun s r c w hup hcfg => ?coef, fun s r c q hup hcfg hcan hbusy hq hby hres hin hn hst => ?bypassAtOnce,
    fun s r c q hup hcfg hcan hbusy hq hby hres hin hn hst => ?bypassDue, fun s r c q hup hcfg hbusy => ?busy,
    fun s r c q hup hcfg hbusy hq hin hst hbist => ?restore,
    fun s r c q p cal hup hcfg hpos hres hpair hready hfail => gives_restore_failed hup hcfg hpos hres hpair hready hfail,
    fun s r c q p cal hup hcfg hpos hres hpair hby hst hready hpass =>
      gives_restore_passed hup hcfg hpos hres hpair hby hst hready hpass,
    fun s r c hup hcfg hbusy hst => ?trim, fun s r c hup hcfg hbusy hst => ?rotate,
    fun s b w hup hkey hgo hclr hlegal => ?start, fun s b m i hup hrun => ?complete⟩
  case coef =>
    refine becomes_act (exec_coefApply r w s) ?_
    rw [onRailPage_eq hup hcfg]
    exact SameCore.refl _
  case bypassAtOnce =>
    obtain ⟨t, ht, hkept, hsealed, hchans⟩ :=
      gives_bypass hup hcfg (bypassCode_zero hcan hbusy hq hby hres hin hn (.inl hst)) hby hres hst
    simp only [phKept, Prod.mk.injEq] at hkept
    obtain ⟨hph, hbyp, hrej⟩ := hkept
    exact ⟨t, ht, hbyp, by rw [hph], by rw [hph], hrej, hsealed, hchans⟩
  case bypassDue =>
    have hat : setAtOnce s.rails[r] = false := by rw [setAtOnce, hst]; rfl
    refine becomes_act (exec_bypass r q s) ?_
    rw [onRailPage_eq hup hcfg, phcmdWrite_bypass, phBypass_taken (bypassCode_zero hcan hbusy hq hby hres hin hn (.inr hst)) hby, hat,
      if_neg (by decide)]
    exact SameCore.refl _
  case busy =>
    refine becomes_act (exec_bypass r q s) ?_
    rw [onRailPage_eq hup hcfg, phcmdWrite_bypass, phBypass_busy hbusy, show phResult q.val 0x80 = _ from funext (phResult_reject q.val)]
    exact SameCore.refl _
  case restore =>
    refine becomes_act (exec_restore r q s) ?_
    rw [onRailPage_eq hup hcfg, phcmdWrite_restore]
    unfold phRestore
    simp only [restoreCode_zero hbusy hq hin hst hbist, if_true]
    exact SameCore.refl _
  case trim =>
    refine becomes_act (exec_balTrim r s) ?_
    rw [onRailPage_eq hup hcfg, (phcmdWrite_balance r c s).1, phBalance_stopped hbusy hst]
    exact SameCore.refl _
  case rotate =>
    refine becomes_act (exec_balRotate r s) ?_
    rw [onRailPage_eq hup hcfg, (phcmdWrite_balance r c s).2, phBalance_stopped hbusy hst]
    exact SameCore.refl _
  case start =>
    refine gives_onHost (exec_bankBistStart b w s) hup ?_
    rw [bistWrite_start hkey hgo hclr hlegal]
    refine ⟨?_, fun ch => ?_⟩
    · rw [settleBy_chans]
      exact settleBy_core _ _ _ _
    · rw [settleBy_chans, onChans_get, mem_bankChans]
      simp only [decide_eq_true_eq]
      rfl
  case complete =>
    refine gives_act (exec_bistComplete b m i s) ?_
    rw [if_pos (ctlUp_of_hostUp hup), bistEnd, if_pos hrun]
    refine ⟨?_, ?_, ?_, fun ch hch => ?_⟩
    · rw [settleBy_banks]
      exact (onBank_get b b _ s).trans (if_pos rfl)
    · rw [settleBy_seqs]
      rfl
    · rw [settleBy_sealed]
      rfl
    · rw [settleBy_chans, onChans_get, mem_bankChans, decide_eq_false hch]
      rfl

end Sys2Proof.Machine
end

section
/-! PROOF. Soundings (R263 to R266) and what the end of a discovery leaves of the banks (R267 to R273). -/

namespace Sys2Proof.Machine

theorem exec_soundingRequest (r : RailId) (w : Word) (s : State) :
    exec (.soundingRequest r w) s = act (onRailPage r (fun _ => sndWrite r w)) s := rfl
theorem exec_soundingStart (r : RailId) (s : State) : exec (.soundingStart r) s = act (onDue (.soundingStart r) r (sndStart r)) s := rfl
theorem exec_soundingRepetition (r : RailId) (m : Nat) (s : State) :
    exec (.soundingRepetition r m) s = act (onDue (.soundingRepetition r m) r (sndRep r m)) s := rfl
theorem exec_soundingEnd (r : RailId) (s : State) : exec (.soundingEnd r) s = act (onDue (.soundingEnd r) r (sndFinish r)) s := rfl

/-! ## Soundings -/

/-- A due event of a configured rail, while the island runs. -/
theorem onDue_eq {e : Instr} {r : RailId} {s : State} {c : RailCfg} (f : RailCfg → State → State) (hdue : isDue e s = true)
    (hup : islandUp s = true) (hcfg : railCfg s r = some c) : onDue e r f s = f c (disarm (· == e) s) := by
  have hup' : islandUp (disarm (· == e) s) = true := hup
  have hcfg' : railCfg (disarm (· == e) s) r = some c := hcfg
  rw [onDue, onFire_due _ hdue, onIsland, if_pos hup', hcfg']

/-- Since `s` rail `r` has become `y`; no other rail, no channel and nothing of the image has changed. -/
structure RailTook (r : RailId) (y : Rail) (s t : State) : Prop where
  rail : { t.rails[r] with sil := {} } = { y with sil := {} }
  chans : t.chans = s.chans
  sealed : t.sealed = s.sealed
  others : ∀ j : RailId, j ≠ r → { t.rails[j] with sil := {} } = { s.rails[j] with sil := {} }

theorem RailTook.settle {r : RailId} {y : Rail} {s t : State} (hrails : ∀ j : RailId, t.rails[j] = if j = r then y else s.rails[j])
    (hchans : t.chans = s.chans) (hsealed : t.sealed = s.sealed) (p : Option PortId) (o : List Nat) (old : State) :
    RailTook r y s (settleBy p o old t) := by
  refine ⟨?_, by rw [settleBy_chans, hchans], by rw [settleBy_sealed, hsealed], fun j hj => ?_⟩
  · rw [(settleBy_core _ _ _ _).rails r, hrails, if_pos rfl]
  · rw [(settleBy_core _ _ _ _).rails j, hrails, if_neg hj]

theorem sndWrite_request {s : State} {r : RailId} {w : Word} (hkey : bits w 24 8 = 0xA5) (hgo : bitw w 23 = true)
    (hst : railState s.rails[r] = 2) (hpend : s.rails[r].snd.pend = false) (hrun : s.rails[r].snd.run = false) :
    sndWrite r w s = onRail r (fun x => { x with snd := { x.snd with dt := w.setWidth 16, pend := true, auto := false } }) s := by
  unfold sndWrite
  dsimp only
  rw [if_pos ⟨hkey, hgo⟩, onRail_onRail]
  refine onRail_congr ?_
  exact if_pos ⟨.inr hst, by rw [hpend]; rfl, by rw [hrun]; rfl⟩

/-- What the start of a sounding shows of its rail. -/
def sounded (c : RailCfg) (x : Rail) : Rail :=
  { x with snd := { x.snd with
    pend := false, run := true, n := x.sh.nact, d0 := dutyWord x.eng.comp.d, rep := 0, capStage := false, dis := [], dvs := []
    dropped := 0, dtw := sndDt c x, nextNo := sndFirst c x.seq.mcsNo, plan := [], pos := none, i0 := none, hold := false } }

theorem sndStart_ready {s : State} {r : RailId} {c : RailCfg} (hready : sndReady s r s.rails[r] = true)
    (hfirst : ∀ q : RailId, q.val < r.val → isArmed (.soundingStart q) s = false) : ∃ n m, sndStart r c s =
      rearm n (.soundingRepetition r m) (disarm (· == .soundingEnd r) (onRail r (sounded c) s)) := by
  have hnone : ((allFin 24).any fun q => decide (q.val < r.val) && isArmed (.soundingStart q) s) = false := by
    rw [List.any_eq_false]
    intro q _ hq
    rw [Bool.and_eq_true, decide_eq_true_iff] at hq
    rw [hfirst q hq.1] at hq
    cases hq.2
  have hrail : onRail r (fun x => { x with snd := { x.snd with
      pend := false, run := true, n := x.sh.nact, d0 := dutyWord x.eng.comp.d, rep := 0, capStage := false, dis := [], dvs := []
      dropped := 0, dtw := sndDt c x, nextNo := sndFirst c s.rails[r].seq.mcsNo, plan := [], pos := none, i0 := none
      hold := false } }) s = onRail r (sounded c) s := onRail_congr rfl
  refine ⟨(sndFirst c s.rails[r].seq.mcsNo - s.rails[r].seq.mcsNo) * c.md.period, sndFirst c s.rails[r].seq.mcsNo, ?_⟩
  unfold sndStart
  dsimp only
  rw [if_pos (by rw [hready, hnone]; rfl), hrail]

theorem gives_soundingStart {s : State} {r : RailId} {c : RailCfg} (hdue : isDue (.soundingStart r) s = true) (hup : islandUp s = true)
    (hcfg : railCfg s r = some c) (hready : sndReady s r s.rails[r] = true)
    (hfirst : ∀ q : RailId, q.val < r.val → isArmed (.soundingStart q) s = false) : Gives (.soundingStart r) s fun t =>
      RailTook r (sounded c s.rails[r]) s t := by
  have hfirst' : ∀ q : RailId, q.val < r.val → isArmed (.soundingStart q) (disarm (· == .soundingStart r) s) = false := by
    intro q hq
    have hne : Instr.soundingStart q ≠ .soundingStart r := by
      intro h
      rw [Instr.soundingStart.inj h] at hq
      exact Nat.lt_irrefl _ hq
    rw [isArmed_disarm_ne hne, hfirst q hq]
  obtain ⟨n, m, hstart⟩ := sndStart_ready (c := c) (s := disarm (· == .soundingStart r) s) hready hfirst'
  have hrails (j : RailId) : (rearm n (.soundingRepetition r m) (disarm (· == .soundingEnd r)
      (onRail r (sounded c) (disarm (· == .soundingStart r) s)))).rails[j] = if j = r then sounded c s.rails[r] else s.rails[j] :=
    onRail_get r j (sounded c) (disarm (· == .soundingStart r) s)
  refine gives_act (exec_soundingStart r s) ?_
  rw [onDue_eq _ hdue hup hcfg, hstart]
  exact RailTook.settle hrails rfl rfl _ _ _

/-- A repetition of the inductance stage or of the capacitance stage. -/
theorem sndRep_eq {s : State} {r : RailId} {c : RailCfg} (hrun : s.rails[r].snd.run = true) (hstage : stageDone s.rails[r] = false)
    (m : Nat) : sndRep r m c s = onRail r (if s.rails[r].snd.capStage then sndCap m else sndInd c m) s := by
  unfold sndRep
  refine onRail_congr ?_
  show (if !s.rails[r].snd.run || stageDone s.rails[r] then _ else _) = _
  rw [hrun, hstage, if_neg (by decide)]
  split <;> rfl

/-- The end of a sounding, by its cause. -/
def sndEnded (c : RailCfg) (s : State) (x : Rail) : Rail :=
  if sndCause c (posNow s x) x = 0 then sndTake c (posNow s x) x else sndInvalid (sndCause c (posNow s x) x) x

theorem gives_soundingEnd {s : State} {r : RailId} {c : RailCfg} (hdue : isDue (.soundingEnd r) s = true) (hup : islandUp s = true)
    (hcfg : railCfg s r = some c) (hrun : s.rails[r].snd.run = true) (hcap : s.rails[r].snd.capStage = true)
    (hrep : 16 ≤ s.rails[r].snd.rep) : Gives (.soundingEnd r) s fun t =>
      RailTook r (sndEnded c s s.rails[r]) s t := by
  have hend : sndFinish r c (disarm (· == .soundingEnd r) s) = onRail r (sndEnded c s) (disarm (· == .soundingEnd r) s) := by
    unfold sndFinish
    refine (if_pos ?_).trans (onRail_congr rfl)
    show (s.rails[r].snd.run && s.rails[r].snd.capStage && decide (16 ≤ s.rails[r].snd.rep)) = true
    rw [hrun, hcap, decide_eq_true hrep]
    rfl
  refine gives_act (exec_soundingEnd r s) ?_
  rw [onDue_eq _ hdue hup hcfg, hend]
  have hrails (j : RailId) : (onRail r (sndEnded c s) (disarm (· == .soundingEnd r) s)).rails[j] =
      if j = r then sndEnded c s s.rails[r] else s.rails[j] := onRail_get r j (sndEnded c s) (disarm (· == .soundingEnd r) s)
  exact RailTook.settle hrails rfl rfl _ _ _

/-! ## What the position commands of a discovery leave (R178, R272) -/

/-- The classes of a bank. -/
def classes (k : Bank) : Bool × BitVec 24 × Bool × BitVec 24 := (k.lastValid, k.lastClass, k.discValid, k.discClass)

/-- The classes of bank `b`, the monitor of the HADC, the power state and the image. -/
def discView (b : BankId) (s : State) : (Bool × BitVec 24 × Bool × BitVec 24) × HadcMon × Power × Seal :=
  (classes s.banks[b], s.hadc.mon, s.pwr, s.sealed)

section
variable (b : BankId)

theorem discView_onBank (i : BankId) {f : Bank → Bank} (hf : ∀ k, classes (f k) = classes k) (s : State) :
    discView b (onBank i f s) = discView b s := by
  have hbank : classes (onBank i f s).banks[b] = classes s.banks[b] := by
    rw [onBank_get]
    split
    next h => rw [hf, h]
    next => rfl
  rw [discView, hbank]
  rfl

theorem discView_brefEvent (i : BankId) (s : State) : discView b (brefEvent i s) = discView b s := by
  have hopen : discView b (roundSpoil i (onBank i brefOpen s)) = discView b s := by
    refine Eq.trans (b := discView b (onBank i brefOpen s)) rfl (discView_onBank b i (fun k => ?_) s)
    unfold brefOpen
    split <;> rfl
  unfold brefEvent
  dsimp only
  split <;> exact hopen

theorem discView_lateBack (l : List Nat) (s : State) : discView b (lateBack l s) = discView b s := by
  have hbank : classes (lateBack l s).banks[b] = classes s.banks[b] := by
    unfold lateBack
    dsimp only
    rw [mapTab_get]
    split
    · split <;> rfl
    · rfl
  rw [discView, hbank]
  rfl

theorem discView_safeChans (l : List Nat) (s : State) : discView b (safeChans l s) = discView b s := by
  unfold safeChans brefEvents
  refine (forEach_keeps (discView b) _ _ (fun i t => ?_) _).trans (discView_lateBack b _ _)
  split
  · exact discView_brefEvent b _ t
  · rfl

theorem discView_latchTrip (q : RailId) (c : RailCfg) (cause : BitVec 2) (w : Nat) (s : State) :
    discView b (latchTrip q c cause w s) = discView b s := by
  have hhalt : discView b (railHalt q s) = discView b s := rfl
  unfold latchTrip
  dsimp only
  rw [discView_safeChans]
  exact hhalt

theorem discView_countTrip (q : RailId) (c : RailCfg) (i : ChanId) (s : State) : discView b (countTrip q c i s) = discView b s := by
  unfold countTrip
  dsimp only
  repeat' split
  all_goals rfl

theorem discView_phaseTrip (i : ChanId) (s : State) : discView b (phaseTrip i s) = discView b s := by
  unfold phaseTrip
  split
  · rfl
  · dsimp only
    split
    · rfl
    split
    · exact discView_latchTrip b _ _ _ _ s
    · rw [discView_countTrip]
      split
      · rfl
      · exact discView_lateBack b _ _

theorem discView_throttleRail (rc : RailId × RailCfg) (s : State) : discView b (throttleRail rc s) = discView b s := by
  unfold throttleRail throttleOn throttleOff
  dsimp only
  repeat' split
  all_goals rfl

theorem discView_applyDue (r : RailId) (c : RailCfg) (s : State) : discView b (applyDue r c s) = discView b s := by
  have happ : discView b (dueApplied r c s) = discView b s := forEach_keeps (discView b) _ _ (discView_throttleRail b) _
  cases h : s.rails[r].ph.bypDue.isEmpty && s.rails[r].ph.resDue.isNone
  · rw [applyDue_eq h]
    split
    · split
      · rw [discView_phaseTrip, happ]
      · exact happ
    · exact happ
  · unfold applyDue
    exact congrArg (discView b) (if_pos h)

theorem discView_discRail (forRun : Bool) (rc : RailId × RailCfg) (s : State) : discView b (discRail forRun rc s) = discView b s := by
  unfold discRail
  dsimp only
  split
  · split <;> rfl
  · split
    · exact discView_applyDue b rc.1 rc.2 _
    · rfl

theorem discRail_host_banks (rc : RailId × RailCfg) (s : State) : (discRail false rc s).banks = s.banks := by
  unfold discRail
  dsimp only
  split <;> rfl

theorem discView_macerDev (s : State) : ∃ d, discView b (macerDev s) = (classes s.banks[b], { s.hadc.mon with macDev := d }, s.pwr, s.sealed) := by
  unfold macerDev
  split
  · exact ⟨_, rfl⟩
  · split
    · exact ⟨_, rfl⟩
    · refine ⟨true, ?_⟩
      unfold blotBreak
      dsimp only
      split <;> rfl

end

end Sys2Proof.Machine
end

section
/-! PROOF. Discovery: its start, the classes that it writes, its end (R267 to R273, R327). -/

namespace Sys2Proof.Machine

theorem exec_discStart (banks : BitVec 24) (s : State) :
    exec (.discStart banks) s = act (onHost (discWrite (0xA5#8 ++ banks))) s := rfl
theorem exec_discoveryDone (probes : List (ChanId × Probe)) (s : State) :
    exec (.discoveryDone probes) s = act (fun s => if ctlUp s then discEnd probes s else s) s := rfl

/-! ## A host request (R267) -/

theorem append_key_toNat (banks : BitVec 24) : (0xA5#8 ++ banks : BitVec 32).toNat = 0xA5 * 2 ^ 24 + banks.toNat := by
  rw [BitVec.toNat_append, ← Nat.shiftLeft_add_eq_or_of_lt banks.isLt, Nat.shiftLeft_eq]
  rfl

theorem discWord_fields (banks : BitVec 24) : bits (0xA5#8 ++ banks : BitVec 32) 24 8 = 0xA5 ∧
    BitVec.ofNat 24 (bits (0xA5#8 ++ banks : BitVec 32) 0 24) = banks := by
  have hb : banks.toNat < 2 ^ 24 := banks.isLt
  have hlow : bits (0xA5#8 ++ banks : BitVec 32) 0 24 = banks.toNat := by
    rw [bits, append_key_toNat]
    omega
  refine ⟨?_, ?_⟩
  · rw [bits, append_key_toNat]
    omega
  · rw [hlow, BitVec.ofNat_toNat, BitVec.setWidth_eq]

/-- A host request for the banks, by whether it is refused. -/
theorem discWrite_banks {s : State} {banks : BitVec 24} (hne : banks ≠ 0#24) : discWrite (0xA5#8 ++ banks) s =
    if s.hadc.mon.discRun || (List.range 24).any (fun b => banks.getLsbD b && restoreIn s b) then
      { s with hadc := { s.hadc with mon := { s.hadc.mon with discRej := true } } }
    else discBegin { s with hadc := { s.hadc with mon :=
      { s.hadc.mon with discRun := true, discForRun := false, discMask := banks, doneMask := 0 } } } := by
  obtain ⟨hkey, hmask⟩ := discWord_fields banks
  have hne' : ¬ banks = 0 := hne
  unfold discWrite
  cases hrej : s.hadc.mon.discRun || (List.range 24).any (fun b => banks.getLsbD b && restoreIn s b)
  · simp only [hkey, hmask, ne_eq, not_true, if_false, if_neg hne', hrej, Bool.false_eq_true]
  · simp only [hkey, hmask, ne_eq, not_true, if_false, if_neg hne', hrej, if_true]

/-! ## The classes of a bank (R269, R270) -/

/-- Three-bit fields side by side read back. -/
theorem classWord_field {f : Nat → Nat} (hf : ∀ j, f j < 8) (j : Fin 8) :
    (BitVec.ofNat 24 ((List.range 8).map fun j => fld (3 * j) 3 (f j)).sum).toNat / 2 ^ (3 * j.val) % 8 = f j.val := by
  have hsum : ((List.range 8).map fun j => fld (3 * j) 3 (f j)).sum =
      f 0 + f 1 * 8 + f 2 * 64 + f 3 * 512 + f 4 * 4096 + f 5 * 32768 + f 6 * 262144 + f 7 * 2097152 := by
    have hfld (j : Nat) : fld (3 * j) 3 (f j) = f j * 2 ^ (3 * j) := by
      rw [fld, Nat.mod_eq_of_lt (show f j < 2 ^ 3 from hf j)]
    simp only [hfld, List.range_succ, List.range_zero, List.nil_append, List.map_append, List.map_cons, List.map_nil, List.sum_append,
      List.sum_cons, List.sum_nil]
    omega
  have h0 := hf 0
  have h1 := hf 1
  have h2 := hf 2
  have h3 := hf 3
  have h4 := hf 4
  have h5 := hf 5
  have h6 := hf 6
  have h7 := hf 7
  have hlt : f 0 + f 1 * 8 + f 2 * 64 + f 3 * 512 + f 4 * 4096 + f 5 * 32768 + f 6 * 262144 + f 7 * 2097152 < 2 ^ 24 := by omega
  rw [hsum, BitVec.toNat_ofNat, Nat.mod_eq_of_lt hlt]
  obtain ⟨j, hj⟩ := j
  interval_cases j <;> simp only [Nat.mul_zero, Nat.reduceMul, Nat.reducePow] <;> omega

theorem classOf_lt (pair : Bool) (p : Probe) : classOf pair p < 8 := by
  unfold classOf
  dsimp only
  repeat' split
  all_goals decide

theorem chanClass_lt (s : State) (forRun : Bool) (probes : List (ChanId × Probe)) (b : BankId) (j : Nat) :
    chanClass s forRun probes b j < 8 := by
  unfold chanClass
  dsimp only
  split
  · exact classOf_lt _ _
  · split
    · decide
    · exact Nat.mod_lt _ (by decide)

/-- A bank with the classes of a discovery. -/
def bankWritten (forRun : Bool) (w : BitVec 24 × Bool) (k : Bank) : Bank :=
  if forRun then { k with lastValid := true, lastUnattr := w.2, lastClass := w.1, discValid := true, discUnattr := w.2, discClass := w.1 }
  else { k with lastValid := true, lastUnattr := w.2, lastClass := w.1 }

theorem lastClassOf_bankWritten (s : State) (forRun : Bool) (b : BankId) (probes : List (ChanId × Probe)) (k : Bank) (j : Fin 8) :
    lastClassOf (bankWritten forRun (bankClasses s forRun b probes) k) j.val = chanClass s forRun probes b j.val := by
  have hclass : (bankWritten forRun (bankClasses s forRun b probes) k).lastClass = (bankClasses s forRun b probes).1 := by
    unfold bankWritten
    split <;> rfl
  rw [lastClassOf, hclass]
  exact classWord_field (chanClass_lt s forRun probes b) j

/-- A loop that changes each bank of a list once. -/
theorem forEach_onBank_get {p : BankId → Bool} {g : BankId → Bank → Bank} {l : List BankId} (hl : l.Nodup) (s : State) (j : BankId) :
    (forEach l (fun b t => if p b then onBank b (g b) t else t) s).banks[j] =
      if j ∈ l ∧ p j = true then g j s.banks[j] else s.banks[j] := by
  induction l generalizing s with
  | nil => simp [forEach]
  | cons b l ih =>
    obtain ⟨hb, hl'⟩ := List.nodup_cons.1 hl
    rw [forEach_cons, ih hl']
    have hhead : (if p b then onBank b (g b) s else s).banks[j] = if j = b ∧ p j = true then g j s.banks[j] else s.banks[j] := by
      by_cases hp : p b = true
      · rw [if_pos hp, onBank_get]
        by_cases hj : j = b
        · subst hj
          rw [if_pos rfl, if_pos ⟨rfl, hp⟩]
        · rw [if_neg hj, if_neg (fun h => hj h.1)]
      · rw [if_neg hp, if_neg]
        rintro ⟨rfl, h⟩
        exact hp h
    rw [hhead]
    by_cases hj : j = b
    · subst hj
      simp [hb]
    · simp [hj]

theorem writeClasses_bank (forRun : Bool) (mask : BitVec 24) (probes : List (ChanId × Probe)) (s : State) (b : BankId) :
    (writeClasses forRun mask probes s).banks[b] =
      if mask.getLsbD b.val then bankWritten forRun (bankClasses s forRun b probes) s.banks[b] else s.banks[b] := by
  have hloop : writeClasses forRun mask probes s = forEach (allFin 24) (fun b t => if mask.getLsbD b.val then
      onBank b (bankWritten forRun (bankClasses s forRun b probes)) t else t) s := rfl
  have hnodup : (allFin 24).Nodup := List.nodup_finRange 24
  rw [hloop, forEach_onBank_get (p := fun b => mask.getLsbD b.val) (g := fun b => bankWritten forRun (bankClasses s forRun b probes))
    hnodup]
  simp [allFin]

/-- What the classes of a discovery leave. -/
def classView (s : State) : Hadc × Power × Seal × Vector Chan 192 × Vector Rail 24 := (s.hadc, s.pwr, s.sealed, s.chans, s.rails)

theorem classView_writeClasses (forRun : Bool) (mask : BitVec 24) (probes : List (ChanId × Probe)) (s : State) :
    classView (writeClasses forRun mask probes s) = classView s := by
  unfold writeClasses
  refine forEach_keeps classView _ _ (fun b t => ?_) s
  split <;> rfl

/-! ## What the probed channels have shown (R267, R272) -/

/-- The discovery that runs takes a result for channel `ch`. -/
def takesResult (s : State) (ch : Nat) : Bool :=
  (s.hadc.mon.discForRun || mayProbe s ch) && s.hadc.mon.discMask.getLsbD (bankOf ch)

theorem discResults_eq (probes : List (ChanId × Probe)) (s : State) : discResults probes s =
    (probes.filter fun p => takesResult s p.1.val).map fun p => (p.1, measuredProbe s p.1.val p.2) := by
  unfold discResults takesResult
  dsimp only
  cases s.hadc.mon.discForRun
  · simp only [Bool.false_eq_true, if_false, List.filter_filter, Bool.false_or]
    congr 2
    funext p
    exact Bool.and_comm _ _
  · simp only [if_true, Bool.true_or, Bool.true_and]

theorem probeOf_discResults {s : State} {ch : Nat} (probes : List (ChanId × Probe)) : probeOf (discResults probes s) ch =
    if takesResult s ch then (probeOf probes ch).map (measuredProbe s ch) else none := by
  have hfind : (discResults probes s).find? (fun p => p.1.val == ch) =
      (probes.find? fun p => takesResult s p.1.val && p.1.val == ch).map fun p => (p.1, measuredProbe s p.1.val p.2) := by
    rw [discResults_eq, List.find?_map, List.find?_filter]
    congr 2
    funext p
    simp only [Function.comp, Bool.decide_and, Bool.decide_eq_true]
  have hpred : (fun p : ChanId × Probe => takesResult s p.1.val && p.1.val == ch) = fun p => takesResult s ch && p.1.val == ch := by
    funext p
    by_cases hp : p.1.val = ch
    · rw [hp]
    · have hp' : (p.1.val == ch) = false := beq_eq_false_iff_ne.2 hp
      rw [hp', Bool.and_false, Bool.and_false]
  rw [probeOf, hfind, hpred]
  cases takesResult s ch
  · simp
  · simp only [Bool.true_and, if_true, probeOf, Option.map_map]
    cases h : probes.find? fun p => p.1.val == ch with
    | none => rfl
    | some p =>
      have hp : p.1.val = ch := by simpa using List.find?_some h
      simp [hp]

theorem chanClass_of_probe {s : State} {probes : List (ChanId × Probe)} {b : BankId} {j : Nat} {p : Probe}
    (h : probeOf probes (pairOf s (8 * b.val + j)).2 = some p) (forRun : Bool) :
    chanClass s forRun probes b j = classOf (pairOf s (8 * b.val + j)).1 p := by
  simp only [chanClass, h]

theorem chanClass_of_none {s : State} {probes : List (ChanId × Probe)} {b : BankId} {j : Nat}
    (h : probeOf probes (pairOf s (8 * b.val + j)).2 = none) (forRun : Bool) :
    chanClass s forRun probes b j = if forRun then 7 else lastClassOf s.banks[b] j := by
  simp only [chanClass, h]

/-! ## The end of a discovery (R272, R327) -/

/-- The classes of a discovery are written, and its marks. -/
def discClosed (probes : List (ChanId × Probe)) (s : State) : State :=
  let t := writeClasses s.hadc.mon.discForRun (s.hadc.mon.discMask &&& ~~~s.hadc.mon.doneMask) (discResults probes s) s
  { t with hadc := { t.hadc with mon := { t.hadc.mon with
    discRun := false, discForRun := false, doneMask := s.hadc.mon.discMask, discDone := true
    discFlt := t.hadc.mon.discFlt || anyFaultClass t } } }

theorem discFinish_eq (probes : List (ChanId × Probe)) (s : State) : discFinish probes s =
    forEach (configured (discClosed probes s)) (discRail s.hadc.mon.discForRun) (discClosed probes s) := rfl

theorem discClosed_bank (probes : List (ChanId × Probe)) (s : State) (b : BankId) : (discClosed probes s).banks[b] =
    if s.hadc.mon.discMask.getLsbD b.val && !s.hadc.mon.doneMask.getLsbD b.val then
      bankWritten s.hadc.mon.discForRun (bankClasses s s.hadc.mon.discForRun b (discResults probes s)) s.banks[b]
    else s.banks[b] := by
  have hbit : (s.hadc.mon.discMask &&& ~~~s.hadc.mon.doneMask).getLsbD b.val =
      (s.hadc.mon.discMask.getLsbD b.val && !s.hadc.mon.doneMask.getLsbD b.val) := by
    simp
  refine (writeClasses_bank _ _ _ s b).trans ?_
  rw [hbit]

/-- The marks of a discovery that has ended. -/
structure DiscClosed (s : State) (m : HadcMon) : Prop where
  run : m.discRun = false
  done : m.discDone = true
  mask : m.doneMask = s.hadc.mon.discMask

theorem discClosed_frame (probes : List (ChanId × Probe)) (s : State) : DiscClosed s (discClosed probes s).hadc.mon ∧
    (discClosed probes s).pwr = s.pwr ∧ (discClosed probes s).sealed = s.sealed := by
  have h := classView_writeClasses s.hadc.mon.discForRun (s.hadc.mon.discMask &&& ~~~s.hadc.mon.doneMask) (discResults probes s) s
  simp only [classView, Prod.mk.injEq] at h
  obtain ⟨_, hpwr, hsealed, _, _⟩ := h
  exact ⟨⟨rfl, rfl, rfl⟩, hpwr, hsealed⟩

theorem discView_discFinish (b : BankId) (probes : List (ChanId × Probe)) (s : State) :
    discView b (discFinish probes s) = discView b (discClosed probes s) := by
  rw [discFinish_eq]
  exact forEach_keeps (discView b) _ _ (discView_discRail b _) _

theorem discFinish_host_banks {probes : List (ChanId × Probe)} {s : State} (h : s.hadc.mon.discForRun = false) :
    (discFinish probes s).banks = (discClosed probes s).banks := by
  rw [discFinish_eq, h]
  exact forEach_keeps State.banks _ _ discRail_host_banks _

theorem discEnd_ready {probes : List (ChanId × Probe)} {s : State} (hrun : s.hadc.mon.discRun = true) (hready : discReady s = true) :
    discEnd probes s = if s.hadc.mon.discForRun && (discFinish probes s).pwr.tgt == some .run then enterRun (discFinish probes s)
      else discFinish probes s := by
  unfold discEnd
  rw [hrun, hready]
  rfl

theorem discEnd_part {probes : List (ChanId × Probe)} {s : State} (hrun : s.hadc.mon.discRun = true) (hready : discReady s = false) :
    discEnd probes s = discPart probes s := by
  unfold discEnd
  rw [hrun, hready]
  rfl

/-- A discovery that the host asked for has ended. -/
theorem gives_discoveryDone_host {s : State} {probes : List (ChanId × Probe)} (hup : hostUp s = true) (hrun : s.hadc.mon.discRun = true)
    (hhost : s.hadc.mon.discForRun = false) (hready : discReady s = true) : Gives (.discoveryDone probes) s fun t =>
      DiscClosed s t.hadc.mon ∧ t.pwr = s.pwr ∧ t.sealed = s.sealed ∧ ∀ b : BankId, t.banks[b] =
        if s.hadc.mon.discMask.getLsbD b.val && !s.hadc.mon.doneMask.getLsbD b.val then
          bankWritten false (bankClasses s false b (discResults probes s)) s.banks[b]
        else s.banks[b] := by
  obtain ⟨hclosed, hpwr, hsealed⟩ := discClosed_frame probes s
  have hview := discView_discFinish 0 probes s
  simp only [discView, Prod.mk.injEq] at hview
  obtain ⟨_, hmon', hpwr', hsealed'⟩ := hview
  refine gives_act (exec_discoveryDone probes s) ?_
  rw [if_pos (ctlUp_of_hostUp hup), discEnd_ready hrun hready, hhost, Bool.false_and, if_neg Bool.false_ne_true]
  refine ⟨?_, ?_, ?_, fun b => ?_⟩
  · rw [settleBy_hadc, hmon']
    exact hclosed
  · rw [settleBy_pwr, hpwr', hpwr]
  · rw [settleBy_sealed, hsealed', hsealed]
  · rw [settleBy_banks, discFinish_host_banks hhost, discClosed_bank, hhost]

/-- The discovery of READY to RUN has ended: RUN is entered. -/
theorem gives_discoveryDone_run {s : State} {probes : List (ChanId × Probe)} (hup : hostUp s = true) (hrun : s.hadc.mon.discRun = true)
    (hfor : s.hadc.mon.discForRun = true) (htgt : s.pwr.tgt = some .run) (hready : discReady s = true) :
    Gives (.discoveryDone probes) s fun t => t.pwr = { s.pwr with dev := .run, tgt := none } ∧ t.hadc.mon.discDone = true ∧
      t.sealed = s.sealed ∧ ∀ b : BankId, classes t.banks[b] =
        classes (if s.hadc.mon.discMask.getLsbD b.val && !s.hadc.mon.doneMask.getLsbD b.val then
          bankWritten true (bankClasses s true b (discResults probes s)) s.banks[b]
        else s.banks[b]) := by
  obtain ⟨hclosed, hpwr, hsealed⟩ := discClosed_frame probes s
  have hfin (b : BankId) := discView_discFinish b probes s
  simp only [discView, Prod.mk.injEq] at hfin
  have hrunTgt : (discFinish probes s).pwr.tgt = some .run := by rw [(hfin 0).2.2.1, hpwr, htgt]
  have hmac (b : BankId) := discView_macerDev b { discFinish probes s with pwr := { (discFinish probes s).pwr with dev := .run, tgt := none } }
  simp only [discView, Prod.mk.injEq] at hmac
  refine gives_act (exec_discoveryDone probes s) ?_
  have hgo : (true && some DevSt.run == some DevSt.run) = true := rfl
  rw [if_pos (ctlUp_of_hostUp hup), discEnd_ready hrun hready, hfor, hrunTgt, if_pos hgo, enterRun]
  obtain ⟨d, _, hmon', hpwr', hsealed'⟩ := hmac 0
  refine ⟨?_, ?_, ?_, fun b => ?_⟩
  · rw [settleBy_pwr, hpwr', (hfin 0).2.2.1, hpwr]
  · rw [settleBy_hadc, hmon', (hfin 0).2.1]
    exact hclosed.done
  · rw [settleBy_sealed, hsealed', (hfin 0).2.2.2, hsealed]
  · obtain ⟨_, hbank, _⟩ := hmac b
    rw [settleBy_banks, hbank, (hfin b).1, discClosed_bank, hfor]

/-- The banks `done` of a discovery have completed. -/
def partClosed (done : BitVec 24) (probes : List (ChanId × Probe)) (s : State) : State :=
  banksMarked (s.hadc.mon.doneMask ||| done) (writeClasses s.hadc.mon.discForRun done (discResults probes s) s)

theorem discPart_eq (probes : List (ChanId × Probe)) (s : State) : discPart probes s = partClosed (banksDone probes s) probes s := rfl

theorem partClosed_frame (done : BitVec 24) (probes : List (ChanId × Probe)) (s : State) :
    (partClosed done probes s).hadc = { s.hadc with mon := { s.hadc.mon with doneMask := s.hadc.mon.doneMask ||| done } } ∧
    (partClosed done probes s).pwr = s.pwr ∧ (partClosed done probes s).sealed = s.sealed ∧ (partClosed done probes s).chans = s.chans := by
  have h := classView_writeClasses s.hadc.mon.discForRun done (discResults probes s) s
  simp only [classView, Prod.mk.injEq] at h
  obtain ⟨hhadc, hpwr, hsealed, hchans, _⟩ := h
  refine ⟨?_, hpwr, hsealed, hchans⟩
  unfold partClosed banksMarked
  dsimp only
  rw [hhadc]

theorem partClosed_bank (done : BitVec 24) (probes : List (ChanId × Probe)) (s : State) (b : BankId) :
    (partClosed done probes s).banks[b] = if done.getLsbD b.val then
      bankWritten s.hadc.mon.discForRun (bankClasses s s.hadc.mon.discForRun b (discResults probes s)) s.banks[b]
    else s.banks[b] := writeClasses_bank _ _ _ s b

/-- Some banks of a discovery have completed. -/
theorem gives_discoveryDone_part {s : State} {probes : List (ChanId × Probe)} (hup : hostUp s = true) (hrun : s.hadc.mon.discRun = true)
    (hready : discReady s = false) : Gives (.discoveryDone probes) s fun t =>
      t.hadc = { s.hadc with mon := { s.hadc.mon with doneMask := s.hadc.mon.doneMask ||| banksDone probes s } } ∧
      t.pwr = s.pwr ∧ t.sealed = s.sealed ∧ t.chans = s.chans ∧ ∀ b : BankId, t.banks[b] =
        if (banksDone probes s).getLsbD b.val then
          bankWritten s.hadc.mon.discForRun (bankClasses s s.hadc.mon.discForRun b (discResults probes s)) s.banks[b]
        else s.banks[b] := by
  obtain ⟨hhadc, hpwr, hsealed, hchans⟩ := partClosed_frame (banksDone probes s) probes s
  refine gives_act (exec_discoveryDone probes s) ?_
  rw [if_pos (ctlUp_of_hostUp hup), discEnd_part hrun hready, discPart_eq, settleBy_hadc, settleBy_pwr, settleBy_sealed, settleBy_chans,
    settleBy_banks]
  exact ⟨hhadc, hpwr, hsealed, hchans, partClosed_bank (banksDone probes s) probes s⟩

end Sys2Proof.Machine
end

section
/-! PROOF. The statement about soundings and discovery (R263 to R273, R327). -/

namespace Sys2Proof.Machine

theorem takesResult_host {s : State} {ch : Nat} {b : BankId} (hmay : mayProbe s ch = true) (hbank : bankOf ch = b.val)
    (hmask : s.hadc.mon.discMask.getLsbD b.val = true) : takesResult s ch = true := by
  rw [takesResult, hmay, hbank, hmask, Bool.or_true]
  rfl

theorem takesResult_run {s : State} {ch : Nat} {b : BankId} (hfor : s.hadc.mon.discForRun = true) (hbank : bankOf ch = b.val)
    (hmask : s.hadc.mon.discMask.getLsbD b.val = true) : takesResult s ch = true := by
  rw [takesResult, hfor, hbank, hmask]
  rfl

theorem probeOf_discResults_none {s : State} {probes : List (ChanId × Probe)} {ch : Nat} (h : probeOf probes ch = none) :
    probeOf (discResults probes s) ch = none := by
  rw [probeOf_discResults, h]
  split <;> rfl

theorem probeOf_discResults_some {s : State} {probes : List (ChanId × Probe)} {ch : Nat} {p : Probe} (h : probeOf probes ch = some p)
    (htakes : takesResult s ch = true) : probeOf (discResults probes s) ch = some (measuredProbe s ch p) := by
  rw [probeOf_discResults, h, if_pos htakes]
  rfl

theorem bankWritten_host (w : BitVec 24 × Bool) (k : Bank) : (bankWritten false w k).lastValid = true ∧
    (bankWritten false w k).discClass = k.discClass := ⟨rfl, rfl⟩

theorem bankWritten_run (w : BitVec 24 × Bool) (k : Bank) : (bankWritten true w k).lastValid = true ∧
    (bankWritten true w k).discValid = true ∧ (bankWritten true w k).discClass = (bankWritten true w k).lastClass := ⟨rfl, rfl, rfl⟩

/-- The recorded class of channel `j` of bank `b`. -/
theorem recordedClass_eq (t : State) (b : BankId) (j : Fin 8) :
    recordedClass t (8 * b.val + j.val) = t.banks[b].discClass.toNat / 2 ^ (3 * j.val) % 8 := by
  have hbank : bankOf (8 * b.val + j.val) = b.val := by
    show (8 * b.val + j.val) / 8 = b.val
    omega
  have hpos : (8 * b.val + j.val) % 8 = j.val := by omega
  rw [recordedClass, hbank, toFin_val, hpos]

/-- Settles O14: a sounding by what becomes of its rail (`RailTook`), a discovery by what becomes of the banks (`bankWritten`). -/
theorem soundingsAndDiscovery : Obligations.SoundingsAndDiscovery := by
  refine ⟨fun s r c w hup hcfg hkey hgo hst hpend hrun => ?request, fun s r c hdue hup hcfg hready hfirst => ?start,
    fun s r c m hdue hup hcfg hrun hstage hrep => ?inductance, fun s r c m hdue hup hcfg hrun hstage hrep => ?capacitance,
    fun s r c hdue hup hcfg hrun hstage hrep => ?finish, fun s banks hup hne hrun hfree => ?discStart,
    fun s banks hup hne hrun => ?discRefused, fun s probes hup hrun hhost hready => ?hostDone,
    fun s probes hup hrun hready => ?part, fun s probes hup hrun hfor htgt hready => ?runDone,
    fun s probes b j p hup hrun hhost hready hmask hleft hbank hmay hp => ?hostClass,
    fun s probes b j hup hrun hhost hready hmask hleft hnone => ?earlierClass,
    fun s probes b j hup hrun hfor htgt hready hmask hleft hbank => ?runClass⟩
  case request =>
    refine becomes_act (exec_soundingRequest r w s) ?_
    rw [onRailPage_eq hup hcfg, sndWrite_request hkey hgo hst hpend hrun]
    exact SameCore.refl _
  case start =>
    obtain ⟨t, ht, h⟩ := gives_soundingStart hdue hup hcfg hready hfirst
    have hsnd : t.rails[r].snd = (sounded c s.rails[r]).snd := (congrArg Rail.snd h.rail :)
    have hcoef : t.rails[r].coef = s.rails[r].coef := (congrArg Rail.coef h.rail :)
    exact ⟨t, ht, by rw [hsnd]; rfl, by rw [hsnd]; rfl, by rw [hsnd]; rfl, by rw [hsnd]; rfl, by rw [hsnd]; rfl, hcoef, h.chans,
      h.sealed, h.others⟩
  case inductance =>
    have hleft : stageDone s.rails[r] = false := by
      rw [stageDone, hstage, if_neg (by decide)]
      exact decide_eq_false (by omega)
    refine becomes_act (exec_soundingRepetition r m s) ?_
    rw [onDue_eq _ hdue hup hcfg, sndRep_eq (s := disarm (· == .soundingRepetition r m) s) hrun hleft]
    refine Eq.mpr (congrArg (fun f => SameCore _ (onRail r f _)) (if_neg ?_)) (core_agenda _ _)
    show ¬ s.rails[r].snd.capStage = true
    rw [hstage]
    decide
  case capacitance =>
    have hleft : stageDone s.rails[r] = false := by
      rw [stageDone, hstage, if_pos rfl]
      exact decide_eq_false (by omega)
    refine becomes_act (exec_soundingRepetition r m s) ?_
    rw [onDue_eq _ hdue hup hcfg, sndRep_eq (s := disarm (· == .soundingRepetition r m) s) hrun hleft]
    exact Eq.mpr (congrArg (fun f => SameCore _ (onRail r f _)) (if_pos hstage)) (core_agenda _ _)
  case finish =>
    obtain ⟨t, ht, h⟩ := gives_soundingEnd hdue hup hcfg hrun hstage hrep
    have hsnd : t.rails[r].snd = (sndEnded c s s.rails[r]).snd := (congrArg Rail.snd h.rail :)
    have hcoef : t.rails[r].coef = (sndEnded c s s.rails[r]).coef := (congrArg Rail.coef h.rail :)
    have heng : t.rails[r].eng = (sndEnded c s s.rails[r]).eng := (congrArg Rail.eng h.rail :)
    rw [sndEnded] at hsnd hcoef heng
    by_cases hcause : sndCause c (posNow s s.rails[r]) s.rails[r] = 0
    · rw [if_pos hcause] at hsnd hcoef heng
      refine ⟨t, ht, by rw [hsnd]; rfl, by rw [hsnd, hcause]; rfl, fun _ => ⟨by rw [hsnd]; rfl, by rw [hcoef]; rfl⟩, fun hne => ?_,
        h.chans, h.sealed, h.others⟩
      exact absurd (by rw [hsnd]; rfl) hne
    · rw [if_neg hcause] at hsnd hcoef heng
      refine ⟨t, ht, by rw [hsnd]; rfl, by rw [hsnd]; rfl, fun hzero => ?_,
        fun _ => ⟨by rw [heng]; rfl, by rw [hcoef]; rfl, by rw [hsnd]; rfl⟩, h.chans, h.sealed, h.others⟩
      rw [hsnd] at hzero
      exact absurd hzero hcause
  case discStart =>
    have hnone : ((List.range 24).any fun b => banks.getLsbD b && restoreIn s b) = false := by
      rw [List.any_eq_false]
      intro b hb hin
      rw [Bool.and_eq_true] at hin
      rw [hfree ⟨b, List.mem_range.1 hb⟩ hin.1] at hin
      cases hin.2
    refine becomes_onHost (exec_discStart banks s) hup ?_
    rw [discWrite_banks hne, hrun, hnone, if_neg (by decide)]
    exact SameCore.refl _
  case discRefused =>
    refine becomes_onHost (exec_discStart banks s) hup ?_
    rw [discWrite_banks hne, hrun, Bool.true_or, if_pos rfl]
    exact SameCore.refl _
  case hostDone =>
    obtain ⟨t, ht, hclosed, hpwr, hsealed, hbanks⟩ := gives_discoveryDone_host (probes := probes) hup hrun hhost hready
    refine ⟨t, ht, hclosed.run, hclosed.done, hclosed.mask, hpwr, hsealed, fun b => ?_⟩
    rw [hbanks b]
    split
    · exact bankWritten_host _ _
    · rfl
  case part =>
    obtain ⟨t, ht, hhadc, hpwr, hsealed, hchans, hbanks⟩ := gives_discoveryDone_part (probes := probes) hup hrun hready
    refine ⟨t, ht, hhadc, hpwr, hsealed, hchans, fun b => ?_⟩
    rw [hbanks b]
    split
    · cases hfor : s.hadc.mon.discForRun
      · exact bankWritten_host _ _
      · exact ⟨rfl, rfl⟩
    · rfl
  case runDone =>
    obtain ⟨t, ht, hpwr, hdone, hsealed, hbanks⟩ := gives_discoveryDone_run (probes := probes) hup hrun hfor htgt hready
    refine ⟨t, ht, hpwr, hdone, hsealed, fun b hmask hleft => ?_⟩
    have hb := hbanks b
    rw [hmask, hleft, if_pos (by decide)] at hb
    exact (congrArg (fun v => v.2.2.1) hb :)
  case hostClass =>
    obtain ⟨t, ht, _, _, _, hbanks⟩ := gives_discoveryDone_host (probes := probes) hup hrun hhost hready
    refine ⟨t, ht, ?_⟩
    dsimp only
    rw [hbanks b, hmask, hleft, if_pos (by decide), lastClassOf_bankWritten,
      chanClass_of_probe (probeOf_discResults_some hp (takesResult_host hmay hbank hmask))]
  case earlierClass =>
    obtain ⟨t, ht, _, _, _, hbanks⟩ := gives_discoveryDone_host (probes := probes) hup hrun hhost hready
    refine ⟨t, ht, ?_⟩
    dsimp only
    rw [hbanks b, hmask, hleft, if_pos (by decide), lastClassOf_bankWritten, chanClass_of_none (probeOf_discResults_none hnone),
      if_neg (by decide)]
  case runClass =>
    obtain ⟨t, ht, _, _, _, hbanks⟩ := gives_discoveryDone_run (probes := probes) hup hrun hfor htgt hready
    have hb := hbanks b
    rw [hmask, hleft, if_pos (by decide)] at hb
    simp only [classes, Prod.mk.injEq] at hb
    obtain ⟨_, hlast, _, hdisc⟩ := hb
    have hclass : lastClassOf t.banks[b] j.val = chanClass s true (discResults probes s) b j.val := by
      rw [← lastClassOf_bankWritten s true b (discResults probes s) s.banks[b] j, lastClassOf, hlast, lastClassOf]
    refine ⟨t, ht, ?_, ?_⟩
    · rw [recordedClass_eq, lastClassOf, hdisc, hlast]
      rfl
    · rw [hclass]
      cases hp : probeOf probes (pairOf s (8 * b.val + j.val)).2 with
      | none => exact chanClass_of_none (probeOf_discResults_none hp) true
      | some p => exact chanClass_of_probe (probeOf_discResults_some hp (takesResult_run hfor hbank hmask)) true

end Sys2Proof.Machine
end

section
/-! PROOF. Nelink (R403 to R410, R414): what each operation leaves of the controller. -/

namespace Sys2Proof.Machine

theorem exec_claim (id : BitVec 6) (pl : Word) (b : Bool) (s : State) : exec (.claim id pl b) s = act (heard b (nlClaim id pl)) s := rfl
theorem exec_yield (id : BitVec 6) (pl : Word) (b : Bool) (s : State) : exec (.yield id pl b) s = act (heard b (nlYield id pl)) s := rfl
theorem exec_timebase (id : BitVec 6) (pl : Word) (b : Bool) (s : State) :
    exec (.timebase id pl b) s = act (heard b (nlTimebase id pl)) s := rfl
theorem exec_hello (id : BitVec 6) (pl : Word) (b : Bool) (s : State) : exec (.hello id pl b) s = act (heard b (nlHelloIn id pl)) s := rfl
theorem exec_leave (id : BitVec 6) (pl : Word) (b : Bool) (s : State) : exec (.leave id pl b) s = act (heard b (nlLeave id pl)) s := rfl
theorem exec_nlBadFrame (k : NlFault) (s : State) : exec (.nlBadFrame k) s = act (fun s => if nlHears s then nlBad k s else s) s := rfl
theorem exec_nlListenEnd (b : Bool) (s : State) :
    exec (.nlListenEnd b) s = act (onFire (.nlListenEnd true) (nlListenDone b)) s := rfl
theorem exec_nlHelloTimer (b : Bool) (s : State) :
    exec (.nlHelloTimer b) s = act (onFire (.nlHelloTimer true) (nlHelloDue b)) s := rfl
theorem exec_nlPeerTimeout (id : BitVec 6) (s : State) :
    exec (.nlPeerTimeout id) s = act (onFire (.nlPeerTimeout id) (nlDropPeer id)) s := rfl
theorem exec_mlost (s : State) :
    exec .mlost s = act (fun s => let t := disarm (· == .mlost) s; if islandUp t then nlLost t else t) s := rfl
theorem exec_renegotiate (s : State) : exec .renegotiate s = act (onHost nlRenegotiate) s := rfl
theorem exec_syncInPulse (s : State) : exec .syncInPulse s = act (fun s => if islandUp s then nlSyncIn s else s) s := rfl

/-! ## A step of the controller alone -/

/-- `t` is `s` but for the controller, which is `n`, and what SameCore sets aside. -/
def NlStep (s : State) (n : Nelink) (t : State) : Prop := SameCore { s with nl := n } t

theorem NlStep.nl {s t : State} {n : Nelink} (h : NlStep s n t) : t.nl = n := SameCore.nl h

theorem NlStep.of_agenda (s : State) (n : Nelink) (l : List Due) : NlStep s n { s with nl := n, agenda := l } := core_agenda _ _

theorem NlStep.refl (s : State) : NlStep s s.nl s := SameCore.refl s

theorem NlStep.trans {s t u : State} {n m : Nelink} (h : NlStep s n t) (h' : NlStep t m u) : NlStep s m u := by
  refine SameCore.trans ?_ h'
  exact ⟨h.pending, h.now, h.free, h.resp, h.respPec, h.chans, h.banks, h.rails, h.ports, h.hadc, h.thm, h.nvl, h.nrd, h.tmr, h.fifo,
    h.pwr, h.ka, h.glb, h.img, h.sealed, h.otp, h.hif, h.tap, h.pins, rfl, h.irqEn, h.flash⟩

/-- What a settled step of the controller shows. -/
structure NlOnly (s : State) (n : Nelink) (t : State) : Prop where
  nl : t.nl = n
  banks : t.banks = s.banks
  chans : t.chans = s.chans
  sealed : t.sealed = s.sealed
  flash : t.flash = s.flash

theorem NlStep.settle {s t : State} {n : Nelink} (h : NlStep s n t) (p : Option PortId) (o : List Nat) (old : State) :
    NlOnly s n (settleBy p o old t) := by
  have h' := SameCore.trans h (settleBy_core p o old t)
  exact ⟨h'.nl, h'.banks, h'.chans, h'.sealed, h'.flash⟩

theorem gives_nlStep {c : Instr} {s : State} {f : State → State} {n : Nelink} {s' : State} (hexec : exec c s = act f s)
    (h : NlStep s' n (f s)) : Gives c s fun t => NlOnly s' n t := gives_act hexec (h.settle none (occurs f s) s)

/-! ## Frames of its own (R404) -/

/-- The frames handed to NLD, with one more. -/
def pushed (ty : BitVec 4) (pl : Word) (s : State) : List NlFrame :=
  (s.nl.txq ++ [(⟨BitVec.ofNat 6 (chainId s), ty, pl⟩ : NlFrame)]).drop (s.nl.txq.length - 3)

theorem pushed_eq (ty : BitVec 4) (pl : Word) (s : State) : pushed ty pl s =
    s.nl.txq.drop (s.nl.txq.length - 3) ++ [(⟨BitVec.ofNat 6 (chainId s), ty, pl⟩ : NlFrame)] :=
  List.drop_append_of_le_length (Nat.sub_le _ _)

theorem pushed_last (ty : BitVec 4) (pl : Word) (s : State) :
    (pushed ty pl s).getLast? = some ⟨BitVec.ofNat 6 (chainId s), ty, pl⟩ := by
  rw [pushed_eq, List.getLast?_append]
  rfl

theorem nlSend_on {s : State} (hmute : s.nl.mute = false) (hcfg : (nelinkCfg s).isSome = true) (ty : BitVec 4) (pl : Word) :
    nlSend ty pl s = { s with nl := { s.nl with txq := pushed ty pl s } } := by
  rw [nlSend, hmute, Option.isNone_eq_false_iff.2 hcfg, if_neg (by decide)]
  rfl

theorem nlStep_send (ty : BitVec 4) (pl : Word) (s : State) : ∃ q, NlStep s { s.nl with txq := q } (nlSend ty pl s) := by
  unfold nlSend
  split
  · exact ⟨s.nl.txq, NlStep.refl s⟩
  · exact ⟨_, SameCore.refl _⟩

theorem nlStep_hello (s : State) : ∃ q, NlStep s { s.nl with txq := q } (nlHello s) := by
  obtain ⟨q, h⟩ := nlStep_send 4 (helloWord s) s
  exact ⟨q, h.trans (h.nl ▸ SameCore.trans (SameCore.refl _) (core_rearm _ _ _))⟩

/-! ## Roles (R406, R407) -/

/-- A controller that takes a role. -/
def roled (r : NlRole) (mid : BitVec 6) (n : Nelink) : Nelink :=
  { n with role := r, masterId := mid, roleChg := n.roleChg || n.role != r, listening := false, claiming := false }

theorem nlStep_setRole (r : NlRole) (mid : BitVec 6) (s : State) : NlStep s (roled r mid s.nl) (nlSetRole r mid s) := SameCore.refl _

theorem nlStep_takeRole (r : NlRole) (mid : BitVec 6) (s : State) : NlStep s (roled r mid s.nl) (nlSetRole r mid (nlDisarm s)) :=
  core_agenda _ _

/-- A controller that follows a new sender. -/
def followed (now : Nat) (id : BitVec 6) (n : Nelink) : Nelink :=
  { roled .follower id n with syncAt := now, tbAt := now, noClaim := false, tb := none }

theorem nlStep_follow {s : State} (id : BitVec 6) (h : s.nl.role ≠ .follower) :
    ∃ q, NlStep s { followed s.now id s.nl with txq := q } (nlFollow id s) := by
  have hne : ¬ (s.nl.role == .follower && s.nl.masterId == id) = true := by simp [h]
  have hwatch : NlStep s (followed s.now id s.nl) (nlWatch { nlSetRole .follower id (nlDisarm s) with
      nl := { (nlSetRole .follower id (nlDisarm s)).nl with syncAt := s.now, tbAt := s.now, noClaim := false, tb := none } }) :=
    core_agenda _ _
  obtain ⟨q, hhello⟩ := nlStep_hello (nlWatch { nlSetRole .follower id (nlDisarm s) with
      nl := { (nlSetRole .follower id (nlDisarm s)).nl with syncAt := s.now, tbAt := s.now, noClaim := false, tb := none } })
  rw [nlFollow, if_neg hne]
  exact ⟨q, hwatch.trans hhello⟩

/-- A controller that listens. -/
def listened (n : Nelink) : Nelink := { roled .listening 0 n with listening := true, tb := none }

theorem nlStepDown_of_ne {s : State} (h : s.nl.role ≠ .master) : nlStepDown s = s := if_neg h

theorem nlStep_listen {s : State} (hcfg : (nelinkCfg s).isSome = true) (hmute : s.nl.mute = false) :
    NlStep (nlStepDown s) (listened (nlStepDown s).nl) (nlListen s) := by
  unfold nlListen
  rw [if_neg (by rw [Option.isNone_eq_false_iff.2 hcfg]; decide), if_neg (by rw [hmute]; decide)]
  exact core_agenda _ _

/-! ## Received frames (R403, R405) -/

theorem nlRetry_idle {s : State} (b : Bool) (h : s.nl.claiming = false) : nlRetry b s = s := by
  rw [nlRetry, h, Bool.and_false, if_neg Bool.false_ne_true]

theorem heard_alone {s : State} (h : nlHears s = true) (f : State → State) : heard false f s = f (reply .ack s) := by
  rw [heard, if_pos h]
  rfl

theorem nlHears_cfg {s : State} (h : nlHears s = true) : (nelinkCfg s).isSome = true := by
  simp only [nlHears, Bool.and_eq_true] at h
  exact h.1.1

end Sys2Proof.Machine
end

section
/-! PROOF. Nelink frames that a controller hears (R404 to R410). -/

namespace Sys2Proof.Machine

theorem gives_mono {c : Instr} {s : State} {P Q : State → Prop} (h : Gives c s P) (hpq : ∀ t, P t → Q t) : Gives c s Q := by
  obtain ⟨t, hexec, hP⟩ := h
  exact ⟨t, hexec, hpq t hP⟩

/-- A frame that the controller hears gives what its step of the controller shows. -/
theorem gives_heard {c : Instr} {s : State} {f : State → State} {n : Nelink} (hexec : exec c s = act (heard false f) s)
    (hhear : nlHears s = true) (h : NlStep (reply .ack s) n (f (reply .ack s))) : Gives c s fun t => NlOnly s n t :=
  gives_mono (gives_nlStep (s' := reply .ack s) hexec (by rwa [heard_alone hhear]))
    fun _ t => ⟨t.nl, t.banks, t.chans, t.sealed, t.flash⟩

theorem chainId_reply (a : Resp) (s : State) : chainId (reply a s) = chainId s := rfl

/-- A controller whose CHAINID another one has. -/
def duplicate (n : Nelink) : Nelink := roled .free 0 { n with dupId := true, mute := true, tb := none }

theorem nlStep_dup (s : State) : NlStep s (duplicate s.nl) (nlDup s) := core_agenda _ _

theorem nlArb_eq (b : Bool) (s : State) :
    nlArb b s = { s with nl := { s.nl with lostArb := if b then min 255 (s.nl.lostArb + 1) else s.nl.lostArb } } := by
  rw [← satInc_eq_min]
  cases b <;> rfl

theorem nlDropPeer_step (id : BitVec 6) (s : State) : NlStep s { s.nl with
    peers := s.nl.peers.filter (fun p => p.1 != id), peerChg := s.nl.peerChg || s.nl.peers.any fun p => p.1 == id }
    (nlDropPeer id s) := by
  unfold nlDropPeer
  cases h : s.nl.peers.any fun p => p.1 == id with
  | true =>
    rw [Bool.or_true, if_pos rfl]
    exact core_agenda _ _
  | false =>
    have hall : s.nl.peers.filter (fun p => p.1 != id) = s.nl.peers :=
      List.filter_eq_self.2 fun p hp => by simpa [bne] using List.any_eq_false.1 h p hp
    rw [hall, Bool.or_false, if_neg Bool.false_ne_true]
    exact NlStep.refl s

/-! ## The agenda of a claim (R405, R406) -/

/-- The CLAIM of a controller. -/
abbrev claimFrame (s : State) : NlFrame := ⟨BitVec.ofNat 6 (chainId s), 1, claimPayload s⟩

theorem nlSend_eq (ty : BitVec 4) (pl : Word) (s : State) : ∃ q, nlSend ty pl s = { s with nl := { s.nl with txq := q } } := by
  unfold nlSend
  split
  · exact ⟨s.nl.txq, rfl⟩
  · exact ⟨_, rfl⟩

theorem nlClaimSend_eq (wait : Nat) (s : State) : ∃ q, nlClaimSend wait s = { s with
    nl := { s.nl with listening := false, claiming := true, txq := q },
    agenda := s.agenda ++ [⟨s.now + (wait + nlTicks (claimFrame s)), .nlListenEnd true, false⟩] } := by
  obtain ⟨q, h⟩ := nlSend_eq 1 (claimPayload s) { s with nl := { s.nl with listening := false, claiming := true } }
  refine ⟨q, ?_⟩
  rw [nlClaimSend, h]
  rfl

/-- After an own CLAIM that stopped on an error: the CLAIM waits for the next idle. -/
def reclaimed (q : List NlFrame) (s : State) : State :=
  { s with
    nl := { (nlBitErr s).nl with listening := false, claiming := true, txq := q }
    agenda := s.agenda.filter (fun d => !(d.ev == .nlListenEnd true)) ++ [⟨s.now + (880 + nlTicks (claimFrame s)), .nlListenEnd true, false⟩] }

section Hears
variable {s : State} (hhear : nlHears s = true)
include hhear

/-! ## CLAIM, TIMEBASE, YIELD (R406 to R408, R410) -/

theorem gives_claim_follow {id : BitVec 6} {pl : Word} (hmagic : bits pl 16 16 = 0x6192) (hzero : bits pl 0 14 = 0)
    (hid : id.toNat ≠ chainId s) (hmute : s.nl.mute = false) (hrole : s.nl.role ≠ .follower) :
    Gives (.claim id pl false) s fun t => t.nl.role = .follower ∧ t.nl.masterId = id ∧ t.nl.roleChg = true ∧ t.nl.listening = false ∧
      t.nl.peers = s.nl.peers ∧ t.banks = s.banks ∧ t.chans = s.chans ∧ t.sealed = s.sealed := by
  obtain ⟨q, hstep⟩ := nlStep_follow (s := reply .ack s) id hrole
  have hclaim : nlClaim id pl (reply .ack s) = nlFollow id (reply .ack s) := by
    rw [nlClaim, if_neg (by simp [hmagic, hzero]), chainId_reply, if_neg hid, if_neg (by rw [reply_nl, hmute]; decide)]
  refine gives_mono (gives_heard (exec_claim id pl false s) hhear (hclaim ▸ hstep)) fun t h => ?_
  have hchg : (s.nl.roleChg || s.nl.role != .follower) = true := by simp [hrole]
  rw [h.nl]
  exact ⟨rfl, rfl, hchg, rfl, rfl, h.banks, h.chans, h.sealed⟩

theorem gives_claim_dup {id : BitVec 6} {pl : Word} (b : Bool) (hmagic : bits pl 16 16 = 0x6192) (hzero : bits pl 0 14 = 0)
    (hid : id.toNat = chainId s) : Gives (.claim id pl b) s fun t => t.nl.role = .free ∧ t.nl.dupId = true ∧ t.nl.mute = true ∧
      t.nl.masterId = 0 ∧ t.nl.txq = s.nl.txq ∧ t.nl.lostArb = (if b then min 255 (s.nl.lostArb + 1) else s.nl.lostArb) ∧
      t.banks = s.banks ∧ t.sealed = s.sealed := by
  have hclaim (u : State) (hu : id.toNat = chainId u) : nlClaim id pl u = nlDup u := by
    rw [nlClaim, if_neg (by simp [hmagic, hzero]), if_pos hu]
  have hstep : NlStep (nlArb b (reply .ack s)) (duplicate (nlArb b (reply .ack s)).nl) (heard b (nlClaim id pl) s) := by
    have hchain : id.toNat = chainId (nlArb b (reply .ack s)) := by
      rw [nlArb_eq]
      exact hid
    rw [heard, if_pos hhear, hclaim _ hchain, nlRetry_idle b (by rfl)]
    exact nlStep_dup _
  refine gives_mono (gives_nlStep (exec_claim id pl b s) hstep) fun t h => ?_
  rw [h.nl, h.banks, h.sealed, nlArb_eq]
  exact ⟨rfl, rfl, rfl, rfl, rfl, rfl, rfl, rfl⟩

theorem gives_yield {id : BitVec 6} (hrole : s.nl.role = .follower) (hmaster : s.nl.masterId = id) (hmute : s.nl.mute = false) :
    Gives (.yield id 0 false) s fun t => t.nl.role = .listening ∧ t.nl.listening = true ∧ t.nl.roleChg = true ∧
      t.nl.masterId = 0 ∧ t.nl.peers = s.nl.peers ∧ t.banks = s.banks ∧ t.sealed = s.sealed := by
  have hdown : nlStepDown (reply .ack s) = reply .ack s := nlStepDown_of_ne (by rw [reply_nl, hrole]; decide)
  have hstep := nlStep_listen (s := reply .ack s) (nlHears_cfg hhear) hmute
  have hyield : nlYield id 0 (reply .ack s) = nlListen (reply .ack s) := by
    rw [nlYield, if_pos rfl, nlMasterGone, if_pos (by simp [hrole, hmaster])]
  rw [hdown, ← hyield] at hstep
  refine gives_mono (gives_heard (exec_yield id 0 false s) hhear hstep) fun t h => ?_
  have hchg : (s.nl.roleChg || s.nl.role != .listening) = true := by rw [hrole]; exact Bool.or_true _
  rw [h.nl]
  exact ⟨rfl, rfl, hchg, rfl, rfl, h.banks, h.sealed⟩

theorem gives_timebase {id : BitVec 6} (hi : BitVec 20) (hid : id.toNat ≠ chainId s) (hmute : s.nl.mute = false)
    (hrole : s.nl.role = .follower) (hmaster : s.nl.masterId = id) : Gives (.timebase id (hi ++ 0#12) false) s fun t =>
      t.nl.tb = some (hi, 16 - pulsesSince ⟨id, 3, hi ++ 0#12⟩ s) ∧ t.nl.tbAt = s.now ∧ t.nl.role = .follower ∧
      t.nl.masterId = id ∧ t.nl.roleChg = s.nl.roleChg ∧ t.banks = s.banks ∧ t.sealed = s.sealed := by
  have hword : (hi ++ 0#12).toNat = hi.toNat * 4096 := by
    rw [BitVec.toNat_append, Nat.shiftLeft_eq]
    simp
  have hlow : bits (hi ++ 0#12) 0 12 = 0 := by
    simp only [bits, hword]
    omega
  have hhigh : BitVec.ofNat 20 (bits (hi ++ 0#12) 12 20) = hi := by
    have hlt := hi.isLt
    have : bits (hi ++ 0#12) 12 20 = hi.toNat := by
      simp only [bits, hword]
      omega
    rw [this, BitVec.ofNat_toNat, BitVec.setWidth_eq]
  have hfollow : nlFollow id (reply .ack s) = reply .ack s := by rw [nlFollow, if_pos (by simp [hrole, hmaster])]
  have hstep : NlStep (reply .ack s)
      { s.nl with tb := some (hi, 16 - pulsesSince ⟨id, 3, hi ++ 0#12⟩ s), tbAt := s.now }
      (nlTimebase id (hi ++ 0#12) (reply .ack s)) := by
    have hneg : ¬ (bits (hi ++ 0#12) 0 12 ≠ 0 ∨ id.toNat = chainId (reply .ack s) ∨ (reply .ack s).nl.mute = true) := by
      rw [reply_nl, hmute]
      rintro (h | h | h)
      · exact h hlow
      · exact hid h
      · exact Bool.false_ne_true h
    rw [nlTimebase, if_neg hneg, hfollow, hhigh]
    exact core_agenda _ _
  refine gives_mono (gives_heard (exec_timebase id _ false s) hhear hstep) fun t h => ?_
  rw [h.nl]
  exact ⟨rfl, rfl, hrole, hmaster, rfl, h.banks, h.sealed⟩

/-! ## HELLO and LEAVE (R407, R410) -/

theorem gives_hello {id : BitVec 6} {pl : Word} (hmagic : bits pl 16 16 = 0x6192) (hid : id.toNat ≠ chainId s) :
    Gives (.hello id pl false) s fun t => t.nl.peers = putPeer id pl s.nl.peers ∧ t.nl.role = s.nl.role ∧
      t.nl.peerChg = (s.nl.peerChg || !s.nl.peers.any fun p => p.1 == id) ∧ t.banks = s.banks ∧ t.sealed = s.sealed ∧
      t.chans = s.chans := by
  have hstep : NlStep (reply .ack s) { s.nl with
      peers := putPeer id pl s.nl.peers, peerChg := s.nl.peerChg || !s.nl.peers.any fun p => p.1 == id }
      (nlHelloIn id pl (reply .ack s)) := by
    rw [nlHelloIn, if_neg (not_not_intro hmagic), chainId_reply, if_neg hid]
    exact core_agenda _ _
  refine gives_mono (gives_heard (exec_hello id pl false s) hhear hstep) fun t h => ?_
  rw [h.nl]
  exact ⟨rfl, rfl, rfl, h.banks, h.sealed, h.chans⟩

theorem gives_leave (id : BitVec 6) (hrole : s.nl.role ≠ .follower) : Gives (.leave id 0 false) s fun t =>
      t.nl.peers = s.nl.peers.filter (fun p => p.1 != id) ∧
      t.nl.peerChg = (s.nl.peerChg || s.nl.peers.any fun p => p.1 == id) ∧ t.nl.role = s.nl.role ∧ t.banks = s.banks ∧
      t.sealed = s.sealed := by
  have hdrop := nlDropPeer_step id (reply .ack s)
  have hgone : nlMasterGone id (nlDropPeer id (reply .ack s)) = nlDropPeer id (reply .ack s) := by
    rw [nlMasterGone, hdrop.nl, if_neg (by simp [hrole])]
  have hleave : nlLeave id 0 (reply .ack s) = nlDropPeer id (reply .ack s) := by rw [nlLeave, if_pos rfl, hgone]
  refine gives_mono (gives_heard (exec_leave id 0 false s) hhear (hleave ▸ hdrop)) fun t h => ?_
  rw [h.nl]
  exact ⟨rfl, rfl, rfl, h.banks, h.sealed⟩

/-! ## Frames in error (R404, R405) -/

theorem becomes_badFrame {k : NlFault} {u : State} (h : SameCore u (nlBad k s)) : Becomes (.nlBadFrame k) s u :=
  becomes_act (exec_nlBadFrame k s) (by rwa [if_pos hhear])

theorem becomes_badCrc : Becomes (.nlBadFrame (.crc false)) s
    { s with nl := { s.nl with nlErr := true, errCause := 1, crcCnt := min 255 (s.nl.crcCnt + 1) } } := by
  rw [← satInc_eq_min]
  exact becomes_badFrame hhear (SameCore.refl _)

theorem becomes_badBit : Becomes (.nlBadFrame (.bit false)) s
    { s with nl := { s.nl with nlErr := true, errCause := 2, bitCnt := min 255 (s.nl.bitCnt + 1) } } := by
  rw [← satInc_eq_min]
  exact becomes_badFrame hhear (SameCore.refl _)

theorem becomes_noAck : Becomes (.nlBadFrame .noAck) s { s with nl := { s.nl with noAck := min 255 (s.nl.noAck + 1) } } := by
  rw [← satInc_eq_min]
  exact becomes_badFrame hhear (SameCore.refl _)

theorem becomes_undefinedType : Becomes (.nlBadFrame (.undefinedType false)) s { s with resp := .ack } :=
  becomes_badFrame hhear (SameCore.refl _)

theorem becomes_badOwn_idle (hidle : s.nl.claiming = false) : Becomes (.nlBadFrame .own) s
    { s with nl := { s.nl with nlErr := true, errCause := 2, bitCnt := min 255 (s.nl.bitCnt + 1) } } := by
  rw [← satInc_eq_min]
  refine becomes_badFrame hhear ?_
  have hidle' : (nlBitErr s).nl.claiming = false := hidle
  rw [nlBad, nlRetry_idle true hidle']
  exact SameCore.refl _

theorem gives_badOwn_claiming (hclaim : s.nl.claiming = true) : Gives (.nlBadFrame .own) s fun t => t.nl.nlErr = true ∧
      t.nl.errCause = 2 ∧ t.nl.bitCnt = min 255 (s.nl.bitCnt + 1) ∧ t.nl.claiming = true ∧ t.nl.role = s.nl.role ∧
      ⟨s.now + (880 + nlTicks (claimFrame s)), .nlListenEnd true, false⟩ ∈ t.agenda ∧
      (∀ d ∈ t.agenda, d.ev = .nlListenEnd true → d.at_ = s.now + (880 + nlTicks (claimFrame s))) ∧ t.sealed = s.sealed ∧
      t.chans = s.chans ∧ t.banks = s.banks ∧ t.flash = s.flash := by
  obtain ⟨q, hsend⟩ := nlClaimSend_eq 880 (disarm (· == .nlListenEnd true) (nlBitErr s))
  have hretry : nlRetry true (nlBitErr s) = nlClaimSend 880 (disarm (· == .nlListenEnd true) (nlBitErr s)) :=
    if_pos (by rw [Bool.true_and]; exact hclaim)
  have hbad : (if nlHears s then nlBad .own s else s) = reclaimed q s := (if_pos hhear).trans (hretry.trans hsend)
  refine gives_act (exec_nlBadFrame .own s) ?_
  rw [hbad]
  generalize occurs _ s = occ
  have hdue := sameDue_settleBy none occ s (reclaimed q s)
  have hcore : SameCore (reclaimed q s) (settleBy none occ s (reclaimed q s)) := settleBy_core _ _ _ _
  have hmem : ∀ d ∈ (reclaimed q s).agenda, d.ev = .nlListenEnd true → d.at_ = s.now + (880 + nlTicks (claimFrame s)) := by
    intro d hd hev
    rcases List.mem_append.1 hd with hd | hd
    · have hkept := (List.mem_filter.1 hd).2
      rw [hev] at hkept
      simp at hkept
    · rw [List.mem_singleton.1 hd]
  refine ⟨?_, ?_, ?_, ?_, ?_, ?_, ?_, ?_, ?_, ?_, ?_⟩
  · rw [hcore.nl]; rfl
  · rw [hcore.nl]; rfl
  · rw [hcore.nl, ← satInc_eq_min]; rfl
  · rw [hcore.nl]; rfl
  · rw [hcore.nl]; rfl
  · exact (hdue ⟨_, _, _⟩ (by simp)).2 (List.mem_append_right _ (List.mem_singleton_self _))
  · intro d hd hev
    exact hmem d ((hdue d (by rw [hev]; simp)).1 hd) hev
  · exact hcore.sealed
  · exact hcore.chans
  · exact hcore.banks
  · exact hcore.flash

end Hears

end Sys2Proof.Machine
end

section
/-! PROOF. Nelink: listen period, HELLO timer, supervision of the master, renegotiation (R406, R407, R410). -/

namespace Sys2Proof.Machine

theorem NlStep.of_disarm {s t : State} {n : Nelink} {p : Instr → Bool} (h : NlStep (disarm p s) n t) : NlStep s n t :=
  SameCore.trans (core_agenda { s with nl := n } _) h

/-- A timed event of the controller that is due gives what its step of the controller shows. -/
theorem gives_nlFire {c e : Instr} {s : State} {f : State → State} {n : Nelink} (hexec : exec c s = act (onFire e f) s)
    (hdue : isDue e s = true) (h : NlStep (disarm (· == e) s) n (f (disarm (· == e) s))) : Gives c s fun t => NlOnly s n t :=
  gives_onFire hexec hdue (h.of_disarm.settle none _ s)

theorem nlSent_eq (b : Bool) (s : State) :
    nlSent b s = { s with nl := { s.nl with noAck := if b then s.nl.noAck else min 255 (s.nl.noAck + 1) } } := by
  rw [← satInc_eq_min]
  cases b <;> rfl

/-! ## The listen period (R405, R406) -/

section Listen
variable {s : State} (b : Bool) (hdue : isDue (.nlListenEnd true) s = true)
include hdue

theorem gives_listenEnd_claim (hclaim : s.nl.claiming = false) (hlisten : s.nl.listening = true) (hcfg : nlRoleCfg s ≠ 0)
    (hno : s.nl.noClaim = false) (hmute : s.nl.mute = false) (hsome : (nelinkCfg s).isSome = true) :
    Gives (.nlListenEnd b) s fun t => t.nl.claiming = true ∧ t.nl.listening = false ∧ t.nl.role = s.nl.role ∧
      t.nl.noAck = s.nl.noAck ∧ t.nl.txq.getLast? = some (claimFrame s) ∧ isArmed (.nlListenEnd true) t = true ∧
      t.nl.peers = s.nl.peers ∧ t.banks = s.banks ∧ t.sealed = s.sealed := by
  have hdone (u : State) (hc : u.nl.claiming = false) (hl : u.nl.listening = true) (hr : nlRoleCfg u ≠ 0)
      (hn : u.nl.noClaim = false) : nlListenDone b u = nlClaimSend 0 u := by
    rw [nlListenDone, if_neg (by rw [hc]; decide), if_neg (by rw [hl]; decide), if_neg (by simp [hr, hn])]
  set u : State := { disarm (· == .nlListenEnd true) s with nl := { s.nl with listening := false, claiming := true } } with hu
  have hsend : nlClaimSend 0 (disarm (· == .nlListenEnd true) s) = arm (0 + nlTicks (claimFrame s)) (.nlListenEnd true)
      { u with nl := { u.nl with txq := pushed 1 (claimPayload s) u } } := by
    rw [← nlSend_on (s := u) hmute hsome]
    rfl
  refine gives_onFire (exec_nlListenEnd b s) hdue ?_
  rw [hdone (disarm (· == .nlListenEnd true) s) hclaim hlisten hcfg hno, hsend]
  generalize occurs _ s = occ
  generalize hv : arm (0 + nlTicks (claimFrame s)) (.nlListenEnd true) { u with nl := { u.nl with txq := pushed 1 (claimPayload s) u } } = v
  have hcore : SameCore v (settleBy none occ s v) := settleBy_core _ _ _ _
  have harmed : isArmed (.nlListenEnd true) v = true := by
    rw [← hv]
    simp [isArmed]
  have hlast : v.nl.txq.getLast? = some (claimFrame s) := by
    rw [← hv]
    exact pushed_last 1 (claimPayload s) u
  refine ⟨?_, ?_, ?_, ?_, ?_, ?_, ?_, ?_, ?_⟩
  · rw [hcore.nl, ← hv]; rfl
  · rw [hcore.nl, ← hv]; rfl
  · rw [hcore.nl, ← hv]; rfl
  · rw [hcore.nl, ← hv]; rfl
  · rw [hcore.nl, hlast]
  · rw [isArmed_settleBy (by simp), harmed]
  · rw [hcore.nl, ← hv]; rfl
  · rw [hcore.banks, ← hv]; rfl
  · rw [hcore.sealed, ← hv]; rfl

theorem gives_listenEnd_master (hclaim : s.nl.claiming = true) :
    Gives (.nlListenEnd b) s fun t => t.nl.role = .master ∧ t.nl.claiming = false ∧
      t.nl.masterId = BitVec.ofNat 6 (chainId s) ∧ t.nl.roleChg = (s.nl.roleChg || s.nl.role != .master) ∧
      t.nl.noAck = (if b then s.nl.noAck else min 255 (s.nl.noAck + 1)) ∧ t.nl.peers = s.nl.peers ∧ t.banks = s.banks ∧
      t.sealed = s.sealed := by
  obtain ⟨q, hhello⟩ := nlStep_hello (nlSetRole .master (BitVec.ofNat 6 (chainId s)) (nlSent b (disarm (· == .nlListenEnd true) s)))
  have hdone : nlListenDone b (disarm (· == .nlListenEnd true) s) =
      nlHello (nlSetRole .master (BitVec.ofNat 6 (chainId s)) (nlSent b (disarm (· == .nlListenEnd true) s))) := if_pos hclaim
  have hstep : NlStep (disarm (· == .nlListenEnd true) s) { roled .master (BitVec.ofNat 6 (chainId s)) s.nl with
      noAck := if b then s.nl.noAck else min 255 (s.nl.noAck + 1), txq := q }
      (nlListenDone b (disarm (· == .nlListenEnd true) s)) := by
    rw [hdone]
    rw [nlSent_eq] at hhello ⊢
    exact hhello
  refine gives_mono (gives_nlFire (exec_nlListenEnd b s) hdue hstep) fun t h => ?_
  rw [h.nl]
  exact ⟨rfl, rfl, rfl, rfl, rfl, rfl, h.banks, h.sealed⟩

theorem gives_listenEnd_free (hclaim : s.nl.claiming = false) (hlisten : s.nl.listening = true) (hcfg : nlRoleCfg s = 0) :
    Gives (.nlListenEnd b) s fun t => t.nl.role = .free ∧ t.nl.listening = false ∧ t.nl.masterId = 0 ∧
      t.nl.peers = s.nl.peers ∧ t.banks = s.banks ∧ t.sealed = s.sealed := by
  have hdone (u : State) (hc : u.nl.claiming = false) (hl : u.nl.listening = true) (hr : nlRoleCfg u = 0) :
      nlListenDone b u = nlHello { nlSetRole .free 0 u with nl := { (nlSetRole .free 0 u).nl with noClaim := false } } := by
    rw [nlListenDone, if_neg (by rw [hc]; decide), if_neg (by rw [hl]; decide), if_pos (by simp [hr])]
  obtain ⟨q, hhello⟩ := nlStep_hello { nlSetRole .free 0 (disarm (· == .nlListenEnd true) s) with
    nl := { roled .free 0 s.nl with noClaim := false } }
  have hstep : NlStep (disarm (· == .nlListenEnd true) s) { roled .free 0 s.nl with noClaim := false, txq := q }
      (nlListenDone b (disarm (· == .nlListenEnd true) s)) := by
    rw [hdone (disarm (· == .nlListenEnd true) s) hclaim hlisten hcfg]
    exact hhello
  refine gives_mono (gives_nlFire (exec_nlListenEnd b s) hdue hstep) fun t h => ?_
  rw [h.nl]
  exact ⟨rfl, rfl, rfl, rfl, h.banks, h.sealed⟩

end Listen

/-! ## HELLO timer, peers, loss of the master (R407, R410) -/

theorem gives_helloTimer {s : State} (b : Bool) (hdue : isDue (.nlHelloTimer true) s = true) (hmute : s.nl.mute = false)
    (hsome : (nelinkCfg s).isSome = true) : Gives (.nlHelloTimer b) s fun t =>
      t.nl.txq.getLast? = some ⟨BitVec.ofNat 6 (chainId s), 4, helloWord s⟩ ∧ t.nl.role = s.nl.role ∧
      t.nl.noAck = (if b then s.nl.noAck else min 255 (s.nl.noAck + 1)) ∧ t.nl.peers = s.nl.peers ∧ t.banks = s.banks ∧
      t.sealed = s.sealed := by
  have hstep : NlStep (disarm (· == .nlHelloTimer true) s) { s.nl with
      txq := pushed 4 (helloWord s) s, noAck := if b then s.nl.noAck else min 255 (s.nl.noAck + 1) }
      (nlHelloDue b (disarm (· == .nlHelloTimer true) s)) := by
    have hhello : nlHello (disarm (· == .nlHelloTimer true) s) = rearm (16000 * usTicks) (.nlHelloTimer true)
        { disarm (· == .nlHelloTimer true) s with nl := { s.nl with txq := pushed 4 (helloWord s) s } } :=
      congrArg (rearm (16000 * usTicks) (.nlHelloTimer true)) (nlSend_on (s := disarm (· == .nlHelloTimer true) s) hmute hsome 4 _)
    have hmute' : (nlHello (disarm (· == .nlHelloTimer true) s)).nl.mute = false := by
      rw [hhello]
      exact hmute
    have hsent : nlHelloDue b (disarm (· == .nlHelloTimer true) s) = nlSent b (nlHello (disarm (· == .nlHelloTimer true) s)) :=
      if_neg (by rw [hmute']; decide)
    rw [hsent, hhello, nlSent_eq]
    exact core_agenda _ _
  refine gives_mono (gives_nlFire (exec_nlHelloTimer b s) hdue hstep) fun t h => ?_
  rw [h.nl]
  exact ⟨pushed_last _ _ _, rfl, rfl, rfl, h.banks, h.sealed⟩

theorem becomes_peerTimeout {s : State} {id : BitVec 6} (hdue : isDue (.nlPeerTimeout id) s = true)
    (hpeer : s.nl.peers.any (fun p => p.1 == id) = true) : Becomes (.nlPeerTimeout id) s
    { s with nl := { s.nl with peers := s.nl.peers.filter (fun p => p.1 != id), peerChg := true } } := by
  have hdrop := nlDropPeer_step id (disarm (· == .nlPeerTimeout id) s)
  rw [disarm_nl, hpeer, Bool.or_true] at hdrop
  exact becomes_onFire (exec_nlPeerTimeout id s) hdue hdrop.of_disarm

theorem becomes_mlost {s : State} (hup : islandUp s = true) (hrole : s.nl.role = .follower) (hmute : s.nl.mute = false)
    (hsome : (nelinkCfg s).isSome = true) : Becomes .mlost s { s with nl := { s.nl with
      mlost := true, role := .listening, roleChg := true, masterId := 0, listening := true, claiming := false, tb := none } } := by
  set u : State := { disarm (· == .mlost) s with nl := { s.nl with mlost := true } } with hu
  have hlost : nlLost (disarm (· == .mlost) s) = nlListen u := if_pos (by rw [disarm_nl, hrole]; rfl)
  have hlisten := nlStep_listen (s := u) hsome hmute
  have hdown : nlStepDown u = u := nlStepDown_of_ne (by rw [show u.nl.role = .follower from hrole]; decide)
  have hnl : listened u.nl = { s.nl with
      mlost := true, role := .listening, roleChg := true, masterId := 0, listening := true, claiming := false, tb := none } := by
    have hchg : (u.nl.roleChg || u.nl.role != .listening) = true := by
      rw [show u.nl.role = .follower from hrole]
      exact Bool.or_true _
    rw [listened, roled, hchg]
  rw [hdown, ← hlost, hnl] at hlisten
  have hrun : (if islandUp (disarm (· == .mlost) s) then nlLost (disarm (· == .mlost) s) else disarm (· == .mlost) s) =
      nlLost (disarm (· == .mlost) s) := if_pos hup
  refine becomes_act (exec_mlost s) ?_
  dsimp only
  rw [hrun]
  exact SameCore.trans (core_agenda _ _) hlisten

/-! ## Renegotiation (R407) -/

theorem mem_pushed_pushed (ty ty' : BitVec 4) (pl pl' : Word) (s u : State) (hq : u.nl.txq = pushed ty pl s) :
    (⟨BitVec.ofNat 6 (chainId s), ty, pl⟩ : NlFrame) ∈ pushed ty' pl' u := by
  rw [pushed_eq, hq, pushed_eq, List.length_append, List.length_singleton,
    List.drop_append_of_le_length (by omega)]
  simp

theorem nlRenegotiate_master {s : State} (hsome : (nelinkCfg s).isSome = true) (hrole : s.nl.role = .master) :
    nlRenegotiate s = nlListen { nlSend 2 0 s with nl := { (nlSend 2 0 s).nl with noClaim := true } } :=
  if_pos (by rw [hsome, hrole]; rfl)

theorem gives_renegotiate {s : State} (hup : hostUp s = true) (hsome : (nelinkCfg s).isSome = true) (hrole : s.nl.role = .master)
    (hmute : s.nl.mute = false) : Gives .renegotiate s fun t => t.nl.role = .listening ∧ t.nl.listening = true ∧
      t.nl.noClaim = true ∧ t.nl.roleChg = true ∧ (⟨BitVec.ofNat 6 (chainId s), 2, 0⟩ : NlFrame) ∈ t.nl.txq ∧ t.banks = s.banks ∧
      t.sealed = s.sealed := by
  set u : State := { s with nl := { s.nl with txq := pushed 2 0 s, noClaim := true } } with hu
  have hrun : nlRenegotiate s = nlListen u := by
    rw [nlRenegotiate_master hsome hrole, nlSend_on hmute hsome]
  have hdown : nlStepDown u =
      { u with nl := { u.nl with txq := pushed 4 (helloWord (nlSetRole .listening 0 u)) u } } :=
    (if_pos hrole).trans (nlSend_on (s := u) hmute hsome 4 _)
  have hlisten := nlStep_listen (s := u) hsome hmute
  rw [hdown, ← hrun] at hlisten
  have hstep : NlStep s (listened { s.nl with
      txq := pushed 4 (helloWord (nlSetRole .listening 0 u)) u, noClaim := true }) (nlRenegotiate s) := hlisten
  refine gives_onHost (exec_renegotiate s) hup ?_
  have h := hstep.settle none (occurs (onHost nlRenegotiate) s) s
  have hchg : (s.nl.roleChg || s.nl.role != .listening) = true := by rw [hrole]; exact Bool.or_true _
  rw [h.nl]
  exact ⟨rfl, rfl, rfl, hchg, mem_pushed_pushed 2 4 0 _ s u rfl, h.banks, h.sealed⟩

theorem becomes_renegotiate_refused {s : State} (hup : hostUp s = true) (hrole : s.nl.role ≠ .master) :
    Becomes .renegotiate s { s with nl := { s.nl with cmdRej := true } } := by
  have hrun : nlRenegotiate s = { s with nl := { s.nl with cmdRej := true } } := if_neg (by simp [hrole])
  exact becomes_onHost (exec_renegotiate s) hup (by rw [hrun]; exact SameCore.refl _)

end Sys2Proof.Machine
end

section
/-! PROOF. Nelink: the sync pulse of a follower (R99, R408), and the obligation on frames. -/

namespace Sys2Proof.Machine

/-! ## The correction of an epoch (R99) -/

/-- What a pulse at SYNC_IN does to bank 0 of a follower, with correction `c`. -/
def syncCorrected (c : Int) (k : Bank) : Bank :=
  { k with epoch := k.epoch + BitVec.ofInt 32 c, syncErr := k.syncErr || decide (1 < c.natAbs) }

theorem signed_mod (n : Nat) : signed 12 n % 4096 = (n : Int) % 4096 := by
  unfold signed
  split <;> omega

theorem lowCorr_mod (e : BitVec 32) (v : Nat) : ((e.toNat : Int) + lowCorr e v) % 4096 = (v : Int) % 4096 := by
  have hsigned := signed_mod (twos 12 ((v : Int) - (e.toNat % 4096 : Nat)))
  have htwos : (twos 12 ((v : Int) - (e.toNat % 4096 : Nat)) : Int) = ((v : Int) - (e.toNat % 4096 : Nat)) % 4096 :=
    Int.toNat_of_nonneg (Int.emod_nonneg _ (by decide))
  rw [htwos] at hsigned
  rw [lowCorr]
  omega

theorem syncCorrected_low (k : Bank) : (syncCorrected (lowCorr k.epoch 0) k).epoch.toNat % 4096 = 0 := by
  have hmod := lowCorr_mod k.epoch 0
  simp only [syncCorrected, BitVec.toNat_add, BitVec.toNat_ofInt]
  omega

theorem boundaryEpoch_low (hi : BitVec 20) (e : BitVec 32) : (boundaryEpoch hi e).toNat % 4096 = e.toNat % 4096 := by
  have hlt := hi.isLt
  rw [boundaryEpoch, BitVec.toNat_ofNat]
  omega

theorem boundaryLoad_low (hi : BitVec 20) (s : State) (b : BankId) :
    (boundaryLoad hi s).banks[b].epoch.toNat % 4096 = s.banks[b].epoch.toNat % 4096 := by
  unfold boundaryLoad
  dsimp only
  split
  · rfl
  · rw [mapTab_get]
    exact boundaryEpoch_low hi _

theorem boundaryLoad_keeps (hi : BitVec 20) (s : State) : (boundaryLoad hi s).agenda = s.agenda ∧
    (boundaryLoad hi s).chans = s.chans ∧ (boundaryLoad hi s).sealed = s.sealed := by
  unfold boundaryLoad
  dsimp only
  split <;> exact ⟨rfl, rfl, rfl⟩

theorem onBank_congr {b : BankId} {f g : Bank → Bank} {s : State} (h : f s.banks[b] = g s.banks[b]) : onBank b f s = onBank b g s := by
  rw [onBank, onBank, upd, upd, h]

/-! ## A pulse at SYNC_IN (R99, R408) -/

theorem pulseSet_agenda (b : BankId) (old : Bank) (s : State) : ∃ l, pulseSet b old s = { s with agenda := l } := by
  unfold pulseSet
  split
  · exact ⟨_, rfl⟩
  · exact ⟨s.agenda, rfl⟩

/-- The follower at a pulse, before the boundary is looked at. -/
def pulsed (n : NelinkCfg) (s : State) : State :=
  let c := lowCorr s.banks[(0 : Fin 24)].epoch n.epochofs
  let t := pulseSet 0 s.banks[(0 : Fin 24)] (onBank 0 (syncCorrected c) s)
  nlWatch { t with nl := { t.nl with lastCorr := BitVec.ofInt 16 c, syncAt := t.now } }

theorem nlSyncIn_follower {s : State} {n : NelinkCfg} (hcfg : nelinkCfg s = some n) (hrole : s.nl.role = .follower) :
    nlSyncIn s = match (pulsed n s).nl.tb with
      | none => pulsed n s
      | some (hi, k) => if k ≤ 1 then boundaryLoad hi (pulsed n s)
        else { pulsed n s with nl := { (pulsed n s).nl with tb := some (hi, k - 1) } } := by
  rw [nlSyncIn, hcfg]
  dsimp only
  rw [if_neg (by rw [hrole]; decide)]
  rfl

theorem pulsed_core (n : NelinkCfg) (s : State) : SameCore { onBank 0 (syncCorrected (lowCorr s.banks[(0 : Fin 24)].epoch n.epochofs)) s with
    nl := { s.nl with lastCorr := BitVec.ofInt 16 (lowCorr s.banks[(0 : Fin 24)].epoch n.epochofs), syncAt := s.now } } (pulsed n s) := by
  obtain ⟨l, hset⟩ := pulseSet_agenda 0 s.banks[(0 : Fin 24)]
    (onBank 0 (syncCorrected (lowCorr s.banks[(0 : Fin 24)].epoch n.epochofs)) s)
  rw [pulsed]
  dsimp only
  rw [hset]
  exact core_agenda _ _

theorem pulsed_bank {n : NelinkCfg} {s : State} (hofs : n.epochofs = 0) :
    (pulsed n s).banks[(0 : Fin 24)].epoch.toNat % 4096 = 0 := by
  rw [(pulsed_core n s).banks, hofs]
  dsimp only
  rw [onBank_get, if_pos rfl]
  exact syncCorrected_low _

theorem pulsed_armed {n : NelinkCfg} {s : State} (hofs : n.epochofs = 0) (hold : pulseNow s.banks[(0 : Fin 24)] = false) :
    isArmed (.syncPulse 0) (pulsed n s) = true := by
  have hnew : pulseNow (onBank 0 (syncCorrected (lowCorr s.banks[(0 : Fin 24)].epoch n.epochofs)) s).banks[(0 : Fin 24)] = true := by
    rw [onBank_get, if_pos rfl, hofs, pulseNow, syncCorrected_low]
    rfl
  have hset : pulseSet 0 s.banks[(0 : Fin 24)] (onBank 0 (syncCorrected (lowCorr s.banks[(0 : Fin 24)].epoch n.epochofs)) s) =
      rearm 0 (.syncPulse 0) (onBank 0 (syncCorrected (lowCorr s.banks[(0 : Fin 24)].epoch n.epochofs)) s) := by
    rw [pulseSet, hnew, hold]
    rfl
  rw [pulsed]
  dsimp only
  rw [hset, nlWatch, isArmed_rearm_ne (by simp)]
  exact isArmed_rearm 0 (.syncPulse 0) (onBank 0 (syncCorrected (lowCorr s.banks[(0 : Fin 24)].epoch n.epochofs)) s)

section Sync
variable {s : State} (hup : islandUp s = true)
include hup

theorem becomes_syncIn {u : State} (h : SameCore u (nlSyncIn s)) : Becomes .syncInPulse s u :=
  becomes_act (exec_syncInPulse s) (by rwa [if_pos hup])

theorem becomes_syncIn_other (hsome : (nelinkCfg s).isSome = true) (hrole : s.nl.role ≠ .follower) :
    Becomes .syncInPulse s { s with nl := { s.nl with syncAt := s.now } } := by
  obtain ⟨n, hcfg⟩ := Option.isSome_iff_exists.1 hsome
  have hrun : nlSyncIn s = { s with nl := { s.nl with syncAt := s.now } } := by
    rw [nlSyncIn, hcfg]
    exact if_pos (by simp [hrole])
  exact becomes_syncIn hup (by rw [hrun]; exact SameCore.refl _)

theorem becomes_syncIn_follower {n : NelinkCfg} (hcfg : nelinkCfg s = some n) (hrole : s.nl.role = .follower) (htb : s.nl.tb = none) :
    Becomes .syncInPulse s { onBank 0 (fun k => { k with epoch := k.epoch + BitVec.ofInt 32 (lowCorr k.epoch n.epochofs), syncErr := k.syncErr || decide (1 < (lowCorr k.epoch n.epochofs).natAbs) }) s with
      nl := { s.nl with lastCorr := BitVec.ofInt 16 (lowCorr s.banks[(0 : Fin 24)].epoch n.epochofs), syncAt := s.now } } := by
  have hnone : (pulsed n s).nl.tb = none := by rw [(pulsed_core n s).nl, htb]
  have hbank : onBank 0 (fun k => syncCorrected (lowCorr k.epoch n.epochofs) k) s =
      onBank 0 (syncCorrected (lowCorr s.banks[(0 : Fin 24)].epoch n.epochofs)) s :=
    onBank_congr rfl
  refine becomes_syncIn hup ?_
  rw [nlSyncIn_follower hcfg hrole, hnone]
  have h := pulsed_core n s
  rw [← hbank] at h
  exact h

theorem gives_syncIn_pulse {n : NelinkCfg} (hcfg : nelinkCfg s = some n) (hofs : n.epochofs = 0) (hrole : s.nl.role = .follower)
    (hold : pulseNow s.banks[(0 : Fin 24)] = false) : Gives .syncInPulse s fun t =>
      t.banks[(0 : Fin 24)].epoch.toNat % 4096 = 0 ∧ isArmed (.syncPulse 0) t = true ∧ t.chans = s.chans ∧
      t.sealed = s.sealed := by
  have hcore := pulsed_core n s
  have hrun : (nlSyncIn s).banks[(0 : Fin 24)].epoch.toNat % 4096 = 0 ∧ (nlSyncIn s).agenda = (pulsed n s).agenda ∧
      (nlSyncIn s).chans = s.chans ∧ (nlSyncIn s).sealed = s.sealed := by
    rw [nlSyncIn_follower hcfg hrole]
    split
    · exact ⟨pulsed_bank hofs, rfl, hcore.chans, hcore.sealed⟩
    · next hi k _ =>
      split
      · obtain ⟨hagenda, hchans, hsealed⟩ := boundaryLoad_keeps hi (pulsed n s)
        exact ⟨(boundaryLoad_low hi _ 0).trans (pulsed_bank hofs), hagenda, hchans.trans hcore.chans, hsealed.trans hcore.sealed⟩
      · exact ⟨pulsed_bank hofs, rfl, hcore.chans, hcore.sealed⟩
  obtain ⟨hbank, hagenda, hchans, hsealed⟩ := hrun
  have harmed : isArmed (.syncPulse 0) (nlSyncIn s) = true := by
    rw [isArmed, hagenda]
    exact pulsed_armed hofs hold
  refine gives_act (exec_syncInPulse s) ?_
  rw [if_pos hup]
  generalize occurs _ s = occ
  have h := settleBy_core none occ s (nlSyncIn s)
  refine ⟨?_, ?_, h.chans.trans hchans, h.sealed.trans hsealed⟩
  · rw [h.banks, hbank]
  · rw [isArmed_settleBy (by simp), harmed]

end Sync

/-- Settles O34: a heard frame and a timer of the controller are a step of the controller alone (`NlStep`), its roles by R406, R407
and R410; the agenda of a claim and of a sync pulse survives what follows by itself. -/
theorem nelinkFrames : Obligations.NelinkFrames := by
  unfold Obligations.NelinkFrames
  refine ⟨?claim, ?dup, ?yield, ?timebase, ?hello, ?leave, ?crc, ?bit, ?noAck, ?undefined, ?own, ?ownIdle, ?listenClaim,
    ?listenMaster, ?listenFree, ?helloTimer, ?peerTimeout, ?mlost, ?renegotiate, ?refused, ?sync, ?syncPulse, ?syncOther⟩
  case claim =>
    intro s id pl hhear hmagic hzero hid hmute hrole
    exact gives_claim_follow hhear hmagic hzero hid hmute hrole
  case dup =>
    intro s id pl b hhear hmagic hzero hid
    exact gives_claim_dup hhear b hmagic hzero hid
  case yield =>
    intro s id hhear hrole hmaster hmute
    exact gives_yield hhear hrole hmaster hmute
  case timebase =>
    intro s id hi hhear hid hmute hrole hmaster
    exact gives_timebase hhear hi hid hmute hrole hmaster
  case hello =>
    intro s id pl hhear hmagic hid
    exact gives_hello hhear hmagic hid
  case leave =>
    intro s id hhear hrole
    exact gives_leave hhear id hrole
  case crc => exact fun s hhear => becomes_badCrc hhear
  case bit => exact fun s hhear => becomes_badBit hhear
  case noAck => exact fun s hhear => becomes_noAck hhear
  case undefined => exact fun s hhear => becomes_undefinedType hhear
  case own => exact fun s hhear hclaim => gives_badOwn_claiming hhear hclaim
  case ownIdle => exact fun s hhear hidle => becomes_badOwn_idle hhear hidle
  case listenClaim =>
    intro s b hdue hclaim hlisten hcfg hno hmute hsome
    exact gives_listenEnd_claim b hdue hclaim hlisten hcfg hno hmute hsome
  case listenMaster => exact fun s b hdue hclaim _ => gives_listenEnd_master b hdue hclaim
  case listenFree => exact fun s b hdue hclaim hlisten hcfg => gives_listenEnd_free b hdue hclaim hlisten hcfg
  case helloTimer => exact fun s b hdue hmute hsome => gives_helloTimer b hdue hmute hsome
  case peerTimeout => exact fun s id hdue hpeer => becomes_peerTimeout hdue hpeer
  case mlost => exact fun s hup hrole hmute hsome => becomes_mlost hup hrole hmute hsome
  case renegotiate => exact fun s hup hsome hrole hmute => gives_renegotiate hup hsome hrole hmute
  case refused => exact fun s hup hrole => becomes_renegotiate_refused hup hrole
  case sync => exact fun s n hup hcfg hrole htb => becomes_syncIn_follower hup hcfg hrole htb
  case syncPulse => exact fun s n hup hcfg hofs hrole hold => gives_syncIn_pulse hup hcfg hofs hrole hold
  case syncOther => exact fun s hup hsome hrole => becomes_syncIn_other hup hsome hrole

end Sys2Proof.Machine
end

section
/-! PROOF. The pins that the device drives and observes (R27, R69): what an edge writes, and whom a captured level reaches. -/

namespace Sys2Proof.Machine

/-! ## What a captured edge writes (R361, R369, R370) -/

/-- What a timer shows beside its capture registers. -/
def timerFace (k : Timer) : TmrSt × Nat × Bool × Bool × Bool := (k.st, k.count, k.out, k.capIn, k.gateIn)

/-- `t` is `s` but for the capture registers of the timers, the flags of their page and the trace FIFOs. -/
structure EdgeWrote (s t : State) : Prop where
  frame : ∃ m f, t = { s with tmr := m, fifo := f }
  face : ∀ k : TimerId, timerFace t.tmr.tmr[k] = timerFace s.tmr.tmr[k]

theorem EdgeWrote.refl (s : State) : EdgeWrote s s := ⟨⟨s.tmr, s.fifo, rfl⟩, fun _ => rfl⟩

theorem EdgeWrote.trans {s t u : State} (h : EdgeWrote s t) (h' : EdgeWrote t u) : EdgeWrote s u := by
  obtain ⟨m, f, rfl⟩ := h.frame
  obtain ⟨m', f', rfl⟩ := h'.frame
  exact ⟨⟨m', f', rfl⟩, fun k => (h'.face k).trans (h.face k)⟩

theorem edgeWrote_onTimer (t : TimerId) {f : Timer → Timer} (hf : ∀ k, timerFace (f k) = timerFace k) (s : State) :
    EdgeWrote s (onTimer t f s) := by
  refine ⟨⟨_, _, rfl⟩, fun k => ?_⟩
  rw [onTimer_get]
  split
  · next h => rw [h, hf]
  · rfl

theorem edgeWrote_tmrErr (s : State) : EdgeWrote s (tmrErr s) := ⟨⟨_, _, rfl⟩, fun _ => rfl⟩

theorem edgeWrote_onFifo (i : FifoId) (f : Tfifo → Tfifo) (s : State) : EdgeWrote s (onFifo i f s) := ⟨⟨_, _, rfl⟩, fun _ => rfl⟩

theorem edgeWrote_fifoPush (i : FifoId) (e : Nat → BitVec 64) (s : State) : EdgeWrote s (fifoPush i e s).1 := by
  unfold fifoPush
  dsimp only
  split
  · exact edgeWrote_onFifo i _ s
  · exact edgeWrote_onFifo i _ s

theorem edgeWrote_pairLost (t : TimerId) (i : FifoId) (old s : State) : EdgeWrote s (pairLost t i old s) := by
  unfold pairLost
  split
  · exact edgeWrote_onFifo i _ s
  · exact EdgeWrote.refl s

theorem edgeWrote_pairDone (t : TimerId) (first n : Nat) (rising : Bool) (s : State) : EdgeWrote s (pairDone t first n rising s) := by
  unfold pairDone
  dsimp only
  generalize hu : onTimer t (fun k : Timer => { k with
    half := none, endHalf := none, width := twos 32 ((n : Int) - first), capr := if rising then n else k.capr
    capf := if rising then k.capf else n }) s = u
  have hready : EdgeWrote s { u with tmr := { u.tmr with capRdy := true } } := by
    rw [← hu]
    exact (edgeWrote_onTimer t (by intro k; rfl) s).trans ⟨⟨_, _, rfl⟩, by intro k; rfl⟩
  generalize ({ u with tmr := { u.tmr with capRdy := true } } : State) = v at hready
  split
  · next f _ =>
    have hpush := hready.trans (edgeWrote_fifoPush f (fun _ => pairEntry (twos 32 ((n : Int) - first)) first) v)
    split
    · exact hpush
    · exact ((hpush.trans (edgeWrote_pairLost t f v _)).trans (edgeWrote_onTimer t (by intro k; rfl) _)).trans (edgeWrote_tmrErr _)
  · exact hready.trans (edgeWrote_onTimer t (by intro k; rfl) v)

theorem edgeWrote_captureEdge (t : TimerId) (rising : Bool) (s : State) : EdgeWrote s (captureEdge t rising s) := by
  unfold captureEdge
  dsimp only
  split
  · exact EdgeWrote.refl s
  split
  · split
    · exact EdgeWrote.refl s
    · exact (edgeWrote_onTimer t (by intro k; rfl) s).trans (edgeWrote_tmrErr _)
  split
  · split
    · exact edgeWrote_pairDone t _ _ rising s
    · exact EdgeWrote.refl s
  · split
    · exact edgeWrote_pairDone t _ _ rising s
    · exact EdgeWrote.refl s
  · split
    · exact edgeWrote_onTimer t (by intro k; rfl) s
    · exact EdgeWrote.refl s

theorem capPut_wrote (t : TimerId) (lvl : Bool) (s : State) :
    EdgeWrote (onTimer t (fun k => { k with capIn := lvl }) s) (capPut t lvl s) := by
  unfold capPut
  dsimp only
  split
  · exact edgeWrote_captureEdge t lvl _
  · exact EdgeWrote.refl _

/-! ## The parts of the block that a captured level leaves (R69) -/

/-- `t` is `s` but for what a level at a pin writes: inputs, capture registers, the flags of the timers' page, trace FIFOs. -/
structure InputsWrote (s t : State) : Prop where
  frame : ∃ m f r, t = { s with tmr := m, fifo := f, rails := r }
  timers : ∀ k : TimerId, t.tmr.tmr[k].st = s.tmr.tmr[k].st ∧ t.tmr.tmr[k].count = s.tmr.tmr[k].count ∧
    t.tmr.tmr[k].out = s.tmr.tmr[k].out
  rails : ∀ r : RailId, { t.rails[r] with seq := { t.rails[r].seq with seqIn := false } } =
    { s.rails[r] with seq := { s.rails[r].seq with seqIn := false } }

theorem InputsWrote.refl (s : State) : InputsWrote s s := ⟨⟨s.tmr, s.fifo, s.rails, rfl⟩, fun _ => ⟨rfl, rfl, rfl⟩, fun _ => rfl⟩

theorem InputsWrote.trans {s t u : State} (h : InputsWrote s t) (h' : InputsWrote t u) : InputsWrote s u := by
  obtain ⟨m, f, r, rfl⟩ := h.frame
  obtain ⟨m', f', r', rfl⟩ := h'.frame
  refine ⟨⟨m', f', r', rfl⟩, fun k => ?_, fun r => (h'.rails r).trans (h.rails r)⟩
  obtain ⟨hst, hcount, hout⟩ := h.timers k
  obtain ⟨hst', hcount', hout'⟩ := h'.timers k
  exact ⟨hst'.trans hst, hcount'.trans hcount, hout'.trans hout⟩

theorem EdgeWrote.inputs {s t : State} (h : EdgeWrote s t) : InputsWrote s t := by
  obtain ⟨m, f, rfl⟩ := h.frame
  refine ⟨⟨m, f, s.rails, rfl⟩, fun k => ?_, fun _ => rfl⟩
  have hface := h.face k
  simp only [timerFace, Prod.mk.injEq] at hface
  exact ⟨hface.1, hface.2.1, hface.2.2.1⟩

theorem inputsWrote_onTimer (t : TimerId) {f : Timer → Timer} (hst : ∀ k, (f k).st = k.st) (hcount : ∀ k, (f k).count = k.count)
    (hout : ∀ k, (f k).out = k.out) (s : State) : InputsWrote s (onTimer t f s) := by
  refine ⟨⟨_, _, _, rfl⟩, fun k => ?_, fun _ => rfl⟩
  rw [onTimer_get]
  split
  · next h => rw [h]; exact ⟨hst _, hcount _, hout _⟩
  · exact ⟨rfl, rfl, rfl⟩

theorem inputsWrote_capPut (t : TimerId) (lvl : Bool) (s : State) : InputsWrote s (capPut t lvl s) :=
  (inputsWrote_onTimer t (by intro k; rfl) (by intro k; rfl) (by intro k; rfl) s).trans (capPut_wrote t lvl s).inputs

theorem inputsWrote_gatePut (t : TimerId) (lvl : Bool) (s : State) : InputsWrote s (gatePut t lvl s) :=
  inputsWrote_onTimer t (by intro k; rfl) (by intro k; rfl) (by intro k; rfl) s

theorem inputsWrote_seqPut (r : RailId) (lvl : Bool) (s : State) : InputsWrote s (seqPut r lvl s) := by
  refine ⟨⟨_, _, _, rfl⟩, fun _ => ⟨rfl, rfl, rfl⟩, fun q => ?_⟩
  rw [seqPut, onRail_get]
  split
  · next h => rw [h]
  · rfl

theorem inputsWrote_forEach {α : Type} (l : List α) (f : α → State → State) (h : ∀ a s, InputsWrote s (f a s)) (s : State) :
    InputsWrote s (forEach l f s) := by
  induction l generalizing s with
  | nil => exact InputsWrote.refl s
  | cons a l ih => exact (h a s).trans (ih (f a s))

theorem inputsWrote_pinPut (pin : Nat) (lvl : Bool) (s : State) : InputsWrote s (pinPut pin lvl s) :=
  ((inputsWrote_forEach _ _ (fun t => inputsWrote_capPut t lvl) s).trans
    (inputsWrote_forEach _ _ (fun t => inputsWrote_gatePut t lvl) _)).trans
    (inputsWrote_forEach _ _ (fun r => inputsWrote_seqPut r lvl) _)

/-- The state at a core clock edge whose levels have been captured, before any observer takes one. -/
def captured (s : State) : State :=
  { s with pins := { s.pins with
      sync := ((lagging s).filter fun p => decide (cycle s < syncSince s p.1 + 2)).map fun p => (p.1, syncSince s p.1) } }

/-- The levels that stand long enough for their observers. -/
def dueLevels (s : State) : List (Nat × Bool) := (lagging s).filter fun p => decide (syncSince s p.1 + 2 ≤ cycle s)

theorem syncPins_eq (s : State) : syncPins s = forEach (dueLevels s) (fun p => pinPut p.1 p.2) (captured s) := rfl

theorem inputsWrote_syncPins (s : State) : InputsWrote (captured s) (syncPins s) :=
  inputsWrote_forEach (dueLevels s) (fun p => pinPut p.1 p.2) (fun p => inputsWrote_pinPut p.1 p.2) (captured s)

/-! ## Whom a captured level reaches (R69) -/

theorem forEach_preserves {α : Type} {P : State → Prop} {f : α → State → State} {l : List α}
    (h : ∀ b ∈ l, ∀ s, P s → P (f b s)) {s : State} (hs : P s) : P (forEach l f s) := by
  induction l generalizing s with
  | nil => exact hs
  | cons b l ih => exact ih (fun c hc => h c (List.mem_cons_of_mem _ hc)) (h b List.mem_cons_self s hs)

/-- One element of the list sets `P`, and no other element undoes it. -/
theorem forEach_sets {α : Type} {I P : State → Prop} {f : α → State → State} {l : List α} {a : α} (ha : a ∈ l)
    (hI : ∀ b s, I s → I (f b s)) (hset : ∀ s, I s → P (f a s)) (hkeep : ∀ b ∈ l, ∀ s, I s → P s → P (f b s)) {s : State}
    (hs : I s) : P (forEach l f s) := by
  induction l generalizing s with
  | nil => exact absurd ha List.not_mem_nil
  | cons b l ih =>
    rcases List.mem_cons.1 ha with rfl | hmem
    · refine (forEach_preserves (P := fun u => I u ∧ P u) (fun c hc u hu => ?_) ⟨hI a s hs, hset s hs⟩).2
      exact ⟨hI c u hu.1, hkeep c (List.mem_cons_of_mem _ hc) u hu.1 hu.2⟩
    · exact ih hmem (fun c hc => hkeep c (List.mem_cons_of_mem _ hc)) (hI b s hs)

theorem pinOf_congr {s u : State} (h : u.sealed = s.sealed) (c i : Nat) : pinOf u c i = pinOf s c i := by
  rw [pinOf, pinOf, pinClaims, pinClaims, h]

theorem InputsWrote.sealed {s t : State} (h : InputsWrote s t) : t.sealed = s.sealed := by
  obtain ⟨m, f, r, rfl⟩ := h.frame
  rfl

theorem mem_seers {s : State} {n c p : Nat} {k : Fin n} :
    k ∈ (allFin n).filter (fun t => pinOf s c t.val == some p) ↔ pinOf s c k.val = some p := by
  rw [List.mem_filter, beq_iff_eq]
  exact and_iff_right (List.mem_finRange k)

theorem capPut_capIn (t k : TimerId) (lvl : Bool) (s : State) :
    (capPut t lvl s).tmr.tmr[k].capIn = if k = t then lvl else s.tmr.tmr[k].capIn := by
  have hface := (capPut_wrote t lvl s).face k
  simp only [timerFace, Prod.mk.injEq] at hface
  rw [hface.2.2.2.1, onTimer_get]
  split
  · rfl
  · rfl

theorem capPut_gateIn (t k : TimerId) (lvl : Bool) (s : State) : (capPut t lvl s).tmr.tmr[k].gateIn = s.tmr.tmr[k].gateIn := by
  have hface := (capPut_wrote t lvl s).face k
  simp only [timerFace, Prod.mk.injEq] at hface
  rw [hface.2.2.2.2, onTimer_get]
  split
  · next h => rw [h]
  · rfl

theorem capPut_rails (t : TimerId) (lvl : Bool) (s : State) : (capPut t lvl s).rails = s.rails := by
  obtain ⟨m, f, h⟩ := (capPut_wrote t lvl s).frame
  rw [h]
  rfl

theorem gatePut_capIn (t k : TimerId) (lvl : Bool) (s : State) : (gatePut t lvl s).tmr.tmr[k].capIn = s.tmr.tmr[k].capIn := by
  rw [gatePut, onTimer_get]
  split
  · next h => rw [h]
  · rfl

theorem gatePut_gateIn (t k : TimerId) (lvl : Bool) (s : State) :
    (gatePut t lvl s).tmr.tmr[k].gateIn = if k = t then lvl else s.tmr.tmr[k].gateIn := by
  rw [gatePut, onTimer_get]
  split
  · rfl
  · rfl

theorem gatePut_rails (t : TimerId) (lvl : Bool) (s : State) : (gatePut t lvl s).rails = s.rails := rfl

theorem seqPut_timer (r : RailId) (k : TimerId) (lvl : Bool) (s : State) : (seqPut r lvl s).tmr.tmr[k] = s.tmr.tmr[k] := rfl

theorem seqPut_seqIn (r q : RailId) (lvl : Bool) (s : State) :
    (seqPut r lvl s).rails[q].seq.seqIn = if q = r then lvl else s.rails[q].seq.seqIn := by
  rw [seqPut, onRail_get]
  split
  · rfl
  · rfl

/-- A level at a pin, as the three loops that tell it. -/
theorem pinPut_eq (pin : Nat) (lvl : Bool) (s : State) : pinPut pin lvl s =
    forEach ((allFin 24).filter fun r => pinOf s 1 r.val == some pin) (fun r => seqPut r lvl)
      (forEach ((allFin 32).filter fun t => pinOf s 3 t.val == some pin) (fun t => gatePut t lvl)
        (forEach ((allFin 32).filter fun t => pinOf s 2 t.val == some pin) (fun t => capPut t lvl) s)) := rfl

theorem pinPut_capIn_of_loop (pin : Nat) (lvl : Bool) (s : State) (k : TimerId) : (pinPut pin lvl s).tmr.tmr[k].capIn =
    (forEach ((allFin 32).filter fun t => pinOf s 2 t.val == some pin) (fun t => capPut t lvl) s).tmr.tmr[k].capIn := by
  rw [pinPut_eq, forEach_keeps (fun u => u.tmr.tmr[k].capIn) _ _ (fun r u => congrArg Timer.capIn (seqPut_timer r k lvl u)),
    forEach_keeps (fun u => u.tmr.tmr[k].capIn) _ _ (fun t u => gatePut_capIn t k lvl u)]

theorem pinPut_gateIn_of_loop (pin : Nat) (lvl : Bool) (s : State) (k : TimerId) : (pinPut pin lvl s).tmr.tmr[k].gateIn =
    (forEach ((allFin 32).filter fun t => pinOf s 3 t.val == some pin) (fun t => gatePut t lvl)
      (forEach ((allFin 32).filter fun t => pinOf s 2 t.val == some pin) (fun t => capPut t lvl) s)).tmr.tmr[k].gateIn := by
  rw [pinPut_eq, forEach_keeps (fun u => u.tmr.tmr[k].gateIn) _ _ (fun r u => congrArg Timer.gateIn (seqPut_timer r k lvl u))]

/-- An input that observes pin `p` takes the level told there, and keeps it while no other level is told there. -/
structure TakesLevel (input : State → Bool) (sees : State → Option Nat) (p : Nat) (l : Bool) : Prop where
  sealed : ∀ s u : State, u.sealed = s.sealed → sees u = sees s
  set : ∀ s : State, sees s = some p → input (pinPut p l s) = l
  keep : ∀ (s : State) (q : Nat) (l' : Bool), sees s = some p → (q = p → l' = l) → input s = l → input (pinPut q l' s) = l

theorem takesLevel_capIn (k : TimerId) (p : Nat) (l : Bool) :
    TakesLevel (fun s => s.tmr.tmr[k].capIn) (fun s => pinOf s 2 k.val) p l where
  sealed := fun s u h => pinOf_congr h _ _
  set := by
    intro s hsees
    rw [pinPut_capIn_of_loop]
    refine forEach_sets (I := fun _ => True) (P := fun u => u.tmr.tmr[k].capIn = l) (mem_seers.2 hsees) (fun _ _ _ => trivial)
      (fun u _ => ?_) (fun t _ u _ hu => ?_) trivial
    · rw [capPut_capIn, if_pos rfl]
    · rw [capPut_capIn, hu, ite_self]
  keep := by
    intro s q l' hsees hl hs
    rw [pinPut_capIn_of_loop]
    refine forEach_preserves (P := fun u => u.tmr.tmr[k].capIn = l) (fun t ht u hu => ?_) hs
    rw [capPut_capIn]
    split
    · next h =>
      subst h
      exact hl (Option.some.inj ((mem_seers.1 ht).symm.trans hsees))
    · exact hu

theorem takesLevel_gateIn (k : TimerId) (p : Nat) (l : Bool) :
    TakesLevel (fun s => s.tmr.tmr[k].gateIn) (fun s => pinOf s 3 k.val) p l where
  sealed := fun s u h => pinOf_congr h _ _
  set := by
    intro s hsees
    rw [pinPut_gateIn_of_loop]
    refine forEach_sets (I := fun _ => True) (P := fun u => u.tmr.tmr[k].gateIn = l) (mem_seers.2 hsees) (fun _ _ _ => trivial)
      (fun u _ => ?_) (fun t _ u _ hu => ?_) trivial
    · rw [gatePut_gateIn, if_pos rfl]
    · rw [gatePut_gateIn, hu, ite_self]
  keep := by
    intro s q l' hsees hl hs
    rw [pinPut_gateIn_of_loop]
    refine forEach_preserves (P := fun u => u.tmr.tmr[k].gateIn = l) (fun t ht u hu => ?_)
      (forEach_preserves (P := fun u => u.tmr.tmr[k].gateIn = l) (fun t _ u hu => (capPut_gateIn t k l' u).trans hu) hs)
    rw [gatePut_gateIn]
    split
    · next h =>
      subst h
      exact hl (Option.some.inj ((mem_seers.1 ht).symm.trans hsees))
    · exact hu

theorem takesLevel_seqIn (r : RailId) (p : Nat) (l : Bool) :
    TakesLevel (fun s => s.rails[r].seq.seqIn) (fun s => pinOf s 1 r.val) p l where
  sealed := fun s u h => pinOf_congr h _ _
  set := by
    intro s hsees
    rw [pinPut_eq]
    refine forEach_sets (I := fun _ => True) (P := fun u => u.rails[r].seq.seqIn = l) (mem_seers.2 hsees) (fun _ _ _ => trivial)
      (fun u _ => ?_) (fun t _ u _ hu => ?_) trivial
    · rw [seqPut_seqIn, if_pos rfl]
    · rw [seqPut_seqIn, hu, ite_self]
  keep := by
    intro s q l' hsees hl hs
    rw [pinPut_eq]
    refine forEach_preserves (P := fun u => u.rails[r].seq.seqIn = l) (fun t ht u hu => ?_)
      (forEach_preserves (P := fun u => u.rails[r].seq.seqIn = l) (fun t _ u hu => (gatePut_rails t l' u).symm ▸ hu)
        (forEach_preserves (P := fun u => u.rails[r].seq.seqIn = l) (fun t _ u hu => by rwa [capPut_rails]) hs))
    rw [seqPut_seqIn]
    split
    · next h =>
      subst h
      exact hl (Option.some.inj ((mem_seers.1 ht).symm.trans hsees))
    · exact hu

theorem ownLevel_of_mem_lagging {s : State} {p : Nat} {l : Bool} (h : (p, l) ∈ lagging s) : ownLevel s p = some l := by
  obtain ⟨q, _, hq⟩ := List.mem_filterMap.1 h
  obtain ⟨l', hown, hl'⟩ := Option.bind_eq_some_iff.1 hq
  split at hl'
  · obtain ⟨rfl, rfl⟩ := Prod.mk.inj (Option.some.inj hl')
    exact hown
  · exact absurd hl' (by simp)

/-- An observer of a pin whose level has stood long enough takes it at the edge. -/
theorem syncPins_takes {input : State → Bool} {sees : State → Option Nat} {s : State} {p : Nat} {l : Bool}
    (h : TakesLevel input sees p l) (hlag : (p, l) ∈ lagging s) (hdue : syncSince s p + 2 ≤ cycle s) (hsees : sees s = some p) :
    input (syncPins s) = l := by
  have hown := ownLevel_of_mem_lagging hlag
  have hmem : (p, l) ∈ dueLevels s := List.mem_filter.2 ⟨hlag, decide_eq_true hdue⟩
  rw [syncPins_eq]
  refine forEach_sets (I := fun u => u.sealed = s.sealed) (P := fun u => input u = l) hmem (fun q u hu => ?_) (fun u hu => ?_)
    (fun q hq u hu hinput => ?_) rfl
  · exact (inputsWrote_pinPut q.1 q.2 u).sealed.trans hu
  · exact h.set u ((h.sealed s u hu).trans hsees)
  · refine h.keep u q.1 q.2 ((h.sealed s u hu).trans hsees) (fun heq => ?_) hinput
    have hq' : ownLevel s q.1 = some q.2 := ownLevel_of_mem_lagging (List.mem_of_mem_filter hq)
    rw [heq, hown] at hq'
    exact (Option.some.inj hq').symm

theorem syncPins_idle {s : State} (h : ∀ p l, (p, l) ∈ lagging s → cycle s < syncSince s p + 2) : syncPins s = captured s := by
  have hnone : dueLevels s = [] := by
    refine List.filter_eq_nil_iff.2 fun p hp => ?_
    have := h p.1 p.2 hp
    simpa using this
  rw [syncPins_eq, hnone]
  rfl

end Sys2Proof.Machine
end

section
/-! PROOF. A core clock edge at the observed pins while compare words take effect (R27, R35, R69): blocks alike in what the pins see
stay alike. -/

namespace Sys2Proof.Machine

/-! ## Blocks that show their observed pins and timers alike -/

/-- `o` with the clock, image, pins, timers, FIFOs, test port and power state of `s`. -/
def grafted (o s : State) : State :=
  { o with now := s.now, sealed := s.sealed, pins := s.pins, tmr := s.tmr, fifo := s.fifo, tap := s.tap, pwr := s.pwr }

/-- Two blocks with the same clock, image, pins, timers, FIFOs, test port and power state, whose sequencers stand alike. -/
structure Alike (s u : State) : Prop where
  now : u.now = s.now
  sealed : u.sealed = s.sealed
  pins : u.pins = s.pins
  tmr : u.tmr = s.tmr
  fifo : u.fifo = s.fifo
  tap : u.tap = s.tap
  pwr : u.pwr = s.pwr
  seq : ∀ r : RailId, u.rails[r].seq = s.rails[r].seq

theorem Alike.refl (s : State) : Alike s s := ⟨rfl, rfl, rfl, rfl, rfl, rfl, rfl, fun _ => rfl⟩

theorem Alike.trans {s t u : State} (h : Alike s t) (h' : Alike t u) : Alike s u :=
  ⟨h'.now.trans h.now, h'.sealed.trans h.sealed, h'.pins.trans h.pins, h'.tmr.trans h.tmr, h'.fifo.trans h.fifo, h'.tap.trans h.tap,
    h'.pwr.trans h.pwr, fun r => (h'.seq r).trans (h.seq r)⟩

theorem Alike.graft {s u : State} (h : Alike s u) : u = grafted u s := by
  rw [grafted, ← h.now, ← h.sealed, ← h.pins, ← h.tmr, ← h.fifo, ← h.tap, ← h.pwr]

theorem alike_grafted {o s : State} (h : ∀ r : RailId, o.rails[r].seq = s.rails[r].seq) : Alike s (grafted o s) :=
  ⟨rfl, rfl, rfl, rfl, rfl, rfl, rfl, h⟩

/-! ## An edge of a capture input reads and writes no more than this (R361, R369, R370) -/

theorem fifoPush_grafted (f : FifoId) (e : Nat → BitVec 64) (o s : State) :
    fifoPush f e (grafted o s) = (grafted o (fifoPush f e s).1, (fifoPush f e s).2) := by
  unfold fifoPush
  dsimp only
  by_cases h : 64 ≤ s.fifo[f].entries.length
  · rw [if_pos h]
    exact if_pos h
  · rw [if_neg h]
    exact if_neg h

theorem pairLost_grafted (t : TimerId) (f : FifoId) (o s u : State) :
    pairLost t f (grafted o s) (grafted o u) = grafted o (pairLost t f s u) := by
  unfold pairLost
  by_cases h : (s.fifo[f].lost.all fun d => d.at_ != cycle s) = true
  · rw [if_pos h]
    exact if_pos h
  · rw [if_neg h]
    exact if_neg h

/-- A pair of timer `t` with its flag, before it goes to a FIFO. -/
def pairStored (t : TimerId) (first n : Nat) (rising : Bool) (s : State) : State :=
  let u := onTimer t (fun k => { k with
    half := none, endHalf := none, width := twos 32 ((n : Int) - first), capr := if rising then n else k.capr
    capf := if rising then k.capf else n }) s
  { u with tmr := { u.tmr with capRdy := true } }

theorem pairDone_fifo {t : TimerId} {f : FifoId} {s : State} (first n : Nat) (rising : Bool) (h : fifoOf s 6 t.val = some f) :
    pairDone t first n rising s =
      let p := fifoPush f (fun _ => pairEntry (twos 32 ((n : Int) - first)) first) (pairStored t first n rising s)
      if p.2 then p.1
      else tmrErr (onTimer t (fun k => { k with capOvr := true }) (pairLost t f (pairStored t first n rising s) p.1)) := by
  have h' : fifoOf (pairStored t first n rising s) 6 t.val = some f := h
  unfold pairDone
  simp only [pairStored] at h' ⊢
  rw [h']
  rfl

theorem pairDone_none {t : TimerId} {s : State} (first n : Nat) (rising : Bool) (h : fifoOf s 6 t.val = none) :
    pairDone t first n rising s = onTimer t (fun k => { k with pairRdy := true }) (pairStored t first n rising s) := by
  have h' : fifoOf (pairStored t first n rising s) 6 t.val = none := h
  unfold pairDone
  simp only [pairStored] at h' ⊢
  rw [h']

theorem pairDone_grafted (t : TimerId) (first n : Nat) (rising : Bool) (o s : State) :
    pairDone t first n rising (grafted o s) = grafted o (pairDone t first n rising s) := by
  cases h : fifoOf s 6 t.val with
  | none =>
    rw [pairDone_none first n rising h, pairDone_none first n rising (s := grafted o s) h]
    rfl
  | some f =>
    have hstored : pairStored t first n rising (grafted o s) = grafted o (pairStored t first n rising s) := rfl
    rw [pairDone_fifo first n rising h, pairDone_fifo first n rising (s := grafted o s) h, hstored]
    dsimp only
    rw [fifoPush_grafted]
    dsimp only
    rw [pairLost_grafted]
    split
    · rfl
    · rfl

theorem captureEdge_grafted (t : TimerId) (rising : Bool) (o s : State) :
    captureEdge t rising (grafted o s) = grafted o (captureEdge t rising s) := by
  have hpair (first n : Nat) := pairDone_grafted t first n rising o s
  have hcycle : cycle (grafted o s) = cycle s := rfl
  have hfifo : fifoOf (grafted o s) 6 t.val = fifoOf s 6 t.val := rfl
  have htmr : (grafted o s).tmr = s.tmr := rfl
  unfold captureEdge
  dsimp only
  rw [hcycle, hfifo, htmr]
  split
  · rfl
  split
  · split
    · rfl
    · rfl
  split
  · split
    · exact hpair _ _
    · rfl
  · split
    · exact hpair _ _
    · rfl
  · split
    · rfl
    · rfl

/-! ## A level told at a pin, and the edge (R27, R69) -/

theorem alike_capPut {s u : State} (h : Alike s u) (t : TimerId) (lvl : Bool) : Alike (capPut t lvl s) (capPut t lvl u) := by
  have hput : capPut t lvl (grafted u s) = grafted u (capPut t lvl s) := by
    unfold capPut
    have hon : onTimer t (fun k => { k with capIn := lvl }) (grafted u s) =
        grafted u (onTimer t (fun k => { k with capIn := lvl }) s) := rfl
    have htmr : (grafted u s).tmr = s.tmr := rfl
    dsimp only
    rw [hon, htmr, captureEdge_grafted]
    exact (apply_ite (grafted u) _ _ _).symm
  rw [h.graft, hput]
  exact alike_grafted fun r => by rw [capPut_rails, h.seq]

theorem alike_gatePut {s u : State} (h : Alike s u) (t : TimerId) (lvl : Bool) : Alike (gatePut t lvl s) (gatePut t lvl u) := by
  rw [h.graft]
  exact alike_grafted h.seq

theorem alike_seqPut {s u : State} (h : Alike s u) (r : RailId) (lvl : Bool) : Alike (seqPut r lvl s) (seqPut r lvl u) := by
  refine ⟨h.now, h.sealed, h.pins, h.tmr, h.fifo, h.tap, h.pwr, fun q => ?_⟩
  rw [seqPut, seqPut, onRail_get, onRail_get]
  split
  · rw [h.seq]
  · exact h.seq q

theorem alike_forEach {α : Type} (l : List α) {f : α → State → State} (hf : ∀ a {s u}, Alike s u → Alike (f a s) (f a u))
    {s u : State} (h : Alike s u) : Alike (forEach l f s) (forEach l f u) := by
  induction l generalizing s u with
  | nil => exact h
  | cons a l ih => exact ih (hf a h)

theorem alike_pinPut {s u : State} (h : Alike s u) (pin : Nat) (lvl : Bool) : Alike (pinPut pin lvl s) (pinPut pin lvl u) := by
  have hpin (c i : Nat) : pinOf u c i = pinOf s c i := pinOf_congr h.sealed c i
  simp only [pinPut_eq, hpin]
  exact alike_forEach _ (fun r _ _ h => alike_seqPut h r lvl) (alike_forEach _ (fun t _ _ h => alike_gatePut h t lvl)
    (alike_forEach _ (fun t _ _ h => alike_capPut h t lvl) h))

/-- Blocks alike whose observers lag alike stay alike at an edge. -/
theorem alike_syncPins {s u : State} (h : Alike s u) (hlag : lagging u = lagging s) : Alike (syncPins s) (syncPins u) := by
  have hcycle : cycle u = cycle s := by rw [cycle, cycle, h.now]
  have hsince (p : Nat) : syncSince u p = syncSince s p := by rw [syncSince, syncSince, h.pins, hcycle]
  have hdue : dueLevels u = dueLevels s := by simp only [dueLevels, hlag, hsince, hcycle]
  have hcaptured : Alike (captured s) (captured u) := by
    refine ⟨h.now, h.sealed, ?_, h.tmr, h.fifo, h.tap, h.pwr, h.seq⟩
    simp only [captured, hlag, hsince, hcycle, h.pins]
  rw [syncPins_eq, syncPins_eq, hdue]
  exact alike_forEach _ (fun p _ _ h => alike_pinPut h p.1 p.2) hcaptured

theorem alike_coreEdge {s u : State} (h : Alike s u) : Alike (coreEdge s) (coreEdge u) := by
  rw [h.graft]
  exact ⟨rfl, rfl, rfl, rfl, rfl, rfl, rfl, h.seq⟩

/-! ## Compare words take effect (R35, R94) -/

/-- `t` is `s` but for channels, banks, the agenda, and the rails beside their sequencers and Sillage buffers. -/
structure WordsWrote (s t : State) : Prop where
  frame : ∃ c b r a, t = { s with chans := c, banks := b, rails := r, agenda := a }
  rails : ∀ r : RailId, t.rails[r].seq = s.rails[r].seq ∧ t.rails[r].sil = s.rails[r].sil

theorem WordsWrote.refl (s : State) : WordsWrote s s := ⟨⟨s.chans, s.banks, s.rails, s.agenda, rfl⟩, fun _ => ⟨rfl, rfl⟩⟩

theorem WordsWrote.trans {s t u : State} (h : WordsWrote s t) (h' : WordsWrote t u) : WordsWrote s u := by
  obtain ⟨c, b, r, a, rfl⟩ := h.frame
  obtain ⟨c', b', r', a', rfl⟩ := h'.frame
  exact ⟨⟨c', b', r', a', rfl⟩, fun r => ⟨(h'.rails r).1.trans (h.rails r).1, (h'.rails r).2.trans (h.rails r).2⟩⟩

theorem WordsWrote.alike {s t : State} (h : WordsWrote s t) : Alike s t := by
  have hrails := h.rails
  obtain ⟨c, b, r, a, rfl⟩ := h.frame
  exact ⟨rfl, rfl, rfl, rfl, rfl, rfl, rfl, fun r => (hrails r).1⟩

theorem wordsWrote_onRail (r : RailId) {f : Rail → Rail} (hf : ∀ x, (f x).seq = x.seq ∧ (f x).sil = x.sil) (s : State) :
    WordsWrote s (onRail r f s) := by
  refine ⟨⟨_, _, _, _, rfl⟩, fun q => ?_⟩
  rw [onRail_get]
  split
  · next h => rw [h]; exact hf _
  · exact ⟨rfl, rfl⟩

theorem wordsWrote_onChan (ch : ChanId) (f : Chan → Chan) (s : State) : WordsWrote s (onChan ch f s) :=
  ⟨⟨_, _, _, _, rfl⟩, fun _ => ⟨rfl, rfl⟩⟩

theorem wordsWrote_rearm (n : Nat) (e : Instr) (s : State) : WordsWrote s (rearm n e s) := ⟨⟨_, _, _, _, rfl⟩, fun _ => ⟨rfl, rfl⟩⟩

theorem wordsWrote_distribute (r : RailId) (c : RailCfg) (s : State) : WordsWrote s (distribute r c s) :=
  ⟨⟨_, _, _, _, rfl⟩, fun _ => ⟨rfl, rfl⟩⟩

theorem wordsWrote_countTrip (r : RailId) (c : RailCfg) (ch : ChanId) (s : State) : WordsWrote s (countTrip r c ch s) := by
  unfold countTrip
  dsimp only
  split
  · exact WordsWrote.refl s
  split
  · exact (wordsWrote_onRail r (by intro x; exact ⟨rfl, rfl⟩) s).trans (wordsWrote_rearm _ _ _)
  · exact wordsWrote_onRail r (by intro x; exact ⟨rfl, rfl⟩) s

theorem wordsWrote_coriPut (c : RailCfg) (q : Nat) (s : State) : WordsWrote s (coriPut c q s) := by
  unfold coriPut
  split
  · exact wordsWrote_onChan _ _ s
  · exact WordsWrote.refl s

theorem wordsWrote_coriSample (r : RailId) (c : RailCfg) (ef c5 : Int) (s : State) : WordsWrote s (coriSample r c ef c5 s) := by
  unfold coriSample
  dsimp only
  split
  · exact wordsWrote_onRail r (by intro x; exact ⟨rfl, rfl⟩) s
  split
  · exact wordsWrote_onRail r (by intro x; exact ⟨rfl, rfl⟩) s
  split
  · split
    · exact (wordsWrote_countTrip r c _ s).trans (wordsWrote_onRail r (by intro x; exact ⟨rfl, rfl⟩) _)
    · exact (wordsWrote_coriPut c _ s).trans (wordsWrote_onRail r (by intro x; exact ⟨rfl, rfl⟩) _)
  · exact wordsWrote_onRail r (by intro x; exact ⟨rfl, rfl⟩) s

theorem wordsWrote_wordsTake (rc : RailId × RailCfg) (s : State) : WordsWrote s (wordsTake rc s) := by
  have hwords : WordsWrote s (if s.rails[rc.1].eng.wordsDue.any fun t => decide (t ≤ s.now) then
      if s.rails[rc.1].eng.on then
        distribute rc.1 rc.2 (onRail rc.1 (fun x => { x with eng := { x.eng with wordsDue := none } }) s)
      else onRail rc.1 (fun x => { x with eng := { x.eng with wordsDue := none } }) s
    else s) := by
    split
    · split
      · exact (wordsWrote_onRail rc.1 (by intro x; exact ⟨rfl, rfl⟩) s).trans (wordsWrote_distribute rc.1 rc.2 _)
      · exact wordsWrote_onRail rc.1 (by intro x; exact ⟨rfl, rfl⟩) s
    · exact WordsWrote.refl s
  unfold wordsTake
  dsimp only
  split
  · split
    · split
      · exact (hwords.trans (wordsWrote_onRail rc.1 (by intro x; exact ⟨rfl, rfl⟩) _)).trans (wordsWrote_coriSample rc.1 rc.2 _ _ _)
      · exact hwords.trans (wordsWrote_onRail rc.1 (by intro x; exact ⟨rfl, rfl⟩) _)
    · exact hwords
  · exact hwords

theorem wordsWrote_forEach {α : Type} (l : List α) {f : α → State → State} (h : ∀ a s, WordsWrote s (f a s)) (s : State) :
    WordsWrote s (forEach l f s) := by
  induction l generalizing s with
  | nil => exact WordsWrote.refl s
  | cons a l ih => exact (h a s).trans (ih (f a s))

theorem alike_settleBy (p : Option PortId) (o : List Nat) (old s : State) : Alike s (settleBy p o old s) := by
  have h := settleBy_core p o old s
  exact ⟨h.now, h.sealed, h.pins, h.tmr, h.fifo, h.tap, h.pwr, fun r => settleBy_rail_seq p o old s r⟩

theorem alike_wordsEdge (s : State) : Alike s (wordsEdge s) := by
  unfold wordsEdge
  dsimp only
  split
  · exact (wordsWrote_forEach _ wordsWrote_wordsTake s).alike.trans (alike_settleBy _ _ _ _)
  · exact Alike.refl s

theorem alike_pinsEdge {s : State} (h : coreStopped s = false) : Alike (syncPins s) (pinsEdge s) := by
  unfold pinsEdge
  split
  · next hidle =>
    rw [h, Bool.false_or, Bool.and_eq_true, List.isEmpty_iff, List.isEmpty_iff] at hidle
    obtain ⟨hlag, hsync⟩ := hidle
    have hcaptured : captured s = s := by
      have : s.pins = { s.pins with sync := [] } := by rw [← hsync]
      rw [captured, hlag, List.filter_nil, List.map_nil, ← this]
    rw [syncPins_idle (by rw [hlag]; simp), hcaptured]
    exact Alike.refl s
  · exact alike_settleBy _ _ _ _

end Sys2Proof.Machine
end

section
/-! PROOF. The observed pins and the supply of VDDIO group 3 (R27, R69, R306, R436): what the statement on driven pins asks of the
board. -/

namespace Sys2Proof.Machine

/-! ## Without its supply the fault pair shows nothing (R306, R436) -/

theorem ballPad_unpowered {s : State} {b : Ball} (hgroup : b.group = some 3) (h : groupUp s 3 = false) : ballPad s b = .highZ := by
  rw [ballPad, hgroup]
  exact if_pos (by rw [Option.any_some, h]; rfl)

theorem groupUp_alike {s u : State} (h : Alike s u) (g : Nat) : groupUp u g = groupUp s g := by rw [groupUp, groupUp, h.pwr]

theorem matchLevel_alike {s u : State} (h : Alike s u) (pin : Nat) : matchLevel u pin = matchLevel s pin := by
  rw [matchLevel, matchLevel, pinClaims, pinClaims, h.sealed, h.tmr]

theorem ballPad_alike {s u : State} (h : Alike s u) (hunpowered : groupUp s 3 = false) (b : Ball) : ballPad u b = ballPad s b := by
  have hunpowered' : groupUp u 3 = false := (groupUp_alike h 3).trans hunpowered
  have hpad (hfun : ballFunction u b = ballFunction s b) : ballPad u b = ballPad s b := by
    simp only [ballPad, groupUp_alike h, h.tap, hfun]
  have hpair (hgroup : b.group = some 3) : ballPad u b = ballPad s b := by
    rw [ballPad_unpowered hgroup hunpowered, ballPad_unpowered hgroup hunpowered']
  have hport (hlp : ∀ v, ballFunction v b = lpFunction v b) : ballPad u b = ballPad s b := by
    have hlevel : matchLevel u = matchLevel s := funext (matchLevel_alike h)
    exact hpad (by rw [hlp, hlp, lpFunction, lpFunction, hlevel])
  cases b with
  | pgood r => exact hpad (by rw [ballFunction, ballFunction, h.seq])
  | lpClk p => exact hport fun _ => rfl
  | lpDat p => exact hport fun _ => rfl
  | lpSel p k => exact hport fun _ => rfl
  | fltP => exact hpair rfl
  | fltN => exact hpair rfl
  | syncOut => exact hpair rfl
  | alertN => exact hpair rfl
  | hscl => exact hpair rfl
  | hsda => exact hpair rfl
  | nld => exact hpair rfl
  | qcsN => exact hpair rfl
  | qclk => exact hpair rfl
  | qd i => exact hpair rfl

theorem ownLevel_alike {s u : State} (h : Alike s u) (hunpowered : groupUp s 3 = false) (pin : Nat) :
    ownLevel u pin = ownLevel s pin := by
  have hpad : ballPad u = ballPad s := funext (ballPad_alike h hunpowered)
  rw [ownLevel, ownLevel, drivenAt, drivenAt, hpad, h.pins]

theorem unseen_alike {s u : State} (h : Alike s u) (pin : Nat) (l : Bool) : unseen u pin l = unseen s pin l := by
  simp only [unseen, pinOf_congr h.sealed, h.tmr, h.seq]

theorem lagging_alike {s u : State} (h : Alike s u) (hunpowered : groupUp s 3 = false) : lagging u = lagging s := by
  have hpins : observedPins u = observedPins s := by rw [observedPins, observedPins, pinClaims, pinClaims, h.sealed]
  simp only [lagging, hpins, ownLevel_alike h hunpowered, unseen_alike h]

/-! ## One DPWM tick (R27) -/

/-- The state in which the core clock edge of the next tick acts. -/
def ticked (s : State) : State :=
  { later s with banks := if dpwmRuns s then mapTab (fun _ => epochStep) s.banks else s.banks }

theorem tick_edge {s : State} (htgt : s.pwr.tgt ≠ some .off) (hclocks : clocksRun s = true) (htest : s.nvl.testRun = false)
    (hedge : (s.now + 1) % 2 = 0) : ∃ l, tick s = { pinsEdge (coreEdge (wordsEdge (ticked s))) with pending := l } := by
  have hbanks : (if dpwmRuns (later s) then { later s with banks := mapTab (fun _ => epochStep) (later s).banks } else later s) =
      ticked s := by
    have hruns : dpwmRuns (later s) = dpwmRuns s := rfl
    rw [hruns, ticked]
    cases dpwmRuns s
    · rfl
    · rfl
  have hup : clocksRun (ticked s) = true := hclocks
  have hedge' : onCoreEdge (ticked s) = true := beq_iff_eq.2 hedge
  have hoff : ¬ (onCoreEdge (ticked s) && (ticked s).pwr.tgt == some .off) = true := by
    rw [hedge', Bool.true_and, beq_iff_eq]
    exact htgt
  have hblot : blotSample (ticked s) = ticked s := by
    unfold blotSample
    split
    · rfl
    · exact if_pos (by rw [show (ticked s).nvl.testRun = false from htest]; rfl)
  unfold tick
  dsimp only
  rw [hbanks, hup, if_neg (by decide), if_neg hoff, hblot, hedge', if_pos rfl]
  exact ⟨_, rfl⟩

/-- The step at a core clock edge, when nothing waits and nothing has fallen due. -/
theorem step_edge {s : State} (hpending : s.pending = []) (hfallen : fallen s = []) (htgt : s.pwr.tgt ≠ some .off)
    (hclocks : clocksRun s = true) (hcore : coreStopped s = false) (htest : s.nvl.testRun = false) (hedge : (s.now + 1) % 2 = 0) :
    ∃ t, step s = .next t ∧ Alike (syncPins (coreEdge (wordsEdge (ticked s)))) t := by
  obtain ⟨l, htick⟩ := tick_edge htgt hclocks htest hedge
  have hstopped : coreStopped (coreEdge (wordsEdge (ticked s))) = false := by
    have hwords := alike_wordsEdge (ticked s)
    rw [coreStopped, (alike_coreEdge hwords).pwr, (alike_coreEdge hwords).tap]
    exact hcore
  have h := alike_pinsEdge hstopped
  refine ⟨_, step_nil hpending, ?_⟩
  rw [idle, hfallen, List.isEmpty_nil, if_pos rfl, htick]
  exact ⟨h.now, h.sealed, h.pins, h.tmr, h.fifo, h.tap, h.pwr, h.seq⟩

/-- The board leaves group 3 without its supply at every core clock edge. -/
def EdgesUnpowered : Prop := ∀ t, 0 < t → t % 2 = 0 → Config.vddioAbsent t 3 = true

/-- Where the fault pair never has its supply, the statement on driven pins holds. -/
theorem drivenPins_of_edgesUnpowered (habsent : EdgesUnpowered) : Obligations.DrivenPinsReachTheirObservers := by
  unfold Obligations.DrivenPinsReachTheirObservers
  refine ⟨fun s p l hlag hdue => ⟨fun k hsees => ?_, fun k hsees => ?_, fun r hsees => ?_⟩, fun s p l hlag hwait => ?_,
    fun s hwait => ?_, fun s => ?_, fun s v hv hpending hfallen htgt hclocks hcore _ htest hedge => ?_⟩
  · exact syncPins_takes (takesLevel_capIn k p l) hlag hdue hsees
  · exact syncPins_takes (takesLevel_gateIn k p l) hlag hdue hsees
  · exact syncPins_takes (takesLevel_seqIn r p l) hlag hdue hsees
  · obtain ⟨m, f, r, h⟩ := (inputsWrote_syncPins s).frame
    rw [h]
    exact List.mem_map.2 ⟨(p, l), List.mem_filter.2 ⟨hlag, decide_eq_true hwait⟩, rfl⟩
  · rw [syncPins_idle hwait]
    exact ⟨rfl, rfl, rfl⟩
  · have hwrote := inputsWrote_syncPins s
    have htimers := hwrote.timers
    have hrails := hwrote.rails
    obtain ⟨m, f, r, h⟩ := hwrote.frame
    refine ⟨?_, ?_, ?_, ?_, ?_, ?_, htimers, hrails⟩ <;> rw [h] <;> rfl
  · have hv' : v = ticked s := hv
    obtain ⟨t, hstep, ht⟩ := step_edge hpending hfallen htgt hclocks hcore htest hedge
    have hunpowered : groupUp (coreEdge (ticked s)) 3 = false := by
      have : groupUp (coreEdge (ticked s)) 3 = !Config.vddioAbsent (s.now + 1) 3 := rfl
      rw [this, habsent (s.now + 1) (Nat.succ_pos _) hedge]
      rfl
    have hedges := alike_coreEdge (alike_wordsEdge (ticked s))
    have hsame := (alike_syncPins hedges (lagging_alike hedges hunpowered)).trans ht
    rw [hv']
    exact ⟨t, hstep, hsame.pins, hsame.tmr, hsame.fifo, fun r => by rw [hsame.seq r]⟩

end Sys2Proof.Machine
end

section
/-! PROOF. Compare words that take effect at the core clock edge of a powered fault pair (R35, R69, R306, R310): what the observer of
the pair sees against the statement on driven pins. -/

namespace Sys2Proof.Machine

/-! ## The bits of the fault pair (R306, R310) -/

theorem pairFault_quiet {s : State} (hheld : s.glb.latched = false) (hsealed : isSealed s = true)
    (hbits : ∀ b ∈ statusBits s, b = false) (hrails : ∀ x ∈ s.rails.toList, latched x = false) : pairFault s = false := by
  have hstatus : ((statusBits s).zipIdx.any fun p => p.1 && routeFlt s p.2) = false := by
    refine List.any_eq_false.2 fun p hp => ?_
    rw [hbits p.1 (List.fst_mem_of_mem_zipIdx hp)]
    exact Bool.false_ne_true
  have hlatched : (s.rails.toList.zipIdx.any fun p => latched p.1 && (List.range 5).any fun j => routeFlt s (12 * p.2 + j)) = false := by
    refine List.any_eq_false.2 fun p hp => ?_
    rw [hrails p.1 (List.fst_mem_of_mem_zipIdx hp)]
    exact Bool.false_ne_true
  rw [pairFault, hheld, hsealed, hstatus, hlatched]
  rfl

/-- The bits of the sources before the last 36. -/
def headBits (s : State) : List Bool :=
  s.rails.toList.flatMap railBits ++ s.banks.toList.flatMap bankBits ++ coreBits s.glb ++ s.ports.toList.flatMap portBits

theorem statusBits_eq (s : State) : statusBits s = headBits s ++ tailBits s := rfl

theorem statusBits_silFrz (s : State) : (statusBits s)[447]? = some s.glb.silFrz := by
  have hlen : (headBits s).length = 412 := by
    simp [headBits, railBits, bankBits, coreBits, portBits, List.length_flatMap]
  rw [statusBits_eq, List.getElem?_append_right (by omega), hlen]
  rfl

theorem pairFault_silFrz {s : State} (hfrozen : s.glb.silFrz = true) (hroute : routeFlt s 447 = true) : pairFault s = true := by
  have hany : ((statusBits s).zipIdx.any fun p => p.1 && routeFlt s p.2) = true := by
    refine List.any_eq_true.2 ⟨(true, 447), List.mk_mem_zipIdx_iff_getElem?.2 ?_, ?_⟩
    · rw [statusBits_silFrz, hfrozen]
    · exact hroute
  rw [pairFault, hany]
  simp

theorem raisedPut_glb (was : List Bool) (l : List Nat) (s : State) : (raisedPut was l s).glb = s.glb := by
  unfold raisedPut
  dsimp only
  split
  · split <;> rfl
  · split <;> rfl

theorem queueAll_glb (old : State) (l : List Nat) (s : State) : (queueAll old l s).glb = s.glb := by
  have hone : ∀ n (s : State), (queueOne old n s).glb = s.glb := fun n s => by
    unfold queueOne
    dsimp only
    repeat' split
    all_goals rfl
  unfold queueAll
  split
  · exact forEach_keeps State.glb _ _ hone s
  · rfl

theorem settleBy_glb (p : Option PortId) (o : List Nat) (old s : State) :
    (settleBy p o old s).glb = (freezeAll (raisedNow old s) s).glb := by
  have hend : ∀ (pend : List Nat) (u : State), (alertSettle p old (ibiSettle pend u)).glb = u.glb := fun _ _ => rfl
  unfold settleBy
  dsimp only
  rw [hend, queueAll_glb, raisedPut_glb]

theorem settleBy_silFrz {p : Option PortId} {o : List Nat} {old s : State} (h : freezeHit (raisedNow old s) s = true) :
    (settleBy p o old s).glb.silFrz = true := by
  rw [settleBy_glb, freezeAll, h]
  rfl

/-- A source that counts as raised anew freezes an armed buffer (R310, R314). -/
theorem freezeHit_renew {old s : State} {r : RailId} {c : RailCfg} {n : Nat} (hcfg : (r, c) ∈ configured s) (hlt : n < 448)
    (hrenew : n ∈ s.raised.renew) (hfreezes : freezes r c n = true) (harmed : s.rails[r].sil.frozen = false) :
    freezeHit (raisedNow old s) s = true := by
  have hmem : n ∈ raisedNow old s := by
    have hsome : ¬ s.raised.renew.isEmpty = true := by
      rw [List.isEmpty_iff]
      exact List.ne_nil_of_mem hrenew
    unfold raisedNow
    dsimp only
    rw [if_neg hsome, List.mem_filter]
    exact ⟨List.mem_range.2 hlt, by simp [hrenew]⟩
  have hfreezer : (freezer (raisedNow old s) r c).isSome = true := List.find?_isSome.2 ⟨n, hmem, hfreezes⟩
  refine List.any_eq_true.2 ⟨(r, c), hcfg, ?_⟩
  rw [hfreezer, harmed]
  rfl

/-! ## The state: an observed pair, words due at the next tick, a source that counts as raised anew -/

/-- An image of rail 0 whose first timer observes FLT_P; SILFRZ takes the pair to the fault state. -/
def observedPair : ImageCfg :=
  { sharedBanks with
    rails := some (spreadRail 0) :: List.replicate 23 none
    pins := [⟨2, 0x0900, 2, 0, true⟩]
    irq := List.replicate 447 0 ++ [8] }

/-- Tick `n` of RUN: compare words of rail 0 are due at the next tick, and the trip of rail 0 counts as raised anew. -/
def pairAtNextEdge (n : Nat) : State :=
  onRail 0 (fun x => { x with eng := { x.eng with wordsDue := some (n + 1) } })
    { State.reset with
      now := n, pwr := { State.reset.pwr with dev := .run }, raised := { renew := [1] }
      tmr := { State.reset.tmr with tmr := Vector.replicate 32 { capIn := true } }
      sealed := { img := some observedPair } }

theorem fallen_pairAtNextEdge (n : Nat) : fallen (pairAtNextEdge n) = [] := rfl

theorem rails_pairAtNextEdge (n : Nat) (r : RailId) : (pairAtNextEdge n).rails[r] =
    if r = 0 then { eng := { wordsDue := some (n + 1) } } else {} := by
  have hreset : ∀ q : RailId, State.reset.rails[q] = {} := fun q => by simp [State.reset]
  rw [pairAtNextEdge, onRail_get]
  split
  · rw [hreset]
  · exact hreset r

theorem mem_rails {s : State} {x : Rail} (h : x ∈ s.rails.toList) : ∃ r : RailId, x = s.rails[r] := by
  rw [Vector.mem_toList_iff] at h
  obtain ⟨i, hi, rfl⟩ := Vector.mem_iff_getElem.1 h
  exact ⟨⟨i, hi⟩, rfl⟩

theorem mem_rails_pairAtNextEdge {n : Nat} {x : Rail} (h : x ∈ (pairAtNextEdge n).rails.toList) :
    x = { eng := { wordsDue := some (n + 1) } } ∨ x = {} := by
  obtain ⟨r, rfl⟩ := mem_rails h
  rw [rails_pairAtNextEdge]
  split
  · exact .inl rfl
  · exact .inr rfl

theorem wordsWait_pairAtNextEdge (n : Nat) : wordsWait (pairAtNextEdge n) = false := by
  refine List.any_eq_false.2 fun x hx => ?_
  have hnow : (pairAtNextEdge n).now = n := rfl
  rcases mem_rails_pairAtNextEdge hx with rfl | rfl
  · simp [hnow]
  · simp

theorem wordsWait_ticked (n : Nat) : wordsWait (ticked (pairAtNextEdge n)) = true := by
  have hmem : (pairAtNextEdge n).rails[(0 : RailId)] ∈ (ticked (pairAtNextEdge n)).rails.toList :=
    Vector.mem_toList_iff.2 (Vector.getElem_mem _)
  refine List.any_eq_true.2 ⟨_, hmem, ?_⟩
  have hnow : (ticked (pairAtNextEdge n)).now = n + 1 := rfl
  rw [rails_pairAtNextEdge, if_pos rfl, hnow]
  simp

/-! ## Before the words take effect the pair shows no fault, behind them it does (R306, R310) -/

theorem pairFault_ticked (n : Nat) : pairFault (coreEdge (ticked (pairAtNextEdge n))) = false := by
  have hrails {x : Rail} (h : x ∈ (coreEdge (ticked (pairAtNextEdge n))).rails.toList) :
      x = { eng := { wordsDue := some (n + 1) } } ∨ x = {} := mem_rails_pairAtNextEdge h
  have hbanks {k : Bank} (h : k ∈ (coreEdge (ticked (pairAtNextEdge n))).banks.toList) : bankBits k = [false, false, false, false] := by
    rw [Vector.mem_toList_iff] at h
    obtain ⟨i, hi, rfl⟩ := Vector.mem_iff_getElem.1 h
    have hbank : (coreEdge (ticked (pairAtNextEdge n))).banks[i] = epochStep {} := by
      refine (mapTab_get (fun _ => epochStep) State.reset.banks ⟨i, hi⟩).trans ?_
      simp [State.reset]
    rw [hbank]
    rfl
  have hports {x : Port} (h : x ∈ (coreEdge (ticked (pairAtNextEdge n))).ports.toList) : portBits x = [false, false] := by
    rw [Vector.mem_toList_iff] at h
    obtain ⟨i, hi, rfl⟩ := Vector.mem_iff_getElem.1 h
    have hport : (coreEdge (ticked (pairAtNextEdge n))).ports[i] = {} := by
      change State.reset.ports[i] = {}
      simp [State.reset]
    rw [hport]
    rfl
  refine pairFault_quiet rfl rfl (fun b hb => ?_) fun x hx => ?_
  · simp only [statusBits, List.mem_append, List.mem_flatMap] at hb
    rcases hb with (((⟨x, hx, hb⟩ | ⟨k, hk, hb⟩) | hb) | ⟨x, hx, hb⟩) | hb
    · rcases hrails hx with rfl | rfl
      · exact (show ∀ b ∈ railBits { eng := { wordsDue := some (n + 1) } }, b = false from by simp [railBits]) b hb
      · exact (show ∀ b ∈ railBits {}, b = false from by simp [railBits]) b hb
    · rw [hbanks hk] at hb
      simpa using hb
    · have hcore : coreBits (coreEdge (ticked (pairAtNextEdge n))).glb = List.replicate 12 false := rfl
      rw [hcore] at hb
      exact List.eq_of_mem_replicate hb
    · rw [hports hx] at hb
      simpa using hb
    · have htail : tailBits (coreEdge (ticked (pairAtNextEdge n))) = List.replicate 36 false := rfl
      rw [htail] at hb
      exact List.eq_of_mem_replicate hb
  · rcases hrails hx with rfl | rfl
    · rfl
    · rfl

theorem silFrz_wordsEdge (n : Nat) : (wordsEdge (ticked (pairAtNextEdge n))).glb.silFrz = true := by
  have hwrote := wordsWrote_forEach (configured (ticked (pairAtNextEdge n))) wordsWrote_wordsTake (ticked (pairAtNextEdge n))
  rw [wordsEdge, if_pos (wordsWait_ticked n)]
  dsimp only
  refine settleBy_silFrz ?_
  generalize forEach (configured (ticked (pairAtNextEdge n))) wordsTake (ticked (pairAtNextEdge n)) = x at hwrote
  have hsil := (hwrote.rails 0).2
  obtain ⟨c, b, r, a, rfl⟩ := hwrote.frame
  refine freezeHit_renew (r := 0) (c := spreadRail 0) (n := 1) ?_ (by decide) (by exact List.mem_singleton_self 1) rfl ?_
  · exact List.mem_filterMap.2 ⟨0, List.mem_finRange 0, rfl⟩
  · rw [hsil]
    rfl

theorem pairFault_wordsEdge (n : Nat) : pairFault (coreEdge (wordsEdge (ticked (pairAtNextEdge n)))) = true := by
  refine pairFault_silFrz (silFrz_wordsEdge n) ?_
  have hbyte : routeByte (coreEdge (wordsEdge (ticked (pairAtNextEdge n)))) 447 = 8 := by
    rw [routeByte, (alike_coreEdge (alike_wordsEdge (ticked (pairAtNextEdge n)))).sealed]
    rfl
  rw [routeFlt, hbyte]
  rfl

/-! ## What the observer of the pair sees (R69) -/

theorem pinOf_observedPair {s : State} (h : s.sealed.img = some observedPair) (c i : Nat) :
    pinOf s c i = if c = 2 ∧ i = 0 then some 0x0900 else none := by
  rw [pinOf, pinClaims, h]
  by_cases hc : c = 2 ∧ i = 0
  · obtain ⟨rfl, rfl⟩ := hc
    rfl
  · have hnone : ¬ ((2 : Nat) == 2 && (2 : Nat) == c && (0 : Nat) == i) = true := by
      simp only [beq_self_eq_true, Bool.true_and, Bool.and_eq_true, beq_iff_eq]
      exact fun h => hc ⟨h.1.symm, h.2.symm⟩
    have hpins : observedPair.pins = [⟨2, 0x0900, 2, 0, true⟩] := rfl
    dsimp only
    rw [if_neg hc, hpins, List.find?_cons_of_neg (by exact hnone)]
    rfl

/-- The pair driven in RUN: FLT_P shows the absence of a fault. -/
theorem ownLevel_fltP {s : State} (hir : s.tap.ir = .idcode) (hup : groupUp s 3 = true) (hrun : s.pwr.dev = .run) :
    ownLevel s 0x0900 = some (!pairFault s) := by
  have hon : pairOn s = true := by
    rw [pairOn, hir, hup, hrun, Bool.or_true]
    rfl
  have hpad : ballPad s .fltP = driven (!pairFault s) := by
    have hgroup : ¬ (Ball.fltP.group.any fun g => !groupUp s g) = true := by
      rw [show Ball.fltP.group = some 3 from rfl, Option.any_some, hup]
      decide
    rw [ballPad, if_neg hgroup, hir, ballFunction, hon]
    rfl
  have hball : ballOf 0x0900 = some .fltP := rfl
  rw [ownLevel, drivenAt, hball, Option.map_some, hpad]
  cases pairFault s
  · rfl
  · rfl

theorem observedPins_observedPair {s : State} (h : s.sealed.img = some observedPair) : observedPins s = [0x0900] := by
  rw [observedPins, pinClaims, h]
  rfl

/-- An observer of FLT_P that sees the pair without a fault. -/
structure SeesNoFault (s : State) : Prop where
  img : s.sealed.img = some observedPair
  ir : s.tap.ir = .idcode
  up : groupUp s 3 = true
  run : s.pwr.dev = .run
  cap : ∀ k : TimerId, s.tmr.tmr[k].capIn = true

theorem SeesNoFault.unseen {s : State} (h : SeesNoFault s) (l : Bool) : unseen s 0x0900 l = !l := by
  have hgate (t : TimerId) : (pinOf s 3 t.val == some 0x0900) = false := by rw [pinOf_observedPair h.img]; rfl
  have hseq (r : RailId) : (pinOf s 1 r.val == some 0x0900) = false := by rw [pinOf_observedPair h.img]; rfl
  have hcap : ((allFin 32).any fun t => pinOf s 2 t.val == some 0x0900 && true != l) = !l := by
    cases l with
    | true => simp
    | false =>
      refine List.any_eq_true.2 ⟨0, List.mem_finRange 0, ?_⟩
      rw [pinOf_observedPair h.img]
      rfl
  simp only [Machine.unseen, h.cap, hgate, hseq, Bool.false_and, Bool.or_false]
  rw [hcap]
  simp

theorem SeesNoFault.lagging {s : State} (h : SeesNoFault s) : lagging s = if pairFault s then [(0x0900, false)] else [] := by
  rw [Machine.lagging, observedPins_observedPair h.img, List.filterMap_cons, ownLevel_fltP h.ir h.up h.run, Option.bind_some,
    h.unseen]
  cases pairFault s
  · rfl
  · rfl

theorem seesNoFault_ticked {n : Nat} (hup : Config.vddioAbsent (n + 1) 3 = false) :
    SeesNoFault (coreEdge (ticked (pairAtNextEdge n))) where
  img := rfl
  ir := rfl
  up := by
    have : groupUp (coreEdge (ticked (pairAtNextEdge n))) 3 = !Config.vddioAbsent (n + 1) 3 := rfl
    rw [this, hup]
    rfl
  run := rfl
  cap := by
    intro k
    have htimer : (coreEdge (ticked (pairAtNextEdge n))).tmr.tmr[k] =
        countEdge (cycle (ticked (pairAtNextEdge n))) (pairAtNextEdge n).tmr.tmr[k] := mapTab_get _ _ k
    have hreset : (pairAtNextEdge n).tmr.tmr[k] = { capIn := true } := by simp [pairAtNextEdge, onRail]
    rw [htimer, hreset]
    rfl

theorem SeesNoFault.of_alike {s u : State} (h : SeesNoFault s) (ha : Alike s u) : SeesNoFault u where
  img := by rw [ha.sealed, h.img]
  ir := by rw [ha.tap, h.ir]
  up := by rw [groupUp_alike ha, h.up]
  run := by rw [ha.pwr, h.run]
  cap := fun k => by rw [ha.tmr, h.cap]

/-- Where the board supplies group 3 at a core clock edge, words that take effect there change what the observer of the pair sees, and
the statement on driven pins fails. -/
theorem edgesUnpowered_of_drivenPins (h : Obligations.DrivenPinsReachTheirObservers) : EdgesUnpowered := by
  unfold Obligations.DrivenPinsReachTheirObservers at h
  obtain ⟨_, hwaits, _, _, hsteps⟩ := h
  intro t hpos heven
  obtain ⟨n, rfl⟩ : ∃ n, t = n + 1 := ⟨t - 1, by omega⟩
  by_contra habsent
  have hbefore := seesNoFault_ticked (n := n) (Bool.not_eq_true _ ▸ habsent)
  have hbehind := hbefore.of_alike (alike_coreEdge (alike_wordsEdge (ticked (pairAtNextEdge n))))
  have hquiet : lagging (coreEdge (ticked (pairAtNextEdge n))) = [] := by
    rw [hbefore.lagging, pairFault_ticked]
    rfl
  have hlags : (0x0900, false) ∈ lagging (coreEdge (wordsEdge (ticked (pairAtNextEdge n)))) := by
    rw [hbehind.lagging, pairFault_wordsEdge]
    exact List.mem_singleton_self _
  obtain ⟨u, hu, hpins, _⟩ := hsteps (pairAtNextEdge n) (ticked (pairAtNextEdge n)) rfl rfl (fallen_pairAtNextEdge n) nofun rfl rfl
    (wordsWait_pairAtNextEdge n) rfl heven
  obtain ⟨u', hu', halike⟩ := step_edge (s := pairAtNextEdge n) rfl (fallen_pairAtNextEdge n) nofun rfl rfl rfl heven
  have hsame : u = u' := Host.Outcome.next.inj (hu.symm.trans hu')
  have hsync : (coreEdge (wordsEdge (ticked (pairAtNextEdge n)))).pins.sync = [] := by
    rw [(alike_coreEdge (alike_wordsEdge (ticked (pairAtNextEdge n)))).pins]
    rfl
  have hsince : syncSince (coreEdge (wordsEdge (ticked (pairAtNextEdge n)))) 0x0900 =
      cycle (coreEdge (wordsEdge (ticked (pairAtNextEdge n)))) := by
    rw [syncSince, hsync]
    rfl
  have hcaught := hwaits _ _ _ hlags (by rw [hsince]; omega)
  rw [← halike.pins, ← hsame, hpins, syncPins_idle (by rw [hquiet]; simp), captured, hquiet] at hcaught
  exact List.not_mem_nil hcaught

/-- The statement on driven pins (O37) asks exactly that the board leaves group 3 without its supply at every core clock edge.
`Config.vddioAbsent`, the board's choice, is opaque, so neither the statement nor its negation follows. -/
theorem drivenPins_iff_edgesUnpowered : Obligations.DrivenPinsReachTheirObservers ↔ EdgesUnpowered :=
  ⟨edgesUnpowered_of_drivenPins, drivenPins_of_edgesUnpowered⟩

end Sys2Proof.Machine
end
